-- ==== Sys2Proof/Word.lean ====
section
/-!
DEFINITION. The words of Glirik: bytes, register words, the 64 B row of a bank and its 64 parity bits.
spec/00_scope.md R7: little-endian, bits numbered from 0 at the least significant bit.
-/

namespace Sys2Proof

/-- One byte. -/
abbrev Byte := BitVec 8

/-- One register word: every register is 32 bits wide (spec/00_scope.md, Register tables). -/
abbrev Word := BitVec 32

/-- The 64 data bytes of a row, byte k in bits 8k to 8k + 7 (spec/02_banks_deeds.md R37, R7). -/
abbrev RowData := BitVec 512

/-- One bit for each byte of a row: parity bits, failing-byte masks, valid-byte masks. -/
abbrev ByteMask := BitVec 64

/-- A fabric address, 48 bits (spec/13_registers.md, Reaching a register). -/
abbrev Addr := BitVec 48

end Sys2Proof
end

