-- ==== Sys2Proof/Syntax.lean ====
section
/-!
DEFINITION. The commands of the block: one constructor of Instr for each row of spec/opcode_table.json, in its order.
The rows carry no fields; the operands are the model's: the place, the writer of a register write and its value, and
what arrives from outside Glirik with the event (notes/assumptions/6.md, 7.md).
-/

namespace Sys2Proof

/-- Status codes (spec/00_scope.md R9), in the order of their codes 0 to 15. -/
inductive Status where
  | ok | align | deed | gate | decerr | uncorr | crc | page
  | rearmBusy | closed | size | spread | wdog | mcStall | allstop | aborted
  deriving DecidableEq, Repr, Inhabited

/-- The masters of a tile (spec/01_architecture.md, Inside a tile). -/
inductive Master where
  | mx | vx | sc | st | nw | test
  deriving DecidableEq, Repr, Inhabited

/-- The three core engines that issue synchronisation operations of their own (spec/08_tallies_bells_channels.md R262). -/
inductive Engine where
  | mx | vx | sc
  deriving DecidableEq, Repr, Inhabited

/-- The two views of a tile offset (spec/02_banks_deeds.md R40). -/
inductive View where
  | bank | quad
  deriving DecidableEq, Repr, Inhabited

/-- Where a register access or a request comes from (spec/13_registers.md R387): the scalar core of a tile, a channel of
a tile's stream engine, or a function at the host port of a die. The household follows from it (spec/09_households.md R305). -/
inductive Src where
  | sc (tile : Nat)
  | st (tile chan : Nat)
  | host (die fn : Nat)
  deriving DecidableEq, Repr, Inhabited

/-- A request that reaches the banks: one that an engine or the march engine issues, or one beat of an access that the
NW port has been granted (spec/02_banks_deeds.md R42, R44; spec/04_fabric_arbitration.md R134: `beats` is the tenure's length). -/
inductive BankReq where
  | core (m : Master) (view : View) (off size : Nat) (write : Bool) (beats qos : Nat) (data : List RowData)
  | nw (acc : Nat)
  deriving DecidableEq, Repr, Inhabited

/-- A failing read of a march, for MARCH_END (spec/10_integrity.md R359): physical row, element, kind 1 data, 2 parity, 3 signature. -/
structure MarchFail where
  bank : Nat
  row : Nat
  element : Nat
  kind : Nat
  deriving DecidableEq, Repr, Inhabited

/-- How an index read returns (spec/06_stream_transforms.md R204): its tag intact, with a tag that names no read, or with a
parity miss of the block storage. -/
inductive IndexReturn where
  | tagged | strayTag | blockParity
  deriving DecidableEq, Repr, Inhabited

/-- The commands. -/
inductive Instr where
  -- start-up, resets, lapse
  | supplyGood (die : Nat)
  | settlingDelayExpiry (die : Nat)
  | bookCheck (die : Nat)
  | repairMapLoad (die : Nat)
  | startupInitialState (die : Nat)
  | sliceReset (die cause : Nat)
  | supplyReset (die : Nat)
  | srst (w : Src) (die : Nat) (value : Word)
  | diePowerOff (die : Nat)
  | linkTraining (die port : Nat) (up : Bool)
  | monitorCrossing (die mv : Nat) (degC : Int)
  | forceLapse (w : Src) (die : Nat) (value : Word)
  | lapseEnd (die : Nat)
  -- banks, deeds, merge buffer
  | bankRequest (tile : Nat) (rq : BankReq)
  | bankBeat (tile bank : Nat)
  | bankReadComplete (tile acc : Nat) (upset replayUpset : List ByteMask)
  | bankWriteCommit (tile acc : Nat)
  | narrowWrite (tile off size : Nat) (data : BitVec 64) (qos : Nat)
  | mergeIdleFlush (tile bank row : Nat)
  | mergeFlushCommit (tile bank row : Nat) (upset replayUpset : ByteMask)
  | deedWrite (w : Src) (tile bank : Nat) (value : Word)
  | commonsWrite (w : Src) (tile : Nat) (value : Word)
  | deedAdmissionStop (tile : Nat)
  | deedEffectPoint (tile : Nat)
  | rotateGo (w : Src) (tile : Nat) (value : Word)
  | rotationEffectPoint (tile : Nat)
  | sliceRotateGo (w : Src) (die : Nat) (value : Word)
  | tileRotateRequest (tile : Nat)
  | sliceRotateDone (die : Nat)
  | retireBank (w : Src) (tile : Nat) (value : Word)
  | sweep (w : Src) (tile : Nat) (value : Word)
  | sweepEnd (tile bank : Nat)
  | remapWrite (w : Src) (tile : Nat) (value : Word)
  -- lanes, slice matrix, register bus, arbiters, locks, watchdog
  | laneFlit (pkt : Nat)
  | sliceMatrixGrant (die target : Nat)
  | holdbackRelease (die pkt : Nat)
  | bridgeSlotAdmit (die port : Nat)
  | defaultTarget (w : Src) (die : Nat) (addr : Addr)
  | decerrRearm (w : Src) (die : Nat) (value : Word)
  | registerBusAccess (w : Src) (addr : Addr) (size : Nat) (write : Bool) (data : BitVec 64)
  | arbiterDecision (tile arb : Nat)
  | deadlineAdmission (tile acc : Nat)
  | lockAcquire (w : Src) (tile : Nat) (value : Word)
  | lockRelease (w : Src) (tile : Nat) (value : Word)
  | coreReset (tile : Nat)
  | coreResetNotice (tile core : Nat)
  | watchdogBite (tile res : Nat)
  | watchdogLockBite (tile bank : Nat)
  | quarRelease (w : Src) (tile : Nat) (value : Word)
  | wdogIntervalWrite (w : Src) (tile : Nat) (value : Word)
  -- stream engine
  | en (w : Src) (tile chan : Nat) (value : Word)
  | arm (w : Src) (tile chan : Nat)
  | go (w : Src) (tile chan : Nat)
  | resume (w : Src) (tile chan : Nat)
  | skip (w : Src) (tile chan : Nat)
  | abort (w : Src) (tile chan : Nat)
  | dringTailWrite (w : Src) (tile chan : Nat) (value : Word)
  | descriptorFetched (tile chan : Nat)
  | burstSelect (tile : Nat)
  | burstIssue (tile chan : Nat)
  | windowLookupReturn (tile pkt : Nat)
  | remoteResponse (tile pkt : Nat) (outside : Status) (data : List RowData)
  | readbackReturn (tile pkt : Nat) (outside : Status)
  | descriptorComplete (tile chan : Nat)
  | channelHalt (tile chan : Nat)
  -- descriptors
  | nop (tile chan : Nat)
  | copy (tile chan : Nat)
  | gather (tile chan : Nat)
  | scatter (tile chan : Nat)
  | multicast (tile chan : Nat)
  | convert (tile chan : Nat)
  | fill (tile chan : Nat)
  | regwrite (tile chan : Nat)
  | waitt (tile chan : Nat)
  | signal (tile chan : Nat)
  | indexReadReturn (tile block : Nat) (how : IndexReturn)
  | slotFilled (tile chan : Nat)
  | slotRingResample (tile chan : Nat)
  | ringProbe (tile pkt : Nat)
  | ringProbeRetry (tile chan : Nat)
  | slotReadback (tile pkt : Nat)
  | mcCredit (tile chan receiver : Nat)
  | mcReadback (tile pkt : Nat)
  | mcStall (tile chan : Nat)
  -- external memory, bridges
  | extRequest (die port pkt : Nat)
  | extResponse (die port pkt : Nat) (crc : Option (BitVec 32)) (uncorr : Bool) (data : List RowData)
  | titheTokenAdd (die port hh paces : Nat)
  | titheWrite (w : Src) (die hh : Nat) (value : Word)
  | extControllerReadyChange (die port : Nat) (ready : Bool)
  | stripeSend (die port : Nat)
  | stripeReceived (die port : Nat) (noise : List Byte)
  | stripeNak (die port ack : Nat)
  | stripeAck (die port ack : Nat)
  | linkDown (die port : Nat)
  | linkDownNotice (die : Nat)
  | ringRoute (die pkt : Nat)
  | routeWrite (w : Src) (die t : Nat) (value : Word)
  -- gates
  | nwRequest (tile pkt : Nat)
  | gateOpen (w : Src) (tile gate : Nat) (value : Word)
  | gateClose (w : Src) (tile gate : Nat) (value : Word)
  | gateClosedDone (tile gate : Nat)
  | gateForcedClose (tile gate : Nat)
  -- tallies, bells, watchman, channels
  | add (tile : Nat) (e : Engine) (t : Nat) (amount : Word)
  | waitGe (tile : Nat) (e : Engine) (t : Nat) (value : Word)
  | waitDec (tile : Nat) (e : Engine) (t : Nat)
  | dec (tile : Nat) (e : Engine) (t : Nat)
  | fence (tile : Nat) (e : Engine)
  | fenceEnd (tile : Nat) (e : Engine)
  | arrive (tile : Nat) (e : Engine) (bell : Nat)
  | waitBell (tile : Nat) (e : Engine) (bell gen : Nat)
  | arriveWait (tile : Nat) (e : Engine) (bell : Nat)
  | tallyBoundary (tile : Nat)
  | tallyWrite (w : Src) (tile t : Nat) (value : Word)
  | tallyModeWrite (w : Src) (tile word : Nat) (value : Word)
  | bellArriveWrite (w : Src) (tile bell : Nat)
  | bellForce (w : Src) (tile bell : Nat)
  | still (tile : Nat)
  | send (tile : Nat) (e : Engine) (src units target endpoint qos : Nat)
  | messageArrival (tile pkt : Nat)
  | sendRetry (tile : Nat) (e : Engine)
  | sendStatus (tile : Nat) (e : Engine)
  | recv (tile : Nat) (e : Engine) (endpoint : Nat)
  | pop (tile : Nat) (e : Engine) (endpoint : Nat)
  | endpointOpen (w : Src) (tile endpoint : Nat) (value : Word)
  | endpointClose (w : Src) (tile endpoint : Nat) (value : Word)
  | reassignment (w : Src) (die index : Nat) (value : Word)
  | reassignmentComplete (tile : Nat)
  -- households, doorbells, records, interrupts, capture
  | bind (w : Src) (value : Word)
  | unbind (w : Src) (value : Word)
  | unbindFinish
  | unboundClr (w : Src) (die : Nat) (value : Word)
  | hostRequest (die fn : Nat) (addr : Addr) (size : Nat) (write : Bool) (data : List RowData)
  | doorbellArrival (die fn offset size : Nat) (word : BitVec 64)
  | doorbellRelease (die hh : Nat)
  | doorbellTail (tile pkt : Nat)
  | doorbellGo (tile pkt : Nat)
  | doorstepWrite (die fn offset length : Nat) (allEnables : Bool) (data : List RowData)
  | completionRecordWrite (die hh : Nat)
  | completionRecordFail (die hh : Nat)
  | cringEnWrite (w : Src) (die hh : Nat) (value : Word)
  | retry (w : Src) (die hh : Nat)
  | cringHeadWrite (w : Src) (die hh : Nat) (value : Word)
  | interruptMessage (die hh vector : Nat)
  | irqEnableWrite (w : Src) (die hh : Nat) (value : Word)
  | captureRecord (die k : Nat)
  | captureRecordWrite (die : Nat) (status : Status)
  | captureEnWrite (w : Src) (die : Nat) (value : Word)
  | rerunPresent (die : Nat) (status : Status) (units : List RowData)
  -- gleaner, tests, march, repair
  | gleanerBeat (tile bank : Nat) (upset replayUpset : ByteMask)
  | writepar (w : Src) (tile : Nat) (value : Word)
  | readraw (w : Src) (tile : Nat) (value : Word)
  | check (w : Src) (tile : Nat) (value : Word) (upset replayUpset : ByteMask)
  | marchCMinus (w : Src) (tile : Nat) (value : Word)
  | transparentMarch (w : Src) (tile : Nat) (value : Word)
  | marchEnd (tile : Nat) (fails : List MarchFail)
  | remapRowWrite (w : Src) (tile index : Nat) (value : Word)
  -- the book, remaining register writes
  | bookAppend (die ring : Nat)
  | bookRecordDrop (die ring : Nat)
  | read (w : Src) (die : Nat) (value : Word)
  | mapadd (w : Src) (die : Nat) (value : Word)
  | mapclear (w : Src) (die : Nat) (value : Word)
  | init (w : Src) (die : Nat) (value : Word)
  | bookCommandEnd (die : Nat)
  | bookAck (w : Src) (die : Nat) (value : Word)
  | bookSpace4Read (w : Src) (die : Nat) (addr : Addr) (size : Nat) (write : Bool)
  | startWordWrite (w : Src) (die : Nat) (value : Word)
  | registerWrite (w : Src) (addr : Addr) (value : Word)
  | engineStopped (tile : Nat) (e : Engine) (stopped : Bool)
  deriving DecidableEq, Repr

end Sys2Proof
end

