-- ==== Sys2Proof/Decode.lean ====
section
/-!
DEFINITION. The command that a word spells. No row of spec/opcode_table.json has a field or a bit pattern, so no word spells one.
-/

namespace Sys2Proof

/-- The command spelt by the bits of a row of the table: none, since the rows give no bits. -/
def decodeTableWord (nbits w : Nat) : Option Instr :=
  match nbits, w with
  | _, _ => none

end Sys2Proof
end

