-- ==== Sys2Proof/Config.lean ====
section
/-!
DEFINITION. What the spec leaves open, as constants without a body: nothing in the model can evaluate one, so a claim
holds for every value. Each names its rule and its row of notes/assumptions.
-/

namespace Sys2Proof

/-- How many paces tile `tile` counts while the model's clock moves from tick `tick` to the next. The spec promises no
ratio between tiles and none to any other time (spec/03_timing_promise.md R100, R101). DESIGN CHOICE, safe: notes/assumptions/4.md. -/
opaque Config.paceInc : (tile tick : Nat) → Nat

/-- The undefined data bytes of physical row `key` after start number `epoch` of its slice
(spec/02_banks_deeds.md R80, R81). DESIGN CHOICE, safe: notes/assumptions/8.md. -/
opaque Config.coldData : (epoch key : Nat) → BitVec 512

/-- The undefined parity bits of physical row `key` after start number `epoch` of its slice
(spec/02_banks_deeds.md R80, R81). DESIGN CHOICE, safe: notes/assumptions/8.md. -/
opaque Config.coldParity : (epoch key : Nat) → BitVec 64

/-- The 64 bytes of boot-ROM unit `unit` of tile `tile`; the spec gives no contents (spec/04_fabric_arbitration.md R125).
DESIGN CHOICE, safe: notes/assumptions/13.md. -/
opaque Config.bootRom : (tile unit : Nat) → BitVec 512

/-- The `n`-th 16-bit random fraction that a stream engine draws; the generator's state at reset is undefined and no
register sets it (spec/06_stream_transforms.md R215). DESIGN CHOICE, safe: notes/assumptions/14.md. -/
opaque Config.randomFraction : (tile n : Nat) → BitVec 16

/-- A slot of the book that no record has been written to since INIT holds whatever it holds
(spec/11_startup_power_book.md R384). DESIGN CHOICE, safe: notes/assumptions/9.md. -/
opaque Config.bookSlot : (ring slot : Nat) → BitVec 512

/-- The CRC field of a control area or record whose CRC does not check (spec/11_startup_power_book.md R370, R381).
DESIGN CHOICE, safe: notes/assumptions/12.md. -/
opaque Config.badCrc : (place : Nat) → BitVec 32

/-- A free value for a result that the spec does not state, indexed by the model's counter `fresh`.
DESIGN CHOICE, safe: notes/assumptions/5.md. -/
opaque Config.freeWord : (n : Nat) → BitVec 64

end Sys2Proof
end

