-- ==== Sys2Proof/Machine/Table.lean ====
section
/-!
DEFINITION. Tables of plain data: a list of (key, value) pairs with strictly rising keys, and sets of keys. An array of the
spec (registers, tiles, slices, rows) is a table whose unlisted keys read as the array's value at reset.
-/

namespace Sys2Proof.Machine

/-- A table: pairs of a key and a value. -/
abbrev Tbl (α : Type) := List (Nat × α)

/-- The value under key `k`, or `d` where the table lists none. -/
def Tbl.get {α : Type} (d : α) : Tbl α → Nat → α
  | [], _ => d
  | (j, a) :: r, k => if j = k then a else Tbl.get d r k

/-- The value under key `k`, if listed. -/
def Tbl.find {α : Type} : Tbl α → Nat → Option α
  | [], _ => none
  | (j, a) :: r, k => if j = k then some a else Tbl.find r k

/-- The table with key `k` holding `a`; keys stay strictly rising. -/
def Tbl.set {α : Type} : Tbl α → Nat → α → Tbl α
  | [], k, a => [(k, a)]
  | (j, b) :: r, k, a => if k < j then (k, a) :: (j, b) :: r else if j = k then (k, a) :: r else (j, b) :: Tbl.set r k a

/-- The table without key `k`. -/
def Tbl.del {α : Type} (m : Tbl α) (k : Nat) : Tbl α := m.filter (fun p => p.1 != k)

/-- The table without the keys of [lo, hi). -/
def Tbl.cut {α : Type} (m : Tbl α) (lo hi : Nat) : Tbl α := m.filter (fun p => p.1 < lo || hi ≤ p.1)

/-- Every value changed by `f`. -/
def Tbl.mapVals {α : Type} (m : Tbl α) (f : α → α) : Tbl α := m.map (fun p => (p.1, f p.2))

/-- The keys of a table rise strictly: its one canonical form. -/
abbrev Tbl.wf {α : Type} (m : Tbl α) : Prop := m.Pairwise (fun p q => p.1 < q.1)

/-- A set of keys: a strictly rising list. -/
abbrev Keys := List Nat

/-- The set with `k` in it. -/
def Keys.add : Keys → Nat → Keys
  | [], k => [k]
  | j :: r, k => if k < j then k :: j :: r else if j = k then j :: r else j :: Keys.add r k

/-- The set without `k`. -/
def Keys.del (m : Keys) (k : Nat) : Keys := m.filter (fun j => j != k)

/-- The set without the keys of [lo, hi). -/
def Keys.cut (m : Keys) (lo hi : Nat) : Keys := m.filter (fun j => j < lo || hi ≤ j)

/-- The keys of a set rise strictly. -/
abbrev Keys.wf (m : Keys) : Prop := m.Pairwise (· < ·)

/-- The first element with the property, and the list without that one. -/
def takeFirst {α : Type} (p : α → Bool) : List α → Option (α × List α)
  | [] => none
  | a :: r => if p a then some (a, r) else (takeFirst p r).map (fun q => (q.1, a :: q.2))

/-- The list with its first element that has the property replaced by those of `f`. -/
def changeFirst {α : Type} (p : α → Bool) (f : α → List α) : List α → List α
  | [] => []
  | a :: r => if p a then f a ++ r else a :: changeFirst p f r

/-- The list with every element that has the property changed by `f`. -/
def updWhere {α : Type} (p : α → Bool) (f : α → α) (l : List α) : List α := l.map (fun a => if p a then f a else a)

end Sys2Proof.Machine
end

