-- ==== Sys2Proof/Machine/State.lean ====
section
/-!
DEFINITION. State as plain data: every register, FIFO, buffer, counter and mode the spec gives Glirik, the queue of
commands, and State.reset. The list with the rule and the reset value of each field is INVENTORY.md, State.
-/

namespace Sys2Proof.Machine

/-- Why a command stops the model. The spec gives no behaviour that stops the block, and a command that names a place the package does not
hold names no event of the hardware and changes nothing, so no command raises a fault and the type has no constructor
(notes/assumptions/85.md). -/
inductive Fault where
  deriving DecidableEq, Repr

/-- Why a command has no meaning in the model. -/
inductive Refusal where
  /-- Raised by exec's arm of a command that the model gives no meaning. Safe: the model stops. -/
  | notModelled (mnemonic : String)
  deriving DecidableEq, Repr, Inhabited

/-- The package: YX2, YX4 or YX8 (spec/00_scope.md, Configurations). -/
inductive Package where
  | yx2 | yx4 | yx8
  deriving DecidableEq, Repr, Inhabited

/-- A stored row: its data and its parity bits (spec/02_banks_deeds.md R37, R38). -/
structure Row where
  data : RowData
  par : ByteMask
  deriving DecidableEq, Repr, Inhabited

/-! ## Requests, accesses and packets -/

/-- Who issued a request, as its transaction ID and its household name it (spec/04_fabric_arbitration.md, Ordering
hold-back; spec/09_households.md R305). `port` is 64 for an issuer at a host port, 127 for one in the lanes. -/
structure Issuer where
  die : Nat
  tile : Nat
  master : Nat
  chan : Nat
  hh : Nat
  port : Nat
  deriving DecidableEq, Repr, Inhabited

/-- Where a bank access stands. -/
inductive Stage where
  | atPort       -- waits at the NW arbiter (spec/04_fabric_arbitration.md R130)
  | portGranted  -- its beat has been started by the NW arbiter and goes to the bank
  | queued       -- raised at a bank whose request register is full: not acknowledged (spec/03_timing_promise.md R87)
  | waiting      -- in the bank's request register, or raised at the bank's arbiter
  | held         -- held behind a deed write (spec/02_banks_deeds.md R57)
  | granted      -- its beat has been started by the bank's arbiter
  | beat         -- in its beat
  deriving DecidableEq, Repr, Inhabited

/-- Who takes the outcome of a bank access. -/
inductive Dest where
  | port                          -- the master's port
  | burst (chan unit first : Nat) -- a stream channel: read data from a unit on, or a write; the burst's first unit
  | fetch (chan : Nat)            -- a channel's descriptor fetch
  | index (block : Nat)           -- an index block
  | sendRead (e : Engine) (unit : Nat)  -- a read of a send
  | packet (pkt : Nat)            -- a remote request served at the NW port
  | dropped                       -- nobody: its channel was cleared (spec/08_tallies_bells_channels.md R302)
  | flush (bank row : Nat)        -- a merge-buffer flush at a commons bank's arbiter (spec/02_banks_deeds.md R404)
  deriving DecidableEq, Repr, Inhabited

/-- An access at the banks of a tile: `beats` beats of `size` bytes from tile offset `off`, in `view`. -/
structure Access where
  id : Nat
  master : Master
  view : View
  write : Bool
  off : Nat
  size : Nat
  beats : Nat
  done : Nat
  qos : Nat
  data : List RowData
  stage : Stage
  inSet : Bool      -- in the deadline set of its arbiter (spec/04_fabric_arbitration.md R139)
  demoted : Bool
  l : Bool
  lapse : Bool      -- accepted during lapse with a bound (spec/03_timing_promise.md R107)
  badAt : Option Nat -- the first beat of which a row ended UNCORR
  iss : Issuer
  dest : Dest
  rom : Bool := false      -- a read of the boot ROM (spec/04_fabric_arbitration.md R126)
  revoked : Bool := false  -- its tenure was revoked while its beat was at the bank (spec/04_fabric_arbitration.md R136)
  ended : Bool := false    -- its tenure ended at step 2 of a deed operation (spec/02_banks_deeds.md R59)
  since : Nat := 0         -- the tile's pace count when it came to its stage (spec/04_fabric_arbitration.md R150)
  deriving DecidableEq, Repr, Inhabited

/-- The arbiter of a commons bank, a commons quad or the NW port (spec/04_fabric_arbitration.md R131). -/
structure Arb where
  next : Option Nat := none        -- access decided for the beat after
  beat : Option Nat := none        -- access whose beat was started at the last boundary
  lastDl : Nat := 0                -- last deadline grant: master code, or admission slot; 0 none
  lastBulk : Nat := 0              -- master code of the last bulk tenure's holder
  lastReq : Option Issuer := none  -- at the NW port: the requester of the last bulk tenure (spec/04_fabric_arbitration.md R131)
  tenure : Option (Nat × Nat) := none  -- bulk tenure: access and beats granted
  slots : Tbl Issuer := []         -- the deadline set: by master code, or by admission slot 1 to 4 at the NW port
  deriving DecidableEq, Repr, Inhabited

/-- What a packet in transit is for. -/
inductive PKind where
  | read | write                     -- burst requests, and requests that entered at the host port
  | readback                         -- R176
  | probe (fill free : Nat)          -- ring probe (R187)
  | slotReadback (fill free n : Nat) -- slot read-back (R187)
  | rtally (t : Nat)                 -- multicast read-back with RTALLY (R224)
  | mcast (rs : List (Nat × Nat))    -- a multicast flit on its way to some receivers, by their places and tiles (R222)
  | lookup (dir : Nat)               -- window lookup (R230)
  | fetch                            -- descriptor fetch of a household ring (R159)
  | index (block : Nat)              -- index read (R203)
  | message (endpoint units k : Nat) -- piece k of a channel message (R291)
  | reg (write : Bool)               -- register access through the slice matrix
  | regBack                          -- a FENCE's read-back of a written register (spec/08_tallies_bells_channels.md R273)
  | doorbell (word : BitVec 64)      -- doorbell (R316)
  | doorstep (number : Nat)          -- doorstep piece (R321)
  | record                           -- completion record (R325)
  | capture                          -- unit of a capture record (R334)
  | sliceLookup (h : Nat)            -- a slice's window lookup for the ring of household h; 16 for the capture ring, 17 for re-run (R325, R334, R337)
  | notice                           -- a core's reset notice on its way to another die (spec/04_fabric_arbitration.md R149)
  deriving DecidableEq, Repr, Inhabited

/-- The end of a request's path. -/
inductive Target where
  | tile (g : Nat)          -- the NW port of a tile
  | ext (die port : Nat)    -- an external memory port
  | host (die : Nat)        -- a host port, toward host memory
  | regs (die : Nat)        -- the register bus of a slice
  | book (die : Nat)        -- the book path
  | slice (die : Nat)       -- the slice itself: a reset notice (spec/04_fabric_arbitration.md R149)
  deriving DecidableEq, Repr, Inhabited

/-- Where a packet stands. -/
inductive Loc where
  | lane (die x y : Nat)        -- at a router
  | matrix (die : Nat)          -- waits in the slice matrix
  | held (die : Nat)            -- held back in the slice matrix (spec/04_fabric_arbitration.md R118)
  | ring (die port : Nat)       -- waits for a stripe slot of an outbound bridge port (R121)
  | bridge (die port : Nat)     -- waits in an outbound bridge port
  | wire (die port : Nat)       -- in a stripe sent by that port
  | arrived                     -- at its target
  | served                      -- being served at its target
  | read                        -- a read-back with an effect of its own has been read there (R187, R224)
  | home                        -- its response is back at its issuer
  | lost                        -- discarded on the ring; its issuer still waits (spec/07_external_bridges.md R248, R407)
  deriving DecidableEq, Repr, Inhabited

/-- A request in transit, and later its response. -/
structure Packet where
  id : Nat
  ord : Nat                 -- order of issue
  iss : Issuer
  kind : PKind
  qos : Nat
  demoted : Bool
  l : Bool
  lapse : List Nat          -- the slices that have accepted it, with a bound, during their lapse (spec/03_timing_promise.md R86, R107)
  viewq : Bool
  target : Target
  addr : Addr               -- fabric address; a space-0 window address for a stack or host request (R124)
  place : Nat               -- stack or host address, or tile offset
  size : Nat
  data : List RowData
  bstart : Nat
  blen : Nat
  unit : Nat                -- position within its descriptor, in 64 B units
  write : Bool
  resp : Option Status      -- none: a request; some: a response
  entered : Bool            -- outstanding at the slice matrix of its issuer (R118)
  dir : Option Nat          -- direction of travel on the ring, once chosen (R120)
  port : Nat                -- source code at the slice matrix (R115)
  full : Bool               -- a message answered full (spec/08_tallies_bells_channels.md R292)
  abandoned : Bool          -- its issuer discards its response (spec/08_tallies_bells_channels.md R302; spec/07_external_bridges.md R248)
  loc : Loc
  came : Nat := 0           -- order of arrival at its place
  turned : Bool := false    -- a response sent the other way round the ring (spec/07_external_bridges.md R407)
  ltag : Nat := 0           -- its link tag while a bridge port has it (spec/07_external_bridges.md R245)
  side : Nat := 0           -- the router input at which it stands: 0 tile, 1 west, 2 east, 3 north, 4 south, 5 slice matrix
  deriving DecidableEq, Repr, Inhabited

/-! ## Objects of a tile -/

/-- A merge-buffer entry (spec/02_banks_deeds.md, The merge buffer). -/
structure MergeEntry where
  bank : Nat
  row : Nat
  image : RowData
  mask : ByteMask
  qos : Nat
  flushing : Bool
  evicted : Bool := false  -- its image stands in the flush stage and its entry is free (spec/02_banks_deeds.md R68)
  since : Nat := 0         -- the tile's pace count at the last write into it (spec/02_banks_deeds.md R69, idle)
  flushAt : Nat := 0       -- accesses with this identity or a later one were issued after its flush began (spec/02_banks_deeds.md R70)
  lapse : Bool := false    -- a write into it was accepted during lapse (spec/03_timing_promise.md R107)
  deriving DecidableEq, Repr, Inhabited

/-- A narrow write that waits: held under R57 of spec/02_banks_deeds.md, or, with its checks passed, for room in the merge buffer
(R68, R74). -/
structure NarrowWrite where
  off : Nat
  size : Nat
  data : BitVec 64
  qos : Nat
  passed : Bool := false
  deriving DecidableEq, Repr, Inhabited

/-- The deed write or rotation pending on a tile (spec/02_banks_deeds.md R53). -/
inductive DeedOp where
  | deed (bank : Nat) (owner : BitVec 3)
  | commons (mask : BitVec 6)
  | rotate (a b : BitVec 16) (bySlice : Bool)
  | retire (banks : BitVec 16)
  deriving DecidableEq, Repr, Inhabited

/-- A register access at a tile block or slice block (spec/13_registers.md R388); `half` is 1 and 2 for the halves of an 8-byte
access (spec/04_fabric_arbitration.md R111), otherwise 0. -/
structure RegAcc where
  src : Src
  off : Nat
  value : Word
  write : Bool := true
  half : Nat := 0
  pkt : Option Nat := none  -- the packet in which it came over the register bus
  dropped : Bool := false   -- nobody takes its answer: its channel was cleared (spec/08_tallies_bells_channels.md R302)
  deriving DecidableEq, Repr, Inhabited

/-- The holder of a bank lock (spec/04_fabric_arbitration.md R144). -/
inductive Holder where
  | master (m : Nat)
  | core (tile hh : Nat)
  deriving DecidableEq, Repr, Inhabited

/-- A bank lock (spec/04_fabric_arbitration.md, Bank locks). -/
structure Lock where
  holder : Option Holder := none
  suspect : Bool := false
  since : Nat := 0         -- the tile's pace count when it was taken (spec/04_fabric_arbitration.md R150)
  deriving DecidableEq, Repr, Inhabited

/-- A gate (spec/07_external_bridges.md, TL_GATE). -/
structure Gate where
  base : BitVec 14 := 0
  size : BitVec 15 := 0
  r : Bool := false
  w : Bool := false
  hh : BitVec 4 := 0
  isOpen : Bool := false
  closing : Bool := false
  closedDone : Bool := true
  forced : Bool := false
  bursts : Nat := 0
  since : Nat := 0         -- the tile's pace count at its close (spec/07_external_bridges.md R259)
  deriving DecidableEq, Repr, Inhabited

/-- A burst that the gates have decided (spec/07_external_bridges.md R254). -/
structure Burst where
  iss : Issuer
  bstart : Nat
  blen : Nat
  write : Bool
  gates : List Nat      -- gates it is admitted in; empty for a refused burst
  due : Nat             -- 64 B units of it still to arrive
  left : Nat            -- 64 B units still to be served
  cut : Bool := false   -- a gate of it was closed by force (R259)
  deriving DecidableEq, Repr, Inhabited

/-- A bell (spec/08_tallies_bells_channels.md R276 to R282). -/
structure Bell where
  mask : BitVec 4 := 0
  arrived : BitVec 4 := 0
  tally : BitVec 6 := 63
  l : Bool := false
  gen : BitVec 12 := 0
  deriving DecidableEq, Repr, Inhabited

/-- What an engine of the core does (spec/08_tallies_bells_channels.md R283, Engine word). -/
inductive EngState where
  | running
  | stopped
  | waitGe (t : Nat) (v : Word)
  | waitDec (t : Nat)
  | arriving (b : Nat)
  | waitBell (b : Nat) (g : BitVec 12)
  | recv (e : Nat)
  | sending
  | sendFull (e g : Nat)
  | fence (accs : List Nat) (uncorr : Bool)
  deriving DecidableEq, Repr, Inhabited

/-- An operation that waits for the next tally boundary (spec/08_tallies_bells_channels.md R263, R266). -/
inductive TOp where
  | write (src : Src) (t : Nat) (v : Word)
  | mode (src : Src) (word : Nat) (v : Word)
  | add (t : Nat) (a : Word) (l : Bool)
  | stAdd (chan t : Nat) (a : Word)
  | dec (e : Engine) (t : Nat)
  | arrive (e : Engine) (b : Nat) (wait : Bool)
  | stArrive (src : Src) (chan b : Nat)
  | force (src : Src) (b : Nat)
  | done (chan t : Nat) (l : Bool)       -- the DONE_TALLY add of a completed descriptor (spec/05_stream_engine.md R178)
  | fill (chan t : Nat) (l : Bool)       -- the FILL add of a slot of a local ring (spec/05_stream_engine.md R186)
  | homeAdd (pkt t : Nat) (l : Bool)     -- the add of a slot read-back or RTALLY read-back at its target (R262)
  | pop (e : Engine) (endpoint : Nat)
  | send (e : Engine) (src units target endpoint qos : Nat)
  deriving DecidableEq, Repr, Inhabited

/-- A message record of an endpoint, or a pad (spec/08_tallies_bells_channels.md R293). -/
structure MsgRec where
  pad : Bool
  pos : Nat
  units : Nat
  tile : Nat
  master : Nat
  l : Bool
  whole : Bool := true     -- every piece of it has been written into the ring
  deriving DecidableEq, Repr, Inhabited

/-- A message whose first piece has arrived and whose pieces have not all ended (spec/08_tallies_bells_channels.md R292, R295, R299). -/
structure MsgIn where
  iss : Issuer
  endpoint : Nat
  pos : Nat                -- its first unit in the ring
  left : Nat               -- pieces still to end
  status : Status          -- OK while it is admitted, otherwise the outcome that every piece is answered with
  full : Bool              -- answered full
  l : Bool
  deriving DecidableEq, Repr, Inhabited

/-- A channel endpoint (spec/08_tallies_bells_channels.md R287 to R299). -/
structure Endpoint where
  isOpen : Bool := false
  hh : BitVec 4 := 0
  off : BitVec 14 := 0
  size : BitVec 5 := 0
  recs : List MsgRec := []
  tail : Nat := 0
  drop : Word := 0
  deriving DecidableEq, Repr, Inhabited

/-- A send in progress (spec/08_tallies_bells_channels.md R290, R291). -/
structure SendState where
  e : Engine
  src : Nat
  units : Nat
  target : Nat
  endpoint : Nat
  qos : Nat
  rows : Tbl RowData
  asked : Bool             -- its reads have been offered on the local side
  issued : Bool
  full : Bool
  status : Option Status
  l : Bool := false
  demoted : Bool := false
  since : Nat := 0         -- the tile's pace count at the last *full* answer (spec/08_tallies_bells_channels.md R294)
  deriving DecidableEq, Repr, Inhabited

/-- Channel states (spec/05_stream_engine.md R195), coded 0 to 6 in ST_STATUS.STATE. -/
inductive ChState where
  | disabled | idle | arming | armed | run | wait | halt
  deriving DecidableEq, Repr, Inhabited

/-- A latched position (spec/05_stream_engine.md ST_POS). -/
structure Pos where
  i0 : Nat := 0
  i1 : Nat := 0
  i2 : Nat := 0
  sub : Nat := 0     -- offset within the element in 64 B units
  slot : Nat := 0
  deriving DecidableEq, Repr, Inhabited

/-- A failure of a channel waiting for its outstanding requests (spec/05_stream_engine.md R190). -/
structure ChFail where
  seq : Nat          -- order of issue
  addr : Addr
  dir : Nat
  status : Status
  unit : Nat         -- position of the failing burst, in 64 B units of the walk
  all : Bool
  alone : Bool := false  -- of a read-back, a probe or a check of the ring, which RESUME takes up again alone (spec/05_stream_engine.md R191)
  deriving DecidableEq, Repr, Inhabited

/-- Where a channel stands in a data descriptor. -/
inductive Phase where
  | idle        -- the source of the next chunk is read, or its operation may run
  | lookupRead  -- the source side's translation is under way (spec/07_external_bridges.md R229)
  | lookupWrite -- the destination side's translation is under way
  | writing     -- output waits to be issued
  | flit        -- a multicast flit waits for credit (spec/06_stream_transforms.md R222)
  | probe       -- the ring probe that begins the descriptor is to be answered (spec/05_stream_engine.md R187)
  | fetched     -- the descriptor is in hand and nothing of it has been started
  | finished    -- every burst is issued
  deriving DecidableEq, Repr, Inhabited

/-- The last write to one target of a descriptor (spec/05_stream_engine.md R176). -/
structure WTarget where
  target : Target
  addr : Addr
  place : Nat
  returned : Bool
  issued : Bool
  deriving DecidableEq, Repr, Inhabited

/-- A completion record (spec/09_households.md R327), PHASE apart, which is fixed when it is written. -/
structure CRec where
  tag : BitVec 16
  idx : BitVec 16
  status : Status
  l : Bool
  demoted : Bool
  chan : Nat
  tile : Nat
  bytes : Nat
  pace : Word
  faddr : Addr
  fdir : Nat
  deriving DecidableEq, Repr, Inhabited

/-- How a channel goes on once a descriptor has ended (spec/05_stream_engine.md R162 to R164, R191). -/
inductive Cont where
  | next      -- the next descriptor, a rewind, or IDLE
  | nextArm   -- the same after a halt in ARMING: the next descriptor is armed
  | idle      -- IDLE
  deriving DecidableEq, Repr, Inhabited

/-- A stream channel (spec/05_stream_engine.md). -/
structure Channel where
  en : Bool := false
  rep : Bool := false
  state : ChState := .disabled
  code : Status := .ok
  pendGo : Bool := false
  goLost : Bool := false
  baseLo : Word := 0
  baseHi : Word := 0
  head : BitVec 16 := 0
  tail : BitVec 16 := 0
  curIdx : BitVec 16 := 0
  curTag : BitVec 16 := 0
  pos : Pos := {}
  posUnit : Nat := 0        -- the latched position in 64 B units of its walk
  faultAddr : Addr := 0
  faultDir : Nat := 0
  faultStatus : Status := .ok
  faultAll : Bool := false
  armPoint : BitVec 16 := 0
  haltFrom : ChState := .idle
  fetching : Bool := false
  fetched : Option (Status × RowData) := none
  snap : Option RowData := none
  phase : Phase := .idle
  runit : Nat := 0          -- next 64 B unit of the source walk to be read
  wunit : Nat := 0          -- next 64 B unit of the output to be written
  known : Nat := 0          -- units of output known to be committed (spec/05_stream_engine.md R176)
  need : Nat := 0           -- source reads outstanding
  inBuf : Tbl RowData := []
  outBuf : List RowData := []
  skipped : Keys := []      -- null elements of a SCATTER (spec/06_stream_transforms.md R200)
  outst : Nat := 0          -- requests outstanding
  fail : Option ChFail := none
  bodyDone : Bool := false
  waitTally : Bool := false
  aborting : Bool := false  -- an ABORT waits for the outstanding requests (spec/05_stream_engine.md R194)
  targets : List WTarget := []
  rbIssued : Bool := false  -- the slot read-back of the slot in hand is outstanding
  demoted : Bool := false
  l : Bool := false
  halfDone : Bool := false
  started : Word := 0       -- slots started, counted from FILL (spec/05_stream_engine.md R184)
  slotOpen : Bool := false  -- the slot in hand has been started
  slotEnd : Bool := false   -- every unit of the slot in hand has been issued
  ringFree : Word := 0      -- the last FREE value returned by a probe or slot read-back
  credits : Keys := []      -- receivers that gave credit for the flit in hand
  drop : BitVec 16 := 0     -- receivers left out of the rest of the descriptor (spec/06_stream_transforms.md R226)
  haltDir : Nat := 0        -- the direction of the failure that RESUME takes up again
  haltAlone : Bool := false -- what failed is taken up again alone
  haltAll : Bool := false   -- the halt that RESUME ends is one of spec/05_stream_engine.md R193
  posSrc : Bool := false    -- `posUnit` counts units of the source walk
  trans : Option (Target × Nat) := none -- the translation of the write burst in hand, kept over read-backs (spec/07_external_bridges.md R229)
  flitEnd : Nat := 0        -- the tile's pace count at which the flit in hand stalls (spec/06_stream_transforms.md R225)
  probeAt : Nat := 0        -- the tile's pace count at the last ring probe (spec/05_stream_engine.md R187)
  doneWait : Bool := false  -- the descriptor has completed and its DONE_TALLY add is to take effect (spec/05_stream_engine.md R178)
  contWait : Option Cont := none -- the descriptor ended while the channel was in HALT: how it goes on then
  recWait : Option (CRec × Bool × Cont) := none  -- a record that waits for room, whether COMPLETE follows, and what then (spec/09_households.md R328)
  deriving DecidableEq, Repr, Inhabited

/-- An index block of the prefetcher (spec/06_stream_transforms.md R203). -/
structure IndexBlock where
  id : Nat
  chan : Nat
  first : Nat               -- table entry of its first row
  addr : Addr
  count : Nat               -- rows of 64 B, the last of them in part if the table ends in it
  rows : Tbl RowData
  need : Nat
  ready : Bool
  status : Status
  deriving DecidableEq, Repr, Inhabited

/-- A march in progress (spec/10_integrity.md R356, R357). -/
structure MarchRun where
  banks : BitVec 16
  mode : Bool
  bg : Bool
  startup : Bool
  deriving DecidableEq, Repr, Inhabited

/-- A reassignment in progress (spec/08_tallies_bells_channels.md R301). -/
structure Reassign where
  hh : Nat
  stopped : Bool := false  -- step 3 has passed: banks admit nothing, channels issue nothing
  deriving DecidableEq, Repr, Inhabited

/-- A tile (spec/01_architecture.md R18; spec/13_registers.md R400). -/
structure Tile where
  hh : Nat := 0
  remap : Bool := false
  logLate : Bool := false
  quar : BitVec 8 := 0
  biteRes : BitVec 5 := 0
  biteMaster : BitVec 3 := 0
  bite : Bool := false
  sweep14 : Bool := false
  sweep15 : Bool := false
  owner : Tbl (BitVec 3) := []
  pend : BitVec 16 := 0
  deedOp : Option DeedOp := none
  deedStop : Bool := false
  deedLapse : Bool := false        -- the pending deed write or rotation was accepted during lapse (spec/03_timing_promise.md R107)
  regWait : List RegAcc := []      -- register accesses that wait, oldest first (spec/13_registers.md R388)
  regBusy : Option RegAcc := none  -- the write performed that completes later (spec/13_registers.md R395)
  rotWait : Bool := false          -- a slice-wide rotation request that the tile has not yet accepted
  commons : BitVec 6 := 0
  prio : Word := 0
  rotA : BitVec 16 := 0
  rotB : BitVec 16 := 0
  rotBusy : Bool := false
  rotErr : Bool := false
  rotCause : BitVec 2 := 0
  glean : BitVec 16 := 0
  lap : BitVec 16 := 0
  gleanRow : Tbl Nat := []
  gleanAt : Tbl Nat := []           -- the pace count at the gleaner's last read of each bank (spec/10_integrity.md R350)
  mirror : BitVec 16 := 0
  retired : BitVec 16 := 0
  conf : Tbl Word := []
  deedFlt : Word := 0
  late : Word := 0
  locks : Tbl Lock := []
  gates : Tbl Gate := []
  bursts : List Burst := []
  tally : Tbl Word := []
  tallyMode : BitVec 48 := 0
  tallyL : BitVec 48 := 0
  syncFault : Word := 0
  bells : Tbl Bell := []
  bellAdds : List (Nat × Bool) := []
  tops : List TOp := []
  wmEn : Bool := true
  wmHostwait : Bool := true
  wmNow : Bool := false
  wmStill : Bool := false
  wmRaises : BitVec 16 := 0
  wmSnap : Tbl Word := []
  wmFrom : Option Nat := none       -- the pace count at which the watchman's count began (spec/08_tallies_bells_channels.md R284)
  engines : Tbl EngState := []
  eps : Tbl Endpoint := []
  sends : List SendState := []
  regSent : List Addr := []         -- registers that the scalar core has written through the slice matrix and not read back (spec/08_tallies_bells_channels.md R273)
  chans : Tbl Channel := []
  mcStall : BitVec 16 := 2048
  stPrio : BitVec 24 := 0
  mcLag : Tbl Word := []
  lastChan : Nat := 0
  picked : Option Nat := none
  blocks : List IndexBlock := []
  idxWant : List (Nat × Nat) := []  -- index blocks requested and not yet allocated: channel and table entry (spec/06_stream_transforms.md R203)
  fracs : Nat := 0
  testSpare : Bool := false
  testBank : BitVec 4 := 0
  testRow : BitVec 10 := 0
  testBusy : Bool := false
  testReplayed : Bool := false
  testStatus : Status := .ok
  testPar : BitVec 64 := 0
  marchBanks : BitVec 16 := 0
  marchMode : Bool := false
  marchBg : Bool := false
  march : Option MarchRun := none
  marchDone : Bool := false
  failBanks : BitVec 16 := 0
  failRow : BitVec 11 := 0
  failBank : BitVec 4 := 0
  failSig : Bool := false
  bg : Tbl (Option Bool) := []
  remapRow : Tbl Word := []
  wdog : BitVec 24 := 8192
  replays : Word := 0
  poisons : Word := 0
  suppressed : Nat := 0
  lastReplay : Option Nat := none   -- pace of the last REPLAY record (spec/10_integrity.md R348)
  lastLate : Option Nat := none     -- pace of the last LATE record (spec/07_external_bridges.md R260)
  merge : List MergeEntry := []
  narrow : List NarrowWrite := []
  accs : List Access := []
  arbs : Tbl Arb := []
  reassign : Option Reassign := none
  meter : Nat := 0                  -- what the pace meter stood at at the tick `paceFrom` of its slice (spec/03_timing_promise.md R100)
  msgs : List MsgIn := []           -- messages whose pieces are arriving (spec/08_tallies_bells_channels.md R292)
  deriving DecidableEq, Repr, Inhabited

/-! ## Objects of a slice -/

/-- SLC_HH_BIND (spec/09_households.md R306). -/
structure HhBind where
  fn : BitVec 8 := 0
  bound : Bool := false
  home : BitVec 3 := 0
  dbg : Bool := false
  deriving DecidableEq, Repr, Inhabited

/-- SLC_TITHE (spec/07_external_bridges.md R239). -/
structure Tithe where
  rate : BitVec 7 := 0
  burst : BitVec 6 := 0
  deriving DecidableEq, Repr, Inhabited

/-- A token bucket: tokens and refill accumulator (spec/07_external_bridges.md R239). -/
structure Bucket where
  tokens : Nat := 0
  acc : Nat := 0
  deriving DecidableEq, Repr, Inhabited

/-- SLC_CRING of one household (spec/09_households.md R325 to R329). -/
structure CRing where
  lo : Word := 0
  hi : BitVec 13 := 0
  size : BitVec 4 := 0
  en : Bool := false
  ovf : Bool := false
  err : Bool := false
  status : Status := .ok
  head : BitVec 16 := 0
  tail : BitVec 16 := 0
  hold : List CRec := []
  due : List CRec := []                     -- issued, not yet written or held
  flight : Option CRec := none              -- being written into entry TAIL
  kept : Option CRec := none                -- failed, kept for RETRY
  again : Bool := false                     -- RETRY has been written
  issued : Nat := 0                         -- records issued to the ring so far (R332)
  deriving DecidableEq, Repr, Inhabited

/-- SLC_IRQ of one household (spec/09_households.md R330, R331). -/
structure Irq where
  cause : BitVec 8 := 0
  enable : BitVec 8 := 0
  hostflt : Word := 0
  deriving DecidableEq, Repr, Inhabited

/-- An interrupt message that is to leave the host port (spec/09_households.md R331, R332): after the first `recs` records of its household's ring,
and after the host writes whose order of issue is below `ord`. -/
structure IrqMsg where
  hh : Nat
  vec : Nat
  recs : Nat
  ord : Nat
  deriving DecidableEq, Repr, Inhabited

/-- A book record before it has its SEQ (spec/11_startup_power_book.md R381). -/
structure BookRec where
  type : Nat
  l : Bool
  tile : Nat
  die : Nat
  boot : Word
  seq : Word
  pace : Word
  detail : BitVec 352
  deriving DecidableEq, Repr, Inhabited

/-- A capture record (spec/09_households.md R335). -/
structure CapRec where
  seq : Word
  type : Nat
  hh : Nat
  gap : Bool
  refused : Bool
  addr : Nat
  tile : Nat
  data : BitVec 64
  pace : Word
  src : Nat
  status : Status
  payload : List RowData
  deriving DecidableEq, Repr, Inhabited

/-- SLC_CAPTURE (spec/09_households.md). -/
structure Capture where
  mask : BitVec 16 := 0
  en : Bool := false
  rerun : Bool := false
  rhh : BitVec 4 := 0
  done : Bool := false
  err : Bool := false
  status : Status := .ok
  lo : Word := 0
  hi : BitVec 13 := 0
  size : BitVec 5 := 0
  head : Word := 0
  tail : Word := 0
  seq : Word := 0
  drop : Word := 0
  due : List CapRec := []        -- captured events on their way to the capture unit, oldest first (R334)
  hold : List CapRec := []
  gap : Bool := false
  out : List (Nat × RowData) := []   -- units of the record in hand that still have to be written, by their place in the ring
  asked : Bool := false              -- the lookup for the first of them, or of re-run's record, is under way
  found : Bool := false              -- re-run's lookup has returned (spec/09_households.md R337)
  deriving DecidableEq, Repr, Inhabited

/-- A doorbell at a host port (spec/09_households.md R315). -/
structure Doorbell where
  hh : Nat
  offset : Nat
  size : Nat
  word : BitVec 64
  pieces : List Nat    -- doorstep pieces that must be done first (R318)
  lapse : Bool := false -- it arrived during lapse (spec/03_timing_promise.md R86, R107)
  deriving DecidableEq, Repr, Inhabited

/-- One stripe (spec/07_external_bridges.md R244). `entries` are the packets it names. -/
inductive StripeKind where
  | command | data | failed | idle
  deriving DecidableEq, Repr, Inhabited

/-- A stripe in a slot or on the wire. -/
structure Stripe where
  kind : StripeKind
  seq : Nat
  entries : List Nat
  retried : Bool
  ack : Nat := 0           -- ACK and NAK as it was last sent
  nak : Bool := false
  deriving DecidableEq, Repr, Inhabited

/-- A bridge port: its sending and its receiving side (spec/07_external_bridges.md R246). -/
structure Bridge where
  nextSeq : Nat := 0
  queue : List Nat := []         -- entries that wait to be sent, in order of arrival
  slots : List Stripe := []
  dataDue : List Nat := []       -- entries whose data stripes still follow
  wire : List Stripe := []       -- stripes sent and not yet received
  expect : Nat := 0
  discard : Bool := false        -- stripes are discarded until the expected SEQ arrives
  nak : Bool := false            -- a NAK is on its way to the sender
  crcSuppressed : Nat := 0
  lastCrc : Option Nat := none   -- pace of the last limited CRC record (spec/10_integrity.md R348)
  deriving DecidableEq, Repr, Inhabited

/-- What an external memory port has in hand of a request (spec/07_external_bridges.md R236 to R238). -/
structure ExtWork where
  pkt : Nat
  urgent : Bool                    -- the request is urgent at the controller
  writing : Bool                   -- the controller performs a write; otherwise a read
  again : Bool := false            -- the refetch or resend is under way
  data : List RowData := []        -- what the controller is given to write
  deriving DecidableEq, Repr, Inhabited

/-- An external memory port (spec/07_external_bridges.md R236, spec/13_registers.md R399). -/
structure ExtPort where
  ready : Bool := false
  refetch : BitVec 12 := 0
  crc : BitVec 12 := 0
  uncorr : BitVec 8 := 0
  crcSuppressed : Nat := 0
  lastCrc : Option Nat := none   -- pace of the last limited CRC record (spec/10_integrity.md R348)
  work : List ExtWork := []      -- requests at the controller
  deriving DecidableEq, Repr, Inhabited

/-- The bind or unbind in progress (spec/09_households.md R307, R308). -/
structure BindStat where
  hh : BitVec 4 := 0
  cause : BitVec 4 := 0
  busy : Bool := false
  err : Bool := false
  unbinding : Option Nat := none
  deriving DecidableEq, Repr, Inhabited

/-- A book command in progress (spec/11_startup_power_book.md R384). -/
structure BookCmd where
  cmd : Nat
  ring : Bool
  keepmap : Bool
  deriving DecidableEq, Repr, Inhabited

/-- A slice (spec/01_architecture.md R17; spec/13_registers.md R397). -/
structure Slice where
  power : Bool := true
  step : Nat := 0
  epoch : Nat := 0
  prevReady : Bool := false
  paceFrom : Option Nat := none
  bookErr : Bool := false
  mapErr : Bool := false
  marchFail : Bool := false
  linkUp : BitVec 8 := 0
  linkTrain : BitVec 8 := 0      -- links in training (spec/07_external_bridges.md R243)
  linkNotice : Bool := false     -- a link-down notice is on its way to the slice (spec/07_external_bridges.md R248)
  start : BitVec 8 := 0
  lpSticky : Bool := false
  lpActive : Bool := false
  lpCS : Bool := false
  lpCT : Bool := false
  lpCF : Bool := false
  lpCount : BitVec 16 := 0
  lpLongest : Word := 0
  lpForce : Bool := false
  lpEntryPace : Nat := 0
  lpOwed : List BookRec := []    -- lapse records to be appended after step 4 (spec/11_startup_power_book.md R373)
  srst : Bool := false           -- SLC_CTRL.SRST has been taken; the reset is to begin (spec/11_startup_power_book.md R366)
  mv : Nat := 750
  degC : Int := 60
  hh : Tbl HhBind := []
  tithe : Tbl Tithe := []
  buckets : Tbl Bucket := []
  winLo : Tbl Word := []
  winHi : Tbl (BitVec 17) := []
  unbCount : BitVec 16 := 0
  unbFn : BitVec 8 := 0
  bindStat : BindStat := {}
  park : Tbl Word := []
  turn : Tbl Nat := []
  routeDir : Tbl Bool := []
  routeLinks : Tbl (BitVec 4) := []
  decAddr : Addr := 0
  decSrc : Word := 0
  rotBusy : Bool := false
  rotDone : Bool := false
  rotErr : Bool := false
  rotMask : BitVec 256 := 0
  rotLeft : BitVec 256 := 0
  rotRefused : Bool := false
  rotLapse : Bool := false         -- the rotation was accepted during lapse (spec/03_timing_promise.md R86, R107)
  bkRing : Bool := false
  bkBusy : Bool := false
  bkErr : Bool := false
  bkStatus : Status := .ok
  bkIndex : BitVec 14 := 0
  bkDrops : BitVec 16 := 0
  bkData : Tbl Word := []
  bkCmd : Option BookCmd := none
  holdSev : List BookRec := []
  holdRou : List BookRec := []
  noRoom : List Bool := []         -- records that have found the hold full, oldest first; true severe (R380)
  dropSev : Nat := 0
  dropRou : Nat := 0
  cap : Capture := {}
  crings : Tbl CRing := []
  irqs : Tbl Irq := []
  irqDue : List IrqMsg := []     -- interrupt messages that have not left, oldest first (spec/09_households.md R331, R332)
  linkRetx : Tbl (BitVec 16) := []
  linkFail : Tbl (BitVec 12) := []
  doorsteps : Tbl Word := []
  bells : List Doorbell := []       -- held doorbells, oldest first
  bellTurn : Nat := 0
  ext : Tbl ExtPort := []
  bridges : Tbl Bridge := []
  regWait : List RegAcc := []
  hhBusy : Option RegAcc := none    -- an SLC_TILE_HH write that has not completed (spec/09_households.md R312)
  hhTiles : List Nat := []          -- its tiles that have not reached step 5
  regHalves : Tbl (Nat × Status × Word) := []   -- of an 8-byte register access, by its packet: the half that has been performed first
  unparked : Keys := []          -- target ports of the slice matrix that have left their parked source (spec/04_fabric_arbitration.md R116)
  routers : Tbl Nat := []        -- the input granted last, by router, output and lane (spec/03_timing_promise.md R95; spec/04_fabric_arbitration.md R113)
  noticeIn : List Nat := []      -- cores whose reset notice has come into the slice (spec/04_fabric_arbitration.md R149)
  lpClear : Option Nat := none   -- the pace from which the lapse clear count runs; none while it is held at 0 (spec/03_timing_promise.md R108)
  base : Tile := {}
  tiles : Tbl Tile := []
  deriving DecidableEq, Repr, Inhabited

/-- One copy of the control area (spec/11_startup_power_book.md R377); `good` says that its CRC checks. -/
structure Control where
  gen : Word := 0
  boot : Tbl Word := []
  mapCount : Nat := 0
  mapCrc : Word := 0
  sevHead : Nat := 0
  sevTail : Nat := 0
  rouHead : Nat := 0
  rouTail : Nat := 0
  sevSeq : Word := 0
  rouSeq : Word := 0
  start : Tbl (BitVec 8) := []
  ovwr : BitVec 16 := 0
  good : Bool := true
  deriving DecidableEq, Repr, Inhabited

/-- The book (spec/11_startup_power_book.md, The book): kept across every reset. -/
structure Book where
  map : Tbl (BitVec 64) := []
  sev : Tbl BookRec := []
  rou : Tbl BookRec := []
  a : Control := {}
  b : Control := {}
  cause : Tbl Nat := []        -- cause latch of each die; 0 none
  queue : List Nat := []       -- dies whose command is in progress, in order of arrival at the book path (R384)
  deriving DecidableEq, Repr, Inhabited

/-- What the ports of Glirik have answered. -/
inductive Output where
  | access (tile : Nat) (m : Master) (id : Nat) (status : Status) (data : List RowData) (l demoted : Bool)
  | notAcknowledged (tile : Nat) (m : Master)
  | busError (tile : Nat) (status : Status)
  | op (tile : Nat) (e : Engine) (status : Status) (l : Bool) (value : Nat)
  | reg (src : Src) (addr : Nat) (status : Status) (value : Word)
  | reg64 (src : Src) (addr : Nat) (status : Status) (value : BitVec 64)
  | hostAnswer (die fn : Nat) (status : Status) (data : List RowData)
  | hostRequest (die fn : Nat) (addr size : Nat) (write : Bool) (data : List RowData)
  | stackRequest (die port addr size : Nat) (write urgent : Bool) (data : List RowData)
  | interrupt (die fn vector : Nat)
  | bookRead (src : Src) (status : Status) (data : List Byte)
  | mesh (pkt : Nat) (status : Status)
  deriving DecidableEq, Repr, Inhabited

/-- The machine: the package, its slices and tiles, the book, the packets in transit, and the queue of commands. -/
structure State where
  pending : List Instr := []
  pkg : Package := .yx2
  ticks : Nat := 0
  fresh : Nat := 0
  nextId : Nat := 0
  mem : Tbl Row := []
  poison : Keys := []
  valid : Keys := []
  slices : Tbl Slice := []
  net : List Packet := []
  notices : Tbl (List Nat) := []   -- reset notices under way, by core: the tiles they have reached (spec/04_fabric_arbitration.md R149)
  book : Book := {}
  out : List Output := []
  deriving DecidableEq, Repr, Inhabited

/-- Right after reset: no command, every slice before step 1 of its start-up with every register at its reset value
(spec/13_registers.md R403), no row written, the book as it left the factory (notes/assumptions/1.md, 2.md, 9.md, 10.md). -/
def State.reset : State where
  pending := []

end Sys2Proof.Machine
end

