-- ==== Sys2Proof/Machine/Operands.lean ====
section
/-!
DEFINITION. Operand forms: bit fields, fabric addresses, the two views of a tile offset, bytes of a row, descriptor fields,
the number formats and layouts of CONVERT, and CRC-32C.
-/

namespace Sys2Proof.Machine

/-! ## Bit fields -/

/-- Field of `len` bits from bit `lo`. -/
def bits {n : Nat} (w : BitVec n) (lo len : Nat) : Nat := (w.toNat >>> lo) % 2 ^ len

/-- One bit. -/
def bit {n : Nat} (w : BitVec n) (k : Nat) : Bool := w.getLsbD k

/-- The value `v` placed from bit `lo` of a register word. -/
def put (lo v : Nat) : Word := BitVec.ofNat 32 (v <<< lo)

/-- A flag placed at bit `lo` of a register word. -/
def flag (lo : Nat) (b : Bool) : Word := if b then put lo 1 else 0

/-- Bit `k` set or cleared. -/
def setBit {n : Nat} (w : BitVec n) (k : Nat) (b : Bool) : BitVec n :=
  if b then w ||| BitVec.ofNat n (1 <<< k) else w &&& ~~~ BitVec.ofNat n (1 <<< k)

/-- The numbers below `n` whose bit is set in `w`. -/
def bitsOf {n : Nat} (w : BitVec n) : List Nat := (List.range n).filter (fun k => bit w k)

/-- A signed 32-bit value (spec/05_stream_engine.md R168, strides). -/
def signed32 (w : Nat) : Int := if w < 2 ^ 31 then (w : Int) else (w : Int) - 2 ^ 32

/-! ## Fabric addresses (spec/13_registers.md, Reaching a register; spec/04_fabric_arbitration.md R122) -/

def space (a : Addr) : Nat := bits a 45 3

/-- Global tile of a space-1 or space-2 address. -/
def addrTile (a : Addr) : Nat := bits a 20 11

/-- Tile offset of a space-1 address. -/
def addrOff (a : Addr) : Nat := bits a 0 20

/-- Register offset of a space-2 address. -/
def tileRegOff (a : Addr) : Nat := bits a 0 12

/-- Die of a space-3 address. -/
def addrDie (a : Addr) : Nat := bits a 24 3

/-- Register offset of a space-3 address. -/
def sliceRegOff (a : Addr) : Nat := bits a 0 16

/-- The space-2 address of a tile register (spec/13_registers.md). -/
def tileRegAddr (tile off : Nat) : Nat := 2 * 2 ^ 45 + tile * 2 ^ 20 + off

/-- The space-3 address of a slice register. -/
def sliceRegAddr (die off : Nat) : Nat := 3 * 2 ^ 45 + die * 2 ^ 24 + off

/-- The space-1 address of a tile offset (spec/00_scope.md R8). -/
def tileMemAddr (tile off : Nat) : Nat := 2 ^ 45 + tile * 2 ^ 20 + off

/-- The bits that R122 wants zero are zero, for spaces 1, 2 and 3. -/
def addrBitsZero (a : Addr) : Bool :=
  match space a with
  | 1 => bits a 31 14 == 0
  | 2 => bits a 31 14 == 0 && bits a 12 8 == 0
  | 3 => bits a 27 18 == 0 && bits a 16 8 == 0
  | _ => false

/-! ## Tiles (spec/00_scope.md R8) -/

def tileDie (t : Nat) : Nat := t / 256
def tileX (t : Nat) : Nat := t % 16
def tileY (t : Nat) : Nat := t / 16 % 16
def tileNo (die x y : Nat) : Nat := die * 256 + y * 16 + x

/-! ## Views (spec/02_banks_deeds.md R40, R41) -/

/-- The bank that holds the byte of an offset in a view. -/
def viewBank (v : View) (off : Nat) : Nat :=
  match v with
  | .bank => off / 65536 % 16
  | .quad => 4 * (off / 262144 % 4) + off / 64 % 4

/-- The logical row of an offset in a view. -/
def viewRow (v : View) (off : Nat) : Nat :=
  match v with
  | .bank => off / 64 % 1024
  | .quad => off / 256 % 1024

/-- The bank-view offset of a row. -/
def bankOff (bank row : Nat) : Nat := bank * 65536 + row * 64

/-! ## Bytes of a row (spec/00_scope.md R7) -/

def rowByte (d : RowData) (k : Nat) : Byte := d.extractLsb' (8 * k) 8

/-- The row with 0xFF in every byte that the mask names. -/
def maskBytes (m : ByteMask) : RowData :=
  (List.range 64).foldl (fun a k => if bit m k then a ||| (0xFF#512 <<< (8 * k)) else a) 0

/-- The bytes that the mask names from `new`, the others from `old` (spec/02_banks_deeds.md R70). -/
def mergeRow (m : ByteMask) (new old : RowData) : RowData :=
  let e := maskBytes m
  (new &&& e) ||| (old &&& ~~~ e)

/-- The mask of `size` bytes from byte `k`. -/
def bytesMask (k size : Nat) : ByteMask := BitVec.ofNat 64 ((2 ^ size - 1) <<< k)

def rowBytes (d : RowData) : List Byte := (List.range 64).map (rowByte d)

/-- A value of `n` bytes, little-endian. -/
def leBytes (n v : Nat) : List Byte := (List.range n).map (fun k => BitVec.ofNat 8 (v >>> (8 * k)))

/-- The number whose little-endian bytes are given. -/
def ofBytes : List Byte → Nat
  | [] => 0
  | b :: r => b.toNat + 256 * ofBytes r

/-- A row from its bytes; missing bytes are zero. -/
def rowOfBytes (l : List Byte) : RowData := BitVec.ofNat 512 (ofBytes (l.take 64))

/-- Word `k` of a row. -/
def rowWord (d : RowData) (k : Nat) : Nat := bits d (32 * k) 32

/-- The bytes of several rows as one list. -/
def bytesOfRows (l : List RowData) : List Byte := l.flatMap rowBytes

/-- Rows from bytes, 64 at a time; `n` rows. -/
def rowsOfBytes : Nat → List Byte → List RowData
  | 0, _ => []
  | n + 1, l => rowOfBytes l :: rowsOfBytes n (l.drop 64)

/-! ## CRC-32C (spec/07_external_bridges.md R244; spec/10_integrity.md R357) -/

/-- One bit of the reflected CRC-32C. DEDUCED: the spec names CRC-32C and its polynomial, not the bit order; CRC-32C is reflected. -/
def crcBit (c : BitVec 32) : BitVec 32 := if bit c 0 then (c >>> 1) ^^^ 0x82F63B78#32 else c >>> 1

def crcByte (c : BitVec 32) (b : Byte) : BitVec 32 :=
  crcBit (crcBit (crcBit (crcBit (crcBit (crcBit (crcBit (crcBit (c ^^^ b.zeroExtend 32))))))))

/-- The CRC register, as a number, after more bytes. The match has each byte done before the next, so that evaluation stays shallow. -/
def crcRun : Nat → List Byte → Nat
  | c, [] => c
  | c, b :: l =>
    match (crcByte (BitVec.ofNat 32 c) b).toNat with
    | 0 => crcRun 0 l
    | n + 1 => crcRun (n + 1) l

/-- Castagnoli polynomial 0x1EDC6F41, initial value 0xFFFFFFFF, final inversion. -/
def crc32c (l : List Byte) : BitVec 32 := ~~~ (BitVec.ofNat 32 (crcRun 0xFFFFFFFF l))

/-- The row signature of the transparent march (spec/10_integrity.md R357). -/
def rowSignature (row : Nat) (d : RowData) : BitVec 32 := crc32c (leBytes 2 row ++ rowBytes d)

/-! ## Descriptor fields (spec/05_stream_engine.md R168) -/

namespace Desc

def op (d : RowData) : Nat := bits d 0 4
def dims (d : RowData) : Nat := bits d 4 2
def half (d : RowData) : Bool := bit d 8
def full (d : RowData) : Bool := bit d 9
def crec (d : RowData) : Bool := bit d 10
def viewq (d : RowData) : Bool := bit d 11
def stoch (d : RowData) : Bool := bit d 12
def ring (d : RowData) : Bool := bit d 13
def qos (d : RowData) : Nat := bits d 16 3
def doneTally (d : RowData) : Nat := bits d 24 6
def tag (d : RowData) : BitVec 16 := BitVec.ofNat 16 (bits d 32 16)
def conv (d : RowData) : Nat := bits d 48 8
def rcount (d : RowData) : Nat := bits d 56 5
def rect (d : RowData) : Bool := bit d 61
def src (d : RowData) : Nat := bits d 64 48
def pattern (d : RowData) : Nat := bits d 64 64
def tally (d : RowData) : Nat := bits d 64 6
def value (d : RowData) : Word := BitVec.ofNat 32 (rowWord d 3)
def regValue (d : RowData) : Word := BitVec.ofNat 32 (rowWord d 2)
def dst (d : RowData) : Nat := bits d 128 48
def elem (d : RowData) : Nat := bits d 192 17
def rtally (d : RowData) : Nat := bits d 209 6
def count0 (d : RowData) : Nat := bits d 224 24
def count1 (d : RowData) : Nat := bits d 256 24
def count2 (d : RowData) : Nat := bits d 288 24
def index (d : RowData) : Nat := bits d 256 48
def sstride1 (d : RowData) : Int := signed32 (rowWord d 10)
def sstride2 (d : RowData) : Int := signed32 (rowWord d 11)
def dstride1 (d : RowData) : Int := signed32 (rowWord d 12)
def dstride2 (d : RowData) : Int := signed32 (rowWord d 13)
def ringN (d : RowData) : Nat := bits d 448 4 + 1
def ringCode (d : RowData) : Nat := bits d 452 4
def ringFill (d : RowData) : Nat := bits d 456 6
def ringFree (d : RowData) : Nat := bits d 462 6
def ringStart (d : RowData) : Nat := bits d 468 4

/-- Bytes of a slot (R183). -/
def slotSize (d : RowData) : Nat := 2 ^ (8 + ringCode d)

/-- COPY, GATHER, SCATTER, MULTICAST, CONVERT and FILL move data. -/
def moves (d : RowData) : Bool := 1 ≤ op d && op d ≤ 6

/-- The opcodes that read SRC: COPY, GATHER, SCATTER, MULTICAST, CONVERT (R169). -/
def readsSrc (d : RowData) : Bool := 1 ≤ op d && op d ≤ 5

/-- GATHER and SCATTER take COUNT0 index entries and no other dimension (R169, R170). -/
def indexed (d : RowData) : Bool := op d == 2 || op d == 3

/-- Counts in use (R172): counts beyond DIMS are taken as 0. -/
def n0 (d : RowData) : Nat := count0 d + 1
def n1 (d : RowData) : Nat := if 1 ≤ dims d && !indexed d then count1 d + 1 else 1
def n2 (d : RowData) : Nat := if 2 ≤ dims d && !indexed d then count2 d + 1 else 1

/-- Elements of the walk. -/
def elems (d : RowData) : Nat := n0 d * n1 d * n2 d

/-- Indices (i0, i1, i2) of the k-th element, i0 running fastest. -/
def i0 (d : RowData) (k : Nat) : Nat := k % n0 d
def i1 (d : RowData) (k : Nat) : Nat := k / n0 d % n1 d
def i2 (d : RowData) (k : Nat) : Nat := k / (n0 d * n1 d)

/-- Sums of a walk are taken modulo 2^48 (R172). -/
def wrap48 (a : Int) : Nat := (a % 2 ^ 48).toNat

/-- Source address of element k with elements of `e` bytes. -/
def srcElem (d : RowData) (e k : Nat) : Nat :=
  wrap48 (src d + i0 d k * e + i1 d k * sstride1 d + i2 d k * sstride2 d)

/-- Destination address of element k with elements of `e` bytes. -/
def dstElem (d : RowData) (e k : Nat) : Nat :=
  wrap48 (dst d + i0 d k * e + i1 d k * dstride1 d + i2 d k * dstride2 d)

/-- Address of output byte j in a slot ring (R183). -/
def ringByte (d : RowData) (j : Nat) : Nat :=
  let sl := slotSize d
  (dst d + (ringStart d + j / sl) % ringN d * sl + j % sl) % 2 ^ 48

/-- Receiver bytes of a MULTICAST: w12 to w15 (R168). -/
def receiverByte (d : RowData) (i : Nat) : Nat := bits d (384 + 8 * i) 8

def x0 (d : RowData) : Nat := bits d 384 4
def y0 (d : RowData) : Nat := bits d 388 4
def x1 (d : RowData) : Nat := bits d 392 4
def y1 (d : RowData) : Nat := bits d 396 4

/-- The receivers as slice tile numbers (spec/06_stream_transforms.md R220). -/
def receivers (d : RowData) : List Nat :=
  if rect d then
    (List.range (y1 d + 1 - y0 d)).flatMap (fun j => (List.range (x1 d + 1 - x0 d)).map (fun i => (y0 d + j) * 16 + (x0 d + i)))
  else (List.range (min 16 (rcount d))).map (receiverByte d)

end Desc

end Sys2Proof.Machine
end

