-- ==== Sys2Proof/Machine/Flags.lean ====
section
/-!
DEFINITION. Computations on flags, codes and counters: status codes, parity and failing-byte masks, saturating counters,
W1C and W1S fields.
-/

namespace Sys2Proof.Machine

/-- The code of a status (spec/00_scope.md R9). -/
def statusCode : Status → Nat
  | .ok => 0 | .align => 1 | .deed => 2 | .gate => 3 | .decerr => 4 | .uncorr => 5 | .crc => 6 | .page => 7
  | .rearmBusy => 8 | .closed => 9 | .size => 10 | .spread => 11 | .wdog => 12 | .mcStall => 13 | .allstop => 14 | .aborted => 15

/-- The code of a master (spec/01_architecture.md, Inside a tile). -/
def masterCode : Master → Nat
  | .mx => 1 | .vx => 2 | .sc => 3 | .st => 4 | .nw => 5 | .test => 7

def engineMaster : Engine → Master
  | .mx => .mx | .vx => .vx | .sc => .sc

/-- Key of an engine in a tile's table of engines. -/
def engineKey : Engine → Nat
  | .mx => 0 | .vx => 1 | .sc => 2

/-- Bit of an engine in a bell's MASK (spec/08_tallies_bells_channels.md R276). -/
def engineBell : Engine → Nat
  | .mx => 0 | .vx => 1 | .sc => 3

/-- The code of a channel state in ST_STATUS (spec/05_stream_engine.md). -/
def chCode : ChState → Nat
  | .disabled => 0 | .idle => 1 | .arming => 2 | .armed => 3 | .run => 4 | .wait => 5 | .halt => 6

/-- A counter that saturates at its field's largest value. -/
def satInc {n : Nat} (w : BitVec n) : BitVec n := if w = BitVec.allOnes n then w else w + 1

/-- Addition that saturates at the field's largest value. -/
def satAdd {n : Nat} (w : BitVec n) (k : Nat) : BitVec n := BitVec.ofNat n (min (w.toNat + k) (2 ^ n - 1))

/-- A byte holds an even number of 1 bits. -/
def evenOnes (b : Byte) : Bool :=
  !(bit b 0 ^^ bit b 1 ^^ bit b 2 ^^ bit b 3 ^^ bit b 4 ^^ bit b 5 ^^ bit b 6 ^^ bit b 7)

/-- Odd parity of every byte of a row: 1 where the byte holds an even number of 1 bits (spec/10_integrity.md R339). -/
def parityOf (d : RowData) : ByteMask :=
  (List.range 64).foldl (fun m k => setBit m k (evenOnes (rowByte d k))) 0

/-- A row written with computed parity (spec/02_banks_deeds.md R38). -/
def mkRow (d : RowData) : Row := { data := d, par := parityOf d }

/-- The failing-byte mask of a stored row: the bytes whose parity bit is wrong (spec/10_integrity.md R340). -/
def missMask (r : Row) : ByteMask := parityOf r.data ^^^ r.par

/-- W1C: each bit written 1 clears (spec/00_scope.md R10). -/
def w1c {n : Nat} (old written : BitVec n) : BitVec n := old &&& ~~~ written

/-- W1S: each bit written 1 sets (spec/00_scope.md R10). -/
def w1s {n : Nat} (old written : BitVec n) : BitVec n := old ||| written

end Sys2Proof.Machine
end

