-- ==== Sys2Proof/Machine/Ops.lean ====
section
/-!
DEFINITION. The shared operations: places (dies, slices, tiles, channels), outputs, the passing of paces, households and
rights, interrupt causes, book records, and the rows of a bank.
-/

namespace Sys2Proof.Machine

/-- What exec answers. -/
abbrev Result := Host.Outcome State Fault Refusal

/-! ## Places -/

/-- Dies of a package (spec/01_architecture.md R19). -/
def Package.dies : Package → Nat
  | .yx2 => 2 | .yx4 => 4 | .yx8 => 8

def State.dies (s : State) : Nat := s.pkg.dies
def State.hasTile (s : State) (t : Nat) : Bool := t < 256 * s.dies
def State.hasDie (s : State) (d : Nat) : Bool := d < s.dies

def State.slice (s : State) (d : Nat) : Slice := Tbl.get {} s.slices d
def State.setSlice (s : State) (d : Nat) (S : Slice) : State := { s with slices := s.slices.set d S }
def State.modSlice (s : State) (d : Nat) (f : Slice → Slice) : State := s.setSlice d (f (s.slice d))

def Slice.tile (S : Slice) (i : Nat) : Tile := Tbl.get S.base S.tiles i
def Slice.setTile (S : Slice) (i : Nat) (T : Tile) : Slice := { S with tiles := S.tiles.set i T }

def State.tile (s : State) (t : Nat) : Tile := (s.slice (tileDie t)).tile (t % 256)
def State.setTile (s : State) (t : Nat) (T : Tile) : State := s.modSlice (tileDie t) (fun S => S.setTile (t % 256) T)
def State.modTile (s : State) (t : Nat) (f : Tile → Tile) : State := s.setTile t (f (s.tile t))

/-- Every tile of a slice changed by `f`. -/
def State.modTiles (s : State) (d : Nat) (f : Tile → Tile) : State :=
  s.modSlice d (fun S => { S with base := f S.base, tiles := S.tiles.mapVals f })

def Tile.chan (T : Tile) (n : Nat) : Channel := Tbl.get {} T.chans n
def Tile.setChan (T : Tile) (n : Nat) (c : Channel) : Tile := { T with chans := T.chans.set n c }
def State.chan (s : State) (t n : Nat) : Channel := (s.tile t).chan n
def State.modChan (s : State) (t n : Nat) (f : Channel → Channel) : State := s.modTile t (fun T => T.setChan n (f (T.chan n)))

/-- The slice is powered and its reset is released: step 2 of start-up has passed (spec/11_startup_power_book.md R369). -/
def State.live (s : State) (d : Nat) : Bool := (s.slice d).power && 2 ≤ (s.slice d).step

/-- SLC_STATUS.READY (spec/11_startup_power_book.md R369 step 9). -/
def State.ready (s : State) (d : Nat) : Bool := (s.slice d).power && (s.slice d).step == 9

/-- The outcome of an event at a tile. An event on a slice that is not past step 2 has no effect, since nothing there moves
(spec/11_startup_power_book.md R368), and at a tile that the package does not hold there is no event (notes/assumptions/85.md). -/
def State.atTile (s : State) (t : Nat) (r : State) : Result := .next (if s.hasTile t && s.live (tileDie t) then r else s)

/-- The outcome of an event at a slice. -/
def State.atDie (s : State) (d : Nat) (r : State) : Result := .next (if s.hasDie d && s.live d then r else s)

/-- The outcome of an event that a slice takes in any state of its start-up. -/
def State.atAnyDie (s : State) (d : Nat) (r : State) : Result := .next (if s.hasDie d then r else s)

/-! ## Outputs and identities -/

def State.emit (s : State) (o : Output) : State := { s with out := s.out ++ [o] }
def State.takeId (s : State) : State := { s with nextId := s.nextId + 1 }

/-! ## Paces (spec/03_timing_promise.md R100, R101) -/

/-- Paces that a tile counts from tick `k` over `n` ticks. -/
def paceSum (tile k : Nat) : Nat → Nat
  | 0 => 0
  | n + 1 => paceSum tile k n + Config.paceInc tile (k + n)

/-- The tile's pace count without its wrap; it stands until its meter starts. -/
def State.paceNat (s : State) (t : Nat) : Nat :=
  match (s.slice (tileDie t)).paceFrom with
  | none => (s.tile t).meter
  | some k => (s.tile t).meter + paceSum t k (s.ticks - k)

/-- TL_PACE: wraps from 0xFFFF_FFFF to 0. -/
def State.pace (s : State) (t : Nat) : Word := BitVec.ofNat 32 (s.paceNat t)

/-- Time passes: by how many paces at each tile is open. -/
def State.look (s : State) : State := { s with ticks := s.ticks + 1 }

/-- An interval of `n` paces that began at the pace `from'` has ended on the tile's meter (R101). -/
def State.paceOver (s : State) (t from' n : Nat) : Bool := from' + n ≤ s.paceNat t

/-- At least `n` paces have passed since the pace `last`, or there was none. -/
def State.paceDue (s : State) (t : Nat) (last : Option Nat) (n : Nat) : Bool :=
  match last with
  | none => true
  | some p => p + n ≤ s.paceNat t

/-! ## Households and rights -/

/-- SLC_HH_BIND[h]: H0 is bound to function 0 (spec/09_households.md R306). -/
def Slice.bind (S : Slice) (h : Nat) : HhBind := Tbl.get { bound := h == 0 } S.hh h

/-- The household bound to a function, as the slice knows it. -/
def Slice.hhOfFn (S : Slice) (fn : Nat) : Option Nat :=
  (List.range 16).find? (fun h => (S.bind h).bound && (S.bind h).fn.toNat == fn)

/-- The household of a request (spec/09_households.md R305); none for a function bound to no household (R310). -/
def State.hhOf (s : State) : Src → Option Nat
  | .sc t => some (s.tile t).hh
  | .st t _ => some (s.tile t).hh
  | .host d fn => (s.slice d).hhOfFn fn

/-- The tile whose core or stream engine issues an access. -/
def srcTile : Src → Option Nat
  | .sc t => some t
  | .st t _ => some t
  | .host _ _ => none

/-- The access takes the local path of the tile (spec/04_fabric_arbitration.md R110). -/
def isLocal (w : Src) (tile : Nat) : Bool := srcTile w == some tile

/-- Writer rights of the register maps (spec/13_registers.md, Rights). -/
inductive Right where
  | m        -- M
  | hm       -- H M
  | slgm     -- S L G M
  | slmd     -- S L M D
  deriving DecidableEq, Repr

/-- A register of a tile accepts the write (spec/13_registers.md R391). -/
def State.mayWrite (s : State) (r : Right) (w : Src) (tile : Nat) : Bool :=
  match s.hhOf w with
  | none => false
  | some h =>
    let own := h == (s.tile tile).hh
    match r with
    | .m => h == 0
    | .hm => h == 0 || own
    | .slgm => h == 0 || (own && (match w with | .sc t => t == tile | .st _ _ => true | .host _ _ => false))
    | .slmd => h == 0 || (own && (isLocal w tile || ((s.slice (tileDie tile)).bind h).dbg))

/-- Every register of a tile block is readable by the tile's household and the manager (spec/13_registers.md R392). -/
def State.mayRead (s : State) (w : Src) (tile : Nat) : Bool := s.mayWrite .hm w tile

/-- The writer is the manager. -/
def State.isManager (s : State) (w : Src) : Bool := s.hhOf w == some 0

/-- The issuer of a request from a source. -/
def State.issuer (s : State) (w : Src) : Issuer :=
  match w with
  | .sc t => { die := tileDie t, tile := t, master := 3, chan := 0, hh := (s.tile t).hh, port := 127 }
  | .st t n => { die := tileDie t, tile := t, master := 4, chan := n, hh := (s.tile t).hh, port := 127 }
  | .host d _ => { die := d, tile := 0, master := 0, chan := 0, hh := (s.hhOf w).getD 0, port := 64 }

/-! ## Interrupt causes (spec/09_households.md R330, R331) -/

def Slice.irq (S : Slice) (h : Nat) : Irq := Tbl.get {} S.irqs h

/-- A message of vector `v`, due after the records issued to the household's ring so far and the host writes issued before `now` (R332). -/
def Slice.irqMsg (S : Slice) (now h v : Nat) : IrqMsg := { hh := h, vec := v, recs := (Tbl.get {} S.crings h).issued, ord := now }

/-- Bit `v` of CAUSE sets; going from 0 to 1 while enabled, a message is due. -/
def Slice.raise (S : Slice) (now h v : Nat) : Slice :=
  let q := S.irq h
  if bit q.cause v then S
  else { S with irqs := S.irqs.set h { q with cause := setBit q.cause v true },
                irqDue := if bit q.enable v then S.irqDue ++ [S.irqMsg now h v] else S.irqDue }

def State.raise (s : State) (d h v : Nat) : State := s.modSlice d (fun S => S.raise s.nextId h v)

/-- Raises a cause to every bound household (spec/03_timing_promise.md R105). -/
def Slice.raiseAll (S : Slice) (now v : Nat) : Slice :=
  ((List.range 16).filter (fun h => (S.bind h).bound)).foldl (fun A h => A.raise now h v) S

/-! ## The book: control area and records (spec/11_startup_power_book.md R377 to R382) -/

/-- The valid copy with the higher GEN. -/
def Book.cur (b : Book) : Control := if b.a.good && (!b.b.good || b.b.gen < b.a.gen) then b.a else b.b

/-- R378: the control area is written into the copy that is not current, with GEN + 1. With no valid copy, what is written is not
valid either (notes/assumptions/12.md). -/
def Book.update (b : Book) (f : Control → Control) : Book :=
  if b.a.good && (!b.b.good || b.b.gen < b.a.gen) then { b with b := { f b.a with gen := b.a.gen + 1, good := true } }
  else { b with a := { f b.b with gen := b.b.gen + 1, good := b.b.good } }

def Control.bootOf (c : Control) (d : Nat) : Word := Tbl.get 0 c.boot d

/-- The start word of a die; factory 0x01 (SLC_START). -/
def Control.startOf (c : Control) (d : Nat) : BitVec 8 := Tbl.get 1 c.start d

/-- Detail bytes from (offset, value) pairs. -/
def detail (l : List (Nat × Nat)) : BitVec 352 := BitVec.ofNat 352 (l.foldl (fun a p => a ||| (p.2 <<< (8 * p.1))) 0)

/-- A source word (R382). -/
def sourceWord (i : Issuer) : Nat :=
  (if i.port = 127 then i.tile ||| (i.master <<< 11) ||| (i.chan <<< 14) else 0) ||| (i.hh <<< 17) ||| (i.port <<< 21)

/-- Types 1 to 9 go to the severe ring (R382). -/
def severe (type : Nat) : Bool := type ≤ 9

/-- The types marked for notice (R382). -/
def noticed (type : Nat) : Bool := type ≤ 9 || type == 19 || type == 21

/-- A record that is dropped is counted (R380). -/
def Slice.dropRecord (S : Slice) (sev : Bool) : Slice :=
  { S with bkDrops := satInc S.bkDrops,
           dropSev := if sev then S.dropSev + 1 else S.dropSev,
           dropRou := if sev then S.dropRou else S.dropRou + 1 }

/-- A record enters the slice's hold, or finds it full, or BOOKERR, and is to be dropped (R380). -/
def Slice.holdRecord (S : Slice) (r : BookRec) : Slice :=
  if S.bookErr || 8 ≤ (if severe r.type then S.holdSev else S.holdRou).length then { S with noRoom := S.noRoom ++ [severe r.type] }
  else if severe r.type then { S with holdSev := S.holdSev ++ [r] } else { S with holdRou := S.holdRou ++ [r] }

/-- The tile number of a record of the slice (R381). -/
def sliceTile : Nat := 0x7FF

/-- The record of an event: L, BOOT and PACE as they stand (R381). -/
def State.mkRecord (s : State) (d type tile : Nat) (det : BitVec 352) : BookRec where
  type := type
  l := (s.slice d).lpActive
  tile := tile
  die := d
  boot := s.book.cur.bootOf d
  seq := 0
  pace := s.pace (if tile = sliceTile then 256 * d else tile)
  detail := det

/-- A slice writes a record: time passes, and the record goes to the book path. -/
def State.record (s : State) (d type tile : Nat) (det : BitVec 352) : State :=
  s.look.modSlice d (fun S => S.holdRecord (s.look.mkRecord d type tile det))

/-! ## Packets -/

def State.modPkt (s : State) (id : Nat) (f : Packet → Packet) : State := { s with net := updWhere (fun p => p.id == id) f s.net }
def State.pkt (s : State) (id : Nat) : Option Packet := s.net.find? (fun p => p.id == id)
def State.dropPkt (s : State) (id : Nat) : State := { s with net := s.net.filter (fun p => p.id != id) }

/-- A packet comes to a place, after all that came there before. -/
def State.move (s : State) (id : Nat) (loc : Loc) : State :=
  (s.modPkt id (fun p => { p with loc := loc, came := s.nextId })).takeId

/-- A request is answered where it stands in the slice matrix of a die, or at a target beside it. -/
def State.answerAt (s : State) (d id : Nat) (st : Status) (data : List RowData) : State :=
  (s.modPkt id (fun p => { p with resp := some st, data := data, dir := none, l := p.l || (s.slice d).lpActive })).move id (.matrix d)

/-! ## Channel failures and register answers -/

/-- The failure issued first is the one that is latched (spec/05_stream_engine.md R190); a channel that an ALLSTOP halts takes the position of
it and halts with ALLSTOP (R193). -/
def Channel.addFail (c : Channel) (f : ChFail) : Channel :=
  match c.fail with
  | none => { c with fail := some f }
  | some g => if f.seq < g.seq then { c with fail := some (if g.all then { f with status := .allstop, all := true } else f) } else c

/-- A REGWRITE of the channel takes the answer of its register write (spec/05_stream_engine.md R169). -/
def Channel.regAnswer (c : Channel) (addr : Nat) (st : Status) : Channel :=
  match c.snap with
  | none => c
  | some d =>
    if c.state = .run ∧ Desc.op d = 7 ∧ 0 < c.outst ∧ Desc.dst d = addr then
      (if st = .ok then { c with outst := 0, bodyDone := true }
       else { c.addFail { seq := 0, addr := BitVec.ofNat 48 addr, dir := 1, status := st, unit := 0, all := false } with outst := 0 })
    else c

/-- The answer to a register access of a core or a stream engine, where it issued it; a host function's goes to its port. -/
def State.answerReg (s : State) (w : Src) (addr : Nat) (st : Status) (v : Word) : State :=
  let s := s.emit (.reg w addr st v)
  match w with
  | .st t n => s.modChan t n (fun c => c.regAnswer addr st)
  | _ => s

/-- What performing a register write gives: none while it waits (spec/13_registers.md R388); a state and a status; or a state and no
status yet, for a write that completes later (spec/13_registers.md R395). -/
abbrev RegRes := Option (State × Option Status)

/-- A write that completes when it is performed. -/
def RegRes.now (p : State × Status) : RegRes := some (p.1, some p.2)

/-- A write that may wait. -/
def RegRes.orWait (o : Option (State × Status)) : RegRes := o.map (fun p => (p.1, some p.2))

/-- Both halves of an 8-byte access have been performed: OK if both ended with OK, otherwise the status of the first, in address order, that
did not, and 0 in the bytes of such a half (spec/04_fabric_arbitration.md R111). -/
def joinHalves (lo hi : Status × Word) : Status × BitVec 64 := (if lo.1 = .ok then hi.1 else lo.1, hi.2 ++ lo.2)

/-- The answer to one access: a local one is answered at once; one that came over the register bus goes back as its packet's response, that of
an 8-byte access with its second half. -/
def State.answerAcc (s : State) (die base : Nat) (a : RegAcc) (st : Status) (v : Word) : State :=
  let v := if st = .ok then v else 0
  match a.pkt with
  | none => if a.dropped then s else s.answerReg a.src (base + a.off) st v
  | some id =>
    if a.half = 0 then s.answerAt die id st (if a.write then [] else [v.zeroExtend 512])
    else match Tbl.find (s.slice die).regHalves id with
      | none => s.modSlice die (fun S => { S with regHalves := S.regHalves.set id (a.half, st, v) })
      | some (_, st', v') =>
        let r := if a.half = 2 then joinHalves (st', v') (st, v) else joinHalves (st, v) (st', v')
        (s.modSlice die (fun S => { S with regHalves := S.regHalves.del id })).answerAt die id r.1 (if a.write then [] else [r.2.zeroExtend 512])

/-- A register access at a tile block: `r` is what performing it now gives. Before READY the slice answers DECERR
(spec/11_startup_power_book.md R372); during a reassignment an own engine's access ends ABORTED and any other is held
(spec/13_registers.md R390); behind an access that waits or has not completed, it queues (R388). -/
def State.acceptAcc (s : State) (tile : Nat) (a : RegAcc) (r : RegRes) (v : Word) : State :=
  let ans (s : State) (st : Status) (v : Word) : State := s.answerAcc (tileDie tile) (tileRegAddr tile 0) a st v
  let T := s.tile tile
  let queue (s : State) : State := s.modTile tile (fun T => { T with regWait := T.regWait ++ [a] })
  if !s.ready (tileDie tile) then ans s .decerr 0
  else if T.reassign.isSome && isLocal a.src tile then ans s .aborted 0
  else if T.reassign.isSome || T.regBusy.isSome || !T.regWait.isEmpty then queue s
  else match r with
    | none => queue s
    | some (s', some st) => ans s' st v
    | some (s', none) => s'.modTile tile (fun T => { T with regBusy := some a })

/-- A register write to a tile block. -/
def State.acceptTile (s : State) (w : Src) (tile off : Nat) (v : Word) (r : RegRes) (pkt : Option Nat) : State :=
  s.acceptAcc tile { src := w, off := off, value := v, pkt := pkt } r 0

/-- A register access at a slice block; behind an SLC_TILE_HH write that waits for its tiles, it queues. -/
def State.acceptSliceAcc (s : State) (die : Nat) (a : RegAcc) (r : RegRes) (v : Word) : State :=
  let queue (s : State) : State := s.modSlice die (fun S => { S with regWait := S.regWait ++ [a] })
  if !s.ready die then s.answerAcc die (sliceRegAddr die 0) a .decerr 0
  else if (s.slice die).hhBusy.isSome then queue s
  else match r with
    | none => queue s
    | some (s', some st) => s'.answerAcc die (sliceRegAddr die 0) a st v
    | some (s', none) => s'.modSlice die (fun S => { S with hhBusy := some a })

/-- A register write to a slice block. -/
def State.acceptSlice (s : State) (w : Src) (die off : Nat) (v : Word) (r : RegRes) (pkt : Option Nat) : State :=
  s.acceptSliceAcc die { src := w, off := off, value := v, pkt := pkt } r 0

/-! ## Rows (spec/02_banks_deeds.md R37 to R39, R76, R80, R81; spec/10_integrity.md R339 to R348) -/

/-- The spare row that a logical row is remapped to (spec/10_integrity.md R363). -/
def Tile.spareOf (T : Tile) (bank row : Nat) : Option Nat :=
  (T.remapRow.find? (fun p => bit p.2 31 && bits p.2 10 4 == bank && bits p.2 0 10 == row)).map (fun p => bits p.2 14 4)

/-- The physical row of a logical row. -/
def Tile.physRow (T : Tile) (bank row : Nat) : Nat :=
  match T.spareOf bank row with
  | none => row
  | some k => 1024 + k

/-- The key of a physical row in `mem` and `poison`: 1040 physical rows a bank. -/
def rowKey (tile bank phys : Nat) : Nat := (tile * 16 + bank) * 1040 + phys

/-- The key of a valid bit of a swept bank. -/
def validKey (tile bank row : Nat) : Nat := (tile * 2 + (bank - 14)) * 1024 + row

/-- The background D of a march (spec/10_integrity.md R356). -/
def marchD (bg : Bool) (phys : Nat) : RowData :=
  if !bg then 0 else if phys % 2 = 0 then BitVec.ofNat 512 ((2 ^ 512 - 1) / 255 * 0x55) else BitVec.ofNat 512 ((2 ^ 512 - 1) / 255 * 0xAA)

/-- What the array holds in a physical row: what was written last; what a march left; else undefined bytes and parity. -/
def State.stored (s : State) (tile bank phys : Nat) : Row :=
  match Tbl.find s.mem (rowKey tile bank phys) with
  | some r => r
  | none =>
    match Tbl.get none (s.tile tile).bg bank with
    | some b => mkRow (marchD b phys)
    | none => { data := Config.coldData (s.slice (tileDie tile)).epoch (rowKey tile bank phys),
                par := Config.coldParity (s.slice (tileDie tile)).epoch (rowKey tile bank phys) }

/-- A row of bank 14 or 15 whose valid bit is 0 (R76). -/
def State.unswept (s : State) (tile bank row : Nat) : Bool := 14 ≤ bank && !(s.valid.contains (validKey tile bank row))

def State.poisoned (s : State) (tile bank phys : Nat) : Bool := s.poison.contains (rowKey tile bank phys)

/-- The array row as stored, parity and all. -/
def State.putRow (s : State) (tile bank phys : Nat) (r : Row) : State := { s with mem := s.mem.set (rowKey tile bank phys) r }

/-- A whole-row write: computed parity, poison bit cleared, valid bit of a swept row set (R38, R77; spec/10_integrity.md R344). -/
def State.writeRow (s : State) (tile bank row : Nat) (d : RowData) : State :=
  let phys := (s.tile tile).physRow bank row
  { s with mem := s.mem.set (rowKey tile bank phys) (mkRow d),
           poison := s.poison.del (rowKey tile bank phys),
           valid := if 14 ≤ bank then s.valid.add (validKey tile bank row) else s.valid }

/-- A corrected event is counted and, at most once per 65,536 paces, recorded (spec/10_integrity.md R346 to R348). -/
def State.corrected (s : State) (tile bank row phys master : Nat) (m : ByteMask) : State :=
  let s := s.modTile tile (fun T => { T with replays := satInc T.replays })
  let T := s.tile tile
  if s.look.paceDue tile T.lastReplay 65536 then
    let s := s.record (tileDie tile) 16 tile (detail [(0, bank), (1, master), (2, row), (4, phys), (6, T.suppressed), (8, m.toNat)])
    s.modTile tile (fun T => { T with suppressed := 0, lastReplay := some (s.paceNat tile) })
  else s.look.modTile tile (fun T => { T with suppressed := T.suppressed + 1 })

/-- An uncorrected event poisons the row, is counted and recorded, and raises UNCORR to H0 (spec/10_integrity.md R343, R346 to R348). -/
def State.uncorrected (s : State) (tile bank row phys master : Nat) (m : ByteMask) (iss : Option Issuer) : State :=
  let s := { s with poison := s.poison.add (rowKey tile bank phys) }
  let s := s.modTile tile (fun T => { T with poisons := satInc T.poisons })
  let T := s.tile tile
  let s := s.record (tileDie tile) 7 tile (detail [(0, bank), (1, master), (2, row), (4, phys),
    (6, if bit T.mirror bank then 1 else 0), (7, T.hh), (8, m.toNat), (16, match iss with | none => 0 | some i => sourceWord i)])
  s.raise (tileDie tile) 0 6

/-- The checks of one read of a physical row, with its replay: the upset masks say on which bytes the two checks of this read
differ from the stored parity (spec/10_integrity.md R340, R341, R343, R410). Answers the failing mask of the last check. -/
def State.checkRow (s : State) (tile bank row phys master : Nat) (iss : Option Issuer) (u1 u2 : ByteMask) :
    State × Status × RowData × ByteMask × Bool :=
  let r := s.stored tile bank phys
  if s.poisoned tile bank phys then (s, .uncorr, 0, 0, false)
  else
    let m1 := missMask r ^^^ u1
    let m2 := missMask r ^^^ u2
    if m1 = 0 then (s, .ok, r.data, 0, false)
    else if m2 = 0 then (s.corrected tile bank row phys master m1, .ok, r.data, 0, true)
    else (s.uncorrected tile bank row phys master m2 iss, .uncorr, 0, m2, true)

/-- A read of a logical row: zeros where the valid bit of a swept row is 0, otherwise as checked. -/
def State.readRow (s : State) (tile bank row master : Nat) (iss : Option Issuer) (u1 u2 : ByteMask) : State × Status × RowData :=
  if s.unswept tile bank row then (s, .ok, 0)
  else
    let r := s.checkRow tile bank row ((s.tile tile).physRow bank row) master iss u1 u2
    (r.1, r.2.1, r.2.2.1)

/-- The rows of a set of banks as they stand before a write under test leave the list: their array holds background `b`. -/
def State.clearBank (s : State) (tile bank : Nat) (b : Option Bool) : State :=
  let lo := rowKey tile bank 0
  let s := { s with mem := s.mem.cut lo (lo + 1040), poison := s.poison.cut lo (lo + 1040) }
  s.modTile tile (fun T => { T with bg := T.bg.set bank b })

end Sys2Proof.Machine
end

