-- ==== Sys2Proof/Machine/BankOps.lean ====
section
/-!
DEFINITION. Shared operations on the banks of a tile: the checks of a request, admission, accesses and their outcomes, the merge
buffer, deed writes, rotations, retirement and sweeps (spec/02_banks_deeds.md, spec/10_integrity.md).
-/

namespace Sys2Proof.Machine

/-! ## Capture of what a tile accepts (spec/09_households.md R334 to R336) -/

/-- Units of 64 B that a record takes in its ring. -/
def CapRec.units (r : CapRec) : Nat := 1 + r.payload.length

/-- A captured event takes the next SEQ and enters the hold of 16 KiB, 256 units, or is dropped; after a failure every record is. -/
def Capture.push (c : Capture) (r : CapRec) : Capture :=
  let r := { r with seq := c.seq, gap := c.gap }
  if c.err || 256 < (c.hold.map CapRec.units).sum + r.units then
    { c with seq := c.seq + 1, drop := satInc c.drop, gap := true }
  else { c with seq := c.seq + 1, hold := c.hold ++ [r], gap := false }

/-- Capture takes an event of household `h`: EN 1, RERUN 0, the bit of h in HHMASK, bit 0 ignored (R334). -/
def Capture.takes (c : Capture) (h : Nat) : Bool := c.en && !c.rerun && h != 0 && bit c.mask h

/-- A captured event sets out for the capture unit of its slice (R334). -/
def State.capture (s : State) (d h type addr tile : Nat) (data : BitVec 64) (src : Nat) (st : Status) (refused : Bool)
    (payload : List RowData) : State :=
  if ((s.slice d).cap).takes h then
    let r : CapRec :=
      { seq := 0, type := type, hh := h, gap := false, refused := refused, addr := addr, tile := tile, data := data,
        pace := 0, src := src, status := st, payload := payload }
    s.modSlice d (fun S => { S with cap := { S.cap with due := S.cap.due ++ [r] } })
  else s

/-- Two records come from one place, the host port or one tile, and reach the unit in their order (R334). -/
def CapRec.sameOrigin (q r : CapRec) : Bool := if q.type ≤ 3 then r.type ≤ 3 else 3 < r.type && q.tile == r.tile

/-- The k-th captured event on its way reaches the capture unit. PACE is that of tile (0, 0) of the slice (R335). -/
def State.captureTake (s : State) (d k : Nat) : State :=
  let c := (s.slice d).cap
  match c.due[k]? with
  | none => s
  | some r =>
    if (c.due.take k).any (fun q => q.sameOrigin r) then s
    else s.look.modSlice d (fun S =>
      { S with cap := { S.cap with due := S.cap.due.eraseIdx k }.push { r with pace := s.look.pace (256 * d) } })

/-- SRC of a capture record of a tile: 3 SC, 4 ST, 0 register bus (R335). -/
def captureSrc (w : Src) (tile : Nat) : Nat :=
  if isLocal w tile then (match w with | .sc _ => 3 | .st _ _ => 4 | .host _ _ => 0) else 0

/-! ## Checks of a request (spec/02_banks_deeds.md R44 to R47) -/

/-- Alignment, size and view of a request (R44). -/
def alignOk (m : Master) (v : View) (off size : Nat) (write : Bool) : Bool :=
  off < 2 ^ 20 &&
  match m with
  | .mx => v == .quad && size == 256 && off % 256 == 0
  | .vx => v == .bank && size == 64 && off % 64 == 0
  | .sc => v == .bank && !write && (size == 1 || size == 2 || size == 4 || size == 8) && off % size == 0
  | .st => (v == .bank && size == 64 && off % 64 == 0) || (v == .quad && size == 256 && off % 256 == 0)
  | .nw => (size == 64 && off % 64 == 0) || (size == 256 && off % 256 == 0)
  | .test => v == .bank && size == 64 && off % 64 == 0

/-- The bank and row of each 64 B piece from an offset: one for a 64 B beat or a narrow read, four for a 256 B beat. -/
def cellsAt (v : View) (off size : Nat) : List (Nat × Nat) :=
  if size = 256 then (List.range 4).map (fun k => (viewBank v (off + 64 * k), viewRow v (off + 64 * k)))
  else [(viewBank v off, viewRow v off)]

/-- The pieces of the beat that an access stands at; none for the boot ROM. -/
def Access.cells (a : Access) : List (Nat × Nat) := if a.rom then [] else cellsAt a.view (a.off + a.done * a.size) a.size

/-- The banks whose deeds decide an access, from its present beat on: in quad view all four of each quad (R47). -/
def Access.banks (a : Access) : List Nat :=
  let l := (List.range (a.beats - a.done)).flatMap (fun k => (cellsAt a.view (a.off + (a.done + k) * a.size) a.size).map Prod.fst)
  (match a.view with
    | .bank => l
    | .quad => l.flatMap (fun b => (List.range 4).map (fun j => 4 * (b / 4) + j))).dedup

/-- OWNER of a bank as the tile matrix uses it (R46). -/
def Tile.ownerOf (T : Tile) (b : Nat) : Nat := (Tbl.get 0 T.owner b).toNat

/-- The deeds of the banks allow the master: each held directly, or each commons with the master's bit set (R46, R47). -/
def admits (owner : Nat → Nat) (mask : BitVec 6) (m : Master) (banks : List Nat) : Bool :=
  banks.all (fun b => owner b == masterCode m) || (masterCode m ≤ 5 && banks.all (fun b => owner b == 6 && bit mask (masterCode m)))

/-- The banks that the pending deed write or rotation changes (R52, R55, R61). -/
def Tile.opBanks (T : Tile) : DeedOp → List Nat
  | .deed b _ => [b]
  | .commons _ => (List.range 16).filter (fun b => T.ownerOf b == 6)
  | .rotate a b _ => bitsOf (a ||| b)
  | .retire m => bitsOf m

/-- OWNER that a rotation gives: the banks of A take the owner that B held and the reverse (R61). -/
def Tile.setOwner (T : Tile) (m : BitVec 16) : Nat := match bitsOf m with | [] => 0 | b :: _ => T.ownerOf b

/-- OWNER of a bank after the effect point of the operation. -/
def Tile.newOwner (T : Tile) (op : DeedOp) (b : Nat) : Nat :=
  match op with
  | .deed k o => if b = k then o.toNat else T.ownerOf b
  | .commons _ => T.ownerOf b
  | .rotate x y _ => if bit x b then T.setOwner y else if bit y b then T.setOwner x else T.ownerOf b
  | .retire m => if bit m b then 0 else T.ownerOf b

/-- TL_COMMONS after the effect point of the operation. -/
def Tile.newMask (T : Tile) (op : DeedOp) : BitVec 6 :=
  match op with
  | .commons m => m
  | _ => T.commons

/-- What the deed check does with a request (R46, R57). -/
inductive Admit where
  | allow | hold | refuse
  deriving DecidableEq, Repr

/-- A march runs on the bank. -/
def Tile.marched (T : Tile) (b : Nat) : Bool := match T.march with | none => false | some r => bit r.banks b

/-- Deed check of a request for some banks. Between step 2 and the effect point of an operation on one of them, a master that the
new deeds allow is held and any other refused (R57). The march engine reaches a retired bank that it marches (R82). -/
def Tile.deedCheck (T : Tile) (m : Master) (banks : List Nat) : Admit :=
  if m == .test && banks.all (fun b => bit T.retired b && T.marched b) then .allow
  else match T.deedOp with
  | some op =>
    if T.deedStop && banks.any (fun b => (T.opBanks op).contains b) then
      (if admits (T.newOwner op) (T.newMask op) m banks then .hold else .refuse)
    else if admits T.ownerOf T.commons m banks then .allow else .refuse
  | none => if admits T.ownerOf T.commons m banks then .allow else .refuse

/-- A deed write or rotation has stopped the bank: step 2 has passed (R55). -/
def Tile.stopped (T : Tile) (b : Nat) : Bool :=
  match T.deedOp with
  | some op => T.deedStop && (T.opBanks op).contains b
  | none => false

/-- A refusal with DEED is counted in TL_DEEDFLT (R46). -/
def Tile.countDeed (T : Tile) : Tile := { T with deedFlt := satInc T.deedFlt }

/-- A master is quarantined (spec/04_fabric_arbitration.md R152). -/
def Tile.quarantined (T : Tile) (m : Master) : Bool := bit T.quar (masterCode m)

/-! ## Outcomes of accesses -/

/-- The bytes of a narrow read, in the low bytes of the answer. -/
def narrowBytes (off size : Nat) (d : RowData) : RowData := (d >>> (8 * (off % 64))) &&& BitVec.ofNat 512 (2 ^ (8 * size) - 1)

/-- A packet's response sets out from a tile with a status, `now` its order among what stands at the router; the L bit of the tile's slice
joins it (spec/03_timing_promise.md R106). -/
def Packet.respond (p : Packet) (tile now : Nat) (st : Status) (data : List RowData) (l demoted : Bool) : Packet :=
  { p with resp := some st, data := data, l := p.l || l, demoted := p.demoted || demoted, dir := none,
           loc := .lane (tileDie tile) (tileX tile) (tileY tile), came := now, side := 0 }

/-- The host port's doorbells no longer wait for a doorstep piece (spec/09_households.md R318). -/
def Slice.pieceDone (S : Slice) (id : Nat) : Slice :=
  { S with bells := S.bells.map (fun b => { b with pieces := b.pieces.filter (fun k => k != id) }) }

/-- A host-side fault is latched in HOSTFLT and raises FAULT (spec/09_households.md R316, R322). -/
def Slice.hostFault (S : Slice) (now h kind ds tile : Nat) (st : Status) : Slice :=
  let q := S.irq h
  let w := if bit q.hostflt 31 then q.hostflt ||| flag 30 true
    else (q.hostflt &&& flag 29 true) ||| put 0 (statusCode st) ||| put 4 kind ||| put 6 ds ||| put 12 tile ||| flag 31 true
  ({ S with irqs := S.irqs.set h { q with hostflt := w } } : Slice).raise now h 2

/-- The end of a doorstep piece at the tile (spec/09_households.md R318, R322, R323). -/
def State.pieceEnd (s : State) (p : Packet) (k : Nat) (st : Status) (demoted : Bool) : State :=
  s.modSlice p.iss.die (fun S =>
    let S := S.pieceDone p.id
    let S := if demoted then
        { S with irqs := S.irqs.set p.iss.hh { S.irq p.iss.hh with hostflt := (S.irq p.iss.hh).hostflt ||| flag 29 true } }
      else S
    if st = .ok then S else S.hostFault s.nextId p.iss.hh 2 k (match p.target with | .tile g => g | _ => 0) st)

/-- The burst is the one of an issuer, a start and a direction. -/
def Burst.isOf (b : Burst) (iss : Issuer) (bstart : Nat) (write : Bool) : Bool := b.iss == iss && b.bstart == bstart && b.write == write

/-- A drained burst leaves its gates (spec/07_external_bridges.md R254). -/
def Tile.leaveGates (T : Tile) (gs : List Nat) : Tile :=
  { T with gates := gs.foldl (fun g k => let G := Tbl.get {} g k; g.set k { G with bursts := G.bursts - 1 }) T.gates }

/-- A burst at the gates has `n` units fewer to serve (spec/07_external_bridges.md R254). -/
def Tile.burstServed (T : Tile) (iss : Issuer) (bstart : Nat) (write : Bool) (n : Nat) : Tile :=
  let mine (b : Burst) : Bool := b.isOf iss bstart write
  match T.bursts.find? mine with
  | none => T
  | some b =>
    let T := { T with bursts := changeFirst mine (fun b => if n < b.left then [{ b with left := b.left - n }] else []) T.bursts }
    if n < b.left then T else T.leaveGates b.gates

/-- A stream channel takes the outcome of a request of one of its bursts (spec/05_stream_engine.md R182, R190). -/
def Channel.burstAnswer (c : Channel) (ord unit first : Nat) (write : Bool) (addr : Nat) (st : Status) (data : List RowData)
    (l demoted : Bool) : Channel :=
  let c := { c with outst := c.outst - 1, l := c.l || l, demoted := c.demoted || demoted, need := if write then c.need else c.need - 1 }
  if st ≠ .ok then
    c.addFail { seq := ord, addr := BitVec.ofNat 48 addr, dir := if write then 1 else 0, status := st, unit := first, all := false }
  else if write then c
  else { c with inBuf := (data.zipIdx).foldl (fun b p => Tbl.set b (unit + p.2) p.1) c.inBuf }

/-- A send takes one of its reads (spec/08_tallies_bells_channels.md R291). -/
def SendState.readAnswer (q : SendState) (unit : Nat) (st : Status) (data : List RowData) (l demoted : Bool) : SendState :=
  let q := { q with l := q.l || l, demoted := q.demoted || demoted }
  if st ≠ .ok then { q with status := some st }
  else { q with rows := (data.zipIdx).foldl (fun b p => Tbl.set b (unit + p.2) p.1) q.rows }

/-- An index block takes one of its reads (spec/06_stream_transforms.md R203). -/
def IndexBlock.answer (b : IndexBlock) (unit : Nat) (st : Status) (data : List RowData) : IndexBlock :=
  { b with rows := (data.zipIdx).foldl (fun m p => Tbl.set m (unit + p.2) p.1) b.rows, need := b.need - 1,
           status := if b.status = .ok then st else b.status }

/-- The L bit and the demotion of a request that a channel's descriptor needed stay with it (spec/03_timing_promise.md R88, R106). -/
def Channel.tagged (c : Channel) (l demoted : Bool) : Channel := { c with l := c.l || l, demoted := c.demoted || demoted }

/-- The channel of an index block is tagged. -/
def Tile.tagBlock (T : Tile) (b : Nat) (l demoted : Bool) : Tile :=
  match T.blocks.find? (fun k => k.id == b) with
  | none => T
  | some k => T.setChan k.chan ((T.chan k.chan).tagged l demoted)

/-! ## Messages on their way into an endpoint's ring (spec/08_tallies_bells_channels.md R292 to R299) -/

def Tile.ep (T : Tile) (e : Nat) : Endpoint := Tbl.get {} T.eps e
def Tile.setEp (T : Tile) (e : Nat) (E : Endpoint) : Tile := { T with eps := T.eps.set e E }

/-- Pieces of a message of `u` units: writes of up to 256 B (R291). -/
def pieces (u : Nat) : Nat := (u + 3) / 4

/-- A message that is not to be enqueued gives its units up: at the tail of the queue the record goes, with the pad placed for it; elsewhere
it becomes a pad (R292, R293). -/
def Endpoint.discard (E : Endpoint) (pos : Nat) : Endpoint :=
  match E.recs.reverse with
  | r :: q =>
    if !r.pad && !r.whole && r.pos = pos then
      (match q with
        | p :: q' => if p.pad && r.pos = 0 && p.pos ≠ 0 && p.pos + p.units = E.size.toNat * 16
            then { E with recs := q'.reverse, tail := p.pos } else { E with recs := q.reverse, tail := r.pos }
        | [] => { E with recs := [], tail := r.pos })
    else { E with recs := E.recs.map (fun r => if !r.pad && !r.whole && r.pos = pos then { r with pad := true } else r) }
  | [] => E

/-- The message whose pieces arrive from an issuer. -/
def Tile.msgOf (T : Tile) (i : Issuer) : Option MsgIn := T.msgs.find? (fun m => m.iss == i)

/-- One piece of a message has ended: after the last, an admitted message is enqueued whole; one that has met another outcome is discarded
whole (R292, R295). -/
def Tile.pieceEnded (T : Tile) (m : MsgIn) (st : Status) (l : Bool) : Tile :=
  let bad := m.status = .ok ∧ st ≠ .ok
  let T := if bad then T.setEp m.endpoint ((T.ep m.endpoint).discard m.pos) else T
  let m' : MsgIn := { m with left := m.left - 1, status := if bad then st else m.status, l := m.l || l }
  if m'.left = 0 then
    let T := { T with msgs := T.msgs.filter (fun k => k.iss != m.iss) }
    if m'.status = .ok && !m'.full then
      let E := T.ep m.endpoint
      T.setEp m.endpoint { E with recs := E.recs.map (fun r =>
        if !r.pad && !r.whole && r.pos = m.pos then { r with whole := true, l := r.l || m'.l } else r) }
    else T
  else { T with msgs := updWhere (fun k => k.iss == m.iss) (fun _ => m') T.msgs }

/-- The outcome that a piece is answered with: its message's, if that is not OK, otherwise its own (R292). -/
def MsgIn.outcome (m : MsgIn) (st : Status) : Status := if m.status = .ok then st else m.status

/-- What a packet asks of a register: a write or a read. -/
def PKind.access : PKind → Option Bool
  | .reg w => some w
  | .regBack => some false
  | _ => none

/-- A read-back whose effect at its target is a step of its own, once the row has been read (spec/05_stream_engine.md R187;
spec/06_stream_transforms.md R224). -/
def PKind.acts : PKind → Bool
  | .slotReadback _ _ _ | .rtally _ => true
  | _ => false

/-- The outcome of an access goes to whoever takes it; `a.data` holds what a read has returned. No data goes with a status
other than OK (spec/10_integrity.md R345). -/
def State.deliver (s : State) (tile : Nat) (a : Access) (st : Status) : State :=
  let data := if st = .ok then a.data else []
  let l := a.l || (s.slice (tileDie tile)).lpActive
  match a.dest with
  | .port =>
    let data := match a.master, data with
      | .sc, d :: _ => [narrowBytes a.off a.size d]
      | _, _ => data
    s.emit (.access tile a.master a.id st (if a.write then [] else data) l a.demoted)
  | .burst ch unit first =>
    s.modChan tile ch (fun c =>
      c.burstAnswer a.id unit first a.write (tileMemAddr tile (a.off + a.size * a.badAt.getD 0)) st data l a.demoted)
  | .fetch ch => s.modChan tile ch (fun c => { c.tagged l a.demoted with fetched := some (st, data.headD 0), fetching := false })
  | .index b =>
    s.modTile tile (fun T => { T.tagBlock b l a.demoted with blocks := updWhere (fun k => k.id == b) (fun k => k.answer 0 st data) T.blocks })
  | .sendRead e unit =>
    s.modTile tile (fun T => { T with sends := updWhere (fun q => q.e == e) (fun q => q.readAnswer unit st data l a.demoted) T.sends })
  | .packet id =>
    match s.pkt id with
    | none => s
    | some p =>
      let s := s.modTile tile (fun T => T.burstServed a.iss p.bstart p.write (p.size / 64))
      match p.kind with
      | .doorstep k => (s.pieceEnd p k st a.demoted).dropPkt id
      | .message _ _ _ =>
        (match (s.tile tile).msgOf p.iss with
          | none => s.modPkt id (fun p => p.respond tile s.nextId st [] l a.demoted)
          | some m => (s.modTile tile (fun T => T.pieceEnded m st l)).modPkt id (fun p =>
              { p.respond tile s.nextId (m.outcome st) [] l a.demoted with full := m.full }))
      | _ =>
        if p.kind.acts && st = .ok then
          s.modPkt id (fun p => { p with loc := .read, l := p.l || l, demoted := p.demoted || a.demoted, data := data })
        else s.modPkt id (fun p => p.respond tile s.nextId st (if p.write then [] else data) l a.demoted)
  | .flush _ _ | .dropped => s

/-- An access leaves the tile's list. -/
def Tile.dropAcc (T : Tile) (id : Nat) : Tile := { T with accs := T.accs.filter (fun a => a.id != id) }
def Tile.modAcc (T : Tile) (id : Nat) (f : Access → Access) : Tile := { T with accs := updWhere (fun a => a.id == id) f T.accs }
def Tile.acc (T : Tile) (id : Nat) : Option Access := T.accs.find? (fun a => a.id == id)

/-- A new access with the next identity. -/
def State.newAccess (s : State) (m : Master) (v : View) (write : Bool) (off size beats qos : Nat) (data : List RowData)
    (iss : Issuer) (dest : Dest) (stage : Stage) : Access where
  id := s.nextId
  master := m
  view := v
  write := write
  off := off
  size := size
  beats := beats
  done := 0
  qos := qos
  data := data
  stage := stage
  inSet := false
  demoted := false
  l := false
  lapse := false
  badAt := none
  iss := iss
  dest := dest

/-- The beat at which an access stands falls to the banks' direct path. -/
def Tile.direct (T : Tile) (a : Access) : Bool := a.cells.all (fun c => T.ownerOf c.1 != 6)

/-- An access holds the request register of a bank: it waits there, or its next beat follows the one in progress (spec/03_timing_promise.md
R87). -/
def Access.inRegister (a : Access) : Bool :=
  (match a.dest with | .flush _ _ => false | _ => true) &&
  (a.stage == .waiting || (a.stage == .beat && a.done + 1 < a.beats && a.master != .nw))

/-- The request register of a bank of the beat is taken, or another request stands before it there. -/
def Tile.regFull (T : Tile) (a : Access) : Bool :=
  T.accs.any (fun b => b.id != a.id && (b.inRegister || (b.stage == .queued && b.id < a.id)) &&
    b.cells.any (fun c => a.cells.any (fun e => e.1 == c.1)))

/-- An access to an owned bank carries a bound from its request register on; a remote one has its own from the NW port
(spec/03_timing_promise.md R86, R89). -/
def Access.ownBound (a : Access) : Bool := a.master != .nw && !a.demoted

/-- A request register that has freed takes the owner's next request (spec/03_timing_promise.md R87); an access accepted during lapse is
marked (R107). -/
def Tile.promote (T : Tile) (lp : Bool) (now : Nat) : Tile :=
  T.accs.foldl (fun T a =>
    if a.stage == .queued && !T.regFull a then
      T.modAcc a.id (fun a => { a with stage := .waiting, lapse := a.lapse || (lp && a.ownBound), since := now })
    else T) T

/-- The lapse of a tile's slice. -/
def State.lapsed (s : State) (tile : Nat) : Bool := (s.slice (tileDie tile)).lpActive

/-- Request registers that have freed take the next requests. -/
def State.promote (s : State) (tile : Nat) : State :=
  s.modTile tile (fun T => T.promote (s.lapsed tile) (s.paceNat tile))

/-- An access is refused by the deed, and counted (R46, R49). -/
def State.refuseDeed (s : State) (tile : Nat) (a : Access) : State :=
  ((s.modTile tile Tile.countDeed).modTile tile (fun T => T.dropAcc a.id)).deliver tile a .deed

/-- An access reaches its banks: refused with a status, held, or admitted: into the request register of an owned bank, or, where that is
full, behind it unacknowledged; on a commons bank it is raised at the arbiter. A refused access leaves no trace but its answer and its
count (R46, R49, R57; spec/03_timing_promise.md R86, R87). An access that has performed a beat was admitted with it (R56). -/
def State.offer (s : State) (tile : Nat) (a : Access) : State :=
  let T := s.tile tile
  let put (a : Access) : State := s.modTile tile (fun T => { T with accs := (T.dropAcc a.id).accs ++ [a] })
  let adm := if 0 < a.done then .allow else T.deedCheck a.master a.banks
  match adm with
  | .refuse => s.refuseDeed tile a
  | .hold => put { a with stage := .held, inSet := false, since := s.paceNat tile }
  | .allow =>
    if !T.direct a then put { a with stage := .waiting, inSet := false, since := s.paceNat tile }
    else if T.regFull a then put { a with stage := .queued, inSet := false }
    else put { a with stage := .waiting, inSet := false, lapse := a.lapse || (s.lapsed tile && a.ownBound), since := s.paceNat tile }

/-- Deadline class (spec/04_fabric_arbitration.md R112, R141). -/
def Access.deadline (a : Access) : Bool := a.qos == 7 && !a.demoted

/-- Two requests of one requester at an NW port (spec/04_fabric_arbitration.md R129). -/
def sameRequester (i j : Issuer) : Bool :=
  i.port == j.port && i.die == j.die && i.tile == j.tile && i.master == j.master && i.chan == j.chan && (i.port == 127 || i.hh == j.hh)

/-- The arbiter with key `k` of a tile: 0 to 15 a commons bank, 16 to 19 a commons quad, 20 the NW port. -/
def Tile.arb (T : Tile) (k : Nat) : Arb := Tbl.get {} T.arbs k

/-- The requester holds a place in the deadline set of the NW port. -/
def Arb.holds (A : Arb) (i : Issuer) : Bool := A.slots.any (fun p => sameRequester p.2 i)

/-- What an access revoked takes again from its first beat; what it has read is discarded (spec/04_fabric_arbitration.md R136, R137). -/
def Access.restart (a : Access) : Access :=
  { a with done := 0, data := if a.write then a.data else [], badAt := none, revoked := false }

/-- Where an access with further beats waits for the next: at the NW port, or at its bank. -/
def Tile.nextStage (T : Tile) (a : Access) (now : Nat) : Access :=
  if a.master = .nw then { a with stage := .atPort, inSet := a.deadline && (T.arb 20).holds a.iss, since := now }
  else { a with stage := .waiting, since := now }

/-- One beat of an access has ended with its rows read or written: the next beat waits, or the access ends. A revoked one waits for its
first beat; one whose tenure a deed operation has ended is refused (R59), and so is one of a quarantined master
(spec/04_fabric_arbitration.md R152). -/
def State.beatDone (s : State) (tile : Nat) (a : Access) : State :=
  let T := s.tile tile
  let now := s.paceNat tile
  if a.done < a.beats then
    if a.ended then s.refuseDeed tile a
    else if T.quarantined a.master then (s.modTile tile (fun T => T.dropAcc a.id)).deliver tile a .wdog
    else s.modTile tile (fun T => T.modAcc a.id (fun _ => T.nextStage (if a.revoked then a.restart else a) now))
  else (s.modTile tile (fun T => T.dropAcc a.id)).deliver tile a (if a.badAt.isSome then .uncorr else .ok)

/-- Reads the pieces of a beat one after the other, each with its own check and replay (spec/10_integrity.md R341). -/
def readCells (tile : Nat) (a : Access) : List (Nat × Nat) → List ByteMask → List ByteMask → State → State × List RowData × Bool
  | [], _, _, s => (s, [], false)
  | (b, r) :: rest, u1, u2, s =>
    let x := s.readRow tile b r (masterCode a.master) (if a.master = .nw then some a.iss else none) (u1.headD 0) (u2.headD 0)
    let y := readCells tile a rest u1.tail u2.tail x.1
    (y.1, x.2.2 :: y.2.1, x.2.1 != .ok || y.2.2)

/-- Writes the pieces of a beat. -/
def writeCells (tile : Nat) : List (Nat × Nat) → List RowData → State → State
  | [], _, s => s
  | (b, r) :: rest, d, s => writeCells tile rest d.tail (s.writeRow tile b r (d.headD 0))

/-! ## The merge buffer (spec/02_banks_deeds.md R67 to R75) -/

/-- The bytes of the scalar core's own narrow writes over a row (R73). -/
def Tile.overlay (T : Tile) (bank row : Nat) (d : RowData) : RowData :=
  T.merge.foldl (fun d e => if e.bank = bank ∧ e.row = row then mergeRow e.mask e.image d else d) d

/-- Every byte named is valid in one entry (R73). -/
def Tile.mergeHit (T : Tile) (bank row : Nat) (m : ByteMask) : Bool :=
  T.merge.any (fun e => e.bank == bank && e.row == row && m &&& ~~~ e.mask == 0)

/-- An entry goes to the flush stage; into a commons bank the flush is a request of SC at the arbiter, of one beat if the entry
is fully valid, otherwise two (R70, R404). An evicted one leaves its entry free (R68). -/
def State.startFlush (s : State) (tile bank row : Nat) (evict : Bool) : State :=
  let T := s.tile tile
  match T.merge.find? (fun e => e.bank == bank && e.row == row && !e.flushing) with
  | none => s
  | some e =>
    let begun (k : MergeEntry) : MergeEntry := { k with flushing := true, evicted := evict, flushAt := s.nextId }
    let s := s.modTile tile (fun T =>
      { T with merge := updWhere (fun k => k.bank == bank && k.row == row && !k.flushing) begun T.merge })
    if T.ownerOf bank == 6 && !T.stopped bank && T.reassign.isNone then
      let a := s.newAccess .sc .bank true (bankOff bank row) 64 (if e.mask = BitVec.allOnes 64 then 1 else 2) e.qos []
        (s.issuer (.sc tile)) (.flush bank row) .waiting
      s.takeId.modTile tile (fun T => { T with accs := T.accs ++ [{ a with since := s.paceNat tile }] })
    else s

/-- Every entry of some banks starts its flush (R69). -/
def State.flushBanks (s : State) (tile : Nat) (banks : List Nat) : State :=
  ((s.tile tile).merge.filter (fun e => !e.flushing && banks.contains e.bank)).foldl (fun s e => s.startFlush tile e.bank e.row false) s

/-- Flushes of some banks take their beats directly: their requests leave the arbiter (R404, last paragraph). -/
def Tile.flushDirect (T : Tile) (banks : List Nat) : Tile :=
  { T with accs := T.accs.filter (fun a => match a.dest with | .flush b _ => !(banks.contains b) | _ => true) }

/-- A narrow write merges into an entry, which becomes the most recently written (R67). -/
def Tile.mergeInto (T : Tile) (bank row : Nat) (m : ByteMask) (d : RowData) (qos now : Nat) (lp : Bool) : Tile :=
  match takeFirst (fun e => e.bank == bank && e.row == row && !e.flushing) T.merge with
  | some (e, rest) =>
    let k := { e with image := mergeRow m d e.image, mask := e.mask ||| m, qos := max e.qos qos, since := now, lapse := e.lapse || lp }
    { T with merge := rest ++ [k] }
  | none =>
    let k := { bank := bank, row := row, image := mergeRow m d 0, mask := m, qos := qos, flushing := false, since := now, lapse := lp }
    { T with merge := T.merge ++ [k] }

/-- What a new entry for a bank meets (R68). -/
inductive Room where
  | free                     -- an entry is free for it
  | evict (e : MergeEntry)   -- this entry is evicted first
  | wait                     -- no entry can be evicted: every candidate is being flushed
  deriving DecidableEq, Repr

/-- Room for a new entry of `bank`: the bank has two entries, or all eight are in use, an entry being in use until its flush commits; the
least recently written entry in state Filling is evicted (R68). -/
def Tile.room (T : Tile) (bank : Nat) : Room :=
  let used := T.merge.filter (fun e => !e.evicted)
  let own := used.filter (fun e => e.bank == bank)
  let oldest (l : List MergeEntry) : Room := match l.find? (fun e => !e.flushing) with | some e => .evict e | none => .wait
  if 2 ≤ own.length then oldest own else if 8 ≤ used.length then oldest used else .free

/-- The answer to a narrow write at the scalar core's port; in lapse it carries the L bit (spec/03_timing_promise.md R103). -/
def State.narrowAnswer (s : State) (tile : Nat) (st : Status) : State :=
  s.emit (.access tile .sc s.nextId st [] (s.lapsed tile) false)

/-- The scalar core waits in a FENCE, for which all entries flush (R69). -/
def Tile.fencing (T : Tile) : Bool := match Tbl.get .running T.engines 2 with | .fence _ _ => true | _ => false

/-- A narrow write that has passed its checks (R67, R68, R74). It flushes at once where its entry is full, where the bank stands between step 2 and
its effect point (R55, step 4), and where a FENCE waits for it (R69). -/
def State.narrowMerge (s : State) (tile : Nat) (n : NarrowWrite) : State :=
  let T := s.tile tile
  let b := viewBank .bank n.off
  let r := viewRow .bank n.off
  let filling := T.merge.any (fun e => e.bank == b && e.row == r && !e.flushing)
  let wait : State := s.modTile tile (fun T => { T with narrow := T.narrow ++ [{ n with passed := true }] })
  let enter (s : State) : State :=
    let s := s.modTile tile (fun T => T.mergeInto b r (bytesMask (n.off % 64) n.size) (n.data.zeroExtend 512 <<< (8 * (n.off % 64))) n.qos (s.paceNat tile)
      (s.lapsed tile && (T.ownerOf b != 6 || n.qos == 7)))
    let full := (s.tile tile).merge.any (fun e => e.bank == b && e.row == r && !e.flushing && e.mask == BitVec.allOnes 64)
    (if full || T.stopped b || T.reassign.isSome || T.fencing then s.startFlush tile b r false else s).narrowAnswer tile .ok
  if filling then enter s
  else if T.merge.any (fun e => e.bank == b && e.row == r && e.flushing) then wait
  else match T.room b with
    | .free => enter s
    | .evict e => enter (s.startFlush tile e.bank e.row true)
    | .wait => wait

/-- A narrow write reaches the merge buffer: quarantine, alignment, boot ROM, then the deed (R45, R67; spec/04_fabric_arbitration.md R125, R152). -/
def State.narrowWrite (s : State) (tile : Nat) (n : NarrowWrite) : State :=
  let T := s.tile tile
  if !s.ready (tileDie tile) then s.narrowAnswer tile .decerr
  else if T.reassign.isSome then s.narrowAnswer tile .aborted
  else if T.quarantined .sc then s.narrowAnswer tile .wdog
  else if !((n.size == 1 || n.size == 2 || n.size == 4 || n.size == 8) && n.off % n.size == 0 && n.off < 2 ^ 20) then s.narrowAnswer tile .align
  else if !T.remap && n.off < 0x4000 then s.narrowAnswer tile .decerr
  else match T.deedCheck .sc [viewBank .bank n.off] with
    | .refuse => (s.modTile tile Tile.countDeed).narrowAnswer tile .deed
    | .hold => s.modTile tile (fun T => { T with narrow := T.narrow ++ [n] })
    | .allow => s.narrowMerge tile n

/-- Narrow writes that waited are taken again, in their order; one that has passed its checks was admitted then (R56, R57, R74). -/
def State.drainNarrow (s : State) (tile : Nat) : State :=
  let l := (s.tile tile).narrow
  l.foldl (fun s n => if n.passed then s.narrowMerge tile n else s.narrowWrite tile n) (s.modTile tile (fun T => { T with narrow := [] }))

/-- The engine's fence learns that a flush it waits for has failed (R75). -/
def Tile.fenceFails (T : Tile) : Tile :=
  match Tbl.get .running T.engines 2 with
  | .fence a _ => { T with engines := T.engines.set 2 (.fence a true) }
  | _ => T

/-- The image of a flush leaves the buffer, and its request the arbiter. -/
def Tile.flushGone (T : Tile) (bank row : Nat) : Tile :=
  { T with merge := (match takeFirst (fun k => k.bank == bank && k.row == row && k.flushing) T.merge with | none => T.merge | some (_, r) => r),
           accs := T.accs.filter (fun a => a.dest != .flush bank row) }

/-- The read of a two-beat flush has failed: nothing is written and the bytes are discarded (R75). -/
def State.flushFails (s : State) (tile bank row : Nat) : State :=
  (((s.modTile tile (fun T => T.flushGone bank row)).modTile tile Tile.fenceFails)).emit (.busError tile .uncorr)

/-- A flush ends: a fully valid entry writes its row; any other merges into what its first beat has read, reading it now if the flush takes
its beats directly, and writes it back, or fails (R70, R75, R77). An unswept row reads as zeros also where it is poisoned (DEDUCED,
notes/assumptions/89.md). -/
def State.flushEnd (s : State) (tile bank row : Nat) (u1 u2 : ByteMask) : State :=
  match (s.tile tile).merge.find? (fun e => e.bank == bank && e.row == row && e.flushing) with
  | none => s
  | some e =>
    let write (s : State) (old : RowData) : State :=
      (s.writeRow tile bank row (mergeRow e.mask e.image old)).modTile tile (fun T => T.flushGone bank row)
    if e.mask = BitVec.allOnes 64 then write s 0
    else match ((s.tile tile).accs.find? (fun a => a.dest == .flush bank row)).bind (fun a => a.data.head?) with
      | some d => write s d
      | none =>
        let x := s.readRow tile bank row 3 none u1 u2
        if x.2.1 = .ok then write x.1 x.2.2 else x.1.flushFails tile bank row

/-! ## Deed writes, rotation, retirement, sweeps (spec/02_banks_deeds.md R50 to R66, R78, R79, R82) -/

/-- A bank is being marched or swept, so that a deed write naming it waits (R79; spec/10_integrity.md R361). -/
def Tile.underTest (T : Tile) (b : Nat) : Bool := T.marched b || (b == 14 && T.sweep14) || (b == 15 && T.sweep15)

/-- A deed write or rotation is accepted: PEND sets on its banks (R55). -/
def State.acceptDeed (s : State) (tile : Nat) (op : DeedOp) : State :=
  s.modTile tile (fun T => { T with deedOp := some op, deedStop := false, deedLapse := s.lapsed tile,
                                    pend := (T.opBanks op).foldl (fun p b => setBit p b true) T.pend })

/-- A write to TL_DEED[b] (R51, R53, R54, R79, R82). None: it waits. -/
def State.deedWriteOp (s : State) (w : Src) (tile b : Nat) (v : Word) : Option (State × Status) :=
  let T := s.tile tile
  let o : BitVec 3 := BitVec.ofNat 3 (bits v 0 3)
  if !s.mayWrite .slgm w tile || (o.toNat == 7 && !s.isManager w) then some (s, .deed)
  else if T.deedOp.isSome || T.underTest b then none
  else if bit T.retired b then some (s, .deed)
  else
    let s := s.capture (tileDie tile) T.hh 4 (0x040 + 4 * b) tile (v.zeroExtend 64) (captureSrc w tile) .ok false []
    if T.ownerOf b = o.toNat then some (s, .ok) else some (s.acceptDeed tile (.deed b o), .ok)

/-- A write to TL_COMMONS (R51, R52, R54). -/
def State.commonsWriteOp (s : State) (w : Src) (tile : Nat) (v : Word) : Option (State × Status) :=
  let T := s.tile tile
  let m : BitVec 6 := BitVec.ofNat 6 (v.toNat &&& 0x3E)
  if !s.mayWrite .slgm w tile then some (s, .deed)
  else if T.deedOp.isSome || ((List.range 16).any (fun b => T.ownerOf b == 6 && T.underTest b)) then none
  else
    let s := s.capture (tileDie tile) T.hh 4 0x080 tile (v.zeroExtend 64) (captureSrc w tile) .ok false []
    if T.commons = m || !((List.range 16).any (fun b => T.ownerOf b == 6)) then some (s.modTile tile (fun T => { T with commons := m }), .ok)
    else some (s.acceptDeed tile (.commons m), .ok)

/-- Why a rotation is refused: 0 none, 1 SETS, 2 OWNERS, 3 RETIRED. A rotation that names a retired bank is refused with 3 whatever else
holds (R83); of the other two the first row of R60's table counts (DEDUCED, notes/assumptions/79.md). -/
def Tile.rotateCause (T : Tile) : Nat :=
  let same (m : BitVec 16) : Bool := (bitsOf m).all (fun b => T.ownerOf b == T.setOwner m) && T.setOwner m != 7
  if (T.rotA ||| T.rotB) &&& T.retired != 0 then 3
  else if T.rotA = 0 || T.rotB = 0 || T.rotA &&& T.rotB != 0 then 1
  else if !same T.rotA || !same T.rotB then 2
  else 0

/-- A tile accepts a rotation request: refused with its CAUSE, or begun (R60, R61). `src` and `v` are the writer and the value that its capture
record names (spec/09_households.md R335). -/
def State.rotateAccept (s : State) (tile src : Nat) (v : Word) (bySlice : Bool) : State :=
  let T := s.tile tile
  let s := s.capture (tileDie tile) T.hh 5 0x090 tile (v.zeroExtend 64) src .ok (T.rotateCause != 0) []
  let s := s.modTile tile (fun T => { T with rotErr := false, rotCause := 0 })
  if T.rotateCause ≠ 0 then s.modTile tile (fun T => { T with rotErr := true, rotCause := BitVec.ofNat 2 T.rotateCause, rotBusy := false })
  else (s.modTile tile (fun T => { T with rotBusy := true })).acceptDeed tile (.rotate T.rotA T.rotB bySlice)

/-- A rotation waits: an operation is pending, or a bank it names is marched or swept (R53, R79). -/
def Tile.rotateWaits (T : Tile) : Bool := T.deedOp.isSome || (bitsOf (T.rotA ||| T.rotB)).any T.underTest

/-- A write to TL_ROTATE_GO (R51, R60). -/
def State.rotateGoOp (s : State) (w : Src) (tile : Nat) (v : Word) : Option (State × Status) :=
  if !s.mayWrite .slgm w tile then some (s, .deed)
  else if (s.tile tile).deedOp.isSome then none
  else if !bit v 0 then some (s, .ok)
  else if (s.tile tile).rotateWaits then none
  else some (s.rotateAccept tile (captureSrc w tile) v false, .ok)

/-- A write to TL_RETIRED: each bit newly set is a deed write to OWNER 0; where every bank named holds OWNER 0 already, it completes at
acceptance (R54, R82). The bits set at acceptance, and a march or sweep of a bank named holds the write back, as R53 says
(DESIGN CHOICE, notes/assumptions/80.md). -/
def State.retireOp (s : State) (w : Src) (tile : Nat) (v : Word) : Option (State × Status) :=
  let T := s.tile tile
  let m : BitVec 16 := BitVec.ofNat 16 (bits v 0 16) &&& ~~~ T.retired
  if !s.isManager w then some (s, .deed)
  else if T.deedOp.isSome || (bitsOf m).any T.underTest then none
  else
    let s := s.modTile tile (fun T => { T with retired := T.retired ||| m })
    let open' : BitVec 16 := (bitsOf m).foldl (fun (p : BitVec 16) b => if T.ownerOf b = 0 then p else setBit p b true) 0
    if open' = 0 then some (s, .ok) else some (s.acceptDeed tile (.retire open'), .ok)

/-- A write to TL_SWEEP, taken after any pending effect point (R78). -/
def State.sweepOp (s : State) (w : Src) (tile : Nat) (v : Word) : Option (State × Status) :=
  let T := s.tile tile
  let bad (b : Nat) (on : Bool) : Bool := on && T.ownerOf b != 0 && T.ownerOf b != 7
  if !s.isManager w then some (s, .deed)
  else if T.deedOp.isSome then none
  else if !bit v 0 && !bit v 1 then some (s, .ok)
  else if bad 14 (bit v 0) || bad 15 (bit v 1) then some (s, .deed)
  else if (bit v 0 && T.sweep14) || (bit v 1 && T.sweep15) then some (s, .rearmBusy)
  else some (s.modTile tile (fun T => { T with sweep14 := T.sweep14 || bit v 0, sweep15 := T.sweep15 || bit v 1 }), .ok)

/-- What step 2 does with the accesses of a commons bank: one whose first beat the arbiter has not started leaves the deadline set and is
held or refused (R56, R57); a tenure in progress ends after its current beat, its remaining beats are not performed and it is not
restarted: the access ends with DEED (R59; DESIGN CHOICE, notes/assumptions/81.md). -/
def State.stopCommons (s : State) (tile : Nat) (banks : List Nat) : State :=
  let T := s.tile tile
  let hit (a : Access) : Bool := a.banks.any (fun b => banks.contains b && T.ownerOf b == 6)
  T.accs.foldl (fun s a =>
    if !hit a then s
    else match a.dest with
      | .flush _ _ => s
      | _ =>
        if a.stage == .granted || a.stage == .beat then
          s.modTile tile (fun T => T.modAcc a.id (fun a => { a with ended := decide (a.done + 1 < a.beats) }))
        else if 0 < a.done then s.refuseDeed tile a
        else if a.stage == .waiting then s.offer tile a
        else s) s

/-- Step 2 of a deed write or rotation (R55, R56): the banks stop admitting the old owner, and their merge-buffer entries flush in
step 4 without arbitration (R69, R404). -/
def State.deedStopOp (s : State) (tile : Nat) : State :=
  let T := s.tile tile
  match T.deedOp with
  | none => s
  | some op =>
    if T.deedStop then s
    else
      let banks := T.opBanks op
      ((s.modTile tile (fun T => ({ T with deedStop := true } : Tile).flushDirect banks)).stopCommons tile banks).flushBanks tile banks

/-- An access that was admitted and has not ended: in a request register or behind it, in its beat, or between its beats. -/
def Access.underWay (a : Access) : Bool :=
  a.stage == .queued || a.stage == .waiting || a.stage == .granted || a.stage == .beat || 0 < a.done

/-- Step 3 has ended on a bank: no access admitted before step 2 is under way there (R55, R62). -/
def Tile.quietBank (T : Tile) (b : Nat) : Bool := !(T.accs.any (fun a => a.underWay && a.banks.contains b))

/-- Steps 2 to 4 have ended on every bank of the operation: nothing admitted is in progress, no entry is left to flush and no narrow write
that was admitted waits for one (R55, R61). -/
def Tile.deedReady (T : Tile) (op : DeedOp) : Bool :=
  let banks := T.opBanks op
  T.deedStop && banks.all T.quietBank && !(T.merge.any (fun e => banks.contains e.bank)) &&
  !(T.narrow.any (fun n => n.passed && banks.contains (viewBank .bank n.off)))

/-- A lock whose bank leaves commons, or whose holder's bit leaves TL_COMMONS, frees; SUSPECT stays (spec/04_fabric_arbitration.md R148). -/
def Tile.freeLocks (T : Tile) : Tile :=
  { T with locks := T.locks.map (fun p =>
      (p.1, if T.ownerOf p.1 != 6 || (match p.2.holder with
          | some (.master m) => !bit T.commons m
          | some (.core _ _) => !bit T.commons 5
          | none => false) then { p.2 with holder := none } else p.2)) }

/-- All four banks of a quad are commons, so that one arbiter serves it (spec/04_fabric_arbitration.md R128). -/
def Tile.quadCommons (T : Tile) (q : Nat) : Bool := (List.range 4).all (fun k => T.ownerOf (4 * q + k) == 6)

/-- An arbiter with this key exists (spec/04_fabric_arbitration.md R128). -/
def Tile.hasArb (T : Tile) (k : Nat) : Bool :=
  if k < 16 then T.ownerOf k == 6 && !T.quadCommons (k / 4) else if k < 20 then T.quadCommons (k - 16) else k == 20

/-- The arbiters that the deeds no longer have are gone, and a request at an arbiter that has no place for its master is not in a deadline
set: it asks for admission afresh (DESIGN CHOICE, notes/assumptions/82.md). -/
def Tile.dropArbs (T : Tile) : Tile :=
  let T := { T with arbs := T.arbs.filter (fun p => T.hasArb p.1) }
  { T with accs := updWhere (fun a => a.stage == .waiting) (fun a =>
      { a with inSet := a.inSet && a.cells.all (fun c =>
          (Tbl.find (T.arb (if T.quadCommons (c.1 / 4) then 16 + c.1 / 4 else c.1)).slots (masterCode a.master)).isSome) }) T.accs }

/-- The deeds as the effect point leaves them (R55, R61, R82). -/
def Tile.deedEffect (T : Tile) (op : DeedOp) : Tile :=
  let owners : Tbl (BitVec 3) := (T.opBanks op).foldl (fun o b => o.set b (BitVec.ofNat 3 (T.newOwner op b))) T.owner
  ({ T with owner := owners, commons := T.newMask op, pend := 0, deedOp := none, deedStop := false, rotBusy := false } : Tile).freeLocks.dropArbs

/-- Held accesses are admitted at the effect point in the order in which they arrived (R57, R58). -/
def Tile.admitHeld (T : Tile) : Tile :=
  { T with accs := updWhere (fun a => a.stage == .held) (fun a => { a with stage := if T.direct a then .queued else .waiting }) T.accs }

/-- A tile of a slice-wide rotation has answered (R64). -/
def Slice.rotateAnswered (S : Slice) (i : Nat) (refused : Bool) : Slice :=
  { S with rotLeft := setBit S.rotLeft i false, rotRefused := S.rotRefused || refused }

/-- The effect point. -/
def State.deedEffectOp (s : State) (tile : Nat) (op : DeedOp) : State :=
  let s := (s.modTile tile (fun T => (T.deedEffect op).admitHeld)).promote tile
  let s := match op with
    | .rotate _ _ true => s.modSlice (tileDie tile) (fun S => S.rotateAnswered (tile % 256) false)
    | _ => s
  s.drainNarrow tile

end Sys2Proof.Machine
end

