-- ==== Sys2Proof/Machine/ArbOps.lean ====
section
/-!
DEFINITION. Shared operations of the arbiters of commons banks and of the NW port, of bank locks and of the watchdog
(spec/04_fabric_arbitration.md R128 to R153).
-/

namespace Sys2Proof.Machine

/-- The first element with the least value of `f`. -/
def argMin {α : Type} (f : α → Nat) : List α → Option α
  | [] => none
  | a :: r =>
    match argMin f r with
    | none => some a
    | some b => if f b < f a then some b else some a

/-- The next code in turn after `last`, codes below `n` (R132). -/
def turnDist (n last code : Nat) : Nat := (code + n - (last % n) - 1) % n

/-! ## Who competes -/

/-- The banks that an arbiter serves. -/
def arbBanks (k : Nat) : List Nat := if k < 16 then [k] else if k < 20 then (List.range 4).map (fun j => 4 * (k - 16) + j) else []

/-- The present beat of the access falls to the arbiter. -/
def Access.atArb (a : Access) (k : Nat) : Bool :=
  if k = 20 then a.master == .nw else a.cells.any (fun c => (arbBanks k).contains c.1)

/-- The access waits at the arbiter with its request raised. -/
def Access.raised (a : Access) (k : Nat) : Bool := a.atArb k && a.stage == (if k = 20 then .atPort else .waiting)

def Tile.lock (T : Tile) (b : Nat) : Lock := Tbl.get {} T.locks b

/-- The holder of a lock on a bank, or of no lock, may use it (R145). -/
def Holder.admits (h : Holder) (a : Access) : Bool :=
  match h with
  | .master m => m == masterCode a.master
  | .core t _ => a.master == .nw && a.iss.port == 127 && a.iss.tile == t

/-- No bank of the beat is locked to another holder (R145). -/
def Tile.lockAdmits (T : Tile) (a : Access) : Bool :=
  a.cells.all (fun c => match (T.lock c.1).holder with | none => true | some h => h.admits a)

/-- A flush is hardware of the merge buffer and no master's access to be answered. -/
def Access.isFlush (a : Access) : Bool := match a.dest with | .flush _ _ => true | _ => false

/-- An access of SC issued after a two-beat flush of its bank began waits for both beats (spec/02_banks_deeds.md R70). -/
def Tile.afterFlush (T : Tile) (a : Access) : Bool :=
  a.master == .sc && !a.isFlush &&
  T.merge.any (fun e => e.flushing && e.mask != BitVec.allOnes 64 && e.flushAt ≤ a.id && a.cells.any (fun c => c.1 == e.bank))

/-- Nothing but the contest keeps the access from a grant. At a bank: no lock of another holder (R145), no flush of its own core to wait for,
and no quarantine (R152). At the NW port: no earlier request of its requester (spec/05_stream_engine.md R158). -/
def Tile.mayCompete (T : Tile) (k : Nat) (a : Access) : Bool :=
  if k = 20 then !(T.accs.any (fun b => b.id < a.id && b.master == .nw && sameRequester b.iss a.iss))
  else T.lockAdmits a && !T.afterFlush a && !T.quarantined a.master

/-- The code by which an access takes its turn in the deadline set: the master, or its admission slot (R132). -/
def Arb.code (A : Arb) (k : Nat) (a : Access) : Nat :=
  if k = 20 then ((A.slots.find? (fun p => sameRequester p.2 a.iss)).map Prod.fst).getD 0 else masterCode a.master

/-- A requester leaves the deadline set when it has no request waiting or in progress at the arbiter (R139). -/
def Tile.cleanSlots (T : Tile) (k : Nat) : Arb :=
  let A := T.arb k
  { A with slots := A.slots.filter (fun p =>
      T.accs.any (fun a => a.atArb k && (if k = 20 then sameRequester p.2 a.iss
        else p.1 == masterCode a.master && (a.stage == .waiting || a.stage == .granted || a.stage == .beat)))) }

/-- TL_PRIO of a master (TL_PRIO). -/
def Tile.prioOf (T : Tile) (m : Master) : Nat := bits T.prio (3 * masterCode m) 3

/-- QoS among bulk requests: a demoted request is bulk QoS 6 (R141). -/
def Access.bulkQos (a : Access) : Nat := if a.demoted then 6 else a.qos

/-! ## The decision (R131) -/

/-- Rule 3: the bulk request that begins a tenure. Among equal QoS: at a commons arbiter the highest TL_PRIO, then the turn by master code;
at an NW port the earliest to have arrived, another requester than the last tenure's holder going before it (DEDUCED,
notes/assumptions/83.md). -/
def Tile.bulkPick (T : Tile) (A : Arb) (k : Nat) (l : List Access) : Option Access :=
  if k = 20 then
    let top := l.filter (fun a => l.all (fun b => b.bulkQos ≤ a.bulkQos))
    let others := top.filter (fun a => match A.lastReq with | some i => !sameRequester i a.iss | none => true)
    argMin (·.id) (if others.isEmpty then top else others)
  else argMin (fun a => (7 - a.bulkQos) * 4096 + (7 - T.prioOf a.master) * 256 + turnDist 8 A.lastBulk (masterCode a.master)) l

/-- The grant for the next beat by the first rule that applies; `c` are the raised requests that the locks allow. -/
def Tile.decide (T : Tile) (A : Arb) (k : Nat) (c : List Access) : Arb :=
  match argMin (fun a => turnDist 8 A.lastDl (A.code k a)) (c.filter (fun a => a.deadline && a.inSet)) with
  | some a => { A with next := some a.id, lastDl := A.code k a }
  | none =>
    let bulk := c.filter (fun a => !a.deadline)
    let cont := match A.tenure with
      | some (id, n) => n < 16 && bulk.any (fun a => a.id == id)
      | none => false
    if cont then { A with next := A.tenure.map Prod.fst }
    else match T.bulkPick A k bulk with
      | some a => { A with next := some a.id, tenure := some (a.id, 0), lastBulk := masterCode a.master, lastReq := some a.iss }
      | none => { A with next := none, tenure := none }

/-- TL_CONF: each master with a request raised whose beat does not start adds 1 (R142). -/
def Tile.countConf (T : Tile) (k : Nat) (started : Option Access) : Tile :=
  if k = 20 then
    if T.accs.any (fun a => a.raised 20 && started.map (·.id) != some a.id) then
      { T with conf := T.conf.set 5 (satInc (Tbl.get 0 T.conf 5)) } else T
  else
    let waits (m : Master) : Bool := T.accs.any (fun a => a.master == m && a.atArb k && (a.stage == .waiting || a.stage == .held)) &&
      started.map (·.master) != some m
    [Master.mx, .vx, .sc, .st, .nw].foldl (fun T m =>
      if waits m then
        (let i := masterCode m - 1; { T with conf := T.conf.set i (satInc (Tbl.get 0 T.conf i)) })
      else T) T

/-- A bulk tenure is revoked: its access waits for its first beat again, at once or, where a beat of it is on its way, after that beat
(R136, R137). -/
def Access.revoke (k : Nat) (a : Access) : Access :=
  if a.raised k then a.restart else { a with revoked := decide (a.done + 1 < a.beats) }

/-- An access has its next beat raised at the arbiter: it waits there, or a beat of it is in progress and more follow. -/
def Tile.nextRaised (T : Tile) (A : Arb) (k : Nat) (sid : Option Nat) (a : Access) : Bool :=
  a.atArb k && T.mayCompete k a &&
  (a.raised k || (a.done + 1 < a.beats && !a.revoked && !a.ended &&
    (if k = 20 then sid == some a.id || A.tenure.map Prod.fst == some a.id else sid == some a.id && a.master != .nw)))

/-- A beat boundary of an arbiter: the decided beat starts, revoking the bulk tenure that it interrupts; the requests are sampled
and the beat after is decided. A boundary does not fall while the beat started before is still in progress (notes/assumptions/15.md). A tenure
that a lock stops goes on from where it stood (DESIGN CHOICE, notes/assumptions/93.md).
`now` is the tile's pace count. -/
def Tile.boundary (T : Tile) (k now : Nat) : Tile :=
  let A := T.cleanSlots k
  let started := A.next.bind (fun id => T.accs.find? (fun a => a.id == id && a.raised k))
  let sDl := match started with | some a => a.deadline && a.inSet | none => false
  let T := T.countConf k started
  let T := if sDl then
      (match A.tenure with
        | some (id, _) => { T with accs := updWhere (fun a => a.id == id) (Access.revoke k) T.accs }
        | none => T)
    else T
  let ten : Option (Nat × Nat) := match started with
    | none => A.tenure
    | some a =>
      if sDl then none
      else match A.tenure with
        | some (id, n) => if id = a.id then some (id, n + 1) else some (a.id, 1)
        | none => some (a.id, 1)
  let T := match started with
    | some a => T.modAcc a.id (fun a => { a with stage := if k = 20 then .portGranted else .granted, since := now })
    | none => T
  let sid := started.map (·.id)
  let A := { A with next := none, beat := sid, tenure := ten }
  { T with arbs := T.arbs.set k (T.decide A k (T.accs.filter (T.nextRaised A k sid))) }

/-- The beat that the arbiter started is still in progress. -/
def Tile.arbBusy (T : Tile) (k : Nat) : Bool :=
  T.accs.any (fun a => a.atArb k && (if k = 20 then a.stage == .portGranted else (a.stage == .granted || a.stage == .beat)))

/-- Admission to the deadline set, or demotion (R139, R140). Admission is acceptance: during lapse it is marked
(spec/03_timing_promise.md R86, R107). -/
def Tile.admitDeadline (T : Tile) (k : Nat) (a : Access) (lp : Bool) : Tile :=
  let A := T.cleanSlots k
  let mine := A.slots.any (fun p => if k = 20 then sameRequester p.2 a.iss else p.1 == masterCode a.master)
  let slot := if k = 20 then ((List.range 4).map (· + 1)).find? (fun j => (A.slots.find j).isNone) else some (masterCode a.master)
  let enter (a : Access) : Access := { a with inSet := true, lapse := a.lapse || lp }
  if mine then ({ T with arbs := T.arbs.set k A } : Tile).modAcc a.id enter
  else if A.slots.length < 4 then
    ({ T with arbs := T.arbs.set k { A with slots := A.slots.set (slot.getD 0) a.iss } } : Tile).modAcc a.id enter
  else ({ T with arbs := T.arbs.set k A } : Tile).modAcc a.id (fun a => { a with demoted := true })

/-- The arbiter at which an access waits: its bank's, if commons, or the NW port's. -/
def Tile.arbOf (T : Tile) (a : Access) : Option Nat :=
  if a.stage == .atPort then some 20
  else if a.stage == .waiting then
    match a.cells with
    | (b, _) :: _ => if T.ownerOf b == 6 then some (if T.quadCommons (b / 4) then 16 + b / 4 else b) else none
    | [] => none
  else none

/-! ## Bank locks (R143 to R149) -/

/-- The source word of a lock's holder (spec/11_startup_power_book.md R382): the local master, or the remote core as its scalar core. -/
def holderSource (tile hh : Nat) (h : Holder) : Nat :=
  match h with
  | .master m => sourceWord { die := tileDie tile, tile := tile, master := m, chan := 0, hh := hh, port := 127 }
  | .core t g => sourceWord { die := tileDie t, tile := t, master := 3, chan := 0, hh := g, port := 127 }

/-- Hardware frees a lock: SUSPECT sets and a LOCK record is written; cause 1 reset notice, 2 quarantine, 3 watchdog (R147). -/
def State.breakLock (s : State) (tile bank cause : Nat) : State :=
  let T := s.tile tile
  match (T.lock bank).holder with
  | none => s
  | some h =>
    let s := s.modTile tile (fun T => { T with locks := T.locks.set bank { holder := none, suspect := true } })
    s.record (tileDie tile) 20 tile (detail [(0, bank), (1, cause), (4, holderSource tile T.hh h)])

/-- Every lock of a tile whose holder has the property is broken. -/
def State.breakLocks (s : State) (tile cause : Nat) (p : Holder → Bool) : State :=
  ((s.tile tile).locks.filter (fun q => match q.2.holder with | some h => p h | none => false)).foldl
    (fun s q => s.breakLock tile q.1 cause) s

/-- The holder is core `c`, or on the core's own tile a local master (R149). -/
def Holder.isCore (h : Holder) (tile c : Nat) : Bool :=
  match h with
  | .master _ => tile == c
  | .core t _ => t == c

/-- The holder that a write to TL_LOCK names: a local master, or the writer's core (R144). -/
def lockHolder (w : Src) (tile hh : Nat) (v : Word) : Option Holder :=
  if isLocal w tile then (if 1 ≤ bits v 8 3 && bits v 8 3 ≤ 5 then some (.master (bits v 8 3)) else none)
  else (srcTile w).map (fun t => .core t hh)

/-- A write of OP 1 to TL_LOCK (R143, R144). -/
def State.lockAcquireOp (s : State) (w : Src) (tile : Nat) (v : Word) : State × Status :=
  let T := s.tile tile
  let b := bits v 0 4
  if s.hhOf w ≠ some T.hh then (s, .deed)
  else match lockHolder w tile T.hh v with
    | none => (s, .deed)
    | some h =>
      if T.ownerOf b != 6 then (s, .deed)
      else if (T.lock b).holder.isSome then (s, .ok)
      else (s.modTile tile (fun T => { T with locks := T.locks.set b { T.lock b with holder := some h, since := s.paceNat tile } }), .ok)

/-- The lock is held by the holder that the writer names; a core is matched by its tile. -/
def Holder.sameAs (h g : Holder) : Bool :=
  match h, g with
  | .master m, .master n => m == n
  | .core t _, .core u _ => t == u
  | _, _ => false

/-- A write of OP 2 to TL_LOCK (R144, R146). -/
def State.lockReleaseOp (s : State) (w : Src) (tile : Nat) (v : Word) : State × Status :=
  let T := s.tile tile
  let b := bits v 0 4
  if s.hhOf w ≠ some T.hh then (s, .deed)
  else match lockHolder w tile T.hh v, (T.lock b).holder with
    | some h, some g =>
      if g.sameAs h then (s.modTile tile (fun T => { T with locks := T.locks.set b {} }), .ok) else (s, .deed)
    | _, _ => (s, .deed)

/-- A write to TL_LOCK OP: 1 acquire, 2 release, 0 and 3 no effect. A write that enters at the host port completes with DEED (R144). -/
def State.lockOp (s : State) (w : Src) (tile : Nat) (v : Word) : State × Status :=
  if (srcTile w).isNone then (s, .deed)
  else if bits v 4 2 = 1 then s.lockAcquireOp w tile v
  else if bits v 4 2 = 2 then s.lockReleaseOp w tile v
  else if s.hhOf w ≠ some (s.tile tile).hh then (s, .deed)
  else (s, .ok)

/-! ## The watchdog (R150 to R153) -/

/-- A flush that waits is refused: the bytes are discarded and the scalar core receives the status as an imprecise bus error (R98, R151;
spec/02_banks_deeds.md R404; DEDUCED, notes/assumptions/23.md). -/
def State.refuseFlush (s : State) (tile bank row : Nat) (st : Status) : State :=
  (s.modTile tile (fun T => T.flushGone bank row)).emit (.busError tile st)

/-- An access is refused with a status where it stands. -/
def State.refuseAcc (s : State) (tile : Nat) (st : Status) (a : Access) : State :=
  match a.dest with
  | .flush b r => s.refuseFlush tile b r st
  | _ => (s.modTile tile (fun T => T.dropAcc a.id)).deliver tile a st

/-- An access whose beat has not been started: it waits. -/
def Access.waitsAny (a : Access) : Bool := a.stage == .queued || a.stage == .waiting || a.stage == .held || a.stage == .atPort

/-- Narrow writes that wait and have the property are answered with a status. -/
def State.refuseNarrow (s : State) (tile : Nat) (st : Status) (p : NarrowWrite → Bool) : State :=
  let l := (s.tile tile).narrow.filter p
  l.foldl (fun s _ => s.narrowAnswer tile st) (s.modTile tile (fun T => { T with narrow := T.narrow.filter (fun n => !p n) }))

/-- A master is quarantined: its waiting accesses end WDOG, its locks are freed (R147, R151 step 3 and 4, R152). TL_STATUS.QUAR has a bit for
the masters 1 to 5 and none for the march engine (notes/assumptions/84.md). -/
def State.quarantine (s : State) (tile m : Nat) : State :=
  let s := if m ≤ 5 then s.modTile tile (fun T => { T with quar := setBit T.quar m true }) else s
  let l := (s.tile tile).accs.filter (fun a => masterCode a.master == m && a.waitsAny && !a.isFlush)
  let s := l.foldl (fun s a => s.refuseAcc tile .wdog a) s
  let s := if m = 3 then s.refuseNarrow tile .wdog (fun _ => true) else s
  s.breakLocks tile 2 (fun h => match h with | .master k => k == m | .core _ _ => false)

/-- The access whose granted beat hangs on a resource: 0 to 15 a bank, 16 the NW port. -/
def Tile.hung (T : Tile) (res : Nat) : Option Access :=
  T.accs.find? (fun a => !a.isFlush &&
    (if res = 16 then a.stage == .portGranted
     else (a.stage == .granted || a.stage == .beat) && a.cells.any (fun c => c.1 == res)))

/-- The access waits on the resource. -/
def Access.waitsOn (a : Access) (res : Nat) : Bool :=
  if res = 16 then a.stage == .atPort
  else (a.stage == .queued || a.stage == .waiting || a.stage == .held) && a.cells.any (fun c => c.1 == res)

/-- A bite on a hung handshake (R98, R151). -/
def State.bite (s : State) (tile res : Nat) (a : Access) : State :=
  let m := if res = 16 then 5 else masterCode a.master
  let s := s.refuseAcc tile .wdog a
  let s := ((s.tile tile).accs.filter (fun b => b.waitsOn res)).foldl (fun s b => s.refuseAcc tile .wdog b) s
  let s := if res = 16 then s else s.refuseNarrow tile .wdog (fun n => viewBank .bank n.off == res)
  let s := (s.quarantine tile m).promote tile
  let s := s.modTile tile (fun T => { T with biteRes := BitVec.ofNat 5 res, biteMaster := BitVec.ofNat 3 m, bite := true })
  let s := s.raise (tileDie tile) 0 7
  s.record (tileDie tile) 4 tile (detail [(0, res), (1, m), (2, 0), (4, if m = 5 then sourceWord a.iss else 0)])

/-- The pace at which the wait of a non-holder's request on a locked bank began; none where none waits (R150). -/
def Tile.lockWaitFrom (T : Tile) (bank : Nat) : Option Nat :=
  let L := T.lock bank
  match L.holder with
  | none => none
  | some h =>
    (argMin (·.since) (T.accs.filter (fun a => a.waitsOn bank && !h.admits a))).map (fun a => max L.since a.since)

/-- A bite on a lock (R151, last paragraph): the lock is freed; a local holder is quarantined. -/
def State.lockBite (s : State) (tile bank : Nat) (h : Holder) : State :=
  let m := match h with | .master k => k | .core _ _ => 5
  let hh := (s.tile tile).hh
  let s := s.breakLock tile bank 3
  let s := match h with | .master k => s.quarantine tile k | .core _ _ => s
  let s := s.modTile tile (fun T => { T with biteRes := BitVec.ofNat 5 bank, biteMaster := BitVec.ofNat 3 m, bite := true })
  let s := s.raise (tileDie tile) 0 7
  s.record (tileDie tile) 4 tile (detail [(0, bank), (1, m), (2, 1),
    (4, match h with | .master _ => 0 | .core t g => holderSource tile hh (.core t g))])

/-- A write to TL_STATUS: W1C bits of QUAR and BIT, by the manager (R152). -/
def State.statusOp (s : State) (w : Src) (tile : Nat) (v : Word) : State × Status :=
  if !s.isManager w then (s, .deed)
  else (s.modTile tile (fun T => { T with quar := w1c T.quar (BitVec.ofNat 8 (v.toNat &&& 0x3E)), bite := T.bite && !bit v 16 }), .ok)

/-- A write to TL_WDOG: a value below 1024 stores 1024 (R153). -/
def State.wdogOp (s : State) (w : Src) (tile : Nat) (v : Word) : State × Status :=
  if !s.isManager w then (s, .deed)
  else (s.modTile tile (fun T => { T with wdog := BitVec.ofNat 24 (max 1024 (bits v 0 24)) }), .ok)

/-- A write to TL_CTRL (R125 to R127). -/
def State.ctrlOp (s : State) (w : Src) (tile : Nat) (v : Word) : State × Status :=
  if !s.mayWrite .slgm w tile then (s, .deed)
  else (s.modTile tile (fun T => { T with remap := bit v 0, logLate := bit v 1 }), .ok)

end Sys2Proof.Machine
end

