-- ==== Sys2Proof/Machine/NetOps.lean ====
section
/-!
DEFINITION. Shared operations of the lanes, the slice matrix, the default target and the die ring
(spec/01_architecture.md R23 to R29; spec/04_fabric_arbitration.md R111 to R124; spec/07_external_bridges.md R243 to R252).
-/

namespace Sys2Proof.Machine

/-! ## Routes of the lanes (spec/01_architecture.md R24, R25) -/

/-- The perimeter router nearest a tile: ties west, then east, then north, then south. -/
def perimeter (x y : Nat) : Nat × Nat :=
  let m := min (min x (15 - x)) (min y (15 - y))
  if x = m then (0, y) else if 15 - x = m then (15, y) else if y = m then (x, 0) else (x, 15)

/-- The number of the attachment of a perimeter router, clockwise from the north-west corner. -/
def attachment (x y : Nat) : Nat :=
  if y = 0 then x else if x = 15 then 15 + y else if y = 15 then 45 - x else 60 - y

/-- The router of an attachment. -/
def attachRouter (a : Nat) : Nat × Nat :=
  if a < 16 then (a, 0) else if a < 31 then (15, a - 15) else if a < 46 then (45 - a, 15) else (0, 60 - a)

/-- The attachment at which a request from the slice matrix enters for a tile. -/
def tileAttach (t : Nat) : Nat := let p := perimeter (tileX t) (tileY t); attachment p.1 p.2

/-- One hop along x to the target column, then along y to the target row (R24). -/
def hop (x y gx gy : Nat) : Nat × Nat :=
  if x < gx then (x + 1, y) else if gx < x then (x - 1, y) else if y < gy then (x, y + 1) else if gy < y then (x, y - 1) else (x, y)

/-- The die of a target. -/
def Target.die : Target → Nat
  | .tile g => tileDie g
  | .ext d _ => d
  | .host d => d
  | .regs d => d
  | .book d => d
  | .slice d => d

/-- The die to which a packet travels: a request to its target, a response to its issuer. -/
def Packet.destDie (p : Packet) : Nat := if p.resp.isNone then p.target.die else p.iss.die

/-- The tile to which a packet travels, if a tile. -/
def Packet.destTile (p : Packet) : Option Nat :=
  if p.resp.isNone then (match p.target with | .tile g => some g | _ => none)
  else if p.iss.port = 127 then some p.iss.tile else none

/-- A request has reached its target, behind what came there before; a response its issuer. An abandoned response is discarded on
arrival. -/
def State.landed (s : State) (p : Packet) : State :=
  if p.resp.isNone then s.move p.id .arrived
  else if p.abandoned then s.dropPkt p.id
  else (s.modPkt p.id (fun p => { p with entered := false })).move p.id .home

/-- QoS at a port: a demoted request is bulk QoS 6 (spec/04_fabric_arbitration.md R141). -/
def Packet.qosNow (p : Packet) : Nat := if p.demoted && p.qos == 7 then 6 else p.qos

/-- The tile at which a packet leaves the lanes of a die; none for one that goes to the slice matrix. -/
def Packet.goal (p : Packet) (d : Nat) : Option Nat := if p.destDie = d then p.destTile else none

/-- The router output that leads to a router: 1 west, 2 east, 3 north, 4 south, 0 it is this one. -/
def outTo (x y gx gy : Nat) : Nat := if x < gx then 2 else if gx < x then 1 else if y < gy then 4 else if gy < y then 3 else 0

/-- The output that a packet takes at a router: 0 the tile, 5 the slice matrix (R24, R25). -/
def routeOut (x y : Nat) : Option Nat → Nat
  | some g => outTo x y (tileX g) (tileY g)
  | none => if (x, y) = perimeter x y then 5 else outTo x y (perimeter x y).1 (perimeter x y).2

/-- The router beside an output, and the input at which what leaves there arrives. -/
def nextRouter (x y : Nat) : Nat → (Nat × Nat) × Nat
  | 1 => ((x - 1, y), 2)
  | 2 => ((x + 1, y), 1)
  | 3 => ((x, y - 1), 4)
  | _ => ((x, y + 1), 3)

/-- The lane of a packet: 0 deadline requests, 1 bulk requests, 2 responses (spec/04_fabric_arbitration.md R113; spec/03_timing_promise.md R95). -/
def Packet.lane (p : Packet) : Nat := if p.resp.isSome then 2 else if p.qosNow = 7 then 0 else 1

/-- What goes first on a lane: on the bulk request lane the higher QoS, on the response lane a response to a deadline request. -/
def Packet.laneRank (p : Packet) : Nat :=
  match p.lane with
  | 0 => 0
  | 1 => 7 - p.qosNow
  | _ => if p.qosNow = 7 then 0 else 1

/-- The place of a router output's lane in the slice's table of turns. -/
def routerKey (x y out lane : Nat) : Nat := ((16 * y + x) * 8 + out) * 4 + lane

/-- Two packets of one transaction ID (spec/04_fabric_arbitration.md R117). -/
def Packet.sameTxn (p q : Packet) : Bool := sameRequester p.iss q.iss

/-- The least rank; at equal rank the earliest to arrive. -/
def firstBy (rank : Packet → Nat) (l : List Packet) : Option Packet :=
  match argMin rank l with
  | none => none
  | some p => argMin (·.came) (l.filter (fun q => rank q == rank p))

/-- The flit that a router output grants on a lane: by rank, then the inputs in turn, each in its order of arrival; none ahead of an earlier
packet of its transaction ID there (R113; spec/03_timing_promise.md R95; R117). -/
def State.laneGrant (s : State) (d x y out lane : Nat) : Option Packet :=
  let here := s.net.filter (fun p => p.loc == .lane d x y && routeOut x y (p.goal d) == out && p.lane == lane)
  let last := Tbl.get 5 (s.slice d).routers (routerKey x y out lane)
  firstBy (fun p => p.laneRank * 8 + turnDist 6 last p.side)
    (here.filter (fun p => !(here.any (fun q => q.ord < p.ord && q.sameTxn p))))

/-- The receivers of a multicast flit that leave a router by one output. -/
def mcastVia (x y out : Nat) (rs : List (Nat × Nat)) : List (Nat × Nat) := rs.filter (fun r => routeOut x y (some r.2) == out)

/-- The receivers of a multicast flit at a router, by the output that each leaves by. -/
def mcastParts (x y : Nat) (rs : List (Nat × Nat)) : List (List (Nat × Nat)) :=
  ((List.range 5).map (fun o => mcastVia x y o rs)).filter (fun l => !l.isEmpty)

/-- The flit of a packet for some of its receivers. -/
def Packet.toward (p : Packet) (l : List (Nat × Nat)) : Packet := { p with kind := .mcast l, target := .tile (l.headD (0, 0)).2 }

/-- A multicast flit at a router where its receivers' ways part becomes one flit for each output, and travels each link of their ways once
(spec/06_stream_transforms.md R222). -/
def State.fork (s : State) (id x y : Nat) : State :=
  match s.pkt id with
  | none => s
  | some p =>
    match p.kind with
    | .mcast rs =>
      (match mcastParts x y rs with
        | [] => s
        | l :: rest =>
          rest.foldl (fun s q => { s.takeId with net := s.net ++ [{ p.toward q with id := s.nextId }] }) (s.modPkt id (fun p => p.toward l)))
    | _ => s

/-- A router forwards a flit to the next router, to its tile, or to the slice matrix (R24, R25). -/
def State.laneHop (s : State) (p : Packet) (d x y : Nat) : State :=
  let out := routeOut x y (p.goal d)
  let s := s.modSlice d (fun S => { S with routers := S.routers.set (routerKey x y out p.lane) p.side })
  if out = 0 then s.landed p
  else if out = 5 then (s.modPkt p.id (fun p => { p with port := attachment x y })).move p.id (.matrix d)
  else
    let n := nextRouter x y out
    ((s.modPkt p.id (fun p => { p with side := n.2 })).move p.id (.lane d n.1.1 n.1.2)).fork p.id n.1.1 n.1.2

/-! ## The slice matrix (spec/04_fabric_arbitration.md R115 to R121) -/

/-- The target port of a request at the slice matrix of its target's die. -/
def Target.port : Target → Nat
  | .host _ => 0
  | .ext _ p => 1 + p
  | .regs _ => 4
  | .book _ => 5
  | .slice _ => 6
  | .tile g => 16 + tileAttach g

/-- The target port that a packet waits for at the slice matrix of the die to which it travels. -/
def Packet.port? (p : Packet) : Nat :=
  if p.resp.isNone then p.target.port
  else if p.iss.port = 127 then 16 + tileAttach p.iss.tile else 0

/-- Two packets to the same target port. -/
def Packet.samePort (p q : Packet) : Bool := p.target.die == q.target.die && p.target.port == q.target.port

/-- The request passes a slice matrix; one between two tiles of one die does not (R119, last paragraph). -/
def Packet.usesMatrix (p : Packet) : Bool :=
  p.kind != .notice && (p.iss.port != 127 || p.iss.die != p.target.die || (match p.target with | .tile _ => false | _ => true))

/-- The request has not been answered, or its response has not returned through the slice matrix of its issuer. -/
def Packet.outstanding (p : Packet) : Bool := if p.abandoned then p.entered else p.resp.isNone || p.entered

/-- An earlier request with the same transaction ID is outstanding to a different target port (R118). -/
def State.heldBack (s : State) (p : Packet) : Bool :=
  p.resp.isNone && p.usesMatrix &&
  s.net.any (fun q => q.ord < p.ord && q.usesMatrix && q.outstanding && p.sameTxn q && !p.samePort q)

/-- The request stands before its target port. -/
def Packet.beforePort (p : Packet) : Bool :=
  match p.loc with
  | .matrix _ | .held _ | .ring _ _ | .bridge _ _ | .wire _ _ => true
  | .lane d _ _ => (match p.target with | .tile g => tileDie g != d | _ => true)
  | _ => false

/-- An earlier packet with the same transaction ID to the same target port must come first: a request that has not reached the port,
or a request whose response has not returned (R117). A response that was turned back on the ring is not held to that order
(spec/07_external_bridges.md R407). -/
def State.outOfTurn (s : State) (p : Packet) : Bool :=
  !p.turned && s.net.any (fun q => q.ord < p.ord && !q.abandoned && !q.turned && q.usesMatrix && p.sameTxn q && p.samePort q &&
    (if p.resp.isNone then q.resp.isNone && q.beforePort else q.entered && p.entered && q.loc != Loc.lost))

/-- The packets that wait for a target port. -/
def State.atPort (s : State) (d target : Nat) : List Packet :=
  s.net.filter (fun p => p.loc == .matrix d && p.destDie == d && p.port? == target && !s.heldBack p && !s.outOfTurn p)

/-- The packet granted by a target port: highest QoS, then the turn by source code after the last source granted (R115). -/
def turnPick (last : Nat) (l : List Packet) : Option Packet := firstBy (fun p => (7 - p.qosNow) * 256 + turnDist 128 last p.port) l

/-- The entry of SLC_PARK for a target port; 80 to 87 are the outbound bridge ports (SLC_PARK). -/
def parkEntry (target : Nat) : Option Nat :=
  if target ≤ 5 then some target else if 80 ≤ target && target ≤ 83 then some 6 else if 84 ≤ target && target ≤ 87 then some 7 else none

/-- The source on which a target port parks; source codes that R115 does not list disable parking. -/
def Slice.parkedOn (S : Slice) (target : Nat) : Option Nat :=
  match parkEntry target with
  | none => none
  | some t =>
    let w : Word := Tbl.get 0 S.park t
    let c := bits w 0 7
    if bit w 8 && (c ≤ 59 || c = 64 || (72 ≤ c && c ≤ 79)) then some c else none

/-- What a target port does at a handshake with the packets that wait there: it grants one, or, parked on another source, spends the handshake
on arbitration; with no packet left it parks again (R115, R116; notes/assumptions/86.md). -/
def Slice.portGrant (S : Slice) (target : Nat) (l : List Packet) : Option Packet × Keys :=
  let pick := turnPick (Tbl.get 127 S.turn target) l
  let left : Keys := if l.length ≤ 1 then S.unparked.del target else S.unparked
  match S.parkedOn target with
  | none => (pick, left)
  | some c =>
    if S.unparked.contains target || l.all (fun p => p.port == c) then (pick, left) else (none, S.unparked.add target)

/-- A granted packet passes its target port. -/
def State.matrixPass (s : State) (d target : Nat) (p : Packet) : State :=
  let s := s.modSlice d (fun S => { S with turn := S.turn.set target p.port })
  let s := s.modPkt p.id (fun p => { p with entered := if p.resp.isNone then (p.entered || p.iss.die == d) else p.entered })
  match s.pkt p.id with
  | none => s
  | some p =>
    if 16 ≤ target then
      let r := attachRouter (target - 16)
      (s.modPkt p.id (fun p => { p with side := 5, entered := if p.resp.isNone then p.entered else false })).move p.id (.lane d r.1 r.2)
    else s.landed p

/-- Requests at the matrix that R118 holds back. -/
def State.holdBackAll (s : State) (d : Nat) : State :=
  { s with net := s.net.map (fun p => if p.loc == .matrix d && p.iss.die == d && p.destDie == d && s.heldBack p then { p with loc := .held d } else p) }

/-- A released packet waits at the matrix again (R118). -/
def State.release (s : State) (d : Nat) (p : Packet) : State := s.move p.id (.matrix d)

/-! ## The default target (spec/04_fabric_arbitration.md R122 to R124) -/

/-- SLC_DECERR_SRC of an issuer, VALID apart: source codes other than 64 and 127 are not latched. -/
def decerrSource (i : Issuer) : Word :=
  if i.port = 127 then put 0 127 ||| put 7 i.tile ||| put 18 i.master ||| put 21 i.chan ||| put 24 i.hh
  else put 0 64 ||| put 24 i.hh

/-- A DECERR is latched, or sets MULTI while one is latched (R124). -/
def Slice.latchDecerr (S : Slice) (a : Addr) (i : Issuer) : Slice :=
  if bit S.decSrc 31 then { S with decSrc := S.decSrc ||| flag 30 true }
  else { S with decAddr := a, decSrc := decerrSource i ||| flag 31 true }

def State.latchDecerr (s : State) (d : Nat) (a : Addr) (i : Issuer) : State := s.modSlice d (fun S => S.latchDecerr a i)

/-! ## The ring (spec/07_external_bridges.md R251, R407) -/

/-- The next die in a direction: 0 east, 1 west. -/
def nextDie (n d dir : Nat) : Nat := if dir = 0 then (d + 1) % n else (d + n - 1) % n

/-- The other end of a link (spec/01_architecture.md R26). -/
def peer (n d p : Nat) : Nat × Nat := if p < 4 then (nextDie n d 0, p + 4) else (nextDie n d 1, p - 4)

/-- DIR of SLC_ROUTE[t] at die d: as written, else the reset route. -/
def State.routeDir (s : State) (d t : Nat) : Nat :=
  if Tbl.get (decide (s.dies / 2 < (t + s.dies - d) % s.dies)) (s.slice d).routeDir t then 1 else 0

/-- LINKS of SLC_ROUTE[t] at die d. -/
def State.routeLinks (s : State) (d t : Nat) : BitVec 4 := Tbl.get 15 (s.slice d).routeLinks t

/-- The links of a direction that are set in a mask and up, as bridge ports. -/
def State.upLinks (s : State) (d dir : Nat) (mask : BitVec 4) : List Nat :=
  ((List.range 4).filter (fun i => bit mask i && bit (s.slice d).linkUp (4 * dir + i))).map (fun i => 4 * dir + i)

/-- The link that an entry takes among those that are up (R251 step 2). -/
def linkOf (i : Issuer) (l : List Nat) : Nat :=
  l.getD ((if i.port = 127 then i.tile + i.master + i.chan else i.hh) % l.length) 0

/-- The route from die `d` in direction `dir` to die `t` meets a die that is powered off (spec/01_architecture.md R29). -/
def State.routeOff (s : State) (dir t : Nat) : Nat → Nat → Bool
  | 0, _ => false
  | n + 1, d => if d = t then false else
      let e := nextDie s.dies d dir
      !(s.slice e).power || s.routeOff dir t n e

/-- The address that a DECERR of the packet latches: the fabric address, or the space-0 window address of a translated request (R124). -/
def Packet.latchAddr (p : Packet) : Addr := p.addr

/-- A request or response that leaves die `d` on the ring takes a link, or is answered, turned back or discarded. A reset notice that finds no
link is lost. -/
def State.ringRouteOp (s : State) (d : Nat) (p : Packet) : State :=
  let t := p.destDie
  let dir := p.dir.getD (s.routeDir d t)
  let s := s.modPkt p.id (fun p => { p with entered := p.entered || (p.resp.isNone && p.iss.die == d) })
  let go (dir : Nat) (turned : Bool) (l : List Nat) : State :=
    (s.modPkt p.id (fun q => { q with dir := some dir, turned := q.turned || turned, l := q.l || (s.slice d).lpActive })).move p.id (.ring d (linkOf p.iss l))
  let up := s.upLinks d dir (if p.turned then 15 else s.routeLinks d t)
  if p.resp.isNone then
    if up.isEmpty || s.routeOff dir t s.dies d then
      (if p.kind = .notice then s.dropPkt p.id else (s.answerAt d p.id .decerr []).latchDecerr d p.latchAddr p.iss)
    else go dir false up
  else if !up.isEmpty then go dir false up
  else
    let back := s.upLinks d (1 - dir) 15
    if !back.isEmpty then go (1 - dir) true back
    else (s.modPkt p.id (fun p => { p with loc := .lost })).latchDecerr d p.latchAddr p.iss

/-- Stripe slots of a bridge port that are in use: stripes kept until their ACK, data stripes that follow, and waiting entries (DESIGN CHOICE,
notes/assumptions/90.md). -/
def Bridge.used (B : Bridge) : Nat := B.slots.length + B.dataDue.length + B.queue.length

def Slice.bridge (S : Slice) (p : Nat) : Bridge := Tbl.get {} S.bridges p
def State.bridge (s : State) (d p : Nat) : Bridge := (s.slice d).bridge p
def State.modBridge (s : State) (d p : Nat) (f : Bridge → Bridge) : State :=
  s.modSlice d (fun S => { S with bridges := S.bridges.set p (f (S.bridge p)) })

/-- The packet is in transit at the die: it arrived on a bridge port (R121). -/
def Packet.transit (p : Packet) : Bool := 72 ≤ p.port && p.port ≤ 79

/-- What may pass to an outbound bridge port: an entry of its own die needs two free stripe slots, a transit entry one (R121); responses too
(DESIGN CHOICE, notes/assumptions/90.md). -/
def State.ringReady (s : State) (d port : Nat) : List Packet :=
  let free := 16 - (s.bridge d port).used
  s.net.filter (fun p => p.loc == .ring d port && (if p.transit then 1 else 2) ≤ free && !s.outOfTurn p)

/-- An outbound bridge port, the target port 80 + `port`, grants the entry whose turn it is (R115, R116, R121). -/
def State.slotAdmit (s : State) (d port : Nat) : State :=
  let g := (s.slice d).portGrant (80 + port) (s.ringReady d port)
  let s := s.modSlice d (fun S => { S with unparked := g.2 })
  match g.1 with
  | none => s
  | some p =>
    let s := s.modSlice d (fun S => { S with turn := S.turn.set (80 + port) p.port })
    (s.move p.id (.bridge d port)).modBridge d port (fun B => { B with queue := B.queue ++ [p.id] })

/-! ## The stripe link layer (spec/07_external_bridges.md R244 to R248, R250) -/

/-- The entries of the next command stripe: highest QoS first, in arrival order at equal QoS, and never ahead of an earlier entry
with the same transaction ID (R250). -/
def pickEntries (n : Nat) (l : List Packet) : List Packet :=
  match n with
  | 0 => []
  | n + 1 =>
    let free := l.zipIdx.filter (fun p => !((l.take p.2).any (fun q => q.sameTxn p.1)))
    match argMin (fun p : Packet × Nat => 7 - p.1.qosNow) free with
    | none => []
    | some p => p.1 :: pickEntries n (l.eraseIdx p.2)

/-- The entry is followed by a data stripe: a write, or the response of a read that carries data. -/
def Packet.hasData (p : Packet) : Bool := if p.resp.isNone then p.write else !p.data.isEmpty

/-! ### What a stripe transfers (R244, R245) -/

/-- KIND of a command entry. -/
def Packet.entryKind (p : Packet) (failed : Bool) : Nat :=
  if failed then 5 else if p.kind = .notice then 4 else if p.resp.isNone then (if p.write then 1 else 0) else if p.write then 3 else 2

/-- SIZE of a command entry; a request of another size than 64 B or 256 B that is no register access takes code 0 (notes/assumptions/26.md). -/
def Packet.entrySize (p : Packet) : Nat :=
  match p.kind with
  | .reg _ | .regBack => 2
  | _ => if p.size = 256 then 1 else 0

/-- ADDR of a command entry: the fabric address, or the external port above the stack address (notes/assumptions/26.md). -/
def Packet.entryAddr (p : Packet) : Nat :=
  match p.target with
  | .ext _ port => port * 2 ^ 45 + p.place % 2 ^ 45
  | _ => p.addr.toNat

/-- The 16 bytes of a command entry (R245). -/
def Packet.entry (p : Packet) (failed : Bool) : List Byte :=
  let one (b : Bool) : Nat := if b then 1 else 0
  leBytes 16 (p.entryKind failed + p.ltag % 4096 * 2 ^ 4 + p.qosNow * 2 ^ 16 + p.iss.hh % 16 * 2 ^ 19 + one p.l * 2 ^ 23 + one p.demoted * 2 ^ 24 +
    (match p.resp with | none => 0 | some st => statusCode st) * 2 ^ 25 + p.entrySize * 2 ^ 29 + one p.viewq * 2 ^ 31 + p.entryAddr * 2 ^ 32 +
    p.iss.tile % 2048 * 2 ^ 80 + p.iss.master % 8 * 2 ^ 91 + p.iss.chan % 8 * 2 ^ 94 + p.iss.port % 128 * 2 ^ 97 + p.bstart % 2 ^ 14 * 2 ^ 104 +
    p.blen % 32 * 2 ^ 118)

/-- A list of bytes cut or filled with zeros to `n`. -/
def padTo (n : Nat) (l : List Byte) : List Byte := (l ++ List.replicate n 0).take n

/-- BODY of a stripe. -/
def State.stripeBody (s : State) (x : Stripe) : List Byte :=
  let ps := x.entries.filterMap s.pkt
  padTo 256 (match x.kind with
    | .idle => []
    | .data => ps.flatMap (fun p => bytesOfRows p.data)
    | .command => ps.flatMap (fun p => p.entry false)
    | .failed => ps.flatMap (fun p => p.entry true))

/-- Bytes 256 to 259 of a stripe. -/
def State.stripeHead (s : State) (x : Stripe) : Nat :=
  (match x.kind with | .data => 0 | .command | .failed => 1 | .idle => 2) + x.seq * 2 ^ 2 + x.ack * 2 ^ 10 + (if x.nak then 2 ^ 18 else 0) +
  (match x.kind with
    | .data => (((x.entries.head?).bind s.pkt).map (·.ltag)).getD 0 % 4096
    | .command | .failed => x.entries.length % 32
    | .idle => 0) * 2 ^ 19 + (if x.retried then 2 ^ 31 else 0)

/-- The 264 bytes of a stripe: BODY, the fields, and the CRC-32C of both (R244). -/
def State.stripeBytes (s : State) (x : Stripe) : List Byte :=
  let b := s.stripeBody x ++ leBytes 4 (s.stripeHead x)
  b ++ leBytes 4 (crc32c b).toNat

/-- What the receiver sees of a transfer with `noise` upon it. -/
def withNoise : List Byte → List Byte → List Byte
  | b :: r, n :: t => (b ^^^ n) :: withNoise r t
  | l, [] => l
  | [], _ => []

/-- The receiver's check of a stripe: the CRC-32C of bytes 0 to 259 is the last four (R244, R246). -/
def stripeGood (l : List Byte) : Bool := leBytes 4 (crc32c (l.take 260)).toNat == (l.drop 260).take 4

/-- Link tags for `n` new entries: the least that no entry of the port holds (notes/assumptions/26.md). -/
def freeTags (used : List Nat) (n : Nat) : List Nat := ((List.range (used.length + n)).filter (fun t => !used.contains t)).take n

/-- The link tags in use at a port. -/
def State.tagsUsed (s : State) (B : Bridge) : List Nat :=
  ((B.slots.flatMap (·.entries) ++ B.dataDue).filterMap s.pkt).map (·.ltag)

/-- The port sends its next stripe: a data stripe that is due, or a command stripe of up to 16 waiting entries; with neither, an idle stripe,
which moves nothing. Each carries ACK and NAK of the reverse direction (R244, R245, R250). -/
def State.stripeSendOp (s : State) (d port : Nat) : State :=
  let B := s.bridge d port
  let onWire (s : State) (ids : List Nat) : State :=
    { s with net := updWhere (fun p => ids.contains p.id) (fun p => { p with loc := .wire d port, l := p.l || (s.slice d).lpActive }) s.net }
  let put (s : State) (k : StripeKind) (ids : List Nat) (due : List Nat) (queue : List Nat) : State :=
    let x : Stripe := { kind := k, seq := B.nextSeq, entries := ids, retried := false, ack := B.expect, nak := B.nak }
    (onWire s ids).modBridge d port (fun B =>
      { B with nextSeq := (B.nextSeq + 1) % 256, slots := B.slots ++ [x], wire := B.wire ++ [x], dataDue := due, queue := queue })
  if !bit (s.slice d).linkUp port || 16 ≤ B.slots.length then s
  else match B.dataDue with
    | id :: r => put s .data [id] r B.queue
    | [] =>
      let l := pickEntries 16 (B.queue.filterMap s.pkt)
      if l.isEmpty then s
      else
        let ids := l.map (·.id)
        let s := (ids.zip (freeTags (s.tagsUsed B) ids.length)).foldl (fun s q => s.modPkt q.1 (fun p => { p with ltag := q.2 })) s
        put s .command ids ((l.filter Packet.hasData).map (·.id)) (B.queue.filter (fun k => !ids.contains k))

/-- A packet comes out of the link at the receiving slice; a reset notice for that slice ends there (spec/04_fabric_arbitration.md R149). -/
def State.crossed (s : State) (d port id : Nat) : State :=
  match s.pkt id with
  | none => s
  | some p =>
    if p.kind = .notice ∧ p.destDie = d then
      (s.modSlice d (fun S => { S with noticeIn := S.noticeIn.filter (fun c => c != p.iss.tile) ++ [p.iss.tile] })).dropPkt id
    else (s.modPkt id (fun p => { p with port := 72 + port, l := p.l || (s.slice d).lpActive })).move id (.matrix d)

/-- What an accepted stripe does: entries without data arrive with their command stripe, others with their data stripe; failed
requests are answered CRC, failed responses delivered with CRC (R245, R247). -/
def State.acceptStripe (s : State) (d port : Nat) (x : Stripe) : State :=
  x.entries.foldl (fun s id =>
    match s.pkt id with
    | none => s
    | some p =>
      match x.kind with
      | .command => if p.hasData then s else s.crossed d port id
      | .data => s.crossed d port id
      | .idle => s
      | .failed =>
        if p.kind = .notice then s.dropPkt id
        else if p.resp.isNone then s.answerAt d id .crc []
        else (s.crossed d port id).modPkt id (fun p => { p with resp := some .crc, data := [] })) s

/-- A stripe arrives at the receiving end with `noise` upon its bytes; one whose CRC still checks is taken as it was sent (R244, R246;
notes/assumptions/26.md). -/
def State.stripeReceivedOp (s : State) (d port : Nat) (noise : List Byte) : State :=
  let q := peer s.dies d port
  match (s.bridge q.1 q.2).wire with
  | [] => s
  | x :: r =>
    let good := stripeGood (withNoise (s.stripeBytes x) noise)
    let s := s.modBridge q.1 q.2 (fun B => { B with wire := r })
    let B := s.bridge d port
    if good ∧ x.seq = B.expect then
      (s.modBridge d port (fun B => { B with expect := (B.expect + 1) % 256, discard := false, nak := false })).acceptStripe d port x
    else s.modBridge d port (fun B => { B with discard := true, nak := B.nak || !B.discard || x.seq == B.expect })

/-- Stripes before an ACK, in sequence order modulo 256. -/
def beforeAck (ack : Nat) (x : Stripe) : Bool := 0 < (ack + 256 - x.seq) % 256 && (ack + 256 - x.seq) % 256 < 128

/-- An ACK frees the slots of the stripes before it (R246). -/
def Bridge.ackTo (B : Bridge) (ack : Nat) : Bridge := { B with slots := B.slots.filter (fun x => !beforeAck ack x) }

/-- A CRC record; those of retransmits and refetches that succeeded are limited to one per 65,536 paces (spec/10_integrity.md R347, R348). -/
def State.crcRecord (s : State) (d port kind sup : Nat) (where_ : Nat) : State :=
  s.record d 17 sliceTile (detail [(0, port), (1, kind), (2, sup), (4, where_)])

/-- A retransmit is recorded under the limit, or counted. -/
def State.retransmitRecord (s : State) (d port seq : Nat) : State :=
  let B := s.bridge d port
  if s.look.paceDue (256 * d) B.lastCrc 65536 then
    let s := s.crcRecord d port 1 B.crcSuppressed seq
    s.modBridge d port (fun B => { B with crcSuppressed := 0, lastCrc := some (s.paceNat (256 * d)) })
  else s.look.modBridge d port (fun B => { B with crcSuppressed := B.crcSuppressed + 1 })

/-- Sequence numbers run on from `n`. -/
def renumber : Nat → List Stripe → List Stripe
  | _, [] => []
  | n, x :: r => { x with seq := n % 256 } :: renumber (n + 1) r

/-- A second failure: the stripe is replaced by a command stripe of failed entries with the same SEQ, without the data stripes of
its entries (R247). -/
def Bridge.failStripe (B : Bridge) (x : Stripe) : Bridge :=
  let rest := (B.slots.filter (fun y => y.seq != x.seq)).filter
    (fun y => !(x.kind == .command && y.kind == .data && y.entries.all (fun e => x.entries.contains e)))
  let l := renumber x.seq ({ x with kind := .failed, retried := false } :: rest.map (fun y => { y with retried := true }))
  { B with slots := l, wire := B.wire ++ l, nextSeq := (x.seq + l.length) % 256,
           dataDue := if x.kind == .command then B.dataDue.filter (fun e => !x.entries.contains e) else B.dataDue }

/-- A NAK reaches the sender (R246, R247): it resends from the expected SEQ, or sends failed entries after a second failure. -/
def State.stripeNakOp (s : State) (d port ack : Nat) : State :=
  let q := peer s.dies d port
  let R := s.bridge q.1 q.2
  if !R.nak || R.expect ≠ ack then s
  else
    let B := (s.bridge d port).ackTo ack
    match B.slots with
    | [] => s
    | x :: _ =>
      if x.kind == .failed then s
      else
        let s := s.modBridge q.1 q.2 (fun R => { R with nak := false })
        if x.retried then
          let s := s.modSlice d (fun S => { S with linkFail := S.linkFail.set port (satInc (Tbl.get 0 S.linkFail port)) })
          (s.modBridge d port (fun _ => B.failStripe x)).crcRecord d port 2 0 x.seq
        else
          let l := B.slots.map (fun y => { y with retried := true, ack := B.expect, nak := B.nak })
          let s := s.modSlice d (fun S => { S with linkRetx := S.linkRetx.set port (satInc (Tbl.get 0 S.linkRetx port)) })
          (s.modBridge d port (fun _ => { B with slots := l, wire := B.wire ++ l })).retransmitRecord d port x.seq

/-- An ACK reaches the sender; it cannot be beyond what the receiver expects. -/
def State.stripeAckOp (s : State) (d port ack : Nat) : State :=
  let q := peer s.dies d port
  if ((s.bridge q.1 q.2).expect + 256 - ack) % 256 < 128 then s.modBridge d port (fun B => B.ackTo ack) else s

/-- A request that the slice placed on the ring and that still awaits its response (R248). -/
def Packet.onRing (p : Packet) (d : Nat) : Bool :=
  p.iss.die == d && p.target.die != d && p.entered && !p.abandoned && p.loc != .home && p.kind != .notice

/-- The slice ends its outstanding ring requests with CRC; a response that still arrives for one is discarded (R248). A request that
has been lost leaves nothing to arrive. -/
def State.endRing (s : State) (d : Nat) : State :=
  let l := s.net.filter (fun p => p.onRing d)
  let kept := (s.net.filter (fun p => !(p.onRing d && p.loc == .lost))).map
    (fun p => if p.onRing d then { p with abandoned := true, entered := false } else p)
  let s := { s with net := kept }
  l.foldl (fun s p =>
    let c : Packet := { p with id := s.nextId, resp := some .crc, data := [], dir := none, loc := .matrix d, came := s.nextId }
    { s.takeId with net := s.net ++ [c] }) s

/-- What stood in a link that goes down is lost; a lost response leaves its request outstanding. -/
def State.loseLink (s : State) (d port : Nat) : State :=
  let q := peer s.dies d port
  let on (p : Packet) : Bool :=
    p.loc == .ring d port || p.loc == .bridge d port || p.loc == .wire d port ||
    p.loc == .ring q.1 q.2 || p.loc == .bridge q.1 q.2 || p.loc == .wire q.1 q.2
  let s := { s with net := (s.net.filter (fun p => !(on p && p.abandoned))).map (fun p => if on p then { p with loc := .lost } else p) }
  (s.modBridge d port (fun B => { B with queue := [], slots := [], dataDue := [], wire := [], discard := false, nak := false, nextSeq := 0, expect := 0 })).modBridge
    q.1 q.2 (fun B => { B with queue := [], slots := [], dataDue := [], wire := [], discard := false, nak := false, nextSeq := 0, expect := 0 })

/-- LINKUP of a port, and a LINK record: 1 failed to come up, 2 went down (R243). -/
def State.linkState (s : State) (d port : Nat) (up : Bool) (event : Nat) : State :=
  let was := bit (s.slice d).linkUp port
  let s := s.modSlice d (fun S => { S with linkUp := setBit S.linkUp port up, linkTrain := setBit S.linkTrain port false })
  if event = 1 ∨ (event = 2 ∧ was) then s.record d 21 sliceTile (detail [(0, port), (1, event)]) else s

/-- A link goes down at both of its ends, with a CRC record of kind 3; every slice gets the notice, and the slice that takes it down needs
none (R248; spec/10_integrity.md R347). -/
def State.linkDownOp (s : State) (d port : Nat) : State :=
  let q := peer s.dies d port
  let s := s.crcRecord d port 3 0 (s.bridge q.1 q.2).expect
  let s := s.loseLink d port
  let s := (s.linkState d port false 2).linkState q.1 q.2 false 2
  let s := (List.range s.dies).foldl (fun s e => if e = d then s else s.modSlice e (fun S => { S with linkNotice := true })) s
  s.endRing d

/-- The NAK of a stripe of failed entries is on its way to the sender. -/
def State.failNaked (s : State) (d port : Nat) : Bool :=
  let q := peer s.dies d port
  let R := s.bridge q.1 q.2
  R.nak && ((s.bridge d port).slots.any (fun x => x.seq == R.expect && x.kind == .failed))

/-! ## New packets -/

/-- A request of an issuer at a tile, in the lanes of its tile's router. -/
def State.newPacket (s : State) (iss : Issuer) (kind : PKind) (qos : Nat) (target : Target) (addr : Addr) (place size : Nat)
    (write : Bool) (data : List RowData) : Packet where
  id := s.nextId
  ord := s.nextId
  iss := iss
  kind := kind
  qos := qos
  demoted := false
  l := false
  lapse := []
  viewq := false
  target := target
  addr := addr
  place := place
  size := size
  data := data
  bstart := place / 64
  blen := (size + 63) / 64
  unit := 0
  write := write
  resp := none
  entered := false
  dir := none
  port := if iss.port = 127 then 0 else 64
  full := false
  abandoned := kind == .notice
  came := s.nextId
  loc := if iss.port = 127 then .lane iss.die (tileX iss.tile) (tileY iss.tile) else .matrix iss.die

/-- A packet sets out. A bounded request accepted during lapse holds the lapse open (spec/03_timing_promise.md R86, R107). -/
def State.launch (s : State) (p : Packet) : State :=
  let lp := (s.slice p.iss.die).lpActive
  { s.takeId with net := s.net ++ [{ p with lapse := if lp && p.qos == 7 then [p.iss.die] else p.lapse }] }

end Sys2Proof.Machine
end

