-- ==== Sys2Proof/Machine/ExtOps.lean ====
section
/-!
DEFINITION. Shared operations of the external memory ports, the tithes and the routes
(spec/07_external_bridges.md R234 to R241, R252; spec/10_integrity.md R348, R349; spec/13_registers.md R399).
-/

namespace Sys2Proof.Machine

def Slice.extPort (S : Slice) (p : Nat) : ExtPort := Tbl.get {} S.ext p
def State.modExt (s : State) (d p : Nat) (f : ExtPort → ExtPort) : State :=
  s.modSlice d (fun S => { S with ext := S.ext.set p (f (S.extPort p)) })

def Slice.titheOf (S : Slice) (h : Nat) : Tithe := Tbl.get {} S.tithe h
def Slice.bucket (S : Slice) (p h : Nat) : Bucket := Tbl.get {} S.buckets (16 * p + h)
def Slice.setBucket (S : Slice) (p h : Nat) (b : Bucket) : Slice := { S with buckets := S.buckets.set (16 * p + h) b }

/-- A write to SLC_TITHE[h] (R239, R241). -/
def State.titheOp (s : State) (w : Src) (d h : Nat) (v : Word) : State × Status :=
  let S := s.slice d
  let t : Tithe := { rate := BitVec.ofNat 7 (bits v 0 7), burst := BitVec.ofNat 6 (min 32 (bits v 8 6)) }
  let sum (f : Tithe → Nat) : Nat := ((List.range 16).map (fun k => f (if k = h then t else S.titheOf k))).sum
  if !s.isManager w then (s, .deed)
  else if 64 < sum (fun t => t.rate.toNat) || 64 < sum (fun t => t.burst.toNat) then (s, .size)
  else (s.modSlice d (fun S => (List.range 3).foldl (fun S p =>
    S.setBucket p h { S.bucket p h with tokens := min (S.bucket p h).tokens t.burst.toNat }) { S with tithe := S.tithe.set h t }), .ok)

/-- `paces` paces pass at a port's bucket: the accumulator gains RATE at each, and every 33 become a token up to BURST (R239). -/
def State.tokenOp (s : State) (d p h paces : Nat) : State :=
  s.modSlice d (fun S =>
    let b := S.bucket p h
    let a := b.acc + (S.titheOf h).rate.toNat * paces
    S.setBucket p h { tokens := min (S.titheOf h).burst.toNat (b.tokens + a / 33), acc := a % 33 })

/-- The aligned 256 B unit of a stack address. -/
def stackUnit (place : Nat) : Nat := place / 256 * 256

/-- The port has a request in hand that keeps others from its unit: a write of fewer than 256 B between its read and its write (R238). -/
def State.unitBusy (s : State) (d p unit : Nat) : Bool :=
  ((s.slice d).extPort p).work.any (fun w => match s.pkt w.pkt with | some k => k.write && k.size < 256 && stackUnit k.place == unit | none => false)

/-- The controller is handed a 256 B read or write of the unit of a request (R234, R236 to R238). -/
def State.toController (s : State) (d p : Nat) (k : Packet) (w : ExtWork) : State :=
  (s.modExt d p (fun E => { E with work := E.work.filter (fun x => x.pkt != w.pkt) ++ [w] })).emit
    (.stackRequest d p (stackUnit k.place) 256 w.writing w.urgent w.data)

/-- A stack request is taken at its port: DECERR while the controller is not ready; a token or a demotion; then the controller, which sees
whole 256 B units: a write of fewer bytes begins with a read and is not urgent (R235, R237, R238, R240; spec/13_registers.md R399). -/
def State.extRequestOp (s : State) (d p : Nat) (k : Packet) : State :=
  let S := s.slice d
  if !(S.extPort p).ready then s.answerAt d k.id .decerr []
  else if s.unitBusy d p (stackUnit k.place) then s
  else
    let b := S.bucket p k.iss.hh
    let merge := k.write && k.size < 256
    let deadline := k.qos == 7 && !k.demoted && !merge
    let pay := deadline && 0 < b.tokens
    let s := if pay then s.modSlice d (fun S => S.setBucket p k.iss.hh { b with tokens := b.tokens - 1 }) else s
    let s := s.modPkt k.id (fun q => { q with loc := .served, demoted := q.demoted || (deadline && !pay), lapse := if pay && S.lpActive then d :: q.lapse else q.lapse })
    s.toController d p k { pkt := k.id, urgent := pay, writing := k.write && !merge, data := if merge then [] else k.data }

/-- A CRC record of an external port: 4 CRC status, 5 refetch or resend (spec/11_startup_power_book.md R382). -/
def State.extCrc (s : State) (d p kind sup addr : Nat) : State :=
  s.record d 17 sliceTile (detail [(0, 8 + p), (1, kind), (2, sup), (4, addr)])

/-- A refetch or resend that succeeded is recorded under the limit, or counted (spec/10_integrity.md R348). -/
def State.extRefetch (s : State) (d p addr : Nat) : State :=
  let E := (s.slice d).extPort p
  if s.look.paceDue (256 * d) E.lastCrc 65536 then
    let s := s.extCrc d p 5 E.crcSuppressed addr
    s.modExt d p (fun E => { E with crcSuppressed := 0, lastCrc := some (s.paceNat (256 * d)) })
  else s.look.modExt d p (fun E => { E with crcSuppressed := E.crcSuppressed + 1 })

/-- A request leaves its port with a status. -/
def State.extEnd (s : State) (d p : Nat) (k : Packet) (st : Status) (data : List RowData) : State :=
  (s.modExt d p (fun E => { E with work := E.work.filter (fun x => x.pkt != k.id) })).answerAt d k.id st data

/-- A request ends with CRC at its port: counted and recorded. -/
def State.extFails (s : State) (d p : Nat) (k : Packet) : State :=
  ((s.modExt d p (fun E => { E with crc := satInc E.crc })).extCrc d p 4 0 k.place).extEnd d p k .crc []

/-- An error that the controller does not correct: counted, recorded, and UNCORR to the requester (R236; spec/10_integrity.md R349). -/
def State.extUncorr (s : State) (d p : Nat) (k : Packet) : State :=
  let s := s.modExt d p (fun E => { E with uncorr := satInc E.uncorr })
  let s := (s.raise d 0 6).record d 8 sliceTile (detail [(0, p), (1, k.iss.hh), (2, k.iss.tile + k.iss.chan * 2048), (4, k.place)])
  s.extEnd d p k .uncorr []

/-- The bytes of a request within its 256 B unit. -/
def unitSlice (k : Packet) (unit : List RowData) : List RowData :=
  rowsOfBytes ((k.size + 63) / 64) (((bytesOfRows unit).drop (k.place % 256)).take k.size)

/-- The unit with the bytes of a write of fewer than 256 B in their place (R238). -/
def unitMerge (k : Packet) (unit : List RowData) : List RowData :=
  let b := bytesOfRows unit
  rowsOfBytes 4 (b.take (k.place % 256) ++ (bytesOfRows k.data).take k.size ++ b.drop (k.place % 256 + k.size))

/-- The port's check of a transfer: one that the controller reports as failed, or a read whose 256 bytes have another CRC-32C than came with
them (R234, R236). -/
def transferBad (w : ExtWork) (crc : Option (BitVec 32)) (unit : List RowData) : Bool :=
  match crc with
  | none => true
  | some c => !w.writing && crc32c (bytesOfRows unit) != c

/-- The controller completes a transfer. After a CRC failure the port refetches or resends once, urgent if the first was; a second failure
returns CRC. The read of a merge is followed by its write (R236 to R238). -/
def State.extResponseOp (s : State) (d p : Nat) (k : Packet) (w : ExtWork) (crc : Option (BitVec 32)) (uncorr : Bool) (data : List RowData) : State :=
  let unit := (List.range 4).map (fun i => data.getD i 0)
  if transferBad w crc unit then
    if w.again then s.extFails d p k
    else (s.modExt d p (fun E => { E with refetch := satInc E.refetch })).toController d p k { w with again := true }
  else
    let s := if w.again then s.extRefetch d p k.place else s
    if uncorr then s.extUncorr d p k
    else if w.writing then s.extEnd d p k .ok []
    else if k.write then s.toController d p k { w with writing := true, again := false, data := unitMerge k unit }
    else s.extEnd d p k .ok (unitSlice k unit)

/-- A request is being performed at the port. -/
def Packet.atExt (k : Packet) (d p : Nat) : Bool := k.target == .ext d p && k.loc == Loc.served && k.resp.isNone

/-- The controller becomes ready, or leaves the ready state and every request in progress ends with CRC (spec/13_registers.md R399). -/
def State.extReadyOp (s : State) (d p : Nat) (ready : Bool) : State :=
  let s := s.modExt d p (fun E => { E with ready := ready })
  if ready then s else (s.net.filter (fun k => k.atExt d p)).foldl (fun s k => s.extFails d p k) s

/-- A write to SLC_ROUTE[t] (R252): the entries of the own die and of dies that are not present ignore it. -/
def State.routeOp (s : State) (w : Src) (d t : Nat) (v : Word) : State × Status :=
  if !s.isManager w then (s, .deed)
  else if t = d || s.dies ≤ t then (s, .ok)
  else (s.modSlice d (fun S => { S with routeDir := S.routeDir.set t (bit v 0), routeLinks := S.routeLinks.set t (BitVec.ofNat 4 (bits v 4 4)) }), .ok)

/-- What SLC_ROUTE[t] reads as. -/
def State.routeWord (s : State) (d t : Nat) : Word :=
  if t = d || s.dies ≤ t then 0 else put 0 (s.routeDir d t) ||| put 4 (s.routeLinks d t).toNat

end Sys2Proof.Machine
end

