-- ==== Sys2Proof/Machine/Convert.lean ====
section
/-!
DEFINITION. The number formats, rounding and layouts of CONVERT (spec/06_stream_transforms.md R205 to R217). An element is the number
whose little-endian bytes it holds, so that value i of n bits occupies bits n·i to n·i + n − 1 (R211).
-/

namespace Sys2Proof.Machine

/-! ## Values -/

/-- A value: a sign and a magnitude m · 2^e, an infinity, or NaN. -/
inductive Num where
  | fin (neg : Bool) (m : Nat) (e : Int)
  | inf (neg : Bool)
  | nan
  deriving DecidableEq, Repr

/-- A binary floating format: exponent and significand bits, bias, the code of its largest finite magnitude, the codes of infinity
and of the canonical NaN if it has them (R206, R212). -/
structure Fmt where
  eb : Nat
  mb : Nat
  bias : Nat
  top : Nat
  infCode : Option Nat
  nanCode : Option Nat

def fmt32 : Fmt := { eb := 8, mb := 23, bias := 127, top := 0x7F7FFFFF, infCode := some 0x7F800000, nanCode := some 0x7FC00000 }
def fmt16 : Fmt := { eb := 5, mb := 10, bias := 15, top := 0x7BFF, infCode := some 0x7C00, nanCode := some 0x7E00 }
def fmtBf : Fmt := { eb := 8, mb := 7, bias := 127, top := 0x7F7F, infCode := some 0x7F80, nanCode := some 0x7FC0 }
def fmtE4M3 : Fmt := { eb := 4, mb := 3, bias := 7, top := 0x7E, infCode := none, nanCode := some 0x7F }
def fmtE5M2 : Fmt := { eb := 5, mb := 2, bias := 15, top := 0x7B, infCode := some 0x7C, nanCode := some 0x7E }
def fmtE3M2 : Fmt := { eb := 3, mb := 2, bias := 3, top := 0x1F, infCode := none, nanCode := none }
def fmtE2M3 : Fmt := { eb := 2, mb := 3, bias := 1, top := 0x1F, infCode := none, nanCode := none }
def fmtE2M1 : Fmt := { eb := 2, mb := 1, bias := 1, top := 0x7, infCode := none, nanCode := none }

/-- Bits of a code. -/
def Fmt.width (f : Fmt) : Nat := 1 + f.eb + f.mb

/-- The value of a code. -/
def Fmt.decode (f : Fmt) (c : Nat) : Num :=
  let neg := c / 2 ^ (f.eb + f.mb) % 2 == 1
  let mag := c % 2 ^ (f.eb + f.mb)
  if some mag = f.infCode then .inf neg
  else if f.top < mag then .nan
  else
    let x := mag / 2 ^ f.mb
    let m := mag % 2 ^ f.mb
    if x = 0 then .fin neg m (1 - (f.bias : Int) - f.mb) else .fin neg (2 ^ f.mb + m) ((x : Int) - f.bias - f.mb)

/-- Rounding of the quotient of a nonnegative number by 2^k: to nearest, ties to even; or by adding a 16-bit random fraction of
one unit and truncating (R215). -/
def roundShift (frac : Option Nat) (m k : Nat) : Nat :=
  let q := m / 2 ^ k
  let r := m % 2 ^ k
  match frac with
  | none => if 2 ^ k < 2 * r ∨ (2 * r = 2 ^ k ∧ q % 2 = 1) then q + 1 else q
  | some x => (m * 2 ^ 16 + x * 2 ^ k) / 2 ^ (k + 16)

/-- A magnitude m · 2^e in units of 2^q, rounded. -/
def roundTo (frac : Option Nat) (m : Nat) (e q : Int) : Nat :=
  if q ≤ e then m * 2 ^ (e - q).toNat else roundShift frac m (q - e).toNat

/-- ⌊log2 (m · 2^e)⌋ for m > 0. -/
def log2Of (m : Nat) (e : Int) : Int := (Nat.log2 m : Int) + e

/-- The code of a value, rounded and saturated (R212, R215). -/
def Fmt.encode (f : Fmt) (frac : Option Nat) (v : Num) : Nat :=
  let sign (neg : Bool) : Nat := if neg then 2 ^ (f.eb + f.mb) else 0
  match v with
  | .nan => f.nanCode.getD 0
  | .inf neg => sign neg + f.infCode.getD f.top
  | .fin neg m e =>
    if m = 0 then sign neg
    else
      let x := max (log2Of m e) (1 - (f.bias : Int))
      let t := roundTo frac m e (x - f.mb)
      sign neg + min f.top ((x + f.bias - 1).toNat * 2 ^ f.mb + t)

/-- Two's complement of `n` bits. -/
def intDecode (n c : Nat) : Num := if 2 ^ (n - 1) ≤ c then .fin true (2 ^ n - c) 0 else .fin false c 0

/-- A value times 2^s rounded to a two's-complement integer of `n` bits and saturated. -/
def intEncode (n : Nat) (s : Int) (frac : Option Nat) (v : Num) : Nat :=
  let lim (neg : Bool) (k : Nat) : Nat :=
    if neg then (2 ^ n - min k (2 ^ (n - 1))) % 2 ^ n else min k (2 ^ (n - 1) - 1)
  match v with
  | .nan => 0
  | .inf neg => lim neg (2 ^ n)
  | .fin neg m e => lim neg (roundTo frac m (e + s) 0)

/-! ## Narrow formats (R206) -/

/-- An element format: floating, or an integer of n bits scaled by 2^-s. -/
inductive Elem where
  | float (f : Fmt)
  | int (n s : Nat)

def Elem.width : Elem → Nat
  | .float f => f.width
  | .int n _ => n

def Elem.decode : Elem → Nat → Num
  | .float f, c => f.decode c
  | .int n s, c => match intDecode n c with | .fin g m e => .fin g m (e - s) | v => v

def Elem.encode : Elem → Option Nat → Num → Nat
  | .float f, r, v => f.encode r v
  | .int n s, r, v => intEncode n s r v

/-- The element of a narrow format code, and for a block format the exponent e of its largest magnitude (R213). -/
def narrowElem (code : Nat) : Elem × Option Nat :=
  match code with
  | 1 => (.float fmt16, none)
  | 2 => (.float fmtBf, none)
  | 3 => (.float fmtE4M3, none)
  | 4 => (.float fmtE5M2, none)
  | 5 => (.float fmtE3M2, none)
  | 6 => (.float fmtE2M3, none)
  | 7 => (.float fmtE2M1, none)
  | 8 => (.int 8 0, none)
  | 9 => (.int 4 0, none)
  | 10 => (.float fmtE4M3, some 8)
  | 11 => (.float fmtE5M2, some 15)
  | 12 => (.float fmtE3M2, some 4)
  | 13 => (.float fmtE2M3, some 2)
  | 14 => (.float fmtE2M1, some 2)
  | 15 => (.int 8 6, some 0)
  | _ => (.float fmtE2M1, none)

/-- The wide format of WIDE (R205). -/
def wideFmt (w : Nat) : Fmt := match w with | 0 => fmt32 | 1 => fmt16 | _ => fmtBf

/-! ## Blocks (R213, R214) -/

def Num.special : Num → Bool | .fin _ _ _ => false | _ => true
def Num.isZero : Num → Bool | .fin _ m _ => m == 0 | _ => false

/-- ⌊log2⌋ of the largest magnitude of a block that has a nonzero value. -/
def maxLog (l : List Num) : Int :=
  l.foldl (fun a v => match v with | .fin _ m e => if m = 0 then a else max a (log2Of m e) | _ => a) (-100000)

/-- The magnitude divided by 2^x. -/
def Num.scale (v : Num) (x : Int) : Num := match v with | .fin g m e => .fin g m (e - x) | v => v

/-- Element codes and scale byte of a block; `frac i` is the random fraction of its value i. -/
def encodeBlock (el : Elem) (emax : Nat) (frac : Nat → Option Nat) (l : List Num) : List Nat × Nat :=
  if l.any Num.special then (l.map (fun _ => 0), 0xFF)
  else if l.all Num.isZero then (l.map (fun _ => 0), 0)
  else
    let x := max (-127) (min 127 (maxLog l - emax))
    ((l.zipIdx).map (fun p => el.encode (frac p.2) (p.1.scale x)), (x + 127).toNat)

def decodeBlock (el : Elem) (scale : Nat) (l : List Nat) : List Num :=
  if scale = 0xFF then l.map (fun _ => Num.nan) else l.map (fun c => (el.decode c).scale (127 - (scale : Int)))

/-! ## Elements of a descriptor (R207 to R210) -/

/-- Fields of `n` bits of an element, from bit `lo`. -/
def fields (x lo n : Nat) (count : Nat) : List Nat := (List.range count).map (fun i => x / 2 ^ (lo + n * i) % 2 ^ n)

/-- The number with the fields in place. -/
def packFields (n : Nat) (l : List Nat) : Nat := l.foldr (fun c a => c + a * 2 ^ n) 0

namespace Conv

def narrow (d : RowData) : Nat := Desc.conv d % 16
def wide (d : RowData) : Nat := Desc.conv d / 16 % 4
def dir (d : RowData) : Bool := Desc.conv d / 64 % 2 == 1
def zpad (d : RowData) : Bool := Desc.conv d / 128 % 2 == 1

/-- Values of an element. -/
def vals (d : RowData) : Nat := Desc.elem d * 8 / (wideFmt (wide d)).width

/-- Bytes of the narrow element without padding. -/
def rawSize (d : RowData) : Nat :=
  let f := narrowElem (narrow d)
  vals d * f.1.width / 8 + (if f.2.isSome then vals d / 32 else 0)

/-- The address of the narrow side. -/
def narrowAddr (d : RowData) : Nat := if dir d then Desc.src d else Desc.dst d

/-- The narrow side's alignment unit A (R208). -/
def unit (d : RowData) : Nat := if narrowAddr d / 2 ^ 45 = 0 || Desc.viewq d then 256 else 64

/-- Bytes of the narrow element, padding included. -/
def narrowSize (d : RowData) : Nat := if zpad d then (rawSize d + unit d - 1) / unit d * unit d else rawSize d

/-- The pair of formats is valid (R205, R206, R210). -/
def valid (d : RowData) : Bool :=
  Desc.conv d != 0 &&
  (if wide d = 3 then 1 ≤ narrow d && narrow d ≤ 4
   else narrow d != 0 && !(narrow d == 1 && wide d == 1) && !(narrow d == 2 && wide d == 2))

/-- Bytes of a layout unit (R217). -/
def layoutUnit (d : RowData) : Nat := if narrow d = 4 then 1024 else 4096

/-- The sizes fit (R210). -/
def sizeOk (d : RowData) : Bool :=
  if wide d = 3 then Desc.elem d % layoutUnit d == 0
  else ((narrowElem (narrow d)).2.isNone || vals d % 32 == 0) && (zpad d || rawSize d % unit d == 0)

/-- The values of an element in the wide format, as codes. -/
def fromWide (d : RowData) (x : Nat) : List Num :=
  (fields x 0 (wideFmt (wide d)).width (vals d)).map (wideFmt (wide d)).decode

/-- The narrow element of a list of values. -/
def toNarrow (d : RowData) (frac : Nat → Option Nat) (l : List Num) : Nat :=
  let f := narrowElem (narrow d)
  match f.2 with
  | none => packFields f.1.width ((l.zipIdx).map (fun p => f.1.encode (frac p.2) p.1))
  | some emax =>
    let blocks := (List.range (vals d / 32)).map (fun b => encodeBlock f.1 emax (fun i => frac (32 * b + i)) ((l.drop (32 * b)).take 32))
    packFields f.1.width (blocks.flatMap Prod.fst) + packFields 8 (blocks.map Prod.snd) * 2 ^ (vals d * f.1.width)

/-- The values of a narrow element. -/
def fromNarrow (d : RowData) (x : Nat) : List Num :=
  let f := narrowElem (narrow d)
  let c := fields x 0 f.1.width (vals d)
  match f.2 with
  | none => c.map f.1.decode
  | some _ =>
    (List.range (vals d / 32)).flatMap (fun b =>
      decodeBlock f.1 (x / 2 ^ (vals d * f.1.width + 8 * b) % 256) ((c.drop (32 * b)).take 32))

/-- The wide element of a list of values. -/
def toWide (d : RowData) (frac : Nat → Option Nat) (l : List Num) : Nat :=
  packFields (wideFmt (wide d)).width ((l.zipIdx).map (fun p => (wideFmt (wide d)).encode (frac p.2) p.1))

/-- Where the byte at place `k` of a layout unit comes from (R217). -/
def layoutFrom (code k : Nat) : Nat :=
  match code with
  | 1 => 64 * (k % 64) + k / 64
  | 2 => 64 * (k % 128 / 2) + 2 * (k / 128) + k % 2
  | 3 => 64 * (k % 256 / 4) + 4 * (k / 256) + k % 4
  | _ => 256 * (k / 64 % 4) + 64 * (k / 256) + k % 64

/-- The layout reorder of an element. -/
def layout (d : RowData) (x : Nat) : Nat :=
  let u := layoutUnit d
  packFields 8 ((List.range (Desc.elem d)).map (fun j => x / 2 ^ (8 * (j / u * u + layoutFrom (narrow d) (j % u))) % 256))

/-- One element converted. -/
def apply (d : RowData) (frac : Nat → Option Nat) (x : Nat) : Nat :=
  if wide d = 3 then layout d x
  else if dir d then toWide d frac (fromNarrow d x)
  else toNarrow d frac (fromWide d x)

end Conv

namespace Desc

/-- Bytes of a source element (R209). -/
def srcSize (d : RowData) : Nat := if op d = 5 && Conv.wide d != 3 && Conv.dir d then Conv.narrowSize d else elem d

/-- Bytes of a destination element (R209). -/
def dstSize (d : RowData) : Nat := if op d = 5 && Conv.wide d != 3 && !Conv.dir d then Conv.narrowSize d else elem d

def srcUnits (d : RowData) : Nat := srcSize d / 64
def dstUnits (d : RowData) : Nat := dstSize d / 64

/-- 64 B units that the descriptor writes. -/
def totalUnits (d : RowData) : Nat := elems d * dstUnits d

end Desc

end Sys2Proof.Machine
end

