-- ==== Sys2Proof/Machine/SyncOps.lean ====
section
/-!
DEFINITION. Shared operations of the tally block, the bells, the fences and the watchman
(spec/08_tallies_bells_channels.md R262 to R286).
-/

namespace Sys2Proof.Machine

/-! ## Engines and the watchman (R283 to R285) -/

def Tile.engine (T : Tile) (e : Engine) : EngState := Tbl.get .running T.engines (engineKey e)

/-- An engine that waits in one of the ways of R283, condition 1. -/
def EngState.waits : EngState → Bool
  | .waitGe _ _ | .waitDec _ | .waitBell _ _ | .recv _ | .sendFull _ _ => true
  | _ => false

def allEngines : List Engine := [.mx, .vx, .sc]

/-- A channel that keeps the core from being quiet (R283, condition 2). -/
def Tile.chanBusy (T : Tile) (c : Channel) : Bool :=
  match c.state with
  | .disabled | .idle | .wait | .halt => false
  | .armed => T.wmHostwait
  | .arming | .run => true

/-- The stream engine has a request outstanding or a send in progress that does not await space (R283, conditions 1 and 3). -/
def Tile.streamBusy (T : Tile) : Bool :=
  T.chans.any (fun p => p.2.outst != 0 || p.2.fetching || T.chanBusy p.2) || T.sends.any (fun q => !q.full) ||
  T.blocks.any (fun b => b.need != 0)

/-- The NW port holds an admitted piece of a message (R283, condition 4). -/
def Tile.pieceAdmitted (T : Tile) : Bool := T.msgs.any (fun m => m.status == .ok && !m.full)

/-- The core is quiet (R283). -/
def Tile.quiet (T : Tile) : Bool :=
  allEngines.all (fun e => (T.engine e).waits || T.engine e == .stopped) && !T.streamBusy && !T.pieceAdmitted &&
  (allEngines.any (fun e => (T.engine e).waits) || T.chans.any (fun p => p.2.state == .wait))

/-- NOW clears when the core stops being quiet (R285). -/
def Tile.awake (T : Tile) : Tile := { T with wmNow := T.wmNow && T.quiet }

/-- The watchman's count at the pace `now`: it begins when the core is quiet and the watchman enabled, goes on while they stay so, and is
given up when they are not (R284, R285). -/
def Tile.watch (T : Tile) (now : Nat) : Tile :=
  if T.wmEn && T.quiet then { T with wmFrom := some (T.wmFrom.getD now) } else { T with wmFrom := none, wmNow := false }

/-- The watchman of a tile sees what its core has come to. -/
def State.watch (s : State) (tile : Nat) : State := s.modTile tile (fun T => T.watch (s.paceNat tile))

/-- The outcome of an event at a tile that its watchman sees. -/
def State.atCore (s : State) (tile : Nat) (r : State) : Result := s.atTile tile (r.watch tile)

def Tile.setEngine (T : Tile) (e : Engine) (q : EngState) : Tile := ({ T with engines := T.engines.set (engineKey e) q } : Tile).awake

def Tile.setChanAwake (T : Tile) (n : Nat) (c : Channel) : Tile := (T.setChan n c).awake

/-- A blocking operation of an engine ends with a status and an L flag (R264). -/
def State.endOp (s : State) (tile : Nat) (e : Engine) (st : Status) (l : Bool) (v : Nat) : State :=
  (s.modTile tile (fun T => T.setEngine e .running)).emit (.op tile e st l v)

/-- Engine word and value word of the watchman's snapshot (TL_WM_SNAP). -/
def EngState.word (q : EngState) (sendTile : Nat) : Word :=
  match q with
  | .running | .arriving _ | .sending | .fence _ _ => 0
  | .stopped => 1
  | .waitGe t _ => put 0 2 ||| put 3 t
  | .waitDec t => put 0 3 ||| put 3 t
  | .waitBell b _ => put 0 4 ||| put 3 b
  | .recv e => put 0 5 ||| put 3 e
  | .sendFull e _ => put 0 6 ||| put 3 e ||| put 9 sendTile

def EngState.valueWord : EngState → Word
  | .waitGe _ v => v
  | .waitBell _ g => put 0 g.toNat
  | _ => 0

/-- Global tile of the endpoint that an engine's SEND names. -/
def Tile.sendTarget (T : Tile) (e : Engine) : Nat := ((T.sends.find? (fun q => q.e == e)).map (·.target)).getD 0

/-- The eight words of TL_WM_SNAP, in offset order. -/
def Tile.snapshot (T : Tile) (pace : Word) : List Word :=
  (allEngines.flatMap (fun e => [(T.engine e).word (T.sendTarget e), (T.engine e).valueWord])) ++
  [(List.range 8).foldl (fun w n => w ||| put (3 * n) (chCode (T.chan n).state)) 0, pace]

/-- The watchman raises STILL (R284). -/
def State.stillOp (s : State) (tile : Nat) : State :=
  let s := s.look
  let T := s.tile tile
  let snap := T.snapshot (s.pace tile)
  let s := s.modTile tile (fun T =>
    { T with wmNow := true, wmStill := true, wmRaises := satInc T.wmRaises,
             wmSnap := if T.wmStill then T.wmSnap else snap.zipIdx.map (fun p => (p.2, p.1)) })
  let kept := (List.range 8).map (fun k => (4 * k, (Tbl.get 0 (s.tile tile).wmSnap k).toNat))
  (s.raise (tileDie tile) T.hh 4).record (tileDie tile) 5 tile (detail kept)

/-- A write to TL_WM (R285). -/
def State.wmOp (s : State) (w : Src) (tile : Nat) (v : Word) : State × Status :=
  if !s.mayWrite .hm w tile then (s, .deed)
  else ((s.modTile tile (fun T =>
    ({ T with wmEn := bit v 0, wmHostwait := bit v 1, wmNow := T.wmNow && bit v 0, wmStill := T.wmStill && !bit v 9 } : Tile).awake)).watch tile, .ok)

/-! ## Tallies (R265, R271, R272) -/

def Tile.tallyOf (T : Tile) (t : Nat) : Word := Tbl.get 0 T.tally t

/-- The tally is in mode COUNT. -/
def Tile.isCount (T : Tile) (t : Nat) : Bool := bit T.tallyMode t

def Tile.setTally (T : Tile) (t : Nat) (v : Word) : Tile := { T with tally := T.tally.set t v }

/-- An ADD, with the L flag it carries. -/
def Tile.addTally (T : Tile) (t : Nat) (a : Word) (l : Bool) : Tile :=
  { T.setTally t (T.tallyOf t + a) with tallyL := if l then setBit T.tallyL t true else T.tallyL }

/-- A synchronisation fault is latched, or sets MULTI, and raises FAULT: 1 UNDER, 2 MODE, 3 BELL_TWICE, 4 BELL_MASK (R272). -/
def State.syncFaultOp (s : State) (tile cause obj eng chan : Nat) : State :=
  let s := s.modTile tile (fun T =>
    { T with syncFault := if bit T.syncFault 16 then T.syncFault ||| flag 17 true
                          else put 0 cause ||| put 4 obj ||| put 10 eng ||| put 13 chan ||| flag 16 true })
  s.raise (tileDie tile) (s.tile tile).hh 2

/-- A blocking operation of an engine meets a fault: it is not performed and ends DECERR (R272). -/
def State.engFault (s : State) (tile cause obj : Nat) (e : Engine) : State :=
  (s.syncFaultOp tile cause obj (masterCode (engineMaster e)) 0).endOp tile e .decerr false 0

/-- An operation after which its engine has gone on meets a fault: it ends DECERR, whatever the engine does by now (R262, R264, R272). -/
def State.opFault (s : State) (tile cause obj : Nat) (e : Engine) : State :=
  (s.syncFaultOp tile cause obj (masterCode (engineMaster e)) 0).emit (.op tile e .decerr false 0)

/-- An engine issues an operation: nothing happens while the engine waits or has stopped; before READY it ends DECERR, during a
reassignment ABORTED (R301; spec/11_startup_power_book.md R372). -/
def State.issue (s : State) (tile : Nat) (e : Engine) (r : State) : State :=
  let T := s.tile tile
  if T.engine e != .running then s
  else if !s.ready (tileDie tile) then s.emit (.op tile e .decerr false 0)
  else if T.reassign.isSome then s.emit (.op tile e .aborted false 0)
  else r

/-- An operation joins those that wait for the next tally boundary (R263). -/
def State.enqueue (s : State) (tile : Nat) (o : TOp) : State := s.modTile tile (fun T => { T with tops := T.tops ++ [o] })

/-! ## The tally boundary (R266) -/

/-- Step 1: register writes to TL_TALLY and TL_TALLY_MODE. -/
def Tile.tallyStep1 (T : Tile) : TOp → Tile
  | .write _ t v => T.setTally t v
  | .mode _ k v => { T with tallyMode := if k = 0 then (T.tallyMode.extractLsb' 32 16) ++ v else (BitVec.ofNat 16 (bits v 0 16)) ++ (T.tallyMode.extractLsb' 0 32) }
  | _ => T

/-- Step 2: ADDs. -/
def Tile.tallyStep2 (lp : Bool) (T : Tile) : TOp → Tile
  | .add t a l => T.addTally t a (l || lp)
  | .stAdd n t a =>
    let T := T.addTally t a lp
    let c := T.chan n
    if c.state = .run ∧ (c.snap.map Desc.op) = some 9 then T.setChan n { c with bodyDone := true, outst := 0 } else T
  | .done _ t l | .fill _ t l | .homeAdd _ t l => T.addTally t 1 (l || lp)
  | _ => T

/-- TL_BELL[b]. -/
def Tile.bell (T : Tile) (b : Nat) : Bell := Tbl.get {} T.bells b

/-- Why an arrival of mask bit `k` is not taken: 4 BELL_MASK, 3 BELL_TWICE (R276). -/
def Bell.refuses (B : Bell) (k : Nat) : Option Nat := if !bit B.mask k then some 4 else if bit B.arrived k then some 3 else none

def Tile.setArrived (T : Tile) (b k : Nat) : Tile :=
  { T with bells := T.bells.set b { T.bell b with arrived := setBit (T.bell b).arrived k true } }

/-- Step 2: arrivals. Answers the status of an arrival by register write, which completes now (R276, R280). -/
def tallyArrive (tile : Nat) (p : State × Status) : TOp → State × Status
  | .arrive e b wait =>
    let s := p.1
    let B := (s.tile tile).bell b
    match B.refuses (engineBell e) with
    | some c => (if wait then s.engFault tile c b e else s.opFault tile c b e, p.2)
    | none =>
      let s := s.modTile tile (fun T => T.setArrived b (engineBell e))
      if wait then (s.modTile tile (fun T => T.setEngine e (.waitBell b B.gen)), p.2)
      else (s.emit (.op tile e .ok false B.gen.toNat), p.2)
  | .stArrive _ n b =>
    match ((p.1.tile tile).bell b).refuses 2 with
    | some c => (p.1.syncFaultOp tile c b 4 n, .decerr)
    | none => (p.1.modTile tile (fun T => T.setArrived b 2), p.2)
  | _ => p

/-- A bell completes its generation; the ADD to its tally is due at the next boundary (R277). -/
def Tile.ringBell (lp : Bool) (T : Tile) (b : Nat) : Tile :=
  let B := T.bell b
  { T with bells := T.bells.set b { B with gen := B.gen + 1, arrived := 0, l := lp },
           bellAdds := if B.tally = 63 then T.bellAdds else T.bellAdds ++ [(B.tally.toNat, lp)] }

/-- Bells that complete at this boundary: ARRIVED equals a nonzero MASK, or a completion is forced (R277, R281). -/
def Tile.ringBells (lp : Bool) (ops : List TOp) (T : Tile) : Tile :=
  (List.range 8).foldl (fun T b =>
    let B := T.bell b
    if (B.mask ≠ 0 && B.arrived == B.mask) || ops.any (fun o => match o with | .force _ k => k == b | _ => false) then T.ringBell lp b else T) T

/-- Step 3: the DECs of one engine (R265, R266). -/
def tallyDec (tile : Nat) (e : Engine) (s : State) : TOp → State
  | .dec e' t =>
    if e' ≠ e then s
    else
      let T := s.tile tile
      if !T.isCount t then s.opFault tile 2 t e
      else if T.tallyOf t = 0 then s.opFault tile 1 t e
      else (s.modTile tile (fun T => T.setTally t (T.tallyOf t - 1))).emit (.op tile e .ok false 0)
  | _ => s

/-- A MONO wait is met (R265). -/
def monoMet (value v : Word) : Bool := (value - v).toNat < 2 ^ 31

/-- Step 4: the wait of an engine. `flipped` are the tallies whose mode a write of this boundary changed (R269). -/
def State.engineWait (s : State) (tile : Nat) (flipped : BitVec 48) (e : Engine) : State :=
  let T := s.tile tile
  match T.engine e with
  | .waitGe t v =>
    if bit flipped t || T.isCount t then s.engFault tile 2 t e
    else if monoMet (T.tallyOf t) v then s.endOp tile e .ok (bit T.tallyL t) 0 else s
  | .waitDec t =>
    if bit flipped t || !T.isCount t then s.engFault tile 2 t e
    else if T.tallyOf t = 0 then s
    else (s.modTile tile (fun T => T.setTally t (T.tallyOf t - 1))).endOp tile e .ok (bit T.tallyL t) 0
  | .waitBell b g => if (T.bell b).gen ≠ g then s.endOp tile e .ok (T.bell b).l 0 else s
  | _ => s

/-- A WAITT is released. -/
def Channel.waitMet (c : Channel) (l : Bool) : Channel :=
  { c with waitTally := false, state := .run, bodyDone := true, l := c.l || l }

/-- Step 4: the WAITT of a channel (R265, R271, R272; spec/05_stream_engine.md R169, R195). -/
def State.chanWait (s : State) (tile : Nat) (flipped : BitVec 48) (n : Nat) : State :=
  let T := s.tile tile
  let c := T.chan n
  match c.snap with
  | none => s
  | some d =>
    if !(c.waitTally && (c.state == .run || c.state == .wait) && c.fail.isNone) then s
    else
      let t := Desc.tally d
      let set (s : State) (c : Channel) : State := s.modTile tile (fun T => T.setChanAwake n c)
      if bit flipped t then
        let f : ChFail :=
          { seq := 0, addr := BitVec.ofNat 48 (tileRegAddr tile (0x200 + 4 * t)), dir := 0, status := .decerr, unit := 0, all := false }
        set (s.syncFaultOp tile 2 t 4 n) { c.addFail f with waitTally := false, state := .run }
      else if T.isCount t then
        (if T.tallyOf t = 0 then set s { c with state := .wait }
         else set (s.modTile tile (fun T => T.setTally t (T.tallyOf t - 1))) (c.waitMet (bit T.tallyL t)))
      else if monoMet (T.tallyOf t) (Desc.value d) then set s (c.waitMet (bit T.tallyL t))
      else set s { c with state := .wait }

/-- The tally boundary: register writes; ADDs, arrivals and bells; DECs; waits. Answers the status of the register write that
completes at it. -/
def State.boundary (s : State) (tile : Nat) : State × Status :=
  let T0 := s.tile tile
  let lp := (s.slice (tileDie tile)).lpActive
  let ops := T0.tops
  let T1 := ops.foldl Tile.tallyStep1 { T0 with tops := [], bellAdds := [] }
  let flipped := T0.tallyMode ^^^ T1.tallyMode
  let T2 := T0.bellAdds.foldl (fun T p => T.addTally p.1 1 (p.2 || lp)) (ops.foldl (Tile.tallyStep2 lp) T1)
  let p := ops.foldl (tallyArrive tile) (s.setTile tile T2, .ok)
  let s := p.1.modTile tile (fun T => T.ringBells lp ops)
  let s := allEngines.foldl (fun s e => ops.foldl (tallyDec tile e) s) s
  let s := s.engineWait tile flipped .mx
  let s := s.engineWait tile flipped .vx
  let s := (List.range 8).foldl (fun s n => s.chanWait tile flipped n) s
  (s.engineWait tile flipped .sc, p.2)

/-! ## Register writes -/

/-- A write to TL_TALLY[t]: stored at the next boundary (R270). -/
def State.tallyOp (s : State) (w : Src) (tile t : Nat) (v : Word) : RegRes :=
  if !s.mayWrite .slmd w tile then RegRes.now (s, .deed) else some (s.enqueue tile (.write w t v), none)

/-- A write to word `k` of TL_TALLY_MODE: performed at the next boundary (R269). -/
def State.tallyModeOp (s : State) (w : Src) (tile k : Nat) (v : Word) : RegRes :=
  if !s.mayWrite .hm w tile then RegRes.now (s, .deed) else some (s.enqueue tile (.mode w k v), none)

/-- A write to word `k` of TL_TALLY_L: W1C. -/
def State.tallyLOp (s : State) (w : Src) (tile k : Nat) (v : Word) : State × Status :=
  if !s.mayWrite .hm w tile then (s, .deed)
  else (s.modTile tile (fun T => { T with tallyL := w1c T.tallyL (BitVec.ofNat 48 (v.toNat <<< (32 * k))) }), .ok)

/-- A write to TL_SYNC_FAULT: writing 1 to VALID clears VALID and MULTI. -/
def State.syncFaultWriteOp (s : State) (w : Src) (tile : Nat) (v : Word) : State × Status :=
  if !s.mayWrite .hm w tile then (s, .deed)
  else (s.modTile tile (fun T => { T with syncFault := if bit v 16 then T.syncFault &&& ~~~ (put 16 3) else T.syncFault }), .ok)

/-- The writer may write FORCE: the manager, or the tile's household while its DBG bit is set (R281). -/
def State.mayForce (s : State) (w : Src) (tile : Nat) : Bool :=
  s.isManager w || (s.hhOf w == some (s.tile tile).hh && ((s.slice (tileDie tile)).bind (s.tile tile).hh).dbg)

/-- A write of ARRIVE = 1 without FORCE (R280): ST's arrival when it comes from the tile's own stream engine, otherwise no effect. -/
def State.bellArriveOp (s : State) (w : Src) (tile b : Nat) : RegRes :=
  if !s.mayWrite .hm w tile then RegRes.now (s, .deed)
  else match w with
    | .st t n => if t = tile then some (s.enqueue tile (.stArrive w n b), none) else RegRes.now (s, .ok)
    | _ => RegRes.now (s, .ok)

/-- A write of FORCE = 1 (R281). -/
def State.bellForceOp (s : State) (w : Src) (tile b : Nat) : RegRes :=
  if !s.mayForce w tile then RegRes.now (s, .deed) else some (s.enqueue tile (.force w b), none)

/-- A write to TL_BELL[b] (R280 to R282): rights; MASK or TALLY changed under ARRIVED by a write that neither arrives nor forces; a TALLY of
48 to 62; then ARRIVE and FORCE, which change no other field, or the fields. -/
def State.bellOp (s : State) (w : Src) (tile b : Nat) (v : Word) : RegRes :=
  let B := (s.tile tile).bell b
  let acts := bit v 16 || bit v 17
  if !(if bit v 17 then s.mayForce w tile else s.mayWrite .hm w tile) then RegRes.now (s, .deed)
  else if !acts && B.arrived ≠ 0 && (B.mask != BitVec.ofNat 4 (bits v 0 4) || B.tally != BitVec.ofNat 6 (bits v 8 6)) then RegRes.now (s, .rearmBusy)
  else if 48 ≤ bits v 8 6 && bits v 8 6 ≤ 62 then RegRes.now (s, .decerr)
  else if bit v 17 then
    (match bit v 16, w with
      | true, .st t n => if t = tile then some ((s.enqueue tile (.stArrive w n b)).enqueue tile (.force w b), none) else s.bellForceOp w tile b
      | _, _ => s.bellForceOp w tile b)
  else if bit v 16 then s.bellArriveOp w tile b
  else RegRes.now (s.modTile tile (fun T =>
    { T with bells := T.bells.set b { B with mask := BitVec.ofNat 4 (bits v 0 4), tally := BitVec.ofNat 6 (bits v 8 6) } }), .ok)

/-! ## Fences (R273 to R275) -/

/-- A register access of the scalar core through the slice matrix has not returned: a write, or the read-back of one (R273). -/
def State.regPending (s : State) (tile : Nat) : Bool :=
  s.net.any (fun p => p.kind.access.isSome && p.iss.port == 127 && p.iss.tile == tile && p.iss.master == 3)

/-- A FENCE is issued: the engine's bank writes that it waits for; SC flushes the merge buffer. -/
def State.fenceOp (s : State) (tile : Nat) (e : Engine) : State :=
  let T := s.tile tile
  let accs := (T.accs.filter (fun a => a.master == engineMaster e && a.write && !(match a.dest with | .flush _ _ => true | _ => false))).map (·.id)
  let s := s.modTile tile (fun T => T.setEngine e (.fence accs false))
  if e = .sc then s.flushBanks tile (List.range 16) else s

/-- Every write that the fence waits for has settled. -/
def State.fenceDone (s : State) (tile : Nat) (e : Engine) (accs : List Nat) : Bool :=
  let T := s.tile tile
  accs.all (fun id => (T.acc id).isNone) &&
  (e != .sc || (T.merge.isEmpty && T.narrow.isEmpty && !s.regPending tile))

end Sys2Proof.Machine
end

