-- ==== Sys2Proof/Machine/ChannelOps.lean ====
section
/-!
DEFINITION. Shared operations of the channel endpoints and of sends (spec/08_tallies_bells_channels.md R287 to R299).
-/

namespace Sys2Proof.Machine

/-! ## Endpoints -/

/-- CH_BASE is valid: the ring lies within bank 14 or 15 (R287). -/
def Endpoint.baseValid (E : Endpoint) : Bool :=
  14336 ≤ E.off.toNat && 1 ≤ E.size.toNat && E.size.toNat ≤ 16 && E.off.toNat % 1024 + E.size.toNat * 16 ≤ 1024

/-- Units of the ring. -/
def Endpoint.units (E : Endpoint) : Nat := E.size.toNat * 16

/-- Units held by messages and pads. -/
def Endpoint.occ (E : Endpoint) : Nat := (E.recs.map (·.units)).sum

/-- The head message, once all of it has been written. -/
def Endpoint.head? (E : Endpoint) : Option MsgRec := (E.recs.find? (fun r => !r.pad)).filter (fun r => r.whole)

/-- CH_HEAD. -/
def Endpoint.headWord (E : Endpoint) : Word :=
  match E.head? with
  | none => 0
  | some r => put 0 r.units ||| put 8 r.pos ||| put 16 r.tile ||| put 27 r.master ||| flag 30 r.l ||| flag 31 true

/-- CH_OCC. -/
def Endpoint.occWord (E : Endpoint) : Word := put 0 E.occ ||| put 16 E.recs.length ||| put 24 E.tail

/-- Where a message of `u` units is placed: the units of a pad before the wrap, if any, and its first unit (R293). -/
def Endpoint.place (E : Endpoint) (u : Nat) : Option (Option Nat × Nat) :=
  let e := E.units - E.tail
  let f := E.units - E.occ
  if u ≤ e && u ≤ f && E.recs.length < 64 then some (none, E.tail)
  else if e < u && u + e ≤ f && E.recs.length ≤ 62 then some (some e, 0)
  else none

/-- The message takes its place in the queue, behind its pad; its pieces are still to be written (R293, R295). -/
def Endpoint.enqueue (E : Endpoint) (u pos : Nat) (pad : Option Nat) (tile master : Nat) : Endpoint :=
  let m : MsgRec := { pad := false, pos := pos, units := u, tile := tile, master := master, l := false, whole := false }
  let p : List MsgRec := match pad with
    | some e => [{ pad := true, pos := E.tail, units := e, tile := 0, master := 0, l := false }]
    | none => []
  { E with recs := E.recs ++ p ++ [m], tail := (pos + u) % E.units }

/-- POP frees the head message and the pads around it; without a message it has no effect (R298). -/
def Endpoint.pop (E : Endpoint) : Endpoint :=
  if E.head?.isSome then { E with recs := ((E.recs.dropWhile (·.pad)).drop 1).dropWhile (·.pad) } else E

/-- An engine's RECV is met while the endpoint holds a message: it returns the head and removes nothing (R297). -/
def State.recvMeets (s : State) (tile e : Nat) (g : Engine) : State :=
  let T := s.tile tile
  match T.engine g, (T.ep e).head? with
  | .recv k, some r => if k = e then s.endOp tile g .ok r.l (T.ep e).headWord.toNat else s
  | _, _ => s

/-- The messages whose pieces still arrive for a closing endpoint are refused with CLOSED and counted (R292, R299). -/
def Tile.closeMsgs (T : Tile) (e : Nat) : Tile :=
  let hit (m : MsgIn) : Bool := m.endpoint == e && m.status == .ok && !m.full
  let T := (T.msgs.filter hit).foldl (fun (T : Tile) _ => T.setEp e { T.ep e with drop := satInc (T.ep e).drop }) T
  { T with msgs := updWhere hit (fun m => { m with status := .closed }) T.msgs }

/-- The endpoint closes: its queue is discarded, messages still arriving are refused and waiting RECVs end with ABORTED (R299). -/
def State.closeEp (s : State) (tile e : Nat) : State :=
  let s := s.modTile tile (fun T => (T.setEp e { T.ep e with isOpen := false, recs := [] }).closeMsgs e)
  allEngines.foldl (fun s g => if (s.tile tile).engine g == .recv e then s.endOp tile g .aborted false 0 else s) s

/-- Every open endpoint with the property closes. -/
def State.closeEps (s : State) (tile : Nat) (p : Endpoint → Bool) : State :=
  (List.range 16).foldl (fun s e => if ((s.tile tile).ep e).isOpen && p ((s.tile tile).ep e) then s.closeEp tile e else s) s

/-- A write to CH_CTRL (R287, R288, R298, R299). -/
def State.chCtrlOp (s : State) (w : Src) (tile e : Nat) (v : Word) : State × Status :=
  let E := (s.tile tile).ep e
  let h : BitVec 4 := BitVec.ofNat 4 (bits v 4 4)
  if !s.mayWrite .hm w tile then (s, .deed)
  else if E.isOpen then
    if E.hh ≠ h then (s, .rearmBusy)
    else if !bit v 0 then (s.closeEp tile e, .ok)
    else if bit v 1 then (s.modTile tile (fun T => T.setEp e (T.ep e).pop), .ok)
    else (s, .ok)
  else if bit v 0 then
    (if E.baseValid then (s.modTile tile (fun T => T.setEp e { T.ep e with isOpen := true, hh := h, recs := [], tail := 0 }), .ok)
     else (s, .size))
  else (s.modTile tile (fun T => T.setEp e { T.ep e with hh := h }), .ok)

/-- A write to CH_BASE (R288). -/
def State.chBaseOp (s : State) (w : Src) (tile e : Nat) (v : Word) : State × Status :=
  if !s.mayWrite .hm w tile then (s, .deed)
  else if ((s.tile tile).ep e).isOpen then (s, .rearmBusy)
  else (s.modTile tile (fun T => T.setEp e { T.ep e with off := BitVec.ofNat 14 (bits v 6 14), size := BitVec.ofNat 5 (bits v 20 5) }), .ok)

/-- A write to CH_DROP. -/
def State.chDropOp (s : State) (w : Src) (tile e : Nat) (v : Word) : State × Status :=
  if !s.mayWrite .hm w tile then (s, .deed)
  else (s.modTile tile (fun T => T.setEp e { T.ep e with drop := v }), .ok)

/-! ## Accesses of the stream engine's local side -/

/-- A request of a master other than NW reaches its bank: quarantine, alignment, then deed (spec/02_banks_deeds.md R45;
spec/04_fabric_arbitration.md R152). -/
def State.reach (s : State) (tile : Nat) (a : Access) : State :=
  if (s.tile tile).quarantined a.master then s.deliver tile a .wdog
  else if !alignOk a.master a.view a.off a.size a.write then s.deliver tile a .align
  else s.offer tile a

/-- A local-side read of `n` units of 64 B in bank view. -/
def State.stRead (s : State) (tile off n qos : Nat) (iss : Issuer) (dest : Dest) : State :=
  let a := s.newAccess .st .bank false off 64 n qos [] iss dest .waiting
  s.takeId.reach tile a

/-- Each register that the scalar core has written through the slice matrix is read back for its FENCE (R273). -/
def State.readBack (s : State) (tile : Nat) : State :=
  let s' := s.modTile tile (fun T => { T with regSent := [] })
  (s.tile tile).regSent.foldl (fun s a =>
    s.launch (s.newPacket (s.issuer (.sc tile)) .regBack 6 (.regs (if space a = 2 then tileDie (addrTile a) else addrDie a)) a 0 4 false [])) s'

/-- A send in progress: its message has set out and its status has not returned. -/
def SendState.out (q : SendState) : Bool := q.issued && q.status.isNone

/-- A multicast descriptor is in hand between its first flit and the end of its flits (spec/05_stream_engine.md R158). -/
def Channel.flitting (c : Channel) : Bool := c.phase == .flit || (c.state == .run && (c.snap.map Desc.op) == some 4 && 0 < c.wunit && c.phase != .finished)

/-- The packet counts toward the 16 remote requests of a stream engine by itself (spec/05_stream_engine.md R158;
spec/06_stream_transforms.md R203, R222; spec/07_external_bridges.md R230). -/
def Packet.countsAt (p : Packet) (tile : Nat) : Bool :=
  p.iss.tile == tile && p.iss.port == 127 && p.iss.master == 4 && !p.abandoned &&
  (match p.kind with | .lookup _ | .index _ | .mcast _ => false | _ => true)

/-- Remote requests outstanding on the stream engine's remote side; a multicast in progress counts as one, and so does a send
(spec/05_stream_engine.md R158; R291). -/
def State.remoteBusy (s : State) (tile : Nat) : Nat :=
  (s.net.filter (fun p => p.countsAt tile)).length + ((s.tile tile).chans.filter (fun p => p.2.flitting)).length +
  ((s.tile tile).sends.filter SendState.out).length

/-! ## Sends (R290, R291) -/

/-- The issuer of a message at the target's NW port: global tile, master code, channel 0 (R291). -/
def State.sender (s : State) (tile : Nat) (e : Engine) : Issuer :=
  { die := tileDie tile, tile := tile, master := masterCode (engineMaster e), chan := 0, hh := (s.tile tile).hh, port := 127 }

def Tile.send? (T : Tile) (e : Engine) : Option SendState := T.sends.find? (fun q => q.e == e)
def Tile.modSend (T : Tile) (e : Engine) (f : SendState → SendState) : Tile := { T with sends := updWhere (fun q => q.e == e) f T.sends }
def Tile.dropSend (T : Tile) (e : Engine) : Tile := { T with sends := T.sends.filter (fun q => q.e != e) }

/-- A SEND takes effect: it ends with ALIGN or SIZE, or its units are to be read (R290, R291). -/
def State.sendOp (s : State) (tile : Nat) (e : Engine) (src u target ep qos : Nat) : State :=
  if src % 64 ≠ 0 then s.endOp tile e .align false 0
  else if u = 0 ∨ 64 < u then s.endOp tile e .size false 0
  else
    let q : SendState :=
      { e := e, src := src, units := u, target := target, endpoint := ep, qos := qos, rows := [], asked := false, issued := false,
        full := false, status := none }
    s.modTile tile (fun T => ({ T with sends := T.sends ++ [q] } : Tile).awake)

/-- The reads of a send, in local-side bank-view reads; offsets are those of the tile's 1 MiB (R291). -/
def State.askSend (s : State) (tile : Nat) (q : SendState) : State :=
  (List.range (pieces q.units)).foldl (fun s k =>
      s.stRead tile ((q.src + 256 * k) % 2 ^ 20) (min 4 (q.units - 4 * k)) q.qos (s.issuer (.st tile 0)) (.sendRead q.e (4 * k)))
    (s.modTile tile (fun T => T.modSend q.e (fun q => { q with asked := true })))

/-- The rows that a send has read, in order. -/
def SendState.data (q : SendState) : List RowData := (List.range q.units).map (fun k => Tbl.get 0 q.rows k)

/-- A message sets out: one write of up to 256 B for each four units (R291). -/
def State.launchSend (s : State) (tile : Nat) (q : SendState) : State :=
  (List.range (pieces q.units)).foldl (fun s k =>
    let rows := (q.data.drop (4 * k)).take 4
    let p := s.newPacket (s.sender tile q.e) (.message q.endpoint q.units k) q.qos (.tile q.target)
      (BitVec.ofNat 48 (tileMemAddr q.target 0)) 0 (64 * rows.length) true rows
    s.launch { p with l := p.l || q.l, demoted := q.demoted }) s

/-- Sends that have read all their units are issued while the remote requests of the tile, each send in progress counting as one, are at most
16 (R291); a tile that is not present ends the send with DECERR (R292 check 1). -/
def State.issueSends (s : State) (tile : Nat) : State :=
  (s.tile tile).sends.foldl (fun s q =>
    if q.issued || q.status.isSome || q.rows.length < q.units then s
    else if !s.hasTile q.target then s.modTile tile (fun T => T.modSend q.e (fun q => { q with issued := true, status := some .decerr }))
    else if 16 < s.remoteBusy tile + 1 then s
    else (s.modTile tile (fun T => T.modSend q.e (fun q => { q with issued := true }))).launchSend tile q) s

/-- A piece of an engine's message, in transit or back. -/
def Packet.isPieceOf (p : Packet) (tile : Nat) (e : Engine) : Bool :=
  p.iss.tile == tile && p.iss.port == 127 && p.iss.master == masterCode (engineMaster e) && !p.abandoned &&
    (match p.kind with | .message _ _ _ => true | _ => false)

/-- The pieces of an engine's message, in transit or back. -/
def State.sendPkts (s : State) (tile : Nat) (e : Engine) : List Packet := s.net.filter (fun p => p.isPieceOf tile e)

/-- The status of a message returns with the last of its pieces: a *full* answer leaves the send awaiting space, any other ends it (R290,
R292, R294). -/
def State.sendStatusOp (s : State) (tile : Nat) (e : Engine) : State :=
  let T := s.tile tile
  match T.send? e with
  | none => s
  | some q =>
    if T.accs.any (fun a => match a.dest with | .sendRead g _ => g == e | _ => false) then s
    else match q.status with
      | some st => (s.modTile tile (fun T => T.dropSend e)).endOp tile e st (q.l || s.lapsed tile) 0
      | none =>
        let l := s.sendPkts tile e
        if l.isEmpty || l.any (fun p => p.loc != .home) then s
        else
          let gone : State := { s with net := s.net.filter (fun p => !p.isPieceOf tile e) }
          if l.any (·.full) then
            gone.modTile tile (fun T =>
              (T.modSend e (fun q => { q with full := true, since := s.paceNat tile })).setEngine e (.sendFull q.endpoint q.target))
          else
            let st := ((l.filterMap (·.resp)).find? (fun st => st != .ok)).getD .ok
            (gone.modTile tile (fun T => T.dropSend e)).endOp tile e st (l.any (·.l) || s.lapsed tile) (if l.any (·.demoted) then 1 else 0)

/-- 64 paces of the sender's meter after a *full* answer the message's check is repeated (R294). -/
def State.sendRetryOp (s : State) (tile : Nat) (e : Engine) : State :=
  match (s.tile tile).send? e with
  | none => s
  | some q => if q.full && (s.sendPkts tile e).isEmpty && s.paceOver tile q.since 64 then s.launchSend tile q else s

/-! ## A message at its endpoint (R292, R293) -/

/-- What the checks of R292 give. -/
inductive MsgCheck where
  | refuse (st : Status) | full
  | place (pad : Option Nat) (pos : Nat)
  deriving DecidableEq, Repr

/-- The checks of a message in their order; `ready` tells whether the slice is READY. Check 7 is made by each of its writes. -/
def Tile.checkMsg (T : Tile) (ready : Bool) (e u hh : Nat) : MsgCheck :=
  let E := T.ep e
  if !ready then .refuse .decerr
  else if T.quarantined .nw then .refuse .wdog
  else if !E.isOpen || T.reassign.isSome then .refuse .closed
  else if E.hh.toNat ≠ hh then .refuse .gate
  else if E.units < u then .refuse .size
  else match E.place u with
    | none => .full
    | some (pad, pos) => .place pad pos

/-- A response sets out from a tile. -/
def State.respondAt (s : State) (tile id : Nat) (st : Status) (data : List RowData) : State :=
  s.modPkt id (fun p => p.respond tile s.nextId st data (s.slice (tileDie tile)).lpActive false)

/-- A piece of an admitted message waits at the NW port's arbiter to be written into the ring (R289, R291). -/
def State.pieceWrite (s : State) (tile : Nat) (p : Packet) (m : MsgIn) (k : Nat) : State :=
  let off := 64 * (((s.tile tile).ep m.endpoint).off.toNat + m.pos + 4 * k)
  let a := { s.newAccess .nw .bank true off 64 (p.size / 64) p.qosNow p.data p.iss (.packet p.id) .atPort with
             demoted := p.demoted, l := p.l, since := s.paceNat tile }
  (s.takeId.modTile tile (fun T => { T with accs := T.accs ++ [a] })).modPkt p.id (fun p => { p with loc := .served })

/-- A piece of a message is answered without being written. -/
def State.pieceRefused (s : State) (tile : Nat) (p : Packet) (m : MsgIn) (st : Status) : State :=
  ((s.modTile tile (fun T => T.pieceEnded m st false)).respondAt tile p.id (m.outcome st) []).modPkt p.id (fun p => { p with full := m.full })

/-- A message that an earlier one of the same engine has left unfinished, some piece of it being lost, is given up. -/
def Tile.forgetMsg (T : Tile) (i : Issuer) : Tile :=
  match T.msgOf i with
  | none => T
  | some m =>
    let T := if m.status = .ok && !m.full then T.setEp m.endpoint ((T.ep m.endpoint).discard m.pos) else T
    { T with msgs := T.msgs.filter (fun k => k.iss != i) }

/-- A piece of a message reaches its endpoint. At the first the message is checked: refused, answered full, or given its place in the ring
(R292, R293); the others share its outcome. A piece whose message is not known, the first having been lost, ends CRC (notes/assumptions/20.md). -/
def State.messageOp (s : State) (tile : Nat) (p : Packet) (e u k : Nat) : State :=
  let lp := s.lapsed tile
  let enter (s : State) (st : Status) (full : Bool) (pos : Nat) : State × MsgIn :=
    let m : MsgIn := { iss := p.iss, endpoint := e, pos := pos, left := pieces u, status := st, full := full, l := p.l || lp }
    (s.modTile tile (fun T => { T with msgs := T.msgs ++ [m] }), m)
  if k = 0 then
    let s := s.modTile tile (fun T => T.forgetMsg p.iss)
    match (s.tile tile).checkMsg (s.ready (tileDie tile)) e u p.iss.hh with
    | .full => let r := enter s .ok true 0; r.1.pieceRefused tile p r.2 .ok
    | .refuse st =>
      let s := if st = .closed then s.modTile tile (fun T => T.setEp e { T.ep e with drop := satInc (T.ep e).drop }) else s
      let r := enter s st false 0
      r.1.pieceRefused tile p r.2 st
    | .place pad pos =>
      let s := s.modTile tile (fun T => T.setEp e ((T.ep e).enqueue u pos pad p.iss.tile p.iss.master))
      let r := enter s .ok false pos
      r.1.pieceWrite tile p r.2 0
  else match (s.tile tile).msgOf p.iss with
    | none => s.respondAt tile p.id .crc []
    | some m =>
      if m.status ≠ .ok ∨ m.full then s.pieceRefused tile p m .ok
      else if !s.ready (tileDie tile) then s.pieceRefused tile p m .decerr
      else if (s.tile tile).quarantined .nw then s.pieceRefused tile p m .wdog
      else s.pieceWrite tile p m k

end Sys2Proof.Machine
end

