-- ==== Sys2Proof/Machine/GateOps.lean ====
section
/-!
DEFINITION. Shared operations of the gates and of requests at the NW port (spec/07_external_bridges.md R253 to R261;
spec/04_fabric_arbitration.md R130, R152).
-/

namespace Sys2Proof.Machine

def Tile.gate (T : Tile) (g : Nat) : Gate := Tbl.get {} T.gates g
def Tile.setGate (T : Tile) (g : Nat) (G : Gate) : Tile := { T with gates := T.gates.set g G }

/-- The right that a request needs (R255; spec/05_stream_engine.md R187; spec/06_stream_transforms.md R224). -/
inductive Need where
  | r | w | rOrW
  deriving DecidableEq, Repr

def Packet.need (p : Packet) : Need :=
  match p.kind with
  | .readback => .rOrW
  | .probe _ _ | .slotReadback _ _ _ => .w
  | .rtally t => if t = 63 then .rOrW else .w
  | _ => if p.write then .w else .r

def Gate.grants (G : Gate) (n : Need) : Bool :=
  match n with | .r => G.r | .w => G.w | .rOrW => G.r || G.w

/-- A 64 B piece, by its bank-view unit, lies in the gate's range. -/
def Gate.covers (G : Gate) (u : Nat) : Bool := G.base.toNat ≤ u && u < G.base.toNat + G.size.toNat

/-- The pieces of a burst as bank-view units of 64 B (R254). -/
def burstPieces (v : View) (bstart blen : Nat) : List Nat :=
  (List.range blen).map (fun k => viewBank v (64 * (bstart + k)) * 1024 + viewRow v (64 * (bstart + k)))

/-- The lowest-numbered open gate that admits a piece of a household. -/
def Tile.gateFor (T : Tile) (h : Nat) (n : Need) (u : Nat) : Option Nat :=
  (List.range 8).find? (fun g => (T.gate g).isOpen && (T.gate g).hh.toNat == h && (T.gate g).grants n && (T.gate g).covers u)

/-- A gate, closing or closed, that would have granted W to the household on the piece (R260). -/
def Tile.lateGate (T : Tile) (h u : Nat) : Option Nat :=
  (List.range 8).find? (fun g => !(T.gate g).isOpen && (T.gate g).hh.toNat == h && (T.gate g).w && (T.gate g).covers u)

/-- The gates that let in every piece of a burst; none if some piece finds no gate. -/
def Tile.gatesFor (T : Tile) (h : Nat) (n : Need) : List Nat → Option (List Nat)
  | [] => some []
  | u :: r =>
    match T.gateFor h n u, T.gatesFor h n r with
    | some g, some l => some (if l.contains g then l else g :: l)
    | _, _ => none

/-- A packet's view. -/
def Packet.view (p : Packet) : View := if p.viewq then .quad else .bank

/-- A burst enters its gates with `left` units to serve: it counts once in each (R254). -/
def Tile.enterGates (T : Tile) (p : Packet) (gs : List Nat) (left : Nat) : Tile :=
  if left = 0 then T
  else
    let T := gs.foldl (fun T g => T.setGate g { T.gate g with bursts := (T.gate g).bursts + 1 }) T
    { T with bursts := T.bursts ++ [{ iss := p.iss, bstart := p.bstart, blen := p.blen, write := p.write, gates := gs, due := p.blen - p.size / 64, left := left }] }

/-- A refused burst is remembered until its last request, so that the rest takes the same decision. -/
def Tile.refuseBurst (T : Tile) (p : Packet) : Tile :=
  let n := p.blen - p.size / 64
  if n = 0 then T
  else { T with bursts := T.bursts ++ [{ iss := p.iss, bstart := p.bstart, blen := p.blen, write := p.write, gates := [], due := n, left := n, cut := true }] }

/-- A refused write burst that is late is counted, and recorded at most once per 4096 paces (R260). -/
def State.lateWrite (s : State) (tile : Nat) (p : Packet) : State :=
  let T := s.tile tile
  let l := (burstPieces p.view p.bstart p.blen).map (fun u => T.lateGate p.iss.hh u)
  if !p.write || !(l.all Option.isSome) then s
  else
    let s := s.modTile tile (fun T => { T with late := satInc T.late })
    if T.logLate && s.look.paceDue tile T.lastLate 4096 then
      let s := s.record (tileDie tile) 22 tile
        (detail [(0, ((l.headD none).getD 0)), (1, p.iss.hh), (2, p.bstart), (4, sourceWord p.iss)])
      s.modTile tile (fun T => { T with lastLate := some (s.paceNat tile) })
    else s

/-- The first request of a burst has arrived: of an earlier burst with the same name, whose other requests have not come and will not, what
has arrived is still served (R254, R258). -/
def Tile.cutShort (T : Tile) (p : Packet) : Tile :=
  let mine (b : Burst) : Bool := b.isOf p.iss p.bstart p.write && 0 < b.due
  let gone := T.bursts.filter (fun b => mine b && b.left ≤ b.due)
  let T := { T with bursts := T.bursts.flatMap (fun b =>
    if !mine b then [b] else if b.left ≤ b.due then [] else [{ b with due := 0, left := b.left - b.due }]) }
  gone.foldl (fun T b => T.leaveGates b.gates) T

/-- A slot's probe or read-back is one request, whatever the range that it passes the gates for (spec/05_stream_engine.md R187). -/
def PKind.alone : PKind → Bool
  | .probe _ _ | .slotReadback _ _ _ => true
  | _ => false

/-- The burst that a request belongs to, once decided, while requests of it are still to arrive. -/
def Tile.burstOf (T : Tile) (p : Packet) : Option Burst := if p.kind.alone then none else T.bursts.find? (fun b => b.isOf p.iss p.bstart p.write && 0 < b.due)

/-- A request of a decided burst has arrived; where it is refused, its units are served no more. -/
def Tile.burstArrives (T : Tile) (p : Packet) (b : Burst) (refused : Bool) : Tile :=
  let n := p.size / 64
  let gone := refused && b.left ≤ n
  let f (b : Burst) : List Burst := if gone then [] else [{ b with due := b.due - n, left := if refused then b.left - n else b.left }]
  let T := { T with bursts := changeFirst (fun b => b.isOf p.iss p.bstart p.write && 0 < b.due) f T.bursts }
  if gone then T.leaveGates b.gates else T

/-- The gates decide a request: its burst's decision, taken at the burst's first request (R254). `bad` says that it is to be refused
whatever the gates decide. -/
def State.gateCheck (s : State) (tile : Nat) (p : Packet) (bad : Bool) : State × Bool :=
  let T := s.tile tile
  match T.burstOf p with
  | some b => (s.modTile tile (fun T => T.burstArrives p b (b.cut || bad)), !b.cut)
  | none =>
    match T.gatesFor p.iss.hh p.need (burstPieces p.view p.bstart p.blen) with
    | some gs =>
      let q : Packet := if p.kind.alone then { p with blen := p.size / 64 } else p
      (s.modTile tile (fun T => T.enterGates q gs (q.blen - if bad then p.size / 64 else 0)), true)
    | none => ((s.lateWrite tile p).modTile tile (fun T => if p.kind.alone then T else T.refuseBurst p), false)

/-- An answer from the NW port without an access. A doorstep piece ends at the host port of its home slice. -/
def State.refusePkt (s : State) (tile : Nat) (p : Packet) (st : Status) : State :=
  match p.kind with
  | .doorstep k => (s.pieceEnd p k st p.demoted).dropPkt p.id
  | _ => s.respondAt tile p.id st []

/-- One requester reaches one NW port in the order of issue (spec/05_stream_engine.md R158). -/
def State.nwFirst (s : State) (p : Packet) : Bool :=
  !(s.net.any (fun q => q.ord < p.ord && q.target == p.target && p.sameTxn q && q.resp.isNone && q.loc != .served && q.loc != .lost))

/-- A request of a decided burst is refused before the gates are asked: its units are served no more (R254, R258). -/
def State.burstRefused (s : State) (tile : Nat) (p : Packet) : State :=
  match (s.tile tile).burstOf p with
  | some b => s.modTile tile (fun T => T.burstArrives p b true)
  | none => s

/-- The banks have stopped for a reassignment (spec/08_tallies_bells_channels.md R301 step 3). -/
def Tile.reassignStopped (T : Tile) : Bool := match T.reassign with | some r => r.stopped | none => false

/-- An access for a remote request, which waits at the NW port's arbiter (spec/04_fabric_arbitration.md R130). -/
def State.nwAccess (s : State) (tile : Nat) (p : Packet) : State :=
  let a := { s.newAccess .nw p.view p.write p.place 64 (p.size / 64) p.qosNow p.data p.iss (.packet p.id) .atPort with
             demoted := p.demoted, l := p.l, since := s.paceNat tile }
  (s.takeId.modTile tile (fun T => { T with accs := T.accs ++ [a] })).modPkt p.id (fun p => { p with loc := .served })

/-- A remote request at the NW port: quarantine, then the gates, then an access that waits at the port's arbiter (R256). A misaligned one has
passed the gates when it is refused (spec/02_banks_deeds.md R44, R45). -/
def State.nwRequestOp (s : State) (tile : Nat) (p : Packet) : State :=
  let s := if p.place / 64 = p.bstart then s.modTile tile (fun T => T.cutShort p) else s
  let T := s.tile tile
  if !s.ready (tileDie tile) then (s.burstRefused tile p).refusePkt tile p .decerr
  else if T.quarantined .nw then (s.burstRefused tile p).refusePkt tile p .wdog
  else if T.reassignStopped then (s.burstRefused tile p).refusePkt tile p .gate
  else
    let bad := !alignOk .nw p.view p.place p.size p.write
    let c := s.gateCheck tile p bad
    if !c.2 then c.1.refusePkt tile p .gate
    else if bad then c.1.refusePkt tile p .align
    else c.1.nwAccess tile p

/-- A write to word `k` of TL_GATE[g] (R257, R258). -/
def State.gateOp (s : State) (w : Src) (tile g k : Nat) (v : Word) : State × Status :=
  let G := (s.tile tile).gate g
  let busy := G.isOpen || G.closing
  let set (H : Gate) : State × Status := (s.modTile tile (fun T => T.setGate g H), .ok)
  if !s.mayWrite .slgm w tile then (s, .deed)
  else match k with
    | 0 =>
      let b : BitVec 14 := BitVec.ofNat 14 (bits v 6 14)
      if busy && b != G.base then (s, .rearmBusy) else set { G with base := b }
    | 1 =>
      let z : BitVec 15 := BitVec.ofNat 15 (bits v 6 15)
      if busy && z != G.size then (s, .rearmBusy) else set { G with size := z }
    | 2 =>
      let H := { G with r := bit v 0, w := bit v 1, hh := BitVec.ofNat 4 (bits v 4 4) }
      if busy then
        if H ≠ G then (s, .rearmBusy)
        else if G.closing then (if bit v 8 then (s, .rearmBusy) else (s, .ok))
        else if bit v 8 then (s, .ok)
        else if G.bursts = 0 then set { G with isOpen := false, closedDone := true }
        else set { G with isOpen := false, closing := true, since := s.paceNat tile }
      else if !bit v 8 then set H
      else if 16384 < G.base.toNat + G.size.toNat then (s, .size)
      else set { H with isOpen := true, closedDone := false, forced := false }
    | _ => (s, .ok)

/-- The last admitted burst of a closing gate has drained (R258). -/
def State.gateDrained (s : State) (tile g : Nat) : State :=
  let G := (s.tile tile).gate g
  if G.closing && G.bursts == 0 then s.modTile tile (fun T => T.setGate g { G with closing := false, closedDone := true }) else s

/-- A gate whose drain has not finished within TL_WDOG paces of its close is closed by force: later requests of its bursts are refused (R259). -/
def State.gateForced (s : State) (tile g : Nat) : State :=
  let G := (s.tile tile).gate g
  if !(G.closing && s.paceOver tile G.since (s.tile tile).wdog.toNat) then s
  else s.modTile tile (fun T =>
    { T.setGate g { G with closing := false, closedDone := true, forced := true } with
      bursts := T.bursts.map (fun b => if b.gates.contains g then { b with cut := true } else b) })

/-- A write to TL_LATE. -/
def State.lateOp (s : State) (w : Src) (tile : Nat) (v : Word) : State × Status :=
  if !s.mayWrite .hm w tile then (s, .deed) else (s.modTile tile (fun T => { T with late := v }), .ok)

end Sys2Proof.Machine
end

