-- ==== Sys2Proof/Machine/StreamOps.lean ====
section
/-!
DEFINITION. Shared operations of the stream engine: rings, fetches and checks of descriptors, bursts, window lookups, slot rings,
completion, halts and the channel commands (spec/05_stream_engine.md R154 to R197, R405; spec/06_stream_transforms.md;
spec/07_external_bridges.md R228 to R233).
-/

namespace Sys2Proof.Machine

/-! ## Rings (R159 to R161) -/

def Channel.size (c : Channel) : Nat := bits c.baseHi 16 4
def Channel.base (c : Channel) : Addr := BitVec.ofNat 48 (bits c.baseHi 0 16 * 2 ^ 32 + bits c.baseLo 6 26 * 64)
def Channel.entries (c : Channel) : Nat := 2 ^ c.size

/-- ST_DRING_BASE names a local ring of the tile. -/
def Channel.localRing (c : Channel) (tile : Nat) : Bool :=
  space c.base == 1 && addrBitsZero c.base && addrTile c.base == tile && 14 ≤ viewBank .bank (addrOff c.base) &&
  2 ≤ c.size && c.size ≤ 10 && c.base.toNat % (64 * c.entries) == 0

/-- ST_DRING_BASE names a household ring. -/
def Channel.hhRing (c : Channel) : Bool :=
  space c.base == 0 && 2 ≤ c.size && c.size ≤ 12 && c.base.toNat % (64 * c.entries) == 0

/-- The fabric address of the entry that a counter names. -/
def Channel.entryAddr (c : Channel) (k : BitVec 16) : Addr := c.base + BitVec.ofNat 48 (64 * (k.toNat % c.entries))

/-! ## Completion records are issued (spec/09_households.md R325 to R329) -/

def Slice.cring (S : Slice) (h : Nat) : CRing := Tbl.get {} S.crings h
def Slice.setCring (S : Slice) (h : Nat) (R : CRing) : Slice := { S with crings := S.crings.set h R }

/-- Entries of the ring that are free; none after a failed write until RETRY (R329). -/
def CRing.room (R : CRing) : Nat := if R.err then 0 else 2 ^ R.size.toNat - (R.tail - R.head).toNat

/-- Records that have a place of the ring as it stands: the one being written, or the one kept for RETRY. -/
def CRing.placed (R : CRing) : Nat := if R.flight.isSome || R.kept.isSome then 1 else 0

/-- The slice can take one more record: room in the ring, or one of the 8 places of the hold. -/
def CRing.takes (R : CRing) : Bool := R.hold.length + R.due.length < (R.room - R.placed) + 8

/-- A channel's record: PACE is read as it is issued (R327). -/
def State.recordOf (s : State) (tile n : Nat) (idx tag : BitVec 16) (st : Status) (bytes : Nat) (faddr : Addr) (fdir : Nat) : CRec where
  tag := tag
  idx := idx
  status := st
  l := (s.chan tile n).l || (s.slice (tileDie tile)).lpActive
  demoted := (s.chan tile n).demoted
  chan := n
  tile := tile
  bytes := min bytes (2 ^ 48 - 1)
  pace := s.look.pace tile
  faddr := faddr
  fdir := fdir

/-! ## Index blocks (spec/06_stream_transforms.md R203) -/

/-- The block holds table entry `k` of a channel. -/
def IndexBlock.holds (b : IndexBlock) (n k : Nat) : Bool := b.chan == n && b.first ≤ k && k < b.first + 16 * b.count

/-- The value of a table entry, once its block is there. -/
def Tile.entry (T : Tile) (n k : Nat) : Option Nat :=
  (T.blocks.find? (fun b => b.ready && b.holds n k)).map (fun b => rowWord (Tbl.get 0 b.rows ((k - b.first) / 16)) ((k - b.first) % 16))

def Tile.dropBlocks (T : Tile) (n : Nat) : Tile :=
  { T with blocks := T.blocks.filter (fun b => b.chan != n), idxWant := T.idxWant.filter (fun w => w.1 != n) }

/-- A read of the channel's index table has not been taken back. -/
def Tile.indexPending (T : Tile) (n : Nat) : Bool := T.blocks.any (fun b => b.chan == n && b.need != 0)

namespace Desc

/-- The null index (R198). -/
def nullIndex : Nat := 0xFFFFFFFF

def isNull (d : RowData) (v : Nat) : Bool := indexed d && v == nullIndex

/-- First entry and rows of the block that holds entry `k`: a 256 B-aligned range trimmed to the table. -/
def blockOf (d : RowData) (k : Nat) : Nat × Nat :=
  let lo := max (index d) ((index d + 4 * k) / 256 * 256)
  let hi := min (index d + 4 * n0 d) ((index d + 4 * k) / 256 * 256 + 256)
  ((lo - index d) / 4, (hi - lo + 63) / 64)

/-- Bytes of the block of entry `k` that belong to the table: nothing beyond the table is read (spec/06_stream_transforms.md R203). -/
def blockBytes (d : RowData) (k : Nat) : Nat :=
  let lo := max (index d) ((index d + 4 * k) / 256 * 256)
  min (index d + 4 * n0 d) ((index d + 4 * k) / 256 * 256 + 256) - lo

/-! ## Addresses and bursts (R155, R172, R183; spec/06_stream_transforms.md R199 to R201, R209) -/

/-- Source address of the `u`-th 64 B unit of the source walk, with index value `v`. -/
def srcAddr (d : RowData) (v u : Nat) : Addr :=
  let k := u / srcUnits d
  BitVec.ofNat 48 ((if op d = 2 then src d + v * elem d else srcElem d (srcSize d) k) + 64 * (u % srcUnits d))

/-- Destination address of the `u`-th 64 B unit of the output. -/
def dstAddr (d : RowData) (v u : Nat) : Addr :=
  let k := u / dstUnits d
  if ring d then BitVec.ofNat 48 (ringByte d (64 * u))
  else BitVec.ofNat 48 ((if op d = 3 then dst d + v * elem d else dstElem d (dstSize d) k) + 64 * (u % dstUnits d))

/-- A side of the descriptor moves in requests of 256 B: tile memory under VIEWQ (R170). -/
def unitOf (d : RowData) (a : Nat) : Nat := if a / 2 ^ 45 = 1 && viewq d then 256 else 64

/-- 64 B units up to the next 4 KiB boundary. -/
def cut (a : Addr) : Nat := (4096 - a.toNat % 4096) / 64

/-- Units up to the end of the slot. -/
def slotRest (d : RowData) (u : Nat) : Nat := if ring d then (slotSize d - 64 * u % slotSize d) / 64 else totalUnits d

/-- Units of the write burst at output unit `u`. -/
def writeLen (d : RowData) (v u : Nat) : Nat :=
  min (min 16 (dstUnits d - u % dstUnits d)) (min (cut (dstAddr d v u)) (slotRest d u))

/-- `m` units made up to whole requests of 256 B where a side moves in such requests, within the element (R155, R174; notes/assumptions/87.md). -/
def wholeUnits (d : RowData) (u m : Nat) : Nat :=
  if (readsSrc d && unitOf d (src d) == 256) || unitOf d (dst d) == 256 then min ((m + 3) / 4 * 4) (dstUnits d - u % dstUnits d) else m

/-- Units of output that the operation produces at once: a burst, cut where its source or its destination is cut; for MULTICAST a flit, for
CONVERT the rest of an element, for a null element of SCATTER the rest of the element. -/
def chunk (d : RowData) (v u : Nat) : Nat :=
  if op d = 4 then min 4 (totalUnits d - u)
  else if op d = 5 ∨ (op d = 3 ∧ isNull d v) then dstUnits d - u % dstUnits d
  else if op d = 6 ∨ isNull d v then writeLen d v u
  else wholeUnits d u (min (writeLen d v u) (cut (srcAddr d v u)))

/-- Source units [lo, hi) that the chunk at output unit `u` needs. -/
def srcRange (d : RowData) (v u : Nat) : Nat × Nat :=
  if op d = 6 ∨ isNull d v then (0, 0)
  else if op d = 5 then (u / dstUnits d * srcUnits d, (u / dstUnits d + 1) * srcUnits d)
  else (u, u + chunk d v u)

/-- The unit that carries the ⌈B / 2⌉-th byte of the output (R180). -/
def halfUnit (d : RowData) : Nat := (totalUnits d - 1) / 2

/-- The position of unit `u` of the source walk, or of the output (R190, ST_POS). -/
def posOf (d : RowData) (source : Bool) (u : Nat) : Pos :=
  let eu := if source then srcUnits d else dstUnits d
  let u := min u (elems d * eu - 1)
  let k := u / eu
  let out := if source then k * dstUnits d + (if op d = 5 then 0 else u % eu) else u
  { i0 := i0 d k, i1 := i1 d k, i2 := i2 d k, sub := u % eu,
    slot := if ring d && moves d then (ringStart d + 64 * out / slotSize d) % ringN d else 0 }

/-- Offset of output unit `u` in every receiver (spec/06_stream_transforms.md R220). -/
def mcOff (d : RowData) (u : Nat) : Nat := dst d % 2 ^ 20 + 64 * u

/-! ## Checks at fetch (R170, R186; spec/06_stream_transforms.md R210, R221) -/

/-- A slot ring is described and used. -/
def useRing (d : RowData) : Bool := ring d && (op d == 1 || op d == 2 || op d == 5 || op d == 6)

def badTally (t : Nat) : Bool := 48 ≤ t && t ≤ 62
def dataSpace (a : Nat) : Bool := a / 2 ^ 45 == 0 || a / 2 ^ 45 == 1

/-- Check 1: DECERR. `mono` tells whether a tally of the channel's tile is in mode MONO. -/
def check1 (d : RowData) (tile : Nat) (mono : Nat → Bool) : Bool :=
  10 ≤ op d || dims d == 3 || (indexed d && dims d != 0) || badTally (doneTally d) ||
  ((op d == 8 || op d == 9) && 47 < tally d) ||
  (readsSrc d && !dataSpace (src d)) || (moves d && !dataSpace (dst d)) || (indexed d && !dataSpace (index d)) ||
  (op d == 7 && dst d / 2 ^ 45 != 2 && dst d / 2 ^ 45 != 3) ||
  (ring d && (op d == 4 || op d == 3 || op d == 7)) ||
  (useRing d && (47 < ringFill d || 47 < ringFree d || dst d / 2 ^ 45 != 1 ||
    (dst d / 2 ^ 20 == 2 ^ 25 + tile && !(mono (ringFill d) && mono (ringFree d))))) ||
  (op d == 5 && !Conv.valid d) ||
  (op d == 4 && (badTally (rtally d) || dst d / 2 ^ 28 != 2 ^ 17 + tileDie tile || (receivers d).contains (tile % 256) ||
    (receivers d).dedup.length != (receivers d).length || (rect d && (x1 d < x0 d || y1 d < y0 d))))

/-- Check 2: ALIGN. -/
def check2 (d : RowData) : Bool :=
  let s := unitOf d (src d)
  let t := unitOf d (dst d)
  let off (x : Int) (u : Nat) : Bool := x % (u : Int) != 0
  (readsSrc d && (src d % s != 0 || elem d % s != 0)) || (moves d && (dst d % t != 0 || elem d % t != 0)) ||
  (indexed d && index d % unitOf d (index d) != 0) ||
  (readsSrc d && !indexed d && ((1 ≤ dims d && off (sstride1 d) s) || (2 ≤ dims d && off (sstride2 d) s))) ||
  ((op d == 1 || op d == 5 || op d == 6) && !ring d && ((1 ≤ dims d && off (dstride1 d) t) || (2 ≤ dims d && off (dstride2 d) t))) ||
  (op d == 7 && dst d % 4 != 0)

/-- Check 3: SIZE. -/
def check3 (d : RowData) : Bool :=
  (moves d && (elem d == 0 || 65536 < elem d)) ||
  (useRing d && (ringN d < 3 || 8 < ringCode d || (slotSize d < elem d && elem d % slotSize d != 0))) ||
  (op d == 5 && !Conv.sizeOk d) ||
  (op d == 4 && (rcount d == 0 || 16 < rcount d || (rect d && (receivers d).length != rcount d) ||
    2 ^ 20 < dst d % 2 ^ 20 + elems d * elem d))

/-- The status of the first check that a descriptor fails. -/
def check (d : RowData) (tile : Nat) (mono : Nat → Bool) : Option Status :=
  if check1 d tile mono then some .decerr else if check2 d then some .align else if check3 d then some .size else none

/-- The home of the slot ring is another tile. -/
def remoteRing (d : RowData) (tile : Nat) : Bool := useRing d && dst d / 2 ^ 20 != 2 ^ 25 + tile

/-- Global tile of the ring's home. -/
def home (d : RowData) : Nat := addrTile (BitVec.ofNat 48 (dst d))

end Desc

/-! ## Window lookups (spec/07_external_bridges.md R229 to R233) -/

/-- Tile and tile offset of the window-table entry of a window address; none where R229 or SLC_WINBASE gives DECERR. -/
def State.winEntry (s : State) (die h : Nat) (a : Addr) : Option (Nat × Nat) :=
  let S := s.slice die
  let p := bits a 21 24
  let lo := Tbl.get 0 S.winLo h
  let off := bits lo 6 14 * 64 + 8 * p
  if (Tbl.get 0 S.winHi h).toNat ≤ p || tileDie (bits lo 20 11) != die || 2 ^ 20 < off + 8 then none
  else some (bits lo 20 11, off)

/-- The capacity of a stack in 2 MiB frames (SLC_CFG.FRAMES). -/
def stackFrames : Nat := 0x430E

/-- The outcome of a translation (R232). `strict` for the bursts of data descriptors. -/
def State.translate (s : State) (die : Nat) (e : Nat) (a : Addr) (write strict : Bool) (len : Nat) : Except Status (Target × Nat) :=
  let tgt := e / 4 % 4
  let stack := e / 16 % 32
  let frame := e / 2 ^ 21
  let place := frame * 2 ^ 21 + bits a 0 21
  if e % 2 = 0 then .error .page
  else if 2 ≤ tgt then .error .decerr
  else if write && e / 2 % 2 == 0 then .error .decerr
  else if tgt = 0 then
    (if 3 * s.dies ≤ stack || !(s.slice (stack / 3)).power || stackFrames ≤ frame then .error .decerr
     else if strict && (place % 256 != 0 || len % 256 != 0) then .error .align
     else .ok (.ext (stack / 3) (stack % 3), place))
  else .ok (.host die, place)

/-- The entry names a stack of a die that is powered off (spec/01_architecture.md R29). -/
def State.stackOff (s : State) (e : Nat) : Bool :=
  e % 2 == 1 && e / 4 % 4 == 0 && e / 16 % 32 < 3 * s.dies && !(s.slice (e / 16 % 32 / 3)).power

/-- A stack request that is answered because its die is powered off is latched in the slice that answers it
(spec/04_fabric_arbitration.md R124). -/
def State.latchOff (s : State) (die : Nat) (e : Nat) (a : Addr) (i : Issuer) : State := if s.stackOff e then s.latchDecerr die a i else s

/-- The 64-bit entry of a window address in the row that a lookup returned. -/
def entryIn (row : RowData) (a : Addr) : Nat := bits row (64 * (bits a 21 24 % 8)) 64

/-- A channel's failure found without a request. -/
def State.failNow (s : State) (tile n : Nat) (a : Addr) (dir : Nat) (st : Status) (unit : Nat) : State :=
  s.modChan tile n (fun c => c.addFail { seq := s.nextId, addr := a, dir := dir, status := st, unit := unit, all := false })

/-- A check of the ring has failed: SPREAD, taken up again alone (R185, R191). -/
def State.failSpread (s : State) (tile n : Nat) (a : Addr) (unit : Nat) : State :=
  s.modChan tile n (fun c => c.addFail { seq := s.nextId, addr := a, dir := 1, status := .spread, unit := unit, all := false, alone := true })

/-- A burst that decodes to the default target (R173; spec/04_fabric_arbitration.md R124). -/
def State.failDefault (s : State) (tile n : Nat) (a : Addr) (dir unit : Nat) : State :=
  (s.latchDecerr (tileDie tile) a (s.issuer (.st tile n))).failNow tile n a dir .decerr unit

/-- A lookup sets out, with household H0 and the channel's identity (R230); `tag` is the index block for `dir` 4. -/
def State.lookup (s : State) (tile n dir : Nat) (a : Addr) (qos tag : Nat) : Option State :=
  (s.winEntry (tileDie tile) (s.tile tile).hh a).map (fun e =>
    let off := e.2 / 64 * 64
    let p := s.newPacket { s.issuer (.st tile n) with hh := 0 } (.lookup dir) qos (.tile e.1) (BitVec.ofNat 48 (tileMemAddr e.1 off)) off 64 false []
    s.launch { p with unit := tag })

/-- The side of a burst (R173, R174). -/
inductive Side where
  | own | remote (g : Nat) | window | none
  deriving DecidableEq, Repr

def State.side (s : State) (tile : Nat) (a : Addr) : Side :=
  if space a = 0 then .window
  else if space a == 1 && addrBitsZero a && s.hasTile (addrTile a) then (if addrTile a = tile then .own else .remote (addrTile a))
  else .none

/-! ## Fetches (R162, R163, R167) -/

/-- A channel fetches the entry at HEAD. -/
def State.fetch (s : State) (tile n : Nat) : State :=
  let c := s.chan tile n
  let a := c.entryAddr c.head
  let s := s.modChan tile n (fun c => { c with fetching := true, fetched := none })
  if c.localRing tile then s.stRead tile (addrOff a) 1 7 (s.issuer (.st tile n)) (.fetch n)
  else match s.lookup tile n 3 a 6 0 with
    | some s => s
    | none => s.modChan tile n (fun c => { c with fetching := false, fetched := some (.decerr, 0) })

/-- A channel goes to its next descriptor: DROP and LAG clear (spec/06_stream_transforms.md R227). -/
def State.fetchNext (s : State) (tile n : Nat) (st : ChState) : State :=
  (s.modTile tile (fun T =>
    { T.setChan n { T.chan n with state := st, snap := none, fail := none, l := false, demoted := false } with mcLag := T.mcLag.del n })).fetch tile n

/-- The channel's work on a descriptor is cleared. -/
def Channel.cleared (c : Channel) : Channel :=
  { c with fetching := false, fetched := none, snap := none, phase := .idle, runit := 0, wunit := 0, known := 0, need := 0,
           inBuf := [], outBuf := [], skipped := [], outst := 0, fail := none, bodyDone := false, waitTally := false, aborting := false,
           targets := [], rbIssued := false, demoted := false, l := false, halfDone := false, slotOpen := false, slotEnd := false,
           credits := [], drop := 0, trans := none, doneWait := false, contWait := none }

/-- The same, for another try at the same descriptor: what its requests have met so far stays (R178; spec/03_timing_promise.md R106). -/
def Channel.again (c : Channel) : Channel := { c.cleared with l := c.l, demoted := c.demoted }

/-- A channel enters IDLE, from which a household ring with TAIL ≠ HEAD starts at once (R162, R195). -/
def State.toIdle (s : State) (tile n : Nat) : State :=
  let s := s.modChan tile n (fun c => { c with state := .idle })
  if (s.chan tile n).hhRing && (s.chan tile n).head != (s.chan tile n).tail then s.fetchNext tile n .run else s

/-- How a channel goes on after a descriptor has ended (R162, R164, R191). -/
def State.proceed (s : State) (tile n : Nat) (k : Cont) : State :=
  let s := (s.modChan tile n Channel.cleared).modTile tile (fun T => T.dropBlocks n)
  let c := s.chan tile n
  if k = .idle then s.toIdle tile n
  else if c.head ≠ c.tail then s.fetchNext tile n (if k = .nextArm then .arming else .run)
  else if c.localRing tile && c.rep && c.armPoint != c.tail then
    (s.modChan tile n (fun c => { c with head := c.armPoint })).fetchNext tile n .arming
  else s.toIdle tile n

/-- A channel goes on, unless an ALLSTOP has halted it meanwhile: then RESUME makes it go on (R193). -/
def State.goOn (s : State) (tile n : Nat) (k : Cont) : State :=
  if (s.chan tile n).state = .halt then s.modChan tile n (fun c => { c with contWait := some k, doneWait := false }) else s.proceed tile n k

/-- Steps 3 and 4 of R178: the record is issued, or waits for room; COMPLETE is raised after it; the channel goes on. -/
def State.finish (s : State) (tile n : Nat) (r : Option CRec) (complete : Bool) (k : Cont) : State :=
  let d := tileDie tile
  let h := (s.tile tile).hh
  let go (s : State) : State := (if complete then s.raise d h 0 else s).goOn tile n k
  match r with
  | none => go s
  | some r =>
    let R := (s.slice d).cring h
    if !R.en then go s
    else if R.takes then go (s.look.modSlice d (fun S => S.setCring h { R with due := R.due ++ [r], issued := R.issued + 1 }))
    else s.look.modChan tile n (fun c => { c.cleared with state := if c.state = .halt then .halt else .run, recWait := some (r, complete, k) })

/-- Channels that wait for room for their record go on, lowest tile and channel first (spec/09_households.md R328). -/
def State.admitRecs (s : State) (die h : Nat) : State :=
  ((s.slice die).tiles.flatMap (fun p => p.2.chans.map (fun q => (256 * die + p.1, q.1)))).foldl (fun s p =>
    match (s.chan p.1 p.2).recWait with
    | none => s
    | some (r, complete, k) =>
      let R := (s.slice die).cring h
      if (s.tile p.1).hh = h && (!R.en || R.takes) then (s.modChan p.1 p.2 (fun c => { c with recWait := none })).finish p.1 p.2 (some r) complete k
      else s) s

/-! ## Descriptors start (R163, R170, R184, R187) -/

/-- FILL or FREE with the ADDs that wait for the next boundary. -/
def Tile.tallyAhead (T : Tile) (t : Nat) : Word :=
  T.tops.foldl (fun v o => match o with
    | .add k a _ | .stAdd _ k a => if k = t then v + a else v
    | .done _ k _ | .fill _ k _ | .homeAdd _ k _ => if k = t then v + 1 else v
    | _ => v) (T.tallyOf t)

/-- The channel starts the descriptor of its snapshot; a failure of a read made ahead of the start stays with it (spec/06_stream_transforms.md
R203, R204). -/
def Channel.start (c : Channel) (d : RowData) (T : Tile) (tile : Nat) : Channel :=
  { c.again with
    fail := c.fail, snap := some d, state := .run, phase := if Desc.remoteRing d tile then .probe else .idle,
    started := if Desc.useRing d then T.tallyAhead (Desc.ringFill d) else 0 }

def State.startDesc (s : State) (tile n : Nat) : State :=
  match (s.chan tile n).snap with
  | none => s
  | some d => s.modTile tile (fun T => T.setChan n ((T.chan n).start d T tile))

/-- The prefetcher can take a request of a channel: at most 4 blocks of the channel, 16 in all, 4 reads outstanding (R203). -/
def Tile.blockRoom (T : Tile) (n : Nat) : Bool :=
  (T.blocks.filter (fun b => b.chan == n)).length < 4 && T.blocks.length < 16 && (T.blocks.filter (fun b => b.need != 0)).length < 4

/-- The requests for an index block of a tile's memory: 256 B where aligned, otherwise 64 B, as (first row, rows). -/
def State.indexPackets (s : State) (tile n : Nat) (d : RowData) (id g : Nat) (a : Addr) (l : List (Nat × Nat)) : State :=
  l.foldl (fun s q =>
    let p := s.newPacket (s.issuer (.st tile n)) (.index id) (Desc.qos d) (.tile g) (a + BitVec.ofNat 48 (64 * q.1)) (addrOff a + 64 * q.1) (64 * q.2) false []
    s.launch { p with unit := q.1 }) s

/-- The requests of a remote burst: 256 B where aligned, otherwise 64 B, as (first unit, units). -/
def requestPieces (place : Nat) : Nat → Nat → Nat → List (Nat × Nat)
  | 0, _, _ => []
  | f + 1, o, n =>
    if n = 0 then []
    else if (place + 64 * o) % 256 = 0 ∧ 4 ≤ n then (o, 4) :: requestPieces place f (o + 4) (n - 4)
    else (o, 1) :: requestPieces place f (o + 1) (n - 1)

/-- A block is allocated for entry `k` of a channel's table and its read is issued (spec/06_stream_transforms.md R203). -/
def State.allocBlock (s : State) (tile n : Nat) (d : RowData) (k : Nat) : State :=
  let q := Desc.blockOf d k
  let a : Addr := BitVec.ofNat 48 (Desc.index d + 4 * q.1)
  let id := s.nextId
  let l := requestPieces a.toNat q.2 0 q.2
  let b (need : Nat) : IndexBlock := { id := id, chan := n, first := q.1, addr := a, count := q.2, rows := [], need := need, ready := false, status := .ok }
  let on (need : Nat) : State := s.takeId.modTile tile (fun T => { T with blocks := T.blocks ++ [b need] })
  match s.side tile a with
  | .own => (on 1).stRead tile (addrOff a) q.2 (Desc.qos d) (s.issuer (.st tile n)) (.index id)
  | .remote g => (on l.length).indexPackets tile n d id g a l
  | .window =>
    match (on 1).lookup tile n 4 a (Desc.qos d) id with
    | some s => s
    | none => s.failNow tile n a 4 .decerr (k * Desc.dstUnits d)
  | .none => s.failDefault tile n a 4 (k * Desc.dstUnits d)

/-- The prefetcher takes the requests in the order in which they were made, as far as it has room (R203). -/
def State.serveWants (s : State) (tile : Nat) : Nat → State
  | 0 => s
  | f + 1 =>
    match (s.tile tile).idxWant with
    | [] => s
    | (n, k) :: rest =>
      let s' := s.modTile tile (fun T => { T with idxWant := rest })
      match (s.chan tile n).snap with
      | none => s'.serveWants tile f
      | some d => if (s.tile tile).blockRoom n then (s'.allocBlock tile n d k).serveWants tile f else s

/-- A channel asks for the block of entry `k` of its table. -/
def State.prefetch (s : State) (tile n k : Nat) : State :=
  let T := s.tile tile
  let s := if T.blocks.any (fun b => b.holds n k) || T.idxWant.contains (n, k) then s
    else s.modTile tile (fun T => { T with idxWant := T.idxWant ++ [(n, k)] })
  s.serveWants tile (s.tile tile).idxWant.length

/-- A fetch has returned: the snapshot is taken and checked, and the channel arms, runs or fails (R170, R195). A channel that is aborting, or
that an ALLSTOP is halting, starts nothing (R193, R194). -/
def State.fetchedOp (s : State) (tile n : Nat) : State :=
  let c := s.chan tile n
  let a := c.entryAddr c.head
  match c.fetched with
  | none => s
  | some (st, d) =>
    let s := s.modChan tile n (fun c => { c with fetched := none, curIdx := c.head, curTag := if st = .ok then Desc.tag d else 0 })
    if c.aborting || c.fail.isSome then (if st = .ok then s.modChan tile n (fun c => { c with snap := some d, phase := .fetched }) else s)
    else if st ≠ .ok then s.failNow tile n a 3 st 0
    else
      let s := s.modChan tile n (fun c => { c with snap := some d })
      match Desc.check d tile (fun t => !(s.tile tile).isCount t) with
      | some st => s.failNow tile n a 5 st 0
      | none =>
        let s :=
          if c.state = .arming then
            (if c.pendGo then (s.modChan tile n (fun c => { c with pendGo := false })).startDesc tile n
             else s.modChan tile n (fun c => { c with state := .armed }))
          else s.startDesc tile n
        if Desc.indexed d then s.prefetch tile n 0 else s

/-! ## Requests of bursts (R155 to R158, R174) -/

/-- The remote requests of one burst, in address order. -/
def State.issueBurst (s : State) (tile n : Nat) (d : RowData) (write : Bool) (target : Target) (a : Addr) (place unit len : Nat)
    (data : List RowData) : State :=
  let l := requestPieces place len 0 len
  let s := l.foldl (fun s q =>
    let p := s.newPacket (s.issuer (.st tile n)) (if write then .write else .read) (Desc.qos d) target (a + BitVec.ofNat 48 (64 * q.1))
      (place + 64 * q.1) (64 * q.2) write ((data.drop q.1).take q.2)
    s.launch { p with viewq := Desc.viewq d, bstart := place / 64, blen := len, unit := unit + q.1 }) s
  s.modChan tile n (fun c => { c with outst := c.outst + l.length, need := if write then c.need else c.need + l.length })

/-- The ST requests of a local burst (R42). -/
def State.issueLocal (s : State) (tile n : Nat) (d : RowData) (write : Bool) (off unit len : Nat) (data : List RowData) : State :=
  let q := Desc.viewq d
  let a := s.newAccess .st (if q then .quad else .bank) write off (if q then 256 else 64) (if q then (len + 3) / 4 else len) (Desc.qos d) data
    (s.issuer (.st tile n)) (.burst n unit unit) .waiting
  let s := (s.takeId.modTile tile (fun T => { T with picked := none, lastChan := n })).modChan tile n (fun c =>
    { c with outst := c.outst + 1, need := if write then c.need else c.need + 1 })
  s.reach tile a

/-- A local-side burst is in progress (R156). -/
def Tile.localBusy (T : Tile) : Bool := T.accs.any (fun a => match a.dest with | .burst _ _ _ | .sendRead _ _ => true | _ => false)

/-! ## Slot rings (R183 to R189) -/

/-- The ring's spread is above N (R184, R185). -/
def ringSpread (d : RowData) (fill free : Word) : Bool := Desc.ringN d < (fill - free).toNat

/-- The reach of the ring leaves room for another slot (R184). -/
def Channel.mayStart (c : Channel) (d : RowData) (free : Word) : Bool := (c.started - free).toNat < Desc.ringN d

/-- The slot at the channel's output position may be written: it has been started, or is started now; otherwise the channel waits,
or fails with SPREAD. -/
def State.slotStart (s : State) (tile n : Nat) (d : RowData) : State × Bool :=
  let c := s.chan tile n
  let T := s.tile tile
  if !Desc.useRing d || c.slotOpen then (s, true)
  else
    let home := !Desc.remoteRing d tile
    let free := if home then T.tallyOf (Desc.ringFree d) else c.ringFree
    if home && ringSpread d (T.tallyOf (Desc.ringFill d)) free then (s.failSpread tile n (Desc.dstAddr d 0 c.wunit) c.wunit, false)
    else if c.mayStart d free then (s.modChan tile n (fun c => { c with slotOpen := true, started := c.started + 1, state := .run }), true)
    else (s.modChan tile n (fun c => { c with state := .wait }), false)

/-- A probe or a slot read-back of the ring's home sets out; `first` and `units` are the slot's range, for the gates. -/
def State.ringRequest (s : State) (tile n : Nat) (d : RowData) (kind : PKind) (unit first units : Nat) : State :=
  let a := Desc.dstAddr d 0 unit
  let g := Desc.home d
  if s.side tile a = .none then s.failDefault tile n a 2 unit
  else if 16 < s.remoteBusy tile + 1 then s
  else
    let p := s.newPacket (s.issuer (.st tile n)) kind (Desc.qos d) (.tile g) a (addrOff a) 64 false []
    (s.launch { p with viewq := Desc.viewq d, bstart := addrOff (Desc.dstAddr d 0 first) / 64, blen := units, unit := unit }).modChan tile n (fun c =>
      { c with outst := c.outst + 1, rbIssued := true, probeAt := match kind with | .probe _ _ => s.paceNat tile | _ => c.probeAt })

/-- The first unit of the slot that holds an output unit. -/
def Desc.slotFirst (d : RowData) (u : Nat) : Nat := 64 * u / Desc.slotSize d * Desc.slotSize d / 64

/-- A ring probe, for the range of the slot that is to be started. -/
def State.probeRing (s : State) (tile n : Nat) (d : RowData) : State :=
  let first := Desc.slotFirst d (s.chan tile n).wunit
  s.ringRequest tile n d (.probe (Desc.ringFill d) (Desc.ringFree d)) first first (Desc.slotSize d / 64)

/-- The slot of a local ring is filled: its FILL add is to take effect (R186). The descriptor does not complete before (R189). -/
def State.slotFilledOp (s : State) (tile n : Nat) (d : RowData) : State :=
  let lp := (s.chan tile n).l || (s.slice (tileDie tile)).lpActive
  (s.enqueue tile (.fill n (Desc.ringFill d) lp)).modChan tile n (fun c =>
    { c with slotOpen := false, slotEnd := false, known := c.wunit, outst := c.outst + 1 })

/-- The FILL add of a local ring has taken effect, and the spread is checked (R185). -/
def State.fillTaken (s : State) (tile n : Nat) : State :=
  let c := s.chan tile n
  match c.snap with
  | none => s
  | some d =>
    let s := s.modChan tile n (fun c => { c with outst := c.outst - 1 })
    if ringSpread d ((s.tile tile).tallyOf (Desc.ringFill d)) ((s.tile tile).tallyOf (Desc.ringFree d)) then
      s.failSpread tile n (Desc.dstAddr d 0 (c.wunit - 1)) c.wunit
    else s

/-- A channel that waits on a full local ring samples FREE again (R184, R185). -/
def State.resampleOp (s : State) (tile n : Nat) (d : RowData) : State :=
  let c := s.chan tile n
  let T := s.tile tile
  let free := T.tallyOf (Desc.ringFree d)
  if ringSpread d (T.tallyOf (Desc.ringFill d)) free then s.failSpread tile n (Desc.dstAddr d 0 c.wunit) c.wunit
  else if c.mayStart d free then s.modChan tile n (fun c => { c with state := .run })
  else s

/-! ## Read-backs (R176) -/

/-- The last write to a target is noted. -/
def noteTarget (l : List WTarget) (t : Target) (a : Addr) (place : Nat) : List WTarget :=
  let w : WTarget := { target := t, addr := a, place := place, returned := false, issued := false }
  if l.any (fun x => x.target == t) then updWhere (fun x => x.target == t) (fun _ => w) l else l ++ [w]

/-- Sixteen targets are tracked and this would be a seventeenth. -/
def Channel.targetsFull (c : Channel) (t : Target) : Bool := 16 ≤ c.targets.length && !(c.targets.any (fun x => x.target == t))

/-- Read-backs to the tracked targets set out, as many as the remote side takes. -/
def State.readbacks (s : State) (tile n : Nat) (d : RowData) : State :=
  let l := ((s.chan tile n).targets.filter (fun w => !w.issued)).take (16 - s.remoteBusy tile)
  l.foldl (fun s w =>
    let p := s.newPacket (s.issuer (.st tile n)) (if Desc.op d = 4 then .rtally (Desc.rtally d) else .readback) (Desc.qos d) w.target w.addr w.place 64 false []
    (s.launch { p with viewq := Desc.viewq d }).modChan tile n (fun c =>
      { c with outst := c.outst + 1, targets := updWhere (fun x => x.target == w.target) (fun x => { x with issued := true }) c.targets })) s

/-! ## One burst of a data descriptor -/

/-- HALF is raised as the write with the half-way byte is issued (R180). -/
def State.half (s : State) (tile n : Nat) (d : RowData) (u len : Nat) : State :=
  if Desc.half d && !(s.chan tile n).halfDone && u ≤ Desc.halfUnit d && Desc.halfUnit d < u + len then
    (s.modChan tile n (fun c => { c with halfDone := true })).raise (tileDie tile) (s.tile tile).hh 1
  else s

/-- `len` output units have been issued: the cursors move, a slot may end, an index block may be used up (R183;
spec/06_stream_transforms.md R203). -/
def State.advance (s : State) (tile n : Nat) (d : RowData) (len : Nat) : State :=
  let c := s.chan tile n
  let u := c.wunit + len
  let s := s.half tile n d c.wunit len
  let k := (u - 1) / Desc.dstUnits d
  let rest := c.outBuf.drop len
  let s := s.modChan tile n (fun c =>
    { c with wunit := u, outBuf := rest, runit := if Desc.op d = 5 then c.runit else u,
             trans := none,
             phase := if u = Desc.totalUnits d then .finished else if rest.isEmpty then .idle else .writing,
             slotEnd := Desc.useRing d && (64 * u % Desc.slotSize d == 0 || u == Desc.totalUnits d) })
  if Desc.indexed d && u % Desc.dstUnits d == 0 &&
      (s.tile tile).blocks.any (fun b => b.holds n k && (k + 1 == b.first + 16 * b.count || k + 1 == Desc.n0 d)) then
    let s := s.modTile tile (fun T => { T with blocks := T.blocks.filter (fun b => !(b.holds n k)) })
    if k + 1 < Desc.n0 d then s.prefetch tile n (k + 1) else s.serveWants tile (s.tile tile).idxWant.length
  else s

/-- The index value of the element at output unit `u`; 0 for a descriptor without an index. -/
def Tile.indexFor (T : Tile) (n : Nat) (d : RowData) (u : Nat) : Option Nat :=
  if Desc.indexed d then T.entry n (u / Desc.dstUnits d) else some 0

/-- Source unit, address and length of the next source burst of the chunk. -/
def Channel.readNext (c : Channel) (d : RowData) (v : Nat) : Nat × Addr × Nat :=
  let r := Desc.srcRange d v c.wunit
  let u := max c.runit r.1
  let a := Desc.srcAddr d v u
  (u, a, min (min 16 (Desc.srcUnits d - u % Desc.srcUnits d)) (min (Desc.cut a) (r.2 - u)))

/-- The source of the chunk is in. -/
def Channel.chunkIn (c : Channel) (d : RowData) (v : Nat) : Bool := c.need == 0 && (Desc.srcRange d v c.wunit).2 ≤ c.runit

/-- The source burst is issued toward a target outside the tile's own banks. -/
def State.readRemote (s : State) (tile n : Nat) (d : RowData) (v : Nat) (target : Target) (place : Nat) : State :=
  let q := (s.chan tile n).readNext d v
  if 16 < s.remoteBusy tile + (requestPieces place q.2.2 0 q.2.2).length then s
  else (s.issueBurst tile n d false target q.2.1 place q.1 q.2.2 []).modChan tile n (fun c => { c with runit := q.1 + q.2.2, phase := .idle })

/-- The next source burst, or its lookup, is issued. -/
def State.readStep (s : State) (tile n : Nat) (d : RowData) (v : Nat) : State :=
  let q := (s.chan tile n).readNext d v
  match s.side tile q.2.1 with
  | .none => s.failDefault tile n q.2.1 0 q.1
  | .window =>
    match s.lookup tile n 0 q.2.1 (Desc.qos d) 0 with
    | some s => s.modChan tile n (fun c => { c with phase := .lookupRead, outst := c.outst + 1 })
    | none => s.failNow tile n q.2.1 0 .decerr q.1
  | .own =>
    if (s.tile tile).picked ≠ some n then s
    else (s.issueLocal tile n d false (addrOff q.2.1) q.1 q.2.2 []).modChan tile n (fun c => { c with runit := q.1 + q.2.2 })
  | .remote g => s.readRemote tile n d v (.tile g) (addrOff q.2.1)

/-- Output unit, address and length of the next write burst. -/
def Channel.writeNext (c : Channel) (d : RowData) (v : Nat) : Nat × Addr × Nat :=
  (c.wunit, Desc.dstAddr d v c.wunit, min (Desc.writeLen d v c.wunit) c.outBuf.length)

/-- The write burst is issued toward a target outside the tile's own banks; before a seventeenth target the tracked ones are read
back (R176). -/
def State.writeRemote (s : State) (tile n : Nat) (d : RowData) (v : Nat) (target : Target) (place : Nat) : State :=
  let c := s.chan tile n
  let q := c.writeNext d v
  if !Desc.useRing d && c.targetsFull target then
    (s.modChan tile n (fun c => { c with phase := .writing, trans := some (target, place) })).readbacks tile n d
  else if 16 < s.remoteBusy tile + (requestPieces place q.2.2 0 q.2.2).length then s
  else
    let s := s.issueBurst tile n d true target q.2.1 place q.1 q.2.2 (c.outBuf.take q.2.2)
    let last := 64 * (q.2.2 - 1)
    let s := s.modChan tile n (fun c =>
      { c with targets := if Desc.useRing d then c.targets else noteTarget c.targets target (q.2.1 + BitVec.ofNat 48 last) (place + last) })
    s.advance tile n d q.2.2

/-- The next write burst, or its lookup, is issued; a burst that has waited for read-backs keeps its translation
(spec/07_external_bridges.md R229). -/
def State.writeStep (s : State) (tile n : Nat) (d : RowData) (v : Nat) : State :=
  let c := s.chan tile n
  let q := c.writeNext d v
  match c.trans, s.side tile q.2.1 with
  | some t, _ => s.writeRemote tile n d v t.1 t.2
  | none, .none => s.failDefault tile n q.2.1 1 q.1
  | none, .window =>
    match s.lookup tile n 1 q.2.1 (Desc.qos d) 0 with
    | some s => s.modChan tile n (fun c => { c with phase := .lookupWrite, outst := c.outst + 1 })
    | none => s.failNow tile n q.2.1 1 .decerr q.1
  | none, .own =>
    if (s.tile tile).picked ≠ some n then s
    else (s.issueLocal tile n d true (addrOff q.2.1) q.1 q.2.2 (c.outBuf.take q.2.2)).advance tile n d q.2.2
  | none, .remote g => s.writeRemote tile n d v (.tile g) (addrOff q.2.1)

/-- The channel works on a data descriptor and may issue. -/
def Channel.working (c : Channel) : Option RowData :=
  if c.state = .run && c.fail.isNone && !c.aborting && c.recWait.isNone then c.snap.filter Desc.moves else none

/-- The receivers of a multicast that are not dropped, as (receiver, global tile). -/
def Channel.mcTargets (c : Channel) (d : RowData) (tile : Nat) : List (Nat × Nat) :=
  ((Desc.receivers d).zipIdx.map (fun p => (p.2, 256 * tileDie tile + p.1))).filter (fun p => !bit c.drop p.1)

/-- A channel issues what comes next of its descriptor: a probe, a source burst, a write burst, a slot read-back or read-backs. -/
def State.burstIssueOp (s : State) (tile n : Nat) : State :=
  let c := s.chan tile n
  match c.working with
  | none => s
  | some d =>
    if c.slotEnd then
      (if !Desc.remoteRing d tile || c.rbIssued then s
       else
        let first := Desc.slotFirst d (c.wunit - 1)
        s.ringRequest tile n d (.slotReadback (Desc.ringFill d) (Desc.ringFree d) (Desc.ringN d)) (c.wunit - 1) first (Desc.slotSize d / 64))
    else match c.phase with
    | .probe => if c.rbIssued then s else s.probeRing tile n d
    | .lookupRead | .lookupWrite | .flit | .fetched => s
    | .finished => s.readbacks tile n d
    | .writing =>
      let r := s.slotStart tile n d
      if r.2 then r.1.writeStep tile n d (((s.tile tile).indexFor n d c.wunit).getD 0) else r.1
    | .idle =>
      match (s.tile tile).indexFor n d c.wunit with
      | none => s.prefetch tile n (c.wunit / Desc.dstUnits d)
      | some v =>
        if c.need ≠ 0 || c.chunkIn d v then s
        else
          let r := if Desc.op d = 5 then (s, true) else s.slotStart tile n d
          if r.2 then r.1.readStep tile n d v else r.1

/-- A channel whose next burst uses the local side (R156). -/
def State.wantsLocal (s : State) (tile n : Nat) : Bool :=
  let c := s.chan tile n
  match c.working with
  | none => false
  | some d =>
    !c.slotEnd &&
    match c.phase with
    | .writing => s.side tile (c.writeNext d (((s.tile tile).indexFor n d c.wunit).getD 0)).2.1 == .own
    | .idle =>
      match (s.tile tile).indexFor n d c.wunit with
      | none => false
      | some v => c.need == 0 && !c.chunkIn d v && s.side tile (c.readNext d v).2.1 == .own
    | _ => false

/-- The next turn of the local side: a send's reads come before every channel's bursts (spec/08_tallies_bells_channels.md R291); the next burst
goes to the ready channel with the highest ST_PRIO, in turn among equals (R156). -/
def State.burstSelectOp (s : State) (tile : Nat) : State :=
  let T := s.tile tile
  if T.localBusy then s
  else match T.sends.find? (fun q => !q.asked) with
  | some q => s.askSend tile q
  | none =>
    let l := (List.range 8).filter (fun n => s.wantsLocal tile n)
    s.modTile tile (fun T => { T with picked := argMin (fun n => (7 - bits T.stPrio (3 * n) 3) * 8 + turnDist 8 T.lastChan n) l })

/-! ## The operations of the data opcodes -/

/-- Source rows [lo, hi) in hand. -/
def Channel.rowsIn (c : Channel) (r : Nat × Nat) : List RowData := (List.range (r.2 - r.1)).map (fun k => Tbl.get 0 c.inBuf (r.1 + k))

/-- The output is in hand and waits to be issued. -/
def Channel.produce (c : Channel) (rows : List RowData) : Channel := { c with outBuf := rows, inBuf := [], phase := .writing }

/-- A data opcode runs on the chunk whose source is in. -/
def State.dataOp (s : State) (tile n code : Nat) (f : RowData → Nat → Channel → State) : State :=
  let c := s.chan tile n
  match c.working with
  | none => s
  | some d =>
    if Desc.op d ≠ code || c.phase != .idle || c.slotEnd then s
    else match (s.tile tile).indexFor n d c.wunit with
      | none => s
      | some v => if c.chunkIn d v then f d v c else s

/-- The rows as one number, and back. -/
def rowsNat (l : List RowData) : Nat := l.foldr (fun r a => r.toNat + a * 2 ^ 512) 0
def natRows : Nat → Nat → List RowData
  | 0, _ => []
  | n + 1, x => BitVec.ofNat 512 x :: natRows n (x / 2 ^ 512)

/-- The row of FILL: the pattern eight times (R169). -/
def patternRow (p : Nat) : RowData := BitVec.ofNat 512 (p * ((2 ^ 512 - 1) / (2 ^ 64 - 1)))

def State.copyOp (s : State) (tile n : Nat) : State :=
  s.dataOp tile n 1 (fun d v c => s.modChan tile n (fun c' => c'.produce (c.rowsIn (Desc.srcRange d v c.wunit))))

/-- A null entry of a GATHER gives zeros (spec/06_stream_transforms.md R199). -/
def State.gatherOp (s : State) (tile n : Nat) : State :=
  s.dataOp tile n 2 (fun d v c => s.modChan tile n (fun c' =>
    c'.produce (if Desc.isNull d v then List.replicate (Desc.chunk d v c.wunit) 0 else c.rowsIn (Desc.srcRange d v c.wunit))))

/-- A null entry of a SCATTER writes nothing and counts as done (spec/06_stream_transforms.md R200). -/
def State.scatterOp (s : State) (tile n : Nat) : State :=
  s.dataOp tile n 3 (fun d v c =>
    if Desc.isNull d v then
      (s.modChan tile n (fun c => { c with skipped := c.skipped.add (c.wunit / Desc.dstUnits d), outBuf := [] })).advance tile n d (Desc.chunk d v c.wunit)
    else s.modChan tile n (fun c' => c'.produce (c.rowsIn (Desc.srcRange d v c.wunit))))

/-- One element is converted, with the next random fractions under STOCH (spec/06_stream_transforms.md R207 to R217). -/
def State.convertOp (s : State) (tile n : Nat) : State :=
  s.dataOp tile n 5 (fun d v c =>
    let T := s.tile tile
    let frac (i : Nat) : Option Nat := if Desc.stoch d then some (Config.randomFraction tile (T.fracs + i)).toNat else none
    let y := Conv.apply d frac (rowsNat (c.rowsIn (Desc.srcRange d v c.wunit)))
    let rows := (natRows (Desc.dstUnits d) y).drop (c.wunit % Desc.dstUnits d)
    (s.modTile tile (fun T => { T with fracs := if Desc.stoch d then T.fracs + Conv.vals d else T.fracs })).modChan tile n (fun c' => c'.produce rows))

def State.fillOp (s : State) (tile n : Nat) : State :=
  s.dataOp tile n 6 (fun d v c => s.modChan tile n (fun c' =>
    c'.produce (List.replicate (Desc.chunk d v c.wunit) (patternRow (Desc.pattern d)))))

/-! ## Multicast (spec/06_stream_transforms.md R220 to R227) -/

/-- Every receiver has given credit: the next flit may be formed; after the last one the receivers are the targets to read back. -/
def State.flitDone (s : State) (tile n : Nat) (d : RowData) : State :=
  let c := s.chan tile n
  let s := (s.modChan tile n (fun c => { c with credits := [] })).advance tile n d (min 4 (Desc.totalUnits d - c.wunit))
  let off := Desc.mcOff d (Desc.totalUnits d - 1)
  s.modChan tile n (fun c =>
    if c.phase = .finished then
      { c with targets := (c.mcTargets d tile).map (fun p =>
          { target := .tile p.2, addr := BitVec.ofNat 48 (tileMemAddr p.2 off), place := off, returned := false, issued := false }) }
    else c)

/-- The next flit is issued for every receiver that is not dropped, as one flit for each way that they take from the tile's router; it parts
where their routes do. HALF is raised as it is issued (R180, R222). -/
def State.multicastOp (s : State) (tile n : Nat) : State :=
  s.dataOp tile n 4 (fun d v c =>
    let rows := c.rowsIn (Desc.srcRange d v c.wunit)
    let l := c.mcTargets d tile
    if 16 < s.remoteBusy tile + (if c.flitting then 0 else 1) then s
    else
      let off := Desc.mcOff d c.wunit
      let ord := s.nextId
      let s := (s.half tile n d c.wunit rows.length).modChan tile n (fun c =>
        { c with outBuf := rows, inBuf := [], phase := .flit, credits := [], outst := c.outst + l.length,
                 flitEnd := s.paceNat tile + (s.tile tile).mcStall.toNat })
      if l.isEmpty then s.flitDone tile n d
      else (mcastParts (tileX tile) (tileY tile) l).foldl (fun s q =>
        let g := (q.headD (0, 0)).2
        let k := s.newPacket (s.issuer (.st tile n)) (.mcast q) (Desc.qos d) (.tile g) (BitVec.ofNat 48 (tileMemAddr g off)) off
          (64 * rows.length) true rows
        s.launch { k with ord := ord, viewq := Desc.viewq d, unit := c.wunit }) s)

/-- The packet is the flit in hand of the channel, on its way to receiver `i`. -/
def Packet.flitTo (p : Packet) (tile n i : Nat) : Bool :=
  p.iss.tile == tile && p.iss.chan == n && p.iss.port == 127 && !p.abandoned && (match p.kind with | .mcast rs => rs.any (fun r => r.1 == i) | _ => false)

/-- Receivers of a flit's packet. -/
def Packet.heads (p : Packet) : List (Nat × Nat) := match p.kind with | .mcast rs => rs | _ => []

/-- The receiver's NW port has started the flit's last beat (R222). -/
def State.lastBeatStarted (s : State) (p : Packet) : Bool :=
  match p.resp with
  | some st => st == .ok
  | none =>
    match p.target with
    | .tile g => p.heads.length == 1 && (s.tile g).accs.any (fun a => a.dest == .packet p.id && a.done + 1 == a.beats && a.stage != .atPort)
    | _ => false

/-- A receiver gives credit. -/
def State.creditOp (s : State) (tile n i : Nat) : State :=
  let c := s.chan tile n
  match c.working with
  | none => s
  | some d =>
    if c.phase != .flit || c.credits.contains i then s
    else
      let there := match s.net.find? (fun p => p.flitTo tile n i) with
        | some p => s.lastBeatStarted p
        | none => (c.mcTargets d tile).any (fun p => p.1 == i)
      if !there then s
      else
        let s := s.modChan tile n (fun c => { c with credits := c.credits.add i })
        if (c.mcTargets d tile).all (fun p => ((s.chan tile n).credits).contains p.1) then s.flitDone tile n d else s

def Tile.lagWord (T : Tile) (n : Nat) : Word := Tbl.get 0 T.mcLag n

/-- ST_MC_LAG.LAG of a channel is latched. -/
def Tile.setLag (T : Tile) (n : Nat) (m : List Nat) : Tile :=
  { T with mcLag := T.mcLag.set n ((T.lagWord n &&& 0xFFFF0000) ||| BitVec.ofNat 32 ((m.foldl (fun w i => setBit w i true) (0 : BitVec 16)).toNat)) }

/-- The stall count of a flit has run out (R225): its packets are left behind. -/
def State.mcStallOp (s : State) (tile n : Nat) : State :=
  let c := s.chan tile n
  match c.working with
  | none => s
  | some d =>
    match (c.mcTargets d tile).filter (fun p => !c.credits.contains p.1) with
    | [] => s
    | (i, g) :: rest =>
      if c.phase != .flit || s.paceNat tile < c.flitEnd then s
      else
        let mine (p : Packet) : Bool := ((i, g) :: rest).any (fun q => p.flitTo tile n q.1)
        let k := ((s.net.filter mine).map (fun p => p.heads.length)).sum
        let s := { s with net := (s.net.filter (fun p => !(mine p && p.loc == Loc.home))).map (fun p => if mine p then { p with abandoned := true } else p) }
        let s := s.modTile tile (fun T => T.setLag n (i :: rest.map Prod.fst))
        (s.modChan tile n (fun c => { c with outst := c.outst - k })).failNow tile n (BitVec.ofNat 48 (tileMemAddr g (Desc.mcOff d c.wunit))) 1 .mcStall c.wunit

/-! ## Responses -/

/-- What a response brings: a request that ends in host memory is answered from outside Glirik. -/
def Packet.answer (p : Packet) (outside : Status) (data : List RowData) : Option (Status × List RowData) :=
  match p.resp, p.loc, p.target with
  | some st, .home, _ => some (st, if st = .ok then p.data else [])
  | none, .arrived, .host _ => some (outside, if outside = .ok ∧ !p.write then (List.range ((p.size + 63) / 64)).map (fun k => data.getD k 0) else [])
  | _, _, _ => none

/-- A ring probe passes its home's gates as a write to the slot's range, and finds the tallies in MONO mode, or is refused (R187). -/
def State.homeCheck (s : State) (p : Packet) (g fill free : Nat) : Option Status :=
  let T := s.tile g
  if !s.ready (tileDie g) then some .decerr
  else if T.quarantined .nw then some .wdog
  else if T.reassign.isSome then some .gate
  else if (T.gatesFor p.iss.hh p.need (burstPieces p.view p.bstart p.blen)).isNone then some .gate
  else if T.isCount fill || T.isCount free then some .decerr
  else none

/-- Every earlier request of the requester at this tile has been served (R158). -/
def State.servedBefore (s : State) (p : Packet) : Bool :=
  !(s.net.any (fun q => q.ord < p.ord && q.target == p.target && p.sameTxn q && q.resp.isNone && q.loc != .lost))

/-- A request that has arrived at the tile, every earlier one of its requester there having been served (R158). -/
def State.atHome (s : State) (tile pkt : Nat) : Option Packet :=
  (s.pkt pkt).filter (fun p => p.target == .tile tile && p.loc == Loc.arrived && p.resp.isNone && s.servedBefore p)

/-- FILL and FREE as a probe or slot read-back returns them. -/
def ringWords (fill free : Word) : RowData := BitVec.ofNat 512 (fill.toNat + free.toNat * 2 ^ 32)

def State.ringProbeOp (s : State) (g : Nat) (p : Packet) (fill free : Nat) : State :=
  match s.homeCheck p g fill free with
  | some st => s.respondAt g p.id st []
  | none => s.respondAt g p.id .ok [ringWords ((s.tile g).tallyOf fill) ((s.tile g).tallyOf free)]

/-- The add of a read-back at its target waits for the next tally boundary, and the read-back's answer with it. -/
def State.homeAdd (s : State) (g : Nat) (p : Packet) (t : Nat) : State :=
  (s.enqueue g (.homeAdd p.id t (p.l || (s.slice (tileDie g)).lpActive))).modPkt p.id (fun p => { p with loc := .served })

/-- A slot read-back has read its row: FILL is to be added (R187). -/
def State.slotReadbackOp (s : State) (g : Nat) (p : Packet) (fill free : Nat) : State :=
  let T := s.tile g
  if T.reassignStopped then s.respondAt g p.id .gate []
  else if T.isCount fill || T.isCount free then s.respondAt g p.id .decerr []
  else s.homeAdd g p fill

/-- A multicast read-back has read its row: RTALLY is to be added (spec/06_stream_transforms.md R224); for an abandoned descriptor it is not
(spec/08_tallies_bells_channels.md R302). -/
def State.mcReadbackOp (s : State) (g : Nat) (p : Packet) (t : Nat) : State :=
  if (s.tile g).reassignStopped then s.respondAt g p.id .gate []
  else if t = 63 || p.abandoned then s.respondAt g p.id .ok []
  else s.homeAdd g p t

/-- The add of a read-back has taken effect: it is answered, a slot's with FILL and FREE once the spread is checked (R185, R187). -/
def State.homeAdded (s : State) (g pkt : Nat) : State :=
  match (s.pkt pkt).map Packet.kind with
  | some (.slotReadback fill free n) =>
    let T := s.tile g
    if n < (T.tallyOf fill - T.tallyOf free).toNat then s.respondAt g pkt .spread []
    else s.respondAt g pkt .ok [ringWords (T.tallyOf fill) (T.tallyOf free)]
  | _ => s.respondAt g pkt .ok []

/-- The values that a probe returns reach the channel: its own count of started slots begins, and it waits on while the ring is full
(R184, R185, R187). -/
def Channel.probed (c : Channel) (d : RowData) (p : Packet) (fill free : Word) : Channel :=
  let c := { c with ringFree := free, started := if c.phase = .probe then fill else c.started, phase := if c.phase = .probe then .idle else c.phase }
  if ringSpread d fill free then
    c.addFail { seq := p.ord, addr := p.addr, dir := 1, status := .spread, unit := c.wunit, all := false, alone := true }
  else if c.state = .wait && c.mayStart d free then { c with state := .run } else c

/-- A response to a burst request, a flit, a probe or a fetch reaches its channel (R182, R187, R190). -/
def State.remoteResponseOp (s : State) (tile : Nat) (p : Packet) (st : Status) (data : List RowData) : State :=
  let n := p.iss.chan
  let l := p.l || (s.slice (tileDie tile)).lpActive
  let first := p.unit - (p.place / 64 - p.bstart)
  match p.kind with
  | .read | .write =>
    (s.dropPkt p.id).modChan tile n (fun c => c.burstAnswer p.ord p.unit first p.write p.addr.toNat st data l p.demoted)
  | .mcast rs =>
    let first : Bool := match (s.chan tile n).fail with | none => true | some g => decide (p.ord < g.seq)
    let s := if st ≠ .ok && first then s.modTile tile (fun T => T.setLag n (rs.map Prod.fst)) else s
    let addr := tileMemAddr ((rs.map Prod.snd).headD 0) p.place
    (s.dropPkt p.id).modChan tile n (fun c => c.burstAnswer p.ord p.unit p.unit true addr st data l p.demoted)
  | .probe _ _ =>
    let w := data.headD 0
    let s := (s.dropPkt p.id).modChan tile n (fun c => { c.tagged l p.demoted with outst := c.outst - 1, rbIssued := false })
    if st ≠ .ok then
      s.modChan tile n (fun c => c.addFail { seq := p.ord, addr := p.addr, dir := 2, status := st, unit := c.known, all := false, alone := true })
    else s.modChan tile n (fun c => match c.snap with
      | some d => c.probed d p (BitVec.ofNat 32 (rowWord w 0)) (BitVec.ofNat 32 (rowWord w 1))
      | none => c)
  | .fetch => (s.dropPkt p.id).modChan tile n (fun c => { c.tagged l p.demoted with fetching := false, fetched := some (st, data.headD 0) })
  | .index _ => s.modPkt p.id (fun p => { p with resp := some st, data := data, loc := .home })
  | .reg _ => ((s.dropPkt p.id).modChan tile n (fun c => c.tagged l p.demoted)).answerReg (.st tile n) p.addr.toNat st 0
  | _ => s

/-- A read-back returns (R176, R182, R187). -/
def State.readbackReturnOp (s : State) (tile : Nat) (p : Packet) (st : Status) (data : List RowData) : State :=
  let n := p.iss.chan
  let l := p.l || (s.slice (tileDie tile)).lpActive
  let back (s : State) : State := (s.dropPkt p.id).modChan tile n (fun c => { c with outst := c.outst - 1, l := c.l || l, demoted := c.demoted || p.demoted })
  let bad (s : State) : State := s.modChan tile n (fun c =>
    c.addFail { seq := p.ord, addr := p.addr, dir := if st = .spread then 1 else 2, status := st, unit := c.known, all := false, alone := true })
  match p.kind with
  | .readback | .rtally _ =>
    let s := back s
    if st ≠ .ok then bad s
    else s.modChan tile n (fun c =>
      let l := updWhere (fun w => w.target == p.target) (fun w => { w with returned := true }) c.targets
      if c.phase ≠ .finished ∧ l.all (fun w => w.returned) then { c with targets := [], known := c.wunit } else { c with targets := l })
  | .slotReadback _ _ _ =>
    let s := (back s).modChan tile n (fun c => { c with rbIssued := false })
    if st ≠ .ok then bad s
    else s.modChan tile n (fun c =>
      { c with ringFree := BitVec.ofNat 32 (rowWord (data.headD 0) 1), slotOpen := false, slotEnd := false, known := c.wunit })
  | _ => s

/-- A window lookup returns: the burst, fetch or index read that it translates is issued, or fails with its outcome (R230, R232). -/
def State.lookupReturnOp (s : State) (tile : Nat) (p : Packet) (dir : Nat) (st : Status) (data : List RowData) : State :=
  let n := p.iss.chan
  let c := s.chan tile n
  let row := data.headD 0
  let l := p.l || (s.slice (tileDie tile)).lpActive
  let room := s.remoteBusy tile < 16
  let tr (a : Addr) (write strict : Bool) (len : Nat) : Except Status (Target × Nat) :=
    if st ≠ .ok then .error st else s.translate (tileDie tile) (entryIn row a) a write strict len
  let bad (s : State) (a : Addr) : State :=
    (if st = .ok then s.latchOff (tileDie tile) (entryIn row a) a (s.issuer (.st tile n)) else s).dropPkt p.id
  let fail (s : State) (a : Addr) (st : Status) (unit : Nat) : State :=
    s.modChan tile n (fun c => c.addFail { seq := p.ord, addr := a, dir := dir, status := st, unit := unit, all := false })
  let side (s : State) : State := s.modChan tile n (fun c =>
    { c.tagged l p.demoted with outst := c.outst - 1 })
  let v := c.snap.map (fun d => ((s.tile tile).indexFor n d c.wunit).getD 0)
  match dir, c.snap with
  | 3, _ =>
    let a := c.entryAddr c.head
    (match tr a false false 64 with
      | .error e => (bad s a).modChan tile n (fun c => { c.tagged l p.demoted with fetching := false, fetched := some (e, 0) })
      | .ok t =>
        if !room then s
        else
          let s := (s.dropPkt p.id).modChan tile n (fun c => c.tagged l p.demoted)
          s.launch (s.newPacket (s.issuer (.st tile n)) .fetch 6 t.1 a t.2 64 false []))
  | 0, some d =>
    let q := c.readNext d (v.getD 0)
    if c.working.isNone then side (s.dropPkt p.id)
    else (match tr q.2.1 false true (64 * q.2.2) with
      | .error e => fail (side (bad s q.2.1)) q.2.1 e q.1
      | .ok t =>
        if 16 < s.remoteBusy tile + (requestPieces t.2 q.2.2 0 q.2.2).length then s
        else (side (s.dropPkt p.id)).readRemote tile n d (v.getD 0) t.1 t.2)
  | 1, some d =>
    let q := c.writeNext d (v.getD 0)
    if c.working.isNone then side (s.dropPkt p.id)
    else (match tr q.2.1 true true (64 * q.2.2) with
      | .error e => fail (side (bad s q.2.1)) q.2.1 e q.1
      | .ok t =>
        if !c.targetsFull t.1 && 16 < s.remoteBusy tile + (requestPieces t.2 q.2.2 0 q.2.2).length then s
        else (side (s.dropPkt p.id)).writeRemote tile n d (v.getD 0) t.1 t.2)
  | 4, some d =>
    (match (s.tile tile).blocks.find? (fun b => b.id == p.unit) with
      | none => s.dropPkt p.id
      | some b =>
        match tr b.addr false false (64 * b.count) with
        | .error e =>
          fail (((bad s b.addr).modTile tile (fun T => { T with blocks := T.blocks.filter (fun k => k.id != b.id) })).modChan tile n (fun c => c.tagged l p.demoted))
            b.addr e (b.first * Desc.dstUnits d)
        | .ok t =>
          let s := (s.dropPkt p.id).modChan tile n (fun c => c.tagged l p.demoted)
          s.launch (s.newPacket (s.issuer (.st tile n)) (.index b.id) (Desc.qos d) t.1 b.addr t.2 (Desc.blockBytes d b.first) false []))
  | _, _ => s.dropPkt p.id

/-! ## Halts and ALLSTOP (R190, R193; spec/06_stream_transforms.md R204) -/

/-- The channel latches its failure and enters HALT (R190). -/
def Channel.halted (c : Channel) : Channel :=
  match c.fail with
  | none => c
  | some f =>
    let src := f.dir == 0
    { c with state := .halt, code := f.status, faultAddr := f.addr, faultDir := f.dir, faultStatus := f.status, faultAll := f.all,
             haltFrom := c.state, haltDir := f.dir, haltAlone := f.alone, haltAll := f.all, posSrc := src, fail := none, posUnit := f.unit,
             pos := match c.snap with | some d => if Desc.moves d then Desc.posOf d src f.unit else {} | none => {} }

/-- A channel that is not DISABLED halts with ALLSTOP, at its own position; one with requests outstanding halts once they have returned, and one
in HALT stays where its halt has put it. -/
def Channel.allStop (c : Channel) (seq : Nat) (busy : Bool) : Channel :=
  let a : Addr := match c.snap with
    | some d => if Desc.moves d then Desc.dstAddr d 0 c.wunit else c.entryAddr c.head
    | none => c.entryAddr c.head
  let own : ChFail := { seq := seq, addr := a, dir := 4, status := .allstop, unit := c.wunit, all := true }
  match c.state with
  | .disabled => c
  | .halt => { c with code := .allstop, faultStatus := .allstop, faultAll := true }
  | _ =>
    if busy || c.outst ≠ 0 || c.fetching || c.fetched.isSome || c.fail.isSome then
      { c with fail := some (match c.fail with | some g => { g with status := .allstop, all := true } | none => own) }
    else { c with fail := some own }.halted

/-- A prefetch failure that cannot be attributed: `cause` 1 CRC, 2 stray tag, 3 block parity. -/
def State.allStop (s : State) (tile cause code : Nat) (a : Nat) : State :=
  let T := s.tile tile
  let mask := (List.range 8).foldl (fun m n => if (T.chan n).state = .disabled then m else m ||| (1 <<< n)) 0
  let s := s.modTile tile (fun T => { T with chans := T.chans.map (fun p => (p.1, p.2.allStop s.nextId (T.indexPending p.1))) })
  (s.raise (tileDie tile) T.hh 2).record (tileDie tile) 6 tile (detail [(0, cause), (1, code), (2, mask), (4, a)])

/-- An index read has returned (R204). -/
def State.indexReturnOp (s : State) (tile : Nat) (b : IndexBlock) (how : IndexReturn) : State :=
  let drop (s : State) : State := s.modTile tile (fun T => { T with blocks := T.blocks.filter (fun k => k.id != b.id) })
  if how = .strayTag then (drop s).allStop tile 2 (statusCode b.status) 0
  else if how = .blockParity then (drop s).allStop tile 3 (statusCode b.status) b.addr.toNat
  else if b.status = .crc then (drop s).allStop tile 1 (statusCode b.status) 0
  else if b.status ≠ .ok then
    (drop s).modChan tile b.chan (fun c =>
      c.addFail { seq := b.id, addr := b.addr, dir := 4, status := b.status,
                  unit := match c.snap with | some d => b.first * Desc.dstUnits d | none => 0, all := false })
  else s.modTile tile (fun T => { T with blocks := updWhere (fun k => k.id == b.id) (fun _ => { b with ready := true }) T.blocks })

/-! ## Completion and halts (R178, R190, R191, R405) -/

/-- The descriptor has completed: everything is issued, committed and known (R175, R176, R189). -/
def Channel.complete (c : Channel) (d : RowData) : Bool :=
  c.state = .run && c.fail.isNone && c.outst == 0 && !c.aborting && c.recWait.isNone && !c.doneWait &&
  (if Desc.moves d then c.phase == .finished && !c.slotEnd && c.targets.all (fun w => w.returned) else c.bodyDone)

/-- Bytes written by a descriptor that has completed; null elements of a SCATTER write none. -/
def Channel.bytesDone (c : Channel) (d : RowData) : Nat :=
  if Desc.moves d then (Desc.totalUnits d - c.skipped.length * Desc.dstUnits d) * 64 else 0

/-- Steps 2 to 4 of R178. Where an ABORT has come after the completion, the later descriptors are dropped (DESIGN CHOICE,
notes/assumptions/50.md). -/
def State.completeEnd (s : State) (tile n : Nat) (d : RowData) : State :=
  let c := s.chan tile n
  let st : Status := if Desc.op d = 4 ∧ c.drop ≠ 0 then .mcStall else .ok
  let s := s.modChan tile n (fun c => { c with head := if c.aborting then c.tail else c.head + 1 })
  let r := s.recordOf tile n c.head (Desc.tag d) st (c.bytesDone d) (if st = .ok then 0 else c.faultAddr) (if st = .ok then 0 else c.faultDir)
  s.finish tile n (if Desc.crec d || st != .ok then some r else none) (Desc.full d) (if c.aborting then .idle else .next)

/-- Completion in the order of R178: first DONE_TALLY is added, at a tally boundary; the other steps follow the add. -/
def State.completeOp (s : State) (tile n : Nat) (d : RowData) : State :=
  let lp := (s.chan tile n).l || (s.slice (tileDie tile)).lpActive
  if Desc.doneTally d = 63 then s.completeEnd tile n d
  else (s.enqueue tile (.done n (Desc.doneTally d) lp)).modChan tile n (fun c => { c with doneWait := true })

/-- A DONE_TALLY add has taken effect. -/
def State.doneTaken (s : State) (tile n : Nat) : State :=
  let c := s.chan tile n
  match c.snap with
  | none => s
  | some d => if c.doneWait then s.completeEnd tile n d else s

/-- Bytes before ST_POS (R405). -/
def Channel.bytesBefore (c : Channel) (u : Nat) (source : Bool) : Nat :=
  match c.snap with
  | some d => if !Desc.moves d then 0 else 64 * (if source && Desc.op d = 5 then u / Desc.srcUnits d * Desc.dstUnits d else u)
  | none => 0

/-- The TAG of a record that ends a descriptor. -/
def Channel.tag (c : Channel) : BitVec 16 := match c.snap with | some d => Desc.tag d | none => 0

/-- The end of an ABORT: the record, HEAD to TAIL, IDLE (R191, R194). -/
def State.abortEnd (s : State) (tile n : Nat) (bytes : Nat) (faddr : Addr) (fdir : Nat) : State :=
  let c := s.chan tile n
  let r := s.recordOf tile n c.head c.tag .aborted bytes faddr fdir
  (s.modChan tile n (fun c => { c with head := c.tail, state := .run })).finish tile n (some r) false .idle

/-- The outstanding requests of a failed or aborted channel have returned. A channel whose index read has failed halts in ARMED too
(spec/06_stream_transforms.md R204). -/
def State.haltOp (s : State) (tile n : Nat) : State :=
  let c := s.chan tile n
  if c.outst ≠ 0 || c.fetching || c.fetched.isSome || (s.tile tile).indexPending n || c.doneWait ||
      !(c.state = .run || c.state = .wait || c.state = .arming || c.state = .armed) then s
  else if c.aborting then
    s.abortEnd tile n (match c.fail with | some f => c.bytesBefore f.unit (f.dir == 0) | none => c.bytesBefore c.wunit false) 0 0
  else match c.fail with
    | none => s
    | some f =>
      let s := s.modChan tile n Channel.halted
      if f.all then s else s.raise (tileDie tile) (s.tile tile).hh 2

/-! ## Channel commands (R163 to R166, R191, R194) -/

def State.armOp (s : State) (tile n : Nat) : State × Status :=
  let c := s.chan tile n
  if !c.localRing tile then (s, .ok)
  else match c.state with
    | .run | .wait | .halt => (s, .rearmBusy)
    | .idle | .armed =>
      if c.head = c.tail then (s, .ok)
      else (((s.modTile tile (fun T => T.dropBlocks n)).modChan tile n (fun c => { c.cleared with armPoint := c.head })).fetchNext tile n .arming, .ok)
    | _ => (s, .ok)

def State.goOp (s : State) (tile n : Nat) : State × Status :=
  let c := s.chan tile n
  if !c.localRing tile then (s, .ok)
  else match c.state with
    | .armed => (s.startDesc tile n, .ok)
    | .arming | .run | .wait => (s.modChan tile n (fun c => if c.pendGo then { c with goLost := true } else { c with pendGo := true }), .ok)
    | _ => (s.modChan tile n (fun c => { c with goLost := true }), .ok)

/-- Receivers that RESUME leaves out: DROP bits of receivers that the descriptor has (spec/06_stream_transforms.md R226). -/
def Tile.dropNow (T : Tile) (n : Nat) (d : RowData) : BitVec 16 :=
  if Desc.op d = 4 then BitVec.ofNat 16 (bits (T.lagWord n) 16 16 % 2 ^ (Desc.receivers d).length) else 0

/-- The channel goes on from a failed burst, index read or flit at ST_POS. -/
def Channel.rewindTo (c : Channel) (d : RowData) (drop : BitVec 16) : Channel :=
  let w := if c.posSrc then c.wunit else min c.wunit c.posUnit
  let k := w / Desc.dstUnits d
  { c with state := .run, wunit := w, runit := if Desc.op d = 5 then k * Desc.srcUnits d else w, need := 0, inBuf := [], outBuf := [],
           phase := if c.phase = .probe then .probe else .idle, skipped := c.skipped.filter (fun e => e < k), slotEnd := false,
           rbIssued := false, credits := [], trans := none, waitTally := false, drop := c.drop ||| drop }

/-- The channel takes up what it had in hand: read-backs that have not returned are issued again, those of receivers left out are not. -/
def Channel.backTo (c : Channel) (d : RowData) (tile : Nat) (st : ChState) (drop : BitVec 16) : Channel :=
  let c := { c with drop := c.drop ||| drop }
  let l := if Desc.op d = 4 then c.targets.filter (fun w => (c.mcTargets d tile).any (fun p => w.target == .tile p.2)) else c.targets
  { c with state := st, rbIssued := false, targets := updWhere (fun w => !w.returned) (fun w => { w with issued := false }) l }

/-- Units of the output before ST_POS have all been issued and nothing else of the descriptor's bursts has failed. -/
def Channel.issuedAll (c : Channel) : Bool :=
  !c.posSrc && c.posUnit == c.wunit && (c.phase == .finished || c.phase == .probe || c.slotEnd)

/-- The descriptor is fetched again. -/
def State.refetch (s : State) (tile n : Nat) (st : ChState) : State :=
  (s.modChan tile n (fun c => { c.again with state := st })).fetch tile n

/-- Where RESUME leads from the descriptor in hand (R191, R193): an entry not yet in hand, or whose fetch or checks have failed, is fetched
again; a read-back, probe or ring check is taken up again alone; anything else goes on from ST_POS. -/
def State.resumeDesc (s : State) (tile n : Nat) : State :=
  let c := s.chan tile n
  let back := if c.haltFrom = .arming then ChState.arming else .run
  match c.snap with
  | none => s.refetch tile n back
  | some d =>
    let drop := (s.tile tile).dropNow n d
    if c.haltFrom = .arming ∨ c.phase = .fetched ∨ c.haltDir = 5 ∨ c.haltDir = 3 then s.refetch tile n back
    else if c.haltFrom = .armed then s.startDesc tile n
    else if c.haltAlone ∨ !Desc.moves d ∨ (c.haltAll ∧ c.issuedAll) then
      s.modChan tile n (fun c => c.backTo d tile (if c.haltAll then c.haltFrom else .run) drop)
    else if c.haltAll ∧ c.haltFrom = .wait ∧ c.haltDir = 4 then s.modChan tile n (fun c => { c with state := .wait })
    else s.modChan tile n (fun c => c.rewindTo d drop)

/-- The descriptor has ended, or its completion is under way, though the channel is in HALT. -/
def Channel.ending (c : Channel) : Bool := c.doneWait || c.recWait.isSome

def State.resumeOp (s : State) (tile n : Nat) : State × Status :=
  let c := s.chan tile n
  if c.state ≠ .halt then (s, .ok)
  else if c.ending then (s.modChan tile n (fun c => { c with state := .run }), .ok)
  else match c.contWait with
    | some k => ((s.modChan tile n (fun c => { c with state := .run })).proceed tile n k, .ok)
    | none =>
      if c.haltAll ∧ c.haltFrom = .idle then (s.toIdle tile n, .ok)
      else if c.haltAll ∧ c.haltFrom = .armed then (s.modChan tile n (fun c => { c with state := .armed }), .ok)
      else (s.resumeDesc tile n, .ok)

/-- A halt of R193 found no descriptor on the channel: none is ended. -/
def Channel.haltedIdle (c : Channel) : Bool := c.haltAll && c.haltFrom == .idle

def State.skipOp (s : State) (tile n : Nat) : State × Status :=
  let c := s.chan tile n
  if c.state ≠ .halt then (s, .ok)
  else if c.ending then (s.modChan tile n (fun c => { c with state := .run }), .ok)
  else match c.contWait with
    | some k => ((s.modChan tile n (fun c => { c with state := .run })).proceed tile n k, .ok)
    | none =>
      if c.haltedIdle then (s.toIdle tile n, .ok)
      else
        let r := s.recordOf tile n c.head c.tag c.code (c.bytesBefore c.posUnit c.posSrc) c.faultAddr c.faultDir
        let s := s.modChan tile n (fun c => { c with head := c.head + 1, state := .run })
        (s.finish tile n (some r) false (if c.haltFrom = .arming then .nextArm else .next), .ok)

/-- An ABORT of a channel whose descriptor has completed drops the later ones (DESIGN CHOICE, notes/assumptions/50.md). -/
def Channel.abortEnding (c : Channel) : Channel :=
  match c.recWait with
  | some (r, f, _) => { c with state := .run, head := c.tail, recWait := some (r, f, .idle) }
  | none => { c with state := .run, aborting := true }

def State.abortOp (s : State) (tile n : Nat) : State × Status :=
  let c := s.chan tile n
  match c.state with
  | .halt =>
    if c.ending then (s.modChan tile n Channel.abortEnding, .ok)
    else if c.haltedIdle || c.contWait.isSome then ((s.modChan tile n (fun c => { c with state := .run, head := c.tail })).proceed tile n .idle, .ok)
    else (s.abortEnd tile n (c.bytesBefore c.posUnit c.posSrc) c.faultAddr c.faultDir, .ok)
  | .run | .wait =>
    if c.ending then (s.modChan tile n Channel.abortEnding, .ok)
    else ((s.modChan tile n (fun c => { c with aborting := true, waitTally := false })).haltOp tile n, .ok)
  | _ => (s, .ok)

/-- The watchman sees what a command to a channel does to its core (spec/08_tallies_bells_channels.md R283 to R285). -/
def awakeAt (tile : Nat) (p : State × Status) : State × Status := (p.1.watch tile, p.2)

/-- CMD of ST_CTRL. -/
def State.cmdOp (s : State) (tile n cmd : Nat) : State × Status :=
  match cmd with
  | 1 => awakeAt tile (s.armOp tile n)
  | 2 => awakeAt tile (s.goOp tile n)
  | 3 => awakeAt tile (s.resumeOp tile n)
  | 4 => awakeAt tile (s.skipOp tile n)
  | 5 => awakeAt tile (s.abortOp tile n)
  | _ => (s, .ok)

/-- EN written (R159, R195, R196). -/
def State.enOp (s : State) (tile n : Nat) (en : Bool) : State × Status :=
  let c := s.chan tile n
  if en then
    (if c.state ≠ .disabled then (s, .ok)
     else if !(c.localRing tile || c.hhRing) then (s, .decerr)
     else
      let s := s.modChan tile n (fun c => { c.cleared with en := true, state := .idle })
      awakeAt tile (if c.hhRing && c.head != c.tail then s.fetchNext tile n .run else s, .ok))
  else match c.state with
    | .run | .wait | .arming => (s, .rearmBusy)
    | .disabled => (s, .ok)
    | _ => ((s.modTile tile (fun T => T.dropBlocks n)).modChan tile n (fun c => { c.cleared with en := false, state := .disabled, recWait := none }), .ok)

/-- A write to ST_CTRL: REPEAT; of EN and CMD that one first that R195 lists first in the channel's state: EN written 1 in DISABLED has no other event
beside it, and EN written 0 stands after the commands (R16, R195). A write that does not complete with OK changes nothing. -/
def State.chanCtrlOp (s : State) (w : Src) (tile n : Nat) (v : Word) : State × Status :=
  if !s.mayWrite .hm w tile then (s, .deed)
  else
    let s0 := s.modChan tile n (fun c => { c with rep := bit v 8 })
    let andThen (p : State × Status) (f : State → State × Status) : State × Status := if p.2 = .ok then f p.1 else p
    let c := s.chan tile n
    let r :=
      if bit v 0 then andThen (s0.enOp tile n true) (fun s => s.cmdOp tile n (bits v 4 3))
      else if c.state = .run || c.state = .wait || c.state = .arming then (s, .rearmBusy)
      else andThen (s0.cmdOp tile n (bits v 4 3)) (fun s => s.enOp tile n false)
    if r.2 ≠ .ok then (s, r.2) else r

/-- A command written to CMD with EN and REPEAT as they stand. -/
def State.chanCmdOp (s : State) (w : Src) (tile n cmd : Nat) : State × Status :=
  if !s.mayWrite .hm w tile then (s, .deed) else s.cmdOp tile n cmd

/-- A new TAIL (R161, R162). -/
def State.tailOp (s : State) (tile n : Nat) (t : BitVec 16) : State × Status :=
  let c := s.chan tile n
  if c.entries < (t - c.head).toNat then (s, .size)
  else
    let s := s.modChan tile n (fun c => { c with tail := t })
    awakeAt tile (if c.state = .idle && c.hhRing && c.head != t then s.fetchNext tile n .run else s, .ok)

def State.chanTailOp (s : State) (w : Src) (tile n : Nat) (v : Word) : State × Status :=
  if !s.mayWrite .hm w tile then (s, .deed) else s.tailOp tile n (BitVec.ofNat 16 (bits v 0 16))

/-- A write to another register of a channel, by its offset in the channel's block (R196, R197). -/
def State.chanRegOp (s : State) (w : Src) (tile n off : Nat) (v : Word) : State × Status :=
  let c := s.chan tile n
  if !s.mayWrite .hm w tile then (s, .deed)
  else match off with
    | 0x00 => s.chanCtrlOp w tile n v
    | 0x04 => (s.modChan tile n (fun c => { c with goLost := c.goLost && !bit v 9 }), .ok)
    | 0x08 => if c.en then (s, .rearmBusy) else (s.modChan tile n (fun c => { c with baseLo := v &&& 0xFFFFFFC0 }), .ok)
    | 0x0C => if c.en then (s, .rearmBusy) else (s.modChan tile n (fun c => { c with baseHi := v &&& 0xFFFFF }), .ok)
    | 0x10 => if c.en then (s, .rearmBusy) else (s.modChan tile n (fun c => { c with head := BitVec.ofNat 16 (bits v 0 16) }), .ok)
    | 0x14 => s.chanTailOp w tile n v
    | _ => (s, .ok)

/-- ST_MC_STALL: below 256 stores 256. -/
def State.mcStallRegOp (s : State) (w : Src) (tile : Nat) (v : Word) : State × Status :=
  if !s.mayWrite .hm w tile then (s, .deed)
  else (s.modTile tile (fun T => { T with mcStall := BitVec.ofNat 16 (max 256 (bits v 0 16)) }), .ok)

def State.stPrioOp (s : State) (w : Src) (tile : Nat) (v : Word) : State × Status :=
  if !s.mayWrite .hm w tile then (s, .deed) else (s.modTile tile (fun T => { T with stPrio := BitVec.ofNat 24 (bits v 0 24) }), .ok)

/-- DROP of ST_MC_LAG (R226, R227). -/
def State.mcLagOp (s : State) (w : Src) (tile n : Nat) (v : Word) : State × Status :=
  if !s.mayWrite .hm w tile then (s, .deed)
  else (s.modTile tile (fun T => { T with mcLag := T.mcLag.set n ((T.lagWord n &&& 0xFFFF) ||| (v &&& 0xFFFF0000)) }), .ok)

/-- What a channel register reads as. -/
def Channel.read (c : Channel) (tile off : Nat) : Word :=
  match off with
  | 0x00 => flag 0 c.en ||| flag 8 c.rep
  | 0x04 => put 0 (chCode c.state) ||| put 4 (statusCode c.code) ||| flag 8 c.pendGo ||| flag 9 c.goLost ||| flag 10 (c.localRing tile)
  | 0x08 => c.baseLo
  | 0x0C => c.baseHi
  | 0x10 => c.head.zeroExtend 32
  | 0x14 => c.tail.zeroExtend 32
  | 0x18 => put 0 c.curIdx.toNat ||| put 16 c.curTag.toNat
  | 0x1C => put 0 c.pos.i0
  | 0x20 => put 0 c.pos.i1
  | 0x24 => put 0 c.pos.i2
  | 0x28 => put 0 c.pos.sub ||| put 10 c.pos.slot
  | 0x2C => put 0 (c.faultAddr.toNat % 2 ^ 32)
  | 0x30 => put 0 (c.faultAddr.toNat / 2 ^ 32)
  | 0x34 => put 0 c.faultDir ||| put 4 (statusCode c.faultStatus) ||| flag 8 c.faultAll
  | _ => 0

/-! ## Opcodes without data -/

/-- The channel runs a descriptor of an opcode that has not yet acted. -/
def Channel.acting (c : Channel) (code : Nat) : Option RowData :=
  if c.state = .run && c.fail.isNone && !c.aborting && c.recWait.isNone && !c.bodyDone && !c.waitTally && c.outst == 0 && !c.doneWait then
    c.snap.filter (fun d => Desc.op d == code)
  else none

def State.nopOp (s : State) (tile n : Nat) : State :=
  match (s.chan tile n).acting 0 with
  | none => s
  | some _ => s.modChan tile n (fun c => { c with bodyDone := true })

/-- WAITT asks the tally block at its next boundary (R169). -/
def State.waittOp (s : State) (tile n : Nat) : State :=
  match (s.chan tile n).acting 8 with
  | none => s
  | some _ => s.modChan tile n (fun c => { c with waitTally := true })

/-- SIGNAL adds AMOUNT at the next boundary (R169, R175). -/
def State.signalOp (s : State) (tile n : Nat) : State :=
  match (s.chan tile n).acting 9 with
  | none => s
  | some d => (s.modChan tile n (fun c => { c with outst := 1 })).enqueue tile (.stAdd n (Desc.tally d) (Desc.value d))

end Sys2Proof.Machine
end

