-- ==== Sys2Proof/Machine/HouseOps.lean ====
section
/-!
DEFINITION. Shared operations of the households: bindings, the host port, doorbells, doorsteps, completion records, interrupts,
capture and reassignment (spec/09_households.md; spec/08_tallies_bells_channels.md R300 to R303).
-/

namespace Sys2Proof.Machine

/-- Every slice changed by `f`. -/
def State.modSlices (s : State) (f : Slice → Slice) : State := (List.range s.dies).foldl (fun s d => s.modSlice d f) s

/-- The global tiles that a slice lists; the others are as at reset. -/
def State.listedTiles (s : State) : List Nat := s.slices.flatMap (fun p => p.2.tiles.map (fun q => 256 * p.1 + q.1))

/-- Record writes of a household that are under way concern its ring no more. -/
def State.forgetRecords (s : State) (d h : Nat) : State :=
  { s with net := updWhere (fun p => p.iss.die == d && ((p.kind == .record && p.iss.hh == h) || p.kind == .sliceLookup h)) (fun p =>
      { p with abandoned := true }) s.net }

/-! ## Binding (R306 to R310) -/

/-- SLC_TILE_HH or TL_ID.HH of a slice's tile. -/
def Slice.tileHh (S : Slice) (i : Nat) : Nat := (S.tile i).hh

/-- Some tile of the package belongs to a household, or is being given to it. -/
def State.hasTiles (s : State) (h : Nat) : Bool :=
  (List.range s.dies).any (fun d => (s.slice d).base.hh == h && h != 0) ||
  s.listedTiles.any (fun t => (s.tile t).hh == h || (s.tile t).reassign.any (fun r => r.hh == h))

/-- R309: the registers of household h that a bind or unbind resets in a slice. -/
def Slice.resetHh (S : Slice) (h : Nat) : Slice :=
  { S with tithe := S.tithe.del h, buckets := (List.range 3).foldl (fun b p => Tbl.del b (16 * p + h)) S.buckets,
           winLo := S.winLo.del h, winHi := S.winHi.del h, crings := S.crings.del h, irqs := S.irqs.del h,
           irqDue := S.irqDue.filter (fun q => q.hh != h), doorsteps := S.doorsteps.cut (64 * h) (64 * h + 64) }

def Slice.setBind (S : Slice) (h : Nat) (b : HhBind) : Slice := { S with hh := S.hh.set h b }

/-- A bind or unbind of household h reaches the slices: its registers take their reset values in every slice, and the binding `b` is written
into every powered slice that has passed step 2 (R307 to R309; spec/11_startup_power_book.md R371). -/
def State.writeBinds (s : State) (h : Nat) (b : HhBind) : State :=
  (List.range s.dies).foldl (fun s d => (s.forgetRecords d h).modSlice d (fun S =>
    (S.resetHh h).setBind h (if s.live d then b else { S.bind h with dbg := false }))) s

/-- A write of OP 1 to SLC_BINDREQ (R307): the cause of a failure, or the household taken. -/
def State.bindOp (s : State) (fn : BitVec 8) (home : BitVec 3) : State :=
  let S := s.slice 0
  let fails (c : Nat) : State := s.modSlice 0 (fun S => { S with bindStat := { S.bindStat with err := true, cause := BitVec.ofNat 4 c } })
  if s.dies ≤ home.toNat then fails 4
  else if (S.hhOfFn fn.toNat).isSome then fails 2
  else match (List.range 16).find? (fun h => h != 0 && !(S.bind h).bound) with
    | none => fails 1
    | some h =>
      let s := s.writeBinds h { fn := fn, bound := true, home := home, dbg := false }
      s.modSlice 0 (fun S => { S with bindStat := { S.bindStat with hh := BitVec.ofNat 4 h, err := false, cause := 0 } })

/-- A gate closes to later bursts at the pace `now` (spec/07_external_bridges.md R258). -/
def Gate.close (now : Nat) (G : Gate) : Gate :=
  if !G.isOpen then G
  else if G.bursts = 0 then { G with isOpen := false, closedDone := true }
  else { G with isOpen := false, closing := true, since := now }

/-- Every gate of a tile with the property closes. -/
def Tile.closeGates (T : Tile) (now : Nat) (p : Gate → Bool) : Tile := { T with gates := T.gates.mapVals (fun G => if p G then G.close now else G) }

/-- A write of OP 2 to SLC_BINDREQ (R308, steps 1 to 2). -/
def State.unbindOp (s : State) (h : Nat) : State :=
  let S := s.slice 0
  if h = 0 || !(S.bind h).bound || s.hasTiles h then
    s.modSlice 0 (fun S => { S with bindStat := { S.bindStat with err := true, cause := 3 } })
  else
    let s := s.modSlice 0 (fun S => { S with bindStat := { S.bindStat with busy := true, err := false, cause := 0, unbinding := some h } })
    s.listedTiles.foldl (fun s t =>
      (s.modTile t (fun T => T.closeGates (s.paceNat t) (fun G => G.hh.toNat == h))).closeEps t (fun E => E.hh.toNat == h)) s

/-- A write to SLC_BINDREQ. -/
def State.bindReqOp (s : State) (w : Src) (v : Word) : State × Status :=
  if !s.isManager w then (s, .deed)
  else if (s.slice 0).bindStat.busy then (s, .rearmBusy)
  else if bits v 12 2 = 1 then (s.bindOp (BitVec.ofNat 8 (bits v 0 8)) (BitVec.ofNat 3 (bits v 14 3)), .ok)
  else if bits v 12 2 = 2 then (s.unbindOp (bits v 8 4), .ok)
  else (s, .ok)

/-- R308, steps 3 to 5: every gate of the household shows CLOSED_DONE, and the bindings are cleared. -/
def State.unbindFinishOp (s : State) : State :=
  match (s.slice 0).bindStat.unbinding with
  | none => s
  | some h =>
    if s.listedTiles.any (fun t => (s.tile t).gates.any (fun p => p.2.hh.toNat == h && !p.2.closedDone)) then s
    else
      let s := (s.writeBinds h {}).modSlices (fun S => { S with cap := { S.cap with mask := setBit S.cap.mask h false } })
      s.modSlice 0 (fun S => { S with bindStat := { S.bindStat with busy := false, unbinding := none } })

/-- A household that may be given tiles: bound, and no unbind of it accepted (R308, R312). -/
def State.givable (s : State) (d h : Nat) : Bool := ((s.slice d).bind h).bound && (s.slice 0).bindStat.unbinding != some h

/-- A write to SLC_UNBOUND. -/
def State.unboundOp (s : State) (w : Src) (d : Nat) (v : Word) : State × Status :=
  if !s.isManager w then (s, .deed)
  else (s.modSlice d (fun S => if bit v 31 then { S with unbCount := 0, unbFn := 0 } else S), .ok)

/-- A write to SLC_HH_BIND[h]: DBG alone is writable. -/
def State.hhBindOp (s : State) (w : Src) (d h : Nat) (v : Word) : State × Status :=
  if !s.isManager w then (s, .deed) else (s.modSlice d (fun S => S.setBind h { S.bind h with dbg := bit v 12 }), .ok)

/-! ## The host port (R310, R315 to R323) -/

/-- The issuer of what household `h` sends through the host port of a die. -/
def hostIssuer (d h : Nat) : Issuer := { die := d, tile := 0, master := 0, chan := 0, hh := h, port := 64 }

/-- The issuer of what a slice sends on its own account for household `h` (R305). -/
def sliceIssuer (d h : Nat) : Issuer := { die := d, tile := 0, master := 6, chan := 0, hh := h, port := 64 }

/-- A request from a function bound to no household, or in re-run a write of the replayed one, is refused (R310, R337). -/
def State.hostRefuse (s : State) (d fn : Nat) : State :=
  (s.modSlice d (fun S => { S with unbCount := satInc S.unbCount, unbFn := BitVec.ofNat 8 fn })).emit (.hostAnswer d fn .decerr [])

/-- The slice replays the household of a function. -/
def Slice.replays (S : Slice) (h : Nat) : Bool := S.cap.en && S.cap.rerun && S.cap.rhh.toNat == h

/-- Some slice of the package has the function bound. -/
def State.boundSomewhere (s : State) (fn : Nat) : Bool := (List.range s.dies).any (fun d => ((s.slice d).hhOfFn fn).isSome)

/-- A request at the host port of a READY slice, from a bound function that is not being replayed: `f` takes its household. Before READY
the answer is DECERR, and an unbound function is counted (R310) while a bound one is not (spec/11_startup_power_book.md R372). -/
def State.fromHost (s : State) (d fn : Nat) (write : Bool) (f : Nat → State) : State :=
  if !s.ready d then (if s.boundSomewhere fn then s.emit (.hostAnswer d fn .decerr []) else s.hostRefuse d fn)
  else match (s.slice d).hhOfFn fn with
    | none => s.hostRefuse d fn
    | some h => if write && (s.slice d).replays h then s.hostRefuse d fn else f h

/-- A doorbell is queued behind the doorstep pieces of its household that arrived before it (R318). -/
def State.doorbellOp (s : State) (d h offset size : Nat) (word : BitVec 64) : State :=
  let s := s.capture d h 1 offset 0 word 0 .ok false []
  let l := (s.net.filter (fun p => p.iss.die == d && p.iss.port == 64 && p.iss.hh == h && p.resp.isNone &&
    (match p.kind with | .doorstep _ => true | _ => false))).map (·.id)
  s.modSlice d (fun S => { S with bells := S.bells ++ [{ hh := h, offset := offset, size := size, word := word, pieces := l, lapse := S.lpActive }] })

/-- The first doorbell of a household, if it may be released. -/
def Slice.bellReady (S : Slice) (h : Nat) : Option Doorbell :=
  (S.bells.find? (fun b => b.hh == h)).filter (fun b => b.pieces.isEmpty)

/-- The household whose turn it is among those with a doorbell to release (R319). -/
def Slice.bellTurnOf (S : Slice) : Option Nat :=
  argMin (fun h => turnDist 16 S.bellTurn h) ((List.range 16).filter (fun h => (S.bellReady h).isSome))

def bellCode (w : BitVec 64) : Nat := bits w 0 2
def bellTile (w : BitVec 64) : Nat := bits w 4 11
def bellChan (w : BitVec 64) : Nat := bits w 15 3
def bellTail (w : BitVec 64) : BitVec 16 := BitVec.ofNat 16 (bits w 32 16)

/-- What the home slice finds of a doorbell (R316). -/
def State.bellCheck (s : State) (b : Doorbell) : Option Status :=
  if b.size ≠ 8 || b.offset % 8 != 0 then some .align
  else if bellCode b.word = 0 || bellCode b.word = 3 || !s.hasTile (bellTile b.word) then some .decerr
  else if (s.tile (bellTile b.word)).hh ≠ b.hh then some .gate
  else none

/-- A doorbell is released: it fails its check, or sets out to its tile (R316, R318, R319). -/
def State.bellReleaseOp (s : State) (d h : Nat) : State :=
  let S := s.slice d
  match S.bellReady h with
  | none => s
  | some b =>
    if S.bellTurnOf ≠ some h then s
    else
      let s := s.modSlice d (fun S =>
        { S with bellTurn := h, bells := match takeFirst (fun x => x.hh == h) S.bells with | some (_, r) => r | none => S.bells })
      match s.bellCheck b with
      | some st => s.modSlice d (fun S => S.hostFault s.nextId h 1 0 (bellTile b.word) st)
      | none =>
        let g := bellTile b.word
        let p := s.newPacket (hostIssuer d h) (.doorbell b.word) 7 (.tile g)
          (BitVec.ofNat 48 (tileRegAddr g (0x600 + 0x40 * bellChan b.word))) 0 8 true []
        s.launch { p with lapse := if b.lapse then [d] else [] }

/-- A doorbell at its tile: the tile no longer belongs to the household, or the channel takes it (R316, R317). -/
def State.bellAtTile (s : State) (tile : Nat) (p : Packet) (f : State × Status) : State :=
  if !s.ready (tileDie tile) then s.respondAt tile p.id .decerr []
  else if (s.tile tile).reassign.isSome || (s.tile tile).regBusy.isSome || !(s.tile tile).regWait.isEmpty then s
  else if (s.tile tile).hh ≠ p.iss.hh then s.respondAt tile p.id .gate []
  else f.1.respondAt tile p.id f.2 []

/-- Pieces of a doorstep write as (offset in the aperture, bytes) (R321). -/
def stepPieces : Nat → Nat → Nat → List (Nat × Nat)
  | 0, _, _ => []
  | f + 1, a, n =>
    if n = 0 then [] else if a % 256 = 0 ∧ 256 ≤ n then (a, 256) :: stepPieces f (a + 256) (n - 256) else (a, 64) :: stepPieces f (a + 64) (n - 64)

/-- One piece: the table, the tile, the household, then the path (R320, R322). -/
def State.stepPiece (s : State) (d h a size : Nat) (data : List RowData) : State :=
  let k := a / 4096 % 64
  let e := Tbl.get 0 (s.slice d).doorsteps (64 * h + k)
  let g := bits e 0 11
  let off := (14 + bits e 11 1) * 65536 + bits e 12 4 * 4096 + a % 4096
  let fails (st : Status) : State := s.modSlice d (fun S => S.hostFault s.nextId h 2 k g st)
  if !bit e 31 || tileDie g != d then fails .decerr
  else if (s.tile g).hh ≠ h then fails .gate
  else s.launch (s.newPacket (hostIssuer d h) (.doorstep k) 7 (.tile g) (BitVec.ofNat 48 (tileMemAddr g off)) off size true data)

/-- A doorstep write (R321). -/
def State.doorstepOp (s : State) (d h offset length : Nat) (allEnables : Bool) (data : List RowData) : State :=
  let good := offset % 64 == 0 && length % 64 == 0 && allEnables
  let s := s.capture d h 2 offset 0 0 0 (if good then .ok else .align) (!good) (data.take ((length + 63) / 64))
  let k := offset / 4096 % 64
  if !good then s.modSlice d (fun S => S.hostFault s.nextId h 2 k (bits (Tbl.get 0 S.doorsteps (64 * h + k)) 0 11) .align)
  else (stepPieces (length / 64) offset length).foldl (fun s p =>
    s.stepPiece d h p.1 p.2 ((data.drop ((p.1 - offset) / 64)).take (p.2 / 64))) s

/-- A request of a bound function that passes into the slice matrix, or decodes to the default target (R228;
spec/04_fabric_arbitration.md R111, R122). -/
def State.hostPass (s : State) (d h fn : Nat) (a : Addr) (size : Nat) (write : Bool) (data : List RowData) : State :=
  let put (kind : PKind) (t : Target) (place : Nat) : State := s.launch (s.newPacket (hostIssuer d h) kind 6 t a place size write data)
  let default (s : State) : State := (s.latchDecerr d a (hostIssuer d h)).emit (.hostAnswer d fn .decerr [])
  let regSize := (size == 4 && a.toNat % 4 == 0) || (size == 8 && a.toNat % 8 == 0)
  match space a with
  | 1 => if addrBitsZero a && s.hasTile (addrTile a) then put (if write then .write else .read) (.tile (addrTile a)) (addrOff a) else default s
  | 2 => if addrBitsZero a && s.hasTile (addrTile a) && regSize then put (.reg write) (.regs (tileDie (addrTile a))) 0 else default s
  | 3 => if addrBitsZero a && s.hasDie (addrDie a) && regSize then put (.reg write) (.regs (addrDie a)) 0 else default s
  | 4 => put (if write then .write else .read) (.book d) 0
  | _ => default s

/-- A request at the host port (R310, R334; spec/11_startup_power_book.md R372). -/
def State.hostRequestOp (s : State) (d fn : Nat) (a : Addr) (size : Nat) (write : Bool) (data : List RowData) : State :=
  if !s.ready d && fn == 0 && !write && space a == 3 then s.hostPass d 0 fn a size write data
  else s.fromHost d fn write (fun h =>
    let reg := write && (space a == 2 || space a == 3)
    let s := if reg then s.capture d h 3 a.toNat 0 ((data.headD 0).truncate 64) 0 .ok false [] else s
    s.hostPass d h fn a size write data)

/-- The record being written is in its entry, and TAIL advances (R326). -/
def State.recordDone (s : State) (d h : Nat) : State :=
  s.modSlice d (fun S =>
    let R := S.cring h
    if R.flight.isSome then S.setCring h { R with flight := none, tail := R.tail + 1 } else S)

/-! ## Records that a slice writes (R325 to R329, R334 to R336) -/

/-- A lookup that the slice makes on its own account sets out, with H0 (R325; spec/07_external_bridges.md R229, R230); `tag` says what for. None
where the window table gives DECERR. -/
def State.sliceLookup (s : State) (d h tag : Nat) (a : Addr) : Option State :=
  (s.winEntry d h a).map (fun e =>
    let off := e.2 / 64 * 64
    s.launch (s.newPacket (sliceIssuer d 0) (.sliceLookup tag) 6 (.tile e.1) (BitVec.ofNat 48 (tileMemAddr e.1 off)) off 64 false []))

/-- What a slice's lookup of `a` has found. -/
def State.looked (s : State) (d : Nat) (a : Addr) (st : Status) (row : RowData) (write : Bool) : Except Status (Target × Nat) :=
  if st ≠ .ok then .error st else s.translate d (entryIn row a) a write false 32

/-- The 32 bytes of a completion record (R327). -/
def CRec.row (r : CRec) (phase : Bool) : RowData :=
  let ok := r.status == .ok
  rowOfBytes (leBytes 2 r.tag.toNat ++ leBytes 2 r.idx.toNat ++
    [BitVec.ofNat 8 (statusCode r.status + (if r.l then 16 else 0) + (if r.demoted then 32 else 0) + (if phase then 128 else 0)), BitVec.ofNat 8 r.chan] ++
    leBytes 2 r.tile ++ leBytes 6 r.bytes ++ leBytes 2 0 ++ leBytes 4 r.pace.toNat ++ leBytes 6 (if ok then 0 else r.faddr.toNat) ++
    leBytes 1 (if ok then 0 else r.fdir) ++ leBytes 5 0)

/-- The window address of entry `t` of a ring. -/
def CRing.entryAddr (R : CRing) (t : BitVec 16) : Addr :=
  BitVec.ofNat 48 (R.hi.toNat * 2 ^ 32 + bits R.lo 5 27 * 32 + 32 * (t.toNat % 2 ^ R.size.toNat))

/-- A record write has failed: the record is kept, and TAIL stands (R329). -/
def State.recordFails (s : State) (d h : Nat) (r : CRec) (st : Status) : State :=
  (s.modSlice d (fun S => S.setCring h { S.cring h with err := true, status := st, flight := none, kept := some r })).raise d h 2

/-- A record is to be written into entry TAIL: its address is looked up in the household's window table (R325). -/
def State.writeRecord (s : State) (d h : Nat) (r : CRec) : State :=
  let s := s.modSlice d (fun S => S.setCring h { S.cring h with flight := some r })
  match s.sliceLookup d h h (((s.slice d).cring h).entryAddr ((s.slice d).cring h).tail) with
  | none => s.recordFails d h r .decerr
  | some s => s

/-- The record's address is known: its write sets out, or fails (R325, R327). -/
def State.recordLooked (s : State) (d h : Nat) (st : Status) (row : RowData) : State :=
  let R := (s.slice d).cring h
  let a := R.entryAddr R.tail
  match R.flight, s.looked d a st row true with
  | none, _ => s
  | some r, .error e => (if st = .ok then s.latchOff d (entryIn row a) a (sliceIssuer d h) else s).recordFails d h r e
  | some r, .ok tg => s.launch { s.newPacket (sliceIssuer d h) .record 6 tg.1 a tg.2 32 true [r.row (!(bit R.tail R.size.toNat))] with bstart := tg.2 / 64 }

/-- The record that a ring with room writes next, and the ring without it: a kept one after RETRY, then the held, then the due. -/
def CRing.next (R : CRing) : Option (CRec × CRing) :=
  match R.kept, R.hold, R.due with
  | some r, _, _ => if R.again then some (r, { R with again := false, kept := none }) else none
  | none, r :: l, _ => if 0 < R.room then some (r, { R with hold := l }) else none
  | none, [], r :: l => if 0 < R.room then some (r, { R with due := l }) else none
  | none, [], [] => none

/-- A due record that the ring has no room for enters the hold (R328). -/
def CRing.toHold (R : CRing) : CRing :=
  match R.due with
  | r :: l => if R.room = 0 && R.hold.length < 8 then { R with hold := R.hold ++ [r], due := l, ovf := R.ovf || R.hold.isEmpty } else R
  | [] => R

/-- The slice takes its next completion record of household h: it writes one at a time; without room it is held (R325, R328, R329). -/
def State.recordWriteOp (s : State) (d h : Nat) : State :=
  let R := (s.slice d).cring h
  let put (s : State) (R : CRing) : State := s.modSlice d (fun S => S.setCring h R)
  let s :=
    if !R.en || R.flight.isSome then s
    else match R.next with
      | some (r, N) => (put s N).writeRecord d h r
      | none => put s R.toHold
  s.admitRecs d h

/-- The response of the record being written, if it came back with an error. -/
def State.recordError (s : State) (d h : Nat) : Option (Packet × Status) :=
  (s.net.find? (fun p => p.kind == .record && p.iss.die == d && p.iss.hh == h && p.loc == .home && !p.abandoned)).bind
    (fun p => p.resp.map (fun st => (p, st)))

/-- A record write ends with an error (R329). -/
def State.recordFailOp (s : State) (d h : Nat) : State :=
  match s.recordError d h, ((s.slice d).cring h).flight with
  | some (p, st), some r => (s.dropPkt p.id).recordFails d h r st
  | some (p, _), none => s.dropPkt p.id
  | none, _ => s

/-- Household h or the manager writes its ring or its interrupt registers. -/
def State.mayHh (s : State) (w : Src) (h : Nat) : Bool := s.isManager w || s.hhOf w == some h

/-- A write to word `k` of SLC_CRING[h] (R325, R326, R328, R329). -/
def State.cringOp (s : State) (w : Src) (d h k : Nat) (v : Word) : State × Status :=
  let R := (s.slice d).cring h
  let set (R : CRing) : State := s.modSlice d (fun S => S.setCring h R)
  if !s.mayHh w h then (s, .deed)
  else match k with
    | 0 =>
      let lo := v &&& 0xFFFFFFE0
      if R.en && lo != R.lo then (s, .rearmBusy) else (set { R with lo := lo }, .ok)
    | 1 =>
      let hi : BitVec 13 := BitVec.ofNat 13 (bits v 0 13)
      let size : BitVec 4 := BitVec.ofNat 4 (bits v 16 4)
      let N := { R with hi := hi, size := size, ovf := R.ovf && !bit v 25 }
      let retry (R : CRing) : CRing := if bit v 27 && R.err then { R with err := false, again := true } else R
      if R.en && (hi != R.hi || size != R.size) then (s, .rearmBusy)
      else if !bit v 24 then
        (((set { N with en := false, hold := [], due := [], flight := none, kept := none, again := false, err := false, status := .ok }).forgetRecords d h).admitRecs d h, .ok)
      else if R.en then (set (retry N), .ok)
      else if size.toNat < 4 || (hi.toNat * 2 ^ 32 + R.lo.toNat) % (32 * 2 ^ size.toNat) != 0 then (s, .size)
      else (set { N with en := true, head := 0, tail := 0 }, .ok)
    | 2 =>
      let x : BitVec 16 := BitVec.ofNat 16 (bits v 0 16)
      if 2 ^ R.size.toNat < (R.tail - x).toNat then (s, .size) else ((set { R with head := x }).admitRecs d h, .ok)
    | _ => (s, .ok)

/-- RETRY alone. -/
def State.retryOp (s : State) (w : Src) (d h : Nat) : State × Status :=
  let R := (s.slice d).cring h
  if !s.mayHh w h then (s, .deed)
  else if R.err then (s.modSlice d (fun S => S.setCring h { R with err := false, again := true }), .ok)
  else (s, .ok)

def CRing.word (R : CRing) (k : Nat) : Word :=
  match k with
  | 0 => R.lo
  | 1 => put 0 R.hi.toNat ||| put 16 R.size.toNat ||| flag 24 R.en ||| flag 25 R.ovf ||| flag 26 R.err ||| put 28 (statusCode R.status)
  | 2 => put 0 R.head.toNat
  | _ => put 0 R.tail.toNat ||| put 16 R.hold.length

/-! ## Interrupts (R330 to R332) -/

/-- A write to word `k` of SLC_IRQ[h]. -/
def State.irqOp (s : State) (w : Src) (d h k : Nat) (v : Word) : State × Status :=
  let q := (s.slice d).irq h
  let m : BitVec 8 := BitVec.ofNat 8 (bits v 0 8) &&& (if h = 0 then 0xFF else 0x1F)
  let set (q : Irq) (due : List IrqMsg) : State := s.modSlice d (fun S => { S with irqs := S.irqs.set h q, irqDue := S.irqDue ++ due })
  if !s.mayHh w h then (s, .deed)
  else match k with
    | 0 => (set { q with cause := w1c q.cause m } [], .ok)
    | 1 => (set { q with enable := m } (((bitsOf (m &&& ~~~ q.enable &&& q.cause))).map (fun i => (s.slice d).irqMsg s.nextId h i)), .ok)
    | 2 =>
      let f := if bit v 31 then q.hostflt &&& ~~~ (put 30 3) else q.hostflt
      (set { q with hostflt := if bit v 29 then f &&& ~~~ (put 29 1) else f } [], .ok)
    | _ => (s, .ok)

def Irq.word (q : Irq) (k : Nat) : Word :=
  match k with | 0 => q.cause.zeroExtend 32 | 1 => q.enable.zeroExtend 32 | 2 => q.hostflt | _ => 0

/-- Of the first `n` records that the slice has issued to the ring one is not yet written, and nothing keeps it from its entry but those
before it: it is being written, or next in turn. -/
def CRing.owes (R : CRing) (n : Nat) : Bool :=
  (R.flight.isSome && R.issued ≤ n + R.due.length + R.hold.length) ||
  (!R.err && R.kept.isNone && !R.due.isEmpty && R.issued < n + R.due.length)

/-- An interrupt message leaves through the host port, after the records and host writes that were issued before it (R332). -/
def State.interruptOp (s : State) (d h vec : Nat) : State :=
  let S := s.slice d
  match S.irqDue.find? (fun m => m.hh == h && m.vec == vec) with
  | none => s
  | some m =>
    if (S.cring h).owes m.recs || s.net.any (fun p => p.target == .host d && p.iss.hh == h && p.write && p.resp.isNone && p.loc != Loc.arrived && p.ord < m.ord) then s
    else (s.modSlice d (fun S => { S with irqDue := S.irqDue.erase m })).emit (.interrupt d (S.bind h).fn.toNat vec)

/-! ## Capture and re-run (R334 to R337) -/

def Capture.base (c : Capture) : Nat := c.hi.toNat * 2 ^ 32 + bits c.lo 6 26 * 64
def Capture.unitAddr (c : Capture) (t : Nat) : Addr := BitVec.ofNat 48 (c.base + 64 * (t % 2 ^ c.size.toNat))
def Capture.busy (c : Capture) : Bool := c.en && c.rerun && !c.done

/-- The 64 B header of a capture record (R335). -/
def CapRec.header (r : CapRec) : RowData :=
  rowOfBytes (leBytes 4 r.seq.toNat ++ leBytes 1 r.type ++ leBytes 1 (r.hh + (if r.gap then 16 else 0) + (if r.refused then 32 else 0)) ++
    leBytes 2 r.payload.length ++ leBytes 6 r.addr ++ leBytes 2 r.tile ++ leBytes 8 r.data.toNat ++ leBytes 4 r.pace.toNat ++ leBytes 1 r.src ++
    leBytes 1 (statusCode r.status))

/-- A failure of the capture unit (R336). -/
def State.captureFails (s : State) (d : Nat) (st : Status) : State :=
  (s.modSlice d (fun S => { S with cap := { S.cap with err := true, status := st, hold := [], out := [], asked := false, drop := satAdd S.cap.drop S.cap.hold.length, gap := true } })).raise d 0 2

/-- The next unit of the record in hand is to be written, one 64 B write: its address is looked up in H0's window table. -/
def State.captureUnit (s : State) (d : Nat) : State :=
  let c := (s.slice d).cap
  match c.out with
  | [] => s
  | (t, _) :: _ =>
    if c.asked then s
    else match (s.modSlice d (fun S => { S with cap := { S.cap with asked := true } })).sliceLookup d 0 16 (c.unitAddr t) with
      | none => s.captureFails d .decerr
      | some s => s

/-- The unit's address is known: its write sets out, and the next unit is looked up; or the write fails. -/
def State.captureLooked (s : State) (d : Nat) (st : Status) (row : RowData) : State :=
  let c := (s.slice d).cap
  match c.out with
  | [] => s
  | (t, u) :: rest =>
    let a := c.unitAddr t
    match s.looked d a st row true with
    | .error e => (if st = .ok then s.latchOff d (entryIn row a) a (sliceIssuer d 0) else s).captureFails d e
    | .ok tg =>
      let s := s.modSlice d (fun S => { S with cap := { S.cap with out := rest, asked := false } })
      (s.launch (s.newPacket (sliceIssuer d 0) .capture 6 tg.1 a tg.2 64 true [u])).captureUnit d

/-- The capture unit takes the oldest held record, once the units of the one before have set out: it is written, dropped for want of room, or
failed with `st`. -/
def State.captureWriteOp (s : State) (d : Nat) (st : Status) : State :=
  let c := (s.slice d).cap
  match c.out, c.hold with
  | _ :: _, _ => s.captureUnit d
  | [], [] => s
  | [], r :: rest =>
    if c.err then s
    else if 2 ^ c.size.toNat < (c.tail - c.head).toNat + r.units then
      let rest := match rest with | q :: l => { q with gap := true } :: l | [] => []
      s.modSlice d (fun S => { S with cap := { c with hold := rest, drop := satInc c.drop, gap := c.gap || rest.isEmpty } })
    else if st ≠ .ok then s.captureFails d st
    else
      let out := (r.header :: r.payload).zipIdx.map (fun p => (c.tail.toNat + p.2, p.1))
      (s.modSlice d (fun S => { S with cap := { c with hold := rest, tail := c.tail + BitVec.ofNat 32 r.units, out := out, asked := false } })).captureUnit d

/-- A write to a register of SLC_CAPTURE, by its offset from 0x0400. -/
def State.captureOp (s : State) (w : Src) (d off : Nat) (v : Word) : State × Status :=
  let c := (s.slice d).cap
  let set (c : Capture) : State × Status := (s.modSlice d (fun S => { S with cap := c }), .ok)
  if !s.isManager w then (s, .deed)
  else match off with
    | 0x00 =>
      let on := bit v 16 && !c.en
      let c := { c with mask := BitVec.ofNat 16 (bits v 0 16), en := bit v 16, rerun := bit v 17, rhh := BitVec.ofNat 4 (bits v 18 4) }
      if on then set { c with err := false, status := .ok, done := false, head := if bit v 17 then c.head else 0, tail := if bit v 17 then c.tail else 0 }
      else set c
    | 0x04 => if c.en then (s, .rearmBusy) else set { c with lo := v &&& 0xFFFFFFC0 }
    | 0x08 => if c.en then (s, .rearmBusy) else set { c with hi := BitVec.ofNat 13 (bits v 0 13), size := BitVec.ofNat 5 (bits v 16 5) }
    | 0x0C => if c.en && c.rerun then (s, .ok) else set { c with head := v }
    | 0x10 => if c.rerun then set { c with tail := v } else (s, .ok)
    | 0x18 => set { c with drop := v }
    | _ => (s, .ok)

def Capture.word (c : Capture) (off : Nat) : Word :=
  match off with
  | 0x00 => put 0 c.mask.toNat ||| flag 16 c.en ||| flag 17 c.rerun ||| put 18 c.rhh.toNat ||| flag 24 c.busy ||| flag 25 c.done ||| flag 26 c.err |||
      put 27 (statusCode c.status)
  | 0x04 => c.lo
  | 0x08 => put 0 c.hi.toNat ||| put 16 c.size.toNat
  | 0x0C => c.head
  | 0x10 => c.tail
  | 0x14 => c.seq
  | _ => c.drop

/-- Re-run fails (R337). -/
def State.rerunFails (s : State) (d : Nat) (e : Status) : State :=
  (s.modSlice d (fun S => { S with cap := { S.cap with err := true, status := e, asked := false, found := false } })).raise d 0 2

/-- Re-run's record at HEAD is known by its address, or the read fails. -/
def State.rerunLooked (s : State) (d : Nat) (st : Status) (row : RowData) : State :=
  let a := (s.slice d).cap.unitAddr (s.slice d).cap.head.toNat
  match s.looked d a st row false with
  | .error e => (if st = .ok then s.latchOff d (entryIn row a) a (sliceIssuer d 0) else s).rerunFails d e
  | .ok _ => s.modSlice d (fun S => { S with cap := { S.cap with asked := false, found := true } })

/-- Re-run looks the record at HEAD up, then presents it, its units having been read as `units`, or fails with `st` (R337). -/
def State.rerunOp (s : State) (d : Nat) (st : Status) (units : List RowData) : State :=
  let c := (s.slice d).cap
  let set (s : State) (f : Capture → Capture) : State := s.modSlice d (fun S => { S with cap := f S.cap })
  if !c.busy || c.err || c.asked then s
  else if c.head = c.tail then set s (fun c => { c with done := true })
  else if !c.found then
    (match s.sliceLookup d 0 17 (c.unitAddr c.head.toNat) with
      | none => s.rerunFails d .decerr
      | some s => set s (fun c => { c with asked := true }))
  else if st ≠ .ok then s.rerunFails d st
  else
    let u := units.headD 0
    let n := 1 + bits u 48 16
    let h := bits u 40 4
    let addr := bits u 64 48
    let word : BitVec 64 := BitVec.ofNat 64 (bits u 128 64)
    let fn := ((s.slice d).bind h).fn.toNat
    let s :=
      if h ≠ c.rhh.toNat then s
      else match bits u 32 8 with
        | 1 => s.doorbellOp d h addr 8 word
        | 2 => s.doorstepOp d h addr (64 * (n - 1)) true (units.drop 1)
        | 3 => s.hostPass d h fn (BitVec.ofNat 48 addr) 4 true [word.zeroExtend 512]
        | _ => s
    set s (fun c => let h := c.head + BitVec.ofNat 32 n; { c with head := h, done := h == c.tail, found := false })

/-! ## Responses at the host port -/

/-- A slice's own lookup has returned. -/
def State.sliceLooked (s : State) (d tag : Nat) (st : Status) (row : RowData) : State :=
  if tag < 16 then s.recordLooked d tag st row else if tag = 16 then s.captureLooked d st row else s.rerunLooked d st row

/-- A response that has come back to the host port of its slice (R316, R318, R329, R408; spec/04_fabric_arbitration.md R111). -/
def State.hostHome (s : State) (p : Packet) : State :=
  let d := p.iss.die
  let h := p.iss.hh
  let st := p.resp.getD .ok
  let fn := ((s.slice d).bind h).fn.toNat
  match p.kind with
  | .doorbell w =>
    let s := s.dropPkt p.id
    if st = .ok then s else s.modSlice d (fun S => S.hostFault s.nextId h 1 0 (bellTile w) st)
  | .doorstep k => (s.pieceEnd p k st p.demoted).dropPkt p.id
  | .record =>
    if st = .ok then (s.dropPkt p.id).recordDone d h else s
  | .capture =>
    let s := s.dropPkt p.id
    if st = .ok then s else s.captureFails d st
  | .sliceLookup tag => if p.abandoned then s.dropPkt p.id else (s.dropPkt p.id).sliceLooked d tag st (p.data.headD 0)
  | .reg _ =>
    if p.size = 8 then (s.dropPkt p.id).emit (.reg64 (.host d fn) p.addr.toNat st ((p.data.headD 0).truncate 64))
    else (s.dropPkt p.id).emit (.reg (.host d fn) p.addr.toNat st ((p.data.headD 0).truncate 32))
  | _ => (s.dropPkt p.id).emit (.hostAnswer d fn st (if st = .ok then p.data else []))

/-! ## Reassignment (R312, R313; spec/08_tallies_bells_channels.md R300 to R303) -/

/-- A packet of the tile's stream engine, or of one of its sends. -/
def Packet.ofStream (p : Packet) (tile : Nat) : Bool :=
  p.iss.tile == tile && p.iss.port == 127 && (p.iss.master == 4 || (match p.kind with | .message _ _ _ => true | _ => false))

/-- An add that an abandoned multicast's read-back was to make at its target is not made; the read-back ends (R302). -/
def State.noRtally (s : State) (p : Packet) : State :=
  match p.kind, p.target with
  | .rtally _, .tile g =>
    let due (o : TOp) : Bool := match o with | .homeAdd k _ _ => k == p.id | _ => false
    if (s.tile g).tops.any due then (s.modTile g (fun T => { T with tops := T.tops.filter (fun o => !due o) })).respondAt g p.id .ok [] else s
  | _, _ => s

/-- An access of the tile's own stream engine at its block: nobody takes its answer (R302). -/
def RegAcc.unheard (tile : Nat) (a : RegAcc) : RegAcc :=
  match a.src with | .st t _ => if t = tile ∧ a.pkt.isNone then { a with dropped := true } else a | _ => a

/-- The channels of a tile are dropped: their responses are discarded on arrival, their accesses end unseen (R302). -/
def State.dropChannels (s : State) (tile : Nat) : State :=
  let l := s.net.filter (fun p => p.ofStream tile)
  let s := { s with net := (s.net.filter (fun p => !(p.ofStream tile && p.loc == Loc.home))).map (fun p => if p.ofStream tile then { p with abandoned := true } else p) }
  let s := l.foldl State.noRtally s
  s.modTile tile (fun T =>
    { T with chans := [], blocks := [], idxWant := [], picked := none, sends := [],
             accs := T.accs.map (fun a => if masterCode a.master = 4 then { a with dest := .dropped } else a),
             regWait := T.regWait.map (RegAcc.unheard tile), regBusy := T.regBusy.map (RegAcc.unheard tile),
             tops := T.tops.filter (fun o => match o with | .done _ _ _ | .stAdd _ _ _ => false | _ => true) })

/-- Steps 1 and 2 of R301: a reassignment is accepted, gates admit no burst, endpoints close, and the merge buffer starts to flush. -/
def State.reassignBegin (s : State) (tile h : Nat) : State :=
  let d := tileDie tile
  let s := s.modTile tile (fun T => { T with reassign := some { hh := h } })
  let own := (s.tile tile).regWait.filter (fun a => isLocal a.src tile)
  let s := s.modTile tile (fun T => { T with regWait := T.regWait.filter (fun a => !(isLocal a.src tile)) })
  let s := own.foldl (fun s a => s.answerAcc d (tileRegAddr tile 0) a .aborted 0) s
  let s := s.modTile tile (fun T => T.closeGates (s.paceNat tile) (fun _ => true))
  let s := s.closeEps tile (fun _ => true)
  let s := s.modTile tile (fun T => T.flushDirect (List.range 16))
  let s := s.flushBanks tile (List.range 16)
  (s.listedTiles.filter (fun t => t != tile)).foldl (fun s t => s.breakLocks t 1 (fun x => x.isCore t tile)) s

/-- Step 2 of R301 has ended: the merge buffer is empty and no narrow write that was admitted waits for it. -/
def Tile.reassignFlushed (T : Tile) : Bool := T.merge.isEmpty && !(T.narrow.any (·.passed))

/-- The first beat of an access has not been admitted by a bank. -/
def Tile.unadmitted (T : Tile) (a : Access) : Bool :=
  a.done == 0 && !a.isFlush && !a.rom &&
  (a.stage == .atPort || a.stage == .portGranted || a.stage == .queued || a.stage == .held || (a.stage == .waiting && !T.direct a))

/-- Step 3 of R301: the banks admit nothing more, channels are dropped, the rest of every admitted remote burst is refused with GATE, and
every pending wait ends with ABORTED. -/
def State.reassignStop (s : State) (tile : Nat) : State :=
  let s := s.modTile tile (fun T => { T with reassign := T.reassign.map (fun r => { r with stopped := true }), bursts := T.bursts.map (fun b => { b with cut := true }) })
  let s := s.refuseNarrow tile .aborted (fun _ => true)
  let s := s.dropChannels tile
  let s := ((s.tile tile).accs.filter (fun a => (s.tile tile).unadmitted a)).foldl
    (fun s a => s.refuseAcc tile (if a.master = .nw then .gate else .aborted) a) s
  let s := allEngines.foldl (fun s e =>
    match (s.tile tile).engine e with
    | .running | .stopped => s
    | _ => s.endOp tile e .aborted false 0) s
  let s := (s.tile tile).tops.foldl (fun s o => match o with
    | .dec e _ | .arrive e _ false | .pop e _ => s.emit (.op tile e .aborted false 0)
    | .homeAdd pkt _ _ => s.respondAt tile pkt .gate []
    | _ => s) s
  s.modTile tile (fun T => { T with tops := T.tops.filter (fun o => match o with
    | .dec _ _ | .arrive _ _ _ | .pop _ _ | .send _ _ _ _ _ _ | .homeAdd _ _ _ => false | _ => true) })

/-- Step 3 comes once step 2 has ended (spec/00_scope.md R14). -/
def State.reassignStep3 (s : State) (tile : Nat) : State :=
  match (s.tile tile).reassign with
  | some r => if !r.stopped && (s.tile tile).reassignFlushed then s.reassignStop tile else s
  | none => s

/-- A reassignment is accepted. -/
def State.reassignOp (s : State) (tile h : Nat) : State := (s.reassignBegin tile h).reassignStep3 tile

/-- Steps 2 to 4 of R301 have ended. -/
def Tile.reassignReady (T : Tile) : Bool :=
  (match T.reassign with | some r => r.stopped | none => false) && T.accs.isEmpty && T.merge.isEmpty && T.narrow.isEmpty && T.regBusy.isNone

/-- The tile after step 5: cleared and kept as R303 states. -/
def Tile.reassigned (T : Tile) (h : Nat) : Tile :=
  { hh := h, quar := T.quar, biteRes := T.biteRes, biteMaster := T.biteMaster, bite := T.bite, sweep14 := T.sweep14, sweep15 := T.sweep15,
    regWait := T.regWait, rotWait := T.rotWait, msgs := T.msgs, glean := T.glean, lap := T.lap, gleanRow := T.gleanRow, gleanAt := T.gleanAt, mirror := T.mirror, retired := T.retired,
    engines := T.engines, fracs := T.fracs, testSpare := T.testSpare, testBank := T.testBank, testRow := T.testRow, testBusy := T.testBusy,
    testReplayed := T.testReplayed, testStatus := T.testStatus, testPar := T.testPar, marchBanks := T.marchBanks, marchMode := T.marchMode,
    marchBg := T.marchBg, march := T.march, marchDone := T.marchDone, failBanks := T.failBanks, failRow := T.failRow, failBank := T.failBank,
    failSig := T.failSig, bg := T.bg, remapRow := T.remapRow, wdog := T.wdog, replays := T.replays, poisons := T.poisons,
    suppressed := T.suppressed, lastReplay := T.lastReplay, lastLate := T.lastLate, meter := T.meter }

/-- Step 5 of R301. A slice-wide rotation that was pending on the tile is answered as refused. -/
def State.reassignEndOp (s : State) (tile : Nat) (h : Nat) : State :=
  let s := match (s.tile tile).deedOp with
    | some (.rotate _ _ true) => s.modSlice (tileDie tile) (fun S => S.rotateAnswered (tile % 256) true)
    | _ => s
  (s.modTile tile (fun T => T.reassigned h)).modSlice (tileDie tile) (fun S => { S with hhTiles := S.hhTiles.filter (fun t => t != tile) })

/-- A write to SLC_TILE_HH[i] (R312): the state, and no status while tiles are being reassigned. -/
def State.tileHhOp (s : State) (w : Src) (d i : Nat) (v : Word) : RegRes :=
  let hh (j : Nat) : Nat := bits v (4 * j) 4
  let l := (List.range 8).filter (fun j => ((s.slice d).tile (8 * i + j)).hh != hh j)
  if !s.isManager w then RegRes.now (s, .deed)
  else if l.any (fun j => !s.givable d (hh j)) then RegRes.now (s, .deed)
  else if l.isEmpty then RegRes.now (s, .ok)
  else
    let s := s.modSlice d (fun S => { S with hhTiles := l.map (fun j => 256 * d + 8 * i + j) })
    some (l.foldl (fun s j => s.reassignOp (256 * d + 8 * i + j) (hh j)) s, none)

/-- SLC_TILE_HH[i]. -/
def Slice.tileHhWord (S : Slice) (i : Nat) : Word := (List.range 8).foldl (fun w j => w ||| put (4 * j) (S.tile (8 * i + j)).hh) 0

end Sys2Proof.Machine
end

