-- ==== Sys2Proof/Machine/BookOps.lean ====
section
/-!
DEFINITION. Shared operations of the book: its bytes, records on their way to it, its commands, acknowledges and space-4 reads
(spec/11_startup_power_book.md R376 to R385; spec/10_integrity.md R364).
-/

namespace Sys2Proof.Machine

/-! ## The bytes of the book (R376, R377, R381) -/

/-- Records of a ring: 0 severe, 1 routine. -/
def bookSize (ring : Nat) : Nat := if ring = 0 then 4096 else 11264

/-- The first 60 bytes of a record. -/
def BookRec.body (r : BookRec) : List Byte :=
  leBytes 1 r.type ++ leBytes 1 (if r.l then 1 else 0) ++ leBytes 2 (r.tile + r.die * 2048) ++ leBytes 4 r.boot.toNat ++
    leBytes 4 r.seq.toNat ++ leBytes 4 r.pace.toNat ++ leBytes 44 r.detail.toNat

/-- A record as it stands in its slot. -/
def BookRec.row (r : BookRec) : RowData := rowOfBytes (r.body ++ leBytes 4 (crc32c r.body).toNat)

/-- The 64 bytes of a slot; one that no record has been written to holds whatever it holds (R384). -/
def Book.slotRow (b : Book) (ring slot : Nat) : RowData :=
  match Tbl.find (if ring = 0 then b.sev else b.rou) slot with
  | some r => r.row
  | none => Config.bookSlot ring slot

/-- Entry `k` of the repair map. -/
def Book.entry (b : Book) (k : Nat) : BitVec 64 :=
  match Tbl.find b.map k with
  | some e => e
  | none => BitVec.ofNat 64 (bits (Config.bookSlot 2 (k / 8)) (64 * (k % 8)) 64)

/-- CRC-32C of entries 0 to n - 1. -/
def Book.crcOf (b : Book) (n : Nat) : Word := crc32c ((List.range n).flatMap (fun k => leBytes 8 (b.entry k).toNat))

/-- Bytes 0 to 2043 of a copy of the control area. -/
def Control.body (c : Control) : List Byte :=
  leBytes 4 c.gen.toNat ++ (List.range 8).flatMap (fun d => leBytes 4 (c.bootOf d).toNat) ++ leBytes 2 c.mapCount ++ leBytes 4 c.mapCrc.toNat ++
    leBytes 2 c.sevHead ++ leBytes 2 c.sevTail ++ leBytes 2 c.rouHead ++ leBytes 2 c.rouTail ++ leBytes 4 c.sevSeq.toNat ++
    leBytes 4 c.rouSeq.toNat ++ (List.range 8).flatMap (fun d => leBytes 1 (c.startOf d).toNat) ++ leBytes 2 c.ovwr.toNat ++
    List.replicate 1976 0

/-- A copy of the control area, with its CRC. -/
def Control.bytes (c : Control) (place : Nat) : List Byte :=
  c.body ++ leBytes 4 (if c.good then crc32c c.body else Config.badCrc place).toNat

/-- The 64 bytes of the book at unit `k` of 64 B; from unit 16,384 on the control area (R376, R383). -/
def Book.unit (b : Book) (k : Nat) : RowData :=
  if k < 1024 then rowOfBytes ((List.range 8).flatMap (fun j => leBytes 8 (b.entry (8 * k + j)).toNat))
  else if k < 5120 then b.slotRow 0 (k - 1024)
  else if k < 16384 then b.slotRow 1 (k - 5120)
  else if k < 16416 then rowOfBytes ((b.a.bytes 0).drop (64 * (k - 16384)))
  else rowOfBytes ((b.b.bytes 1).drop (64 * (k - 16416)))

/-! ## Records on their way to the book (R379, R380) -/

/-- Dropped records are owed a DROPPED record, and their hold and the severe hold have room. -/
def Slice.dropDue (S : Slice) : Bool :=
  (S.dropSev != 0 || S.dropRou != 0) && !S.bookErr && S.holdSev.length < 8 && (S.dropRou == 0 || S.holdRou.length < 8)

/-- The slice appends one DROPPED record with the counts. -/
def State.dropped (s : State) (d : Nat) : State :=
  let S := s.slice d
  if S.dropDue then
    (s.record d 9 sliceTile (detail [(0, min S.dropSev 0xFFFF), (2, min S.dropRou 0xFFFF)])).modSlice d (fun S => { S with dropSev := 0, dropRou := 0 })
  else s

/-- A ring takes a record: it goes to slot TAIL with the ring's next SEQ; TAIL advances, and where it meets HEAD the oldest record
is overwritten. -/
def Book.append (b : Book) (r : BookRec) : Book :=
  let c := b.cur
  if severe r.type then
    let t := (c.sevTail + 1) % 4096
    let full := t == c.sevHead
    { b with sev := b.sev.set c.sevTail { r with seq := c.sevSeq } }.update (fun c =>
      { c with sevTail := t, sevSeq := c.sevSeq + 1, sevHead := if full then (c.sevHead + 1) % 4096 else c.sevHead,
               ovwr := if full then satInc c.ovwr else c.ovwr })
  else
    let t := (c.rouTail + 1) % 11264
    let full := t == c.rouHead
    { b with rou := b.rou.set c.rouTail { r with seq := c.rouSeq } }.update (fun c =>
      { c with rouTail := t, rouSeq := c.rouSeq + 1, rouHead := if full then (c.rouHead + 1) % 11264 else c.rouHead,
               ovwr := if full then satInc c.ovwr else c.ovwr })

/-- The oldest record of a slice's hold reaches the book path; with BOOKERR the path takes none. -/
def State.appendOp (s : State) (d ring : Nat) : State :=
  let S := s.slice d
  match S.bookErr, (if ring = 0 then S.holdSev else S.holdRou) with
  | false, r :: rest =>
    let s := s.modSlice d (fun S => if ring = 0 then { S with holdSev := rest } else { S with holdRou := rest })
    let s := { s with book := s.book.append r }
    (if noticed r.type then s.raise d 0 5 else s).dropped d
  | _, _ => s

/-- The oldest record of a ring that has found the hold full is dropped and counted; once there is room the counts are recorded. -/
def State.recordDropOp (s : State) (d ring : Nat) : State :=
  match takeFirst (fun b => b == (ring == 0)) (s.slice d).noRoom with
  | none => s
  | some (_, rest) => (s.modSlice d (fun S => { S with noRoom := rest }.dropRecord (ring == 0))).dropped d

/-- BOOKERR: the records of the hold are dropped and counted. -/
def Slice.dropHold (S : Slice) : Slice :=
  let S := S.holdSev.foldl (fun S _ => S.dropRecord true) { S with bookErr := true }
  let S := S.holdRou.foldl (fun S _ => S.dropRecord false) S
  { S with holdSev := [], holdRou := [] }

/-! ## Commands (R384) -/

/-- A command is written to SLC_BOOK_CTRL: it sets BUSY and takes its place at the book path. -/
def State.bookStart (s : State) (d cmd : Nat) (v : Word) : State :=
  let s := s.modSlice d (fun S => { S with bkRing := bit v 4, bkBusy := true, bkCmd := some { cmd := cmd, ring := bit v 4, keepmap := bit v 3 } })
  { s with book := { s.book with queue := s.book.queue ++ [d] } }

/-- A write to SLC_BOOK_CTRL with CMD `cmd`; values other than 1 to 4 only store RING. -/
def State.bookCtrlOp (s : State) (w : Src) (d cmd : Nat) (v : Word) : State × Status :=
  if !s.isManager w then (s, .deed)
  else if 1 ≤ cmd && cmd ≤ 4 then (if (s.slice d).bkBusy then (s, .rearmBusy) else (s.bookStart d cmd v, .ok))
  else (s.modSlice d (fun S => { S with bkRing := bit v 4 }), .ok)

/-- READ. -/
def State.bookRead (s : State) (d : Nat) (ring : Bool) : State × Status :=
  let k := (s.slice d).bkIndex.toNat
  let r := if ring then 1 else 0
  if bookSize r ≤ k then (s, .size)
  else
    let row := s.book.slotRow r k
    (s.modSlice d (fun S => { S with bkData := (List.range 16).map (fun i => (i, BitVec.ofNat 32 (rowWord row i))) }), .ok)

/-- MAPADD. -/
def State.bookMapAdd (s : State) (d : Nat) : State × Status :=
  let S := s.slice d
  let c := s.book.cur
  let w0 := Tbl.get 0 S.bkData 0
  if 8192 ≤ c.mapCount then (s, .size)
  else if !bit w0 0 || bits w0 1 2 == 0 || bits w0 1 2 == 3 then (s, .decerr)
  else
    let b := { s.book with map := s.book.map.set c.mapCount ((c.bootOf d) ++ w0) }
    ({ s with book := b.update (fun c => { c with mapCount := c.mapCount + 1, mapCrc := b.crcOf (c.mapCount + 1) }) }, .ok)

/-- MAPCLEAR. -/
def State.bookMapClear (s : State) : State × Status :=
  ({ s with book := s.book.update (fun c => { c with mapCount := 0, mapCrc := crc32c [] }) }, .ok)

/-- A row is a record whose CRC checks. -/
def goodRecord (r : RowData) : Bool := (crc32c ((rowBytes r).take 60)).toNat == rowWord r 15

/-- The slots of a ring whose record checks. -/
def Book.goodRows (b : Book) (ring : Nat) : List RowData := ((List.range (bookSize ring)).map (b.slotRow ring)).filter goodRecord

/-- One more than the highest of some values; with none the spec states no result. -/
def oneMore (l : List Nat) (free : Word) : Word :=
  match l with
  | [] => free
  | _ => BitVec.ofNat 32 (l.foldl max 0 + 1)

/-- INIT. -/
def State.bookInit (s : State) (d : Nat) (keepmap : Bool) : State × Status :=
  let clear (c : Control) : Control :=
    let c := { c with sevHead := 0, sevTail := 0, rouHead := 0, rouTail := 0 }
    if keepmap then c else { c with mapCount := 0, mapCrc := crc32c [] }
  if !(s.slice d).bookErr then ({ s with book := s.book.update clear }, .ok)
  else if keepmap then (s, .decerr)
  else
    let sev := s.book.goodRows 0
    let rou := s.book.goodRows 1
    let free (k : Nat) : Word := (Config.freeWord (s.fresh + k)).truncate 32
    let boots (e : Nat) : List Nat := ((sev ++ rou).filter (fun r => bits r 27 5 == e)).map (fun r => rowWord r 1)
    let boot (e : Nat) : Word := if (boots e).contains 0xFFFFFFFF then 0xFFFFFFFF else oneMore (boots e) (free e)
    let c := clear s.book.cur
    let c : Control :=
      { c with gen := c.gen + 1, good := true, boot := (List.range 8).map (fun e => (e, boot e)),
               sevSeq := oneMore (sev.map (fun r => rowWord r 2)) (free 8), rouSeq := oneMore (rou.map (fun r => rowWord r 2)) (free 9) }
    let s := { s with fresh := s.fresh + 10, book := { s.book with a := c } }
    ((List.range s.dies).foldl (fun s e => (s.modSlice e (fun S => { S with bookErr := false })).dropped e) s, .ok)

/-- What a command does as it ends. -/
def State.bookEffect (s : State) (d : Nat) (c : BookCmd) : State × Status :=
  match c.cmd with
  | 1 => s.bookRead d c.ring
  | 2 => s.bookMapAdd d
  | 3 => s.bookMapClear
  | _ => s.bookInit d c.keepmap

/-- A command of a slice ends, in the order of arrival at the book path: BUSY clears, ERR and STATUS are set. -/
def State.bookEndOp (s : State) (d : Nat) : State :=
  match s.book.queue, (s.slice d).bkCmd with
  | e :: rest, some c =>
    if e ≠ d then s
    else
      let r := s.bookEffect d c
      let s := { r.1 with book := { r.1.book with queue := rest } }
      s.modSlice d (fun S => { S with bkBusy := false, bkCmd := none, bkErr := r.2 != .ok, bkStatus := r.2 })
  | _, _ => s

/-! ## Register writes and space-4 reads (R383, R385, R378) -/

/-- A write to SLC_BOOK_ACK: HEAD advances by COUNT records and stops at TAIL. -/
def State.bookAckOp (s : State) (w : Src) (_d : Nat) (v : Word) : State × Status :=
  let c := s.book.cur
  if !s.isManager w then (s, .deed)
  else if bit v 16 then
    let n := min (bits v 0 14) ((c.rouTail + 11264 - c.rouHead) % 11264)
    ((if n = 0 then s else { s with book := s.book.update (fun c => { c with rouHead := (c.rouHead + n) % 11264 }) }), .ok)
  else
    let n := min (bits v 0 14) ((c.sevTail + 4096 - c.sevHead) % 4096)
    ((if n = 0 then s else { s with book := s.book.update (fun c => { c with sevHead := (c.sevHead + n) % 4096 }) }), .ok)

/-- A write to another register of the book block, by its offset in the slice block. -/
def State.bookRegOp (s : State) (w : Src) (d off : Nat) (v : Word) : State × Status :=
  if !s.isManager w then (s, .deed)
  else if off = 0x300 then s.bookCtrlOp w d (bits v 0 3) v
  else if off = 0x30C then s.bookAckOp w d v
  else if off = 0x310 then (s.modSlice d (fun S => { S with bkIndex := BitVec.ofNat 14 (bits v 0 14) }), .ok)
  else if off = 0x314 then (s.modSlice d (fun S => { S with bkDrops := BitVec.ofNat 16 (bits v 0 16) }), .ok)
  else if 0x340 ≤ off then (s.modSlice d (fun S => { S with bkData := S.bkData.set ((off - 0x340) / 4) v }), .ok)
  else (s, .ok)

/-- What a register of the book block reads as. -/
def State.bookWord (s : State) (d off : Nat) : Word :=
  let S := s.slice d
  let c := s.book.cur
  if off = 0x300 then flag 4 S.bkRing ||| flag 8 S.bkBusy ||| flag 9 S.bkErr ||| put 10 (statusCode S.bkStatus)
  else if off = 0x304 then put 0 c.sevHead ||| put 16 c.rouHead
  else if off = 0x308 then put 0 c.sevTail ||| put 16 c.rouTail
  else if off = 0x310 then put 0 S.bkIndex.toNat
  else if off = 0x314 then put 0 S.bkDrops.toNat ||| put 16 c.ovwr.toNat
  else if off = 0x318 then c.bootOf d
  else if off = 0x31C then put 0 c.mapCount
  else if 0x340 ≤ off then Tbl.get 0 S.bkData ((off - 0x340) / 4)
  else 0

/-- A write to SLC_START: the die's start word is stored in the control area, for the next start. -/
def State.startWordOp (s : State) (w : Src) (d : Nat) (v : Word) : State × Status :=
  if !s.isManager w then (s, .deed)
  else
    let x : BitVec 8 := BitVec.ofNat 8 (bits v 0 3)
    ({ s with book := s.book.update (fun c => { c with start := c.start.set d x }) }, .ok)

/-- The place of a space-4 address: book bytes, then the control area. -/
def bookPlace (a : Addr) : Option Nat :=
  if bits a 21 24 = 0 ∧ bits a 0 21 < 0x101000 then some (bits a 0 21) else none

/-- A space-4 request is decoded, then checked for the manager (R383). -/
def State.bookSpaceOp (s : State) (w : Src) (d : Nat) (a : Addr) (size : Nat) (write : Bool) : State :=
  let pk := s.net.find? (fun p => p.target == .book d && p.loc == Loc.arrived && p.resp.isNone && p.addr == a && p.write == write && some p.iss.hh == s.hhOf w)
  let answer (s : State) (st : Status) (row : RowData) : State :=
    let s := s.emit (.bookRead w st (if st = .ok ∧ !write then (rowBytes row).take size else []))
    match pk with
    | some p => s.answerAt d p.id st (if st = .ok ∧ !write then [row] else [])
    | none => s
  if !s.ready d then answer s .decerr 0
  else match (if (size = 4 ∧ a.toNat % 4 = 0) ∨ (size = 64 ∧ a.toNat % 64 = 0) then bookPlace a else none) with
    | none => answer (s.latchDecerr d a (s.issuer w)) .decerr 0
    | some k =>
      if write || !s.isManager w then answer s .deed 0
      else answer s .ok (s.book.unit (k / 64) >>> (8 * (k % 64)))

end Sys2Proof.Machine
end

