-- ==== Sys2Proof/Machine/IntegrityOps.lean ====
section
/-!
DEFINITION. Shared operations of the gleaner, the check-bit test mode, the march engine and the row repair
(spec/10_integrity.md R350 to R363).
-/

namespace Sys2Proof.Machine

/-! ## The gleaner (R350 to R352) -/

/-- A write to TL_GLEAN: BANKS is stored, a bank set again restarts at row 0, LAP bits written 1 clear. -/
def State.gleanOp (s : State) (w : Src) (tile : Nat) (v : Word) : State × Status :=
  if !s.isManager w then (s, .deed)
  else
    let m : BitVec 16 := BitVec.ofNat 16 (bits v 0 16)
    (s.modTile tile (fun T =>
      { T with gleanRow := (bitsOf (m &&& ~~~ T.glean)).foldl (fun t b => t.set b 0) T.gleanRow, glean := m,
               lap := w1c T.lap (BitVec.ofNat 16 (bits v 16 16)) }), .ok)

/-- The bank is being marched, swept or used by the check-bit test mode. -/
def Tile.inTest (T : Tile) (b : Nat) : Bool := T.underTest b || (T.testBusy && T.testBank.toNat == b)

/-- The gleaner may start a beat on the bank: its request register is empty (R92). -/
def Tile.gleanFree (T : Tile) (b : Nat) : Bool :=
  !(T.accs.any (fun a => (a.stage == .queued || a.stage == .waiting || a.stage == .granted || a.stage == .beat) && a.cells.any (fun c => c.1 == b)))

/-- The gleaner passes over the row: poisoned, a swept row whose valid bit is 0, or of a bank under test. -/
def State.gleanSkips (s : State) (tile b row : Nat) : Bool :=
  (s.tile tile).inTest b || s.poisoned tile b ((s.tile tile).physRow b row) || s.unswept tile b row

/-- The gleaner goes on past a row; past row 1023 LAP sets and it starts again at row 0 (R352). -/
def Tile.gleanPast (T : Tile) (b row : Nat) : Tile :=
  if 1023 ≤ row then { T with gleanRow := T.gleanRow.set b 0, lap := setBit T.lap b true }
  else { T with gleanRow := T.gleanRow.set b (row + 1) }

/-- One decision of the gleaner on a bank: the next row that it does not pass over is read, checked and recorded with master
code 7, once 64 paces have passed since the last read there and the bank is free; with none left before row 1023 it ends its lap. -/
def State.gleanBeat (s : State) (tile b : Nat) (u1 u2 : ByteMask) : State :=
  let T := s.tile tile
  let r := Tbl.get 0 T.gleanRow b
  let now := s.paceNat tile
  match ((List.range (1024 - r)).map (fun k => r + k)).find? (fun k => !s.gleanSkips tile b k) with
  | none => s.modTile tile (fun T => T.gleanPast b 1023)
  | some k =>
    if T.gleanFree b && s.paceDue tile (Tbl.find T.gleanAt b) 64 then
      (s.checkRow tile b k (T.physRow b k) 7 none u1 u2).1.modTile tile (fun T => { T.gleanPast b k with gleanAt := T.gleanAt.set b now })
    else s

/-- A write to TL_MIRROR (R353). -/
def State.mirrorOp (s : State) (w : Src) (tile : Nat) (v : Word) : State × Status :=
  if !s.isManager w then (s, .deed) else (s.modTile tile (fun T => { T with mirror := BitVec.ofNat 16 (bits v 0 16) }), .ok)

/-- A write to TL_REPLAYS. -/
def State.replaysOp (s : State) (w : Src) (tile : Nat) (v : Word) : State × Status :=
  if !s.isManager w then (s, .deed) else (s.modTile tile (fun T => { T with replays := v }), .ok)

/-- A write to TL_POISONS. -/
def State.poisonsOp (s : State) (w : Src) (tile : Nat) (v : Word) : State × Status :=
  if !s.isManager w then (s, .deed) else (s.modTile tile (fun T => { T with poisons := v }), .ok)

/-! ## Check-bit test mode (R354, R355) -/

/-- The fields that a write to TL_TEST stores. -/
def Tile.testFields (T : Tile) (v : Word) : Tile :=
  { T with testSpare := bit v 3, testBank := BitVec.ofNat 4 (bits v 4 4), testRow := BitVec.ofNat 10 (bits v 8 10) }

/-- The physical row that a test operation acts on. -/
def Tile.testPhys (T : Tile) (v : Word) : Nat :=
  if bit v 3 then 1024 + bits v 8 4 else T.physRow (bits v 4 4) (bits v 8 10)

/-- Why a write to TL_TEST with OP other than 0 starts nothing (R354). -/
def State.testRefused (s : State) (w : Src) (tile : Nat) (v : Word) : Option Status :=
  let T := s.tile tile
  if !s.isManager w then some .deed
  else if T.ownerOf (bits v 4 4) ≠ 7 then some .deed
  else if T.testBusy || T.underTest (bits v 4 4) then some .rearmBusy
  else none

/-- WRITEPAR: the row's bytes are written back with the parity bits of TL_TEST_PAR; the poison bit stays. -/
def State.writeparOp (s : State) (w : Src) (tile : Nat) (v : Word) : State × Status :=
  match s.testRefused w tile v with
  | some st => (s, st)
  | none =>
    let T := s.tile tile
    let phys := T.testPhys v
    let s := s.putRow tile (bits v 4 4) phys { data := (s.stored tile (bits v 4 4) phys).data, par := T.testPar }
    (s.modTile tile (fun T => { T.testFields v with testStatus := .ok }), .ok)

/-- READRAW: the row's parity bits go to TL_TEST_PAR, unchecked. -/
def State.readrawOp (s : State) (w : Src) (tile : Nat) (v : Word) : State × Status :=
  match s.testRefused w tile v with
  | some st => (s, st)
  | none =>
    let p := (s.stored tile (bits v 4 4) ((s.tile tile).testPhys v)).par
    (s.modTile tile (fun T => { T.testFields v with testStatus := .ok, testPar := p }), .ok)

/-- CHECK: the row is read as an owner reads it; INJ makes the first check miss on every byte. -/
def State.checkOp (s : State) (w : Src) (tile : Nat) (v : Word) (u1 u2 : ByteMask) : State × Status :=
  match s.testRefused w tile v with
  | some st => (s, st)
  | none =>
    let b := bits v 4 4
    let row := bits v 8 10
    let phys := (s.tile tile).testPhys v
    if !bit v 3 && s.unswept tile b row then
      (s.modTile tile (fun T => { T.testFields v with testStatus := .ok, testPar := 0, testReplayed := false }), .ok)
    else
      let u1 := if bit v 2 then missMask (s.stored tile b phys) ^^^ BitVec.allOnes 64 else u1
      let x := s.checkRow tile b row phys 7 none u1 u2
      (x.1.modTile tile (fun T => { T.testFields v with testStatus := x.2.1, testPar := x.2.2.2.1, testReplayed := x.2.2.2.2 }), .ok)

/-- A write to TL_TEST with any OP. A CHECK that comes through the register bus meets no soft error of its own (notes/assumptions/7.md). -/
def State.testOp (s : State) (w : Src) (tile : Nat) (v : Word) : State × Status :=
  match bits v 0 2 with
  | 0 => if !s.isManager w then (s, .deed) else (s.modTile tile (fun T => T.testFields v), .ok)
  | 1 => s.writeparOp w tile v
  | 2 => s.readrawOp w tile v
  | _ => s.checkOp w tile v 0 0

/-- A write to word `k` of TL_TEST_PAR. -/
def State.testParOp (s : State) (w : Src) (tile k : Nat) (v : Word) : State × Status :=
  if !s.isManager w then (s, .deed)
  else (s.modTile tile (fun T => { T with testPar := if k = 0 then (T.testPar.extractLsb' 32 32) ++ v else v ++ (T.testPar.extractLsb' 0 32) }), .ok)

/-! ## The march engine (R356 to R361) -/

/-- A write to TL_MARCH (R361). -/
def State.marchOp (s : State) (w : Src) (tile : Nat) (v : Word) : State × Status :=
  let T := s.tile tile
  let m : BitVec 16 := BitVec.ofNat 16 (bits v 0 16)
  if !s.isManager w then (s, .deed)
  else if T.march.isSome then (s, .rearmBusy)
  else if bit v 16 && (bitsOf m).any (fun b => T.ownerOf b != 7 && !bit T.retired b) then (s, .deed)
  else
    let s := s.modTile tile (fun T => { T with marchBanks := m, marchMode := bit v 17, marchBg := bit v 18 })
    if bit v 16 then
      let r : MarchRun := { banks := m, mode := bit v 17, bg := bit v 18, startup := false }
      (s.modTile tile (fun T => { T with march := some r, marchDone := false }), .ok)
    else (s, .ok)

/-- A write to TL_MARCH_FAIL. -/
def State.marchFailOp (s : State) (w : Src) (tile : Nat) (v : Word) : State × Status :=
  if !s.isManager w then (s, .deed)
  else (s.modTile tile (fun T => { T with failBanks := w1c T.failBanks (BitVec.ofNat 16 (bits v 0 16)), failSig := T.failSig && !bit v 31 }), .ok)

/-- A failing read sets its bank's bit; the first is latched when BANKS goes from all-zero to nonzero (R359). -/
def Tile.marchFailed (T : Tile) (f : MarchFail) : Tile :=
  let T := if T.failBanks = 0 then
      { T with failRow := BitVec.ofNat 11 (if f.kind = 3 then 0 else f.row), failBank := BitVec.ofNat 4 f.bank, failSig := f.kind == 3 }
    else T
  { T with failBanks := setBit T.failBanks f.bank true }

/-- The failures that get a MARCH record: the first of each row, at most 16 rows of each bank, and signature failures. -/
def marchRecords : List MarchFail → List MarchFail → List MarchFail
  | _, [] => []
  | seen, f :: r =>
    if f.kind = 3 then f :: marchRecords seen r
    else if seen.any (fun g => g.bank == f.bank && g.row == f.row) || 16 ≤ (seen.filter (fun g => g.bank == f.bank)).length then marchRecords seen r
    else f :: marchRecords (f :: seen) r

/-- Element 0 of the transparent march: every row of a bank is read, checked with replay, and poisoned where it misses (R357). -/
def State.marchReads (s : State) (tile b : Nat) : State :=
  (List.range 1024).foldl (fun s r =>
    if s.unswept tile b r then s else (s.checkRow tile b r ((s.tile tile).physRow b r) 7 none 0 0).1) s

/-- The march of a tile ends with the failing reads that it met (R359, R360). -/
def State.marchEndOp (s : State) (tile : Nat) (r : MarchRun) (fails : List MarchFail) : State :=
  let fails := fails.filter (fun f => bit r.banks f.bank && (f.kind != 3 || r.mode))
  let s := (bitsOf r.banks).foldl (fun s b => if r.mode then s.marchReads tile b else s.clearBank tile b (some r.bg)) s
  let s := (marchRecords [] fails).foldl (fun s f =>
    s.record (tileDie tile) 18 tile (detail [(0, f.bank), (1, f.element), (2, f.kind), (3, if r.mode then 1 else 0),
      (4, if f.kind = 3 then 0 else f.row)])) s
  let s := s.modTile tile (fun T => { fails.foldl Tile.marchFailed T with march := none, marchDone := true })
  if r.startup && !fails.isEmpty then s.modSlice (tileDie tile) (fun S => { S with marchFail := true }) else s

/-! ## Repair (R362, R363) -/

/-- What a write to a remap entry does, by the first row of R362's table that applies, the manager's right apart. -/
def Tile.remapWrite (T : Tile) (i : Nat) (v : Word) : Tile × Status :=
  let b := bits v 10 4
  if bit (Tbl.get 0 T.remapRow i) 31 || !bit v 31 then (T, .ok)
  else if T.ownerOf b != 0 && T.ownerOf b != 7 then (T, .deed)
  else if T.remapRow.any (fun p => bit p.2 31 && bits p.2 10 4 == b && (bits p.2 0 10 == bits v 0 10 || bits p.2 14 4 == bits v 14 4)) then (T, .size)
  else ({ T with remapRow := T.remapRow.set i (v &&& 0x8003FFFF) }, .ok)

/-- A write to TL_REMAP_ROW[i]. -/
def State.remapRowOp (s : State) (w : Src) (tile i : Nat) (v : Word) : State × Status :=
  if !s.isManager w then (s, .deed)
  else (s.setTile tile ((s.tile tile).remapWrite i v).1, ((s.tile tile).remapWrite i v).2)

end Sys2Proof.Machine
end

