-- ==== Sys2Proof/Machine/StartOps.lean ====
section
/-!
DEFINITION. Shared operations of the resets, the start-up sequence, the links' training, lapse, and core resets
(spec/11_startup_power_book.md R365 to R374; spec/03_timing_promise.md R102 to R108; spec/04_fabric_arbitration.md R149).
-/

namespace Sys2Proof.Machine

/-! ## Lapse (spec/03_timing_promise.md R105, R107, R108) -/

/-- Causes that the monitors show: supply below 0.70 V or above 0.80 V; junction above 105 °C or below 0 °C; FORCE. -/
def Slice.causes (S : Slice) : Bool × Bool × Bool :=
  (S.mv < 700 || 800 < S.mv, 105 < S.degC || S.degC < 0, S.lpForce)

def Slice.anyCause (S : Slice) : Bool := S.causes.1 || S.causes.2.1 || S.causes.2.2

/-- The cause byte of a lapse record. -/
def Slice.causeByte (S : Slice) : Nat := (if S.lpCS then 1 else 0) + (if S.lpCT then 2 else 0) + (if S.lpCF then 4 else 0)

/-- A lapse record goes to the hold, or waits for step 4 (spec/11_startup_power_book.md R373). -/
def State.lapseRecord (s : State) (d : Nat) (r : BookRec) : State :=
  s.modSlice d (fun S => if S.step ≤ 4 then { S with lpOwed := S.lpOwed ++ [r] } else S.holdRecord r)

/-- Entry: ACTIVE, STICKY, causes, COUNT, LAPSE to every bound household, a record. -/
def State.lapseEntry (s : State) (d : Nat) : State :=
  let s := s.look
  let c := (s.slice d).causes
  let s := s.modSlice d (fun S =>
    ({ S with lpActive := true, lpSticky := true, lpCS := c.1, lpCT := c.2.1, lpCF := c.2.2, lpCount := satInc S.lpCount,
              lpEntryPace := s.paceNat (256 * d), lpClear := none } : Slice).raiseAll s.nextId 3)
  s.lapseRecord d (s.mkRecord d 2 sliceTile (detail [(0, (s.slice d).causeByte)]))

/-- The monitors or FORCE have changed: a slice in Normal enters lapse, a slice in lapse adds the causes. -/
def State.lapseCheck (s : State) (d : Nat) : State :=
  let S := s.slice d
  let c := S.causes
  if !S.anyCause then s
  else if S.lpActive then
    s.modSlice d (fun S => { S with lpCS := S.lpCS || c.1, lpCT := S.lpCT || c.2.1, lpCF := S.lpCF || c.2.2 })
  else s.lapseEntry d

/-- Nothing holds the clear count at 0. -/
def Slice.clear (S : Slice) : Bool := 710 ≤ S.mv && S.mv ≤ 790 && 2 ≤ S.degC && S.degC ≤ 103 && !S.lpForce

/-- The clear count runs while nothing holds it at 0: from the pace `now` on, if it did not run before (R108). -/
def Slice.countClear (now : Nat) (S : Slice) : Slice := { S with lpClear := if S.clear then some (S.lpClear.getD now) else none }

/-- What the monitors and FORCE have come to: entry or a further cause, and the clear count. -/
def State.lapseLevel (s : State) (d : Nat) : State := (s.lapseCheck d).modSlice d (fun S => S.countClear (s.paceNat (256 * d)))

/-- A tile holds nothing that its slice accepted in lapse and that still carries a bound: an access, a narrow write in the merge buffer, whose
flush may have been demoted, a deed write or rotation (R107). -/
def Tile.lapseFree (T : Tile) : Bool :=
  !(T.accs.any (fun a => a.lapse && !a.demoted)) && !(T.merge.any (fun e => e.lapse && !(T.accs.any (fun a => a.demoted && a.dest == .flush e.bank e.row)))) && !(T.deedOp.isSome && T.deedLapse)

/-- A slice holds no doorbell and no slice-wide rotation that it accepted in lapse (R86, R107). -/
def Slice.lapseFree (S : Slice) : Bool := !(S.bells.any (·.lapse)) && !(S.rotBusy && S.rotLapse && S.rotLeft != 0) && S.tiles.all (fun q => q.2.lapseFree)

/-- No access that the slice accepted in lapse and that still carries a bound is outstanding (R107). -/
def State.lapseDrained (s : State) (d : Nat) : Bool :=
  !(s.net.any (fun p => p.lapse.contains d && !p.demoted && !p.abandoned)) && (s.slice d).lapseFree

/-- The clear count of tile (0, 0) has reached 4096 (R101, R108). -/
def State.clearCounted (s : State) (d : Nat) : Bool := match (s.slice d).lpClear with | some k => s.paceOver (256 * d) k 4096 | none => false

/-- End: the length, LONGEST, no more tagging, a record. -/
def State.lapseEndOp (s : State) (d : Nat) : State :=
  if !(s.slice d).lpActive || !(s.slice d).clear || !s.clearCounted d || !s.lapseDrained d then s
  else
    let s := s.look
    let n := s.paceNat (256 * d) - (s.slice d).lpEntryPace
    let c := (s.slice d).causeByte
    let s := s.modSlice d (fun S =>
      { S with lpActive := false, lpLongest := if S.lpLongest.toNat < n then BitVec.ofNat 32 (min n 0xFFFFFFFF) else S.lpLongest })
    s.lapseRecord d (s.mkRecord d 3 sliceTile (detail [(0, c), (4, min n 0xFFFFFFFF)]))

/-- A write to SLC_LAPSE control. -/
def State.forceOp (s : State) (w : Src) (d : Nat) (v : Word) : State × Status :=
  if !s.isManager w then (s, .deed) else ((s.modSlice d (fun S => { S with lpForce := bit v 0 })).lapseLevel d, .ok)

/-- A write to SLC_LAPSE status: STICKY is W1C. -/
def State.lapseStatusOp (s : State) (w : Src) (d : Nat) (v : Word) : State × Status :=
  if !s.isManager w then (s, .deed) else (s.modSlice d (fun S => { S with lpSticky := S.lpSticky && !bit v 0 }), .ok)

def Slice.lapseWord (S : Slice) : Word :=
  flag 0 S.lpSticky ||| flag 1 S.lpActive ||| flag 2 S.lpCS ||| flag 3 S.lpCT ||| flag 4 S.lpCF ||| put 16 S.lpCount.toNat

/-! ## Resets (R365 to R368) -/

/-- A slice at reset: every register at its reset value; what outlives a reset is the supply, the monitors' readings, the
controllers' state, the start's number and whether the last start reached READY. -/
def Slice.restart (S : Slice) : Slice :=
  { power := S.power, epoch := S.epoch, prevReady := if S.step = 0 then S.prevReady else S.step == 9, mv := S.mv, degC := S.degC,
    ext := S.ext.map (fun p => (p.1, { ready := p.2.ready })) }

/-- The first cause is latched; a cause that is none of 1 to 5 is no valid one (R367). -/
def State.latchCause (s : State) (d cause : Nat) : State :=
  if 1 ≤ cause && cause ≤ 5 && Tbl.get 0 s.book.cause d == 0 then { s with book := { s.book with cause := s.book.cause.set d cause } } else s

/-- The packet stands on die `d`. -/
def Packet.isOn (p : Packet) (d : Nat) : Bool :=
  match p.loc with
  | .lane e _ _ | .matrix e | .held e | .ring e _ | .bridge e _ | .wire e _ => e == d
  | .arrived | .served | .read => p.target.die == d
  | .home => p.iss.die == d
  | .lost => false

/-- The links of a slice go down: at their other ends a LINK record, the end of the ring requests and the notice to the other slices
(R368; spec/07_external_bridges.md R243, R248). -/
def State.dropLinks (s : State) (d : Nat) : State :=
  let up := bitsOf (s.slice d).linkUp
  let s := (List.range 8).foldl (fun s p => s.loseLink d p) s
  let s := up.foldl (fun s p => s.linkState (peer s.dies d p).1 (peer s.dies d p).2 false 2) s
  let near := (up.map (fun p => (peer s.dies d p).1)).dedup
  let s := if up.isEmpty then s else (List.range s.dies).foldl (fun s e =>
    if e = d || near.contains e then s else s.modSlice e (fun S => { S with linkNotice := true })) s
  near.foldl (fun s e => s.endRing e) s

/-- The die's slice goes down: accesses, requests and held records are abandoned, nothing is answered, its links go down, and the
other slices free the locks of its cores. -/
def State.slicesDown (s : State) (d : Nat) : State :=
  let s := s.dropLinks d
  let gone (p : Packet) : Bool := (p.iss.die == d && (p.isOn d || p.loc == Loc.lost)) || (p.abandoned && p.isOn d)
  let cut (p : Packet) : Packet :=
    if p.iss.die = d then { p with abandoned := true, entered := false } else if p.isOn d then { p with loc := .lost } else p
  let s := { s with net := (s.net.filter (fun p => !gone p)).map cut,
                    notices := s.notices.filter (fun q => tileDie q.1 != d),
                    mem := s.mem.cut (rowKey (256 * d) 0 0) (rowKey (256 * d + 256) 0 0),
                    poison := s.poison.cut (rowKey (256 * d) 0 0) (rowKey (256 * d + 256) 0 0),
                    valid := s.valid.cut (validKey (256 * d) 14 0) (validKey (256 * d + 256) 14 0),
                    book := { s.book with queue := s.book.queue.filter (fun e => e != d) } }
  let s := (s.listedTiles.filter (fun t => tileDie t != d && s.live (tileDie t))).foldl (fun s t =>
    s.breakLocks t 1 (fun h => match h with | .core c _ => tileDie c == d | .master _ => false)) s
  s.modSlice d Slice.restart

/-- A slice reset begins. POWER, the application of the supply, finds the die off or on; any other cause finds it on. -/
def State.resetSlice (s : State) (d cause : Nat) : State :=
  if cause = 1 then ((s.latchCause d 1).slicesDown d).modSlice d (fun S => { S with power := true })
  else if (s.slice d).power then (s.latchCause d cause).slicesDown d else s

/-- SLICE_RESET: HOST resets every slice; MANAGER follows a write of SRST. -/
def State.sliceResetOp (s : State) (d cause : Nat) : State :=
  if cause = 4 then (List.range s.dies).foldl (fun s e => s.resetSlice e 4) s
  else if cause = 3 && !(s.slice d).srst then s
  else s.resetSlice d cause

/-- A write to SLC_CTRL (R366). -/
def State.srstOp (s : State) (w : Src) (d : Nat) (v : Word) : State × Status :=
  if !s.isManager w then (s, .deed)
  else if !bit v 0 then (s, .ok)
  else if bits v 8 8 = 0xA5 then (s.modSlice d (fun S => { S with srst := true }), .ok)
  else (s, .deed)

/-- The die is powered off (spec/01_architecture.md R34). -/
def State.powerOffOp (s : State) (d : Nat) : State :=
  if (s.slice d).power then (s.slicesDown d).modSlice d (fun S => { S with power := false }) else s

/-- SUPPLY: VDD_G is below 0.64 V (spec/03_timing_promise.md R104). The reading kept is at most 639 mV (notes/assumptions/10.md). -/
def State.supplyResetOp (s : State) (d : Nat) : State := (s.modSlice d (fun S => { S with mv := min S.mv 639 })).resetSlice d 2

/-- The monitors report a level (R102, R104, R105, R108). A supply below 0.71 V before step 2 breaks the settling delay, and the slice stands before
step 1 again (R369, R373). -/
def State.monitorOp (s : State) (d mv : Nat) (degC : Int) : State :=
  let s := s.modSlice d (fun S => { S with mv := mv, degC := degC })
  if mv < 640 then s.resetSlice d 2
  else if s.live d then s.lapseLevel d
  else if mv < 710 && (s.slice d).step == 1 then s.modSlice d (fun S => { S with step := 0, linkTrain := 0 })
  else s

/-! ## Start-up (R369 to R373) -/

/-- Step 1: the supply has stood at 0.71 V or more; link training starts. -/
def State.supplyGoodOp (s : State) (d : Nat) : State :=
  let S := s.slice d
  if S.step ≠ 0 then s
  else
    let s := if !S.power || S.epoch = 0 then s.latchCause d 1 else s
    s.modSlice d (fun S => { S with power := true, step := 1, linkTrain := 0xFF, mv := max S.mv 710 })

/-- Steps 2 and 3: the reset is released, the pace meters start at 0 and the lapse state machine starts. -/
def State.settledOp (s : State) (d : Nat) : State :=
  if (s.slice d).step ≠ 1 then s
  else (s.modSlice d (fun S => { S with step := 4, epoch := S.epoch + 1, paceFrom := some s.ticks })).lapseLevel d

/-- The start-up march of every tile begins, if START asks for it (R361). -/
def State.startMarch (s : State) (d : Nat) : State :=
  let S := s.slice d
  if bit S.start 0 then
    (s.modTiles d (fun T => { T with march := some { banks := 0xFFFF, mode := false, bg := bit S.start 1, startup := true }, marchDone := false })).modSlice d
      (fun S => { S with step := 6 })
  else s.modSlice d (fun S => { S with step := 7 })

/-- Lapse records that waited for step 4. -/
def State.owedRecords (s : State) (d : Nat) : State :=
  s.modSlice d (fun S => (S.lpOwed.foldl (fun S r => S.holdRecord { r with boot := s.book.cur.bootOf d }) { S with lpOwed := [] }))

/-- Step 4 (R367, R370). -/
def State.bookCheckOp (s : State) (d : Nat) : State :=
  if (s.slice d).step ≠ 4 then s
  else if !s.book.a.good && !s.book.b.good then
    ((s.modSlice d (fun S => { S.dropHold with mapErr := true, start := 1, step := 5 })).owedRecords d).startMarch d
  else
    let cause := Tbl.get 0 s.book.cause d
    let bk := s.book.update (fun c => { c with boot := c.boot.set d (satInc (c.bootOf d)) })
    let s := { s with book := { bk with cause := bk.cause.del d } }
    let s := s.modSlice d (fun S => { S with start := s.book.cur.startOf d, step := 5 })
    let s := s.record d 1 sliceTile (detail [(0, if cause = 0 then 6 else cause), (1, if (s.slice d).prevReady then 1 else 0)])
    s.owedRecords d

/-- A REPAIR record: 1 refused, 2 no free remap entry, 3 map CRC. -/
def State.repairRecord (s : State) (d : Nat) (e : BitVec 64) (k reason : Nat) : State :=
  s.record d 19 sliceTile (detail [(0, e.toNat), (8, k), (10, reason)])

/-- One entry of the repair map is applied (spec/10_integrity.md R364). -/
def State.applyEntry (s : State) (d k : Nat) : State :=
  let e := s.book.entry k
  let g := 256 * d + bits e 6 8
  if !bit e 0 || bits e 3 3 ≠ d then s
  else if bits e 1 2 = 2 then s.modTile g (fun T => { T with retired := setBit T.retired (bits e 14 4) true })
  else if bits e 1 2 = 1 then
    match (List.range 32).find? (fun i => !bit (Tbl.get 0 (s.tile g).remapRow i) 31) with
    | none => s.repairRecord d e k 2
    | some i =>
      let r := (s.tile g).remapWrite i (put 0 (bits e 18 10) ||| put 10 (bits e 14 4) ||| put 14 (bits e 28 4) ||| flag 31 true)
      if r.2 = .ok then s.setTile g r.1 else s.repairRecord d e k 1
  else s

/-- Step 5. -/
def State.mapLoadOp (s : State) (d : Nat) : State :=
  let c := s.book.cur
  if (s.slice d).step ≠ 5 then s
  else
    let s :=
      if s.book.crcOf c.mapCount ≠ c.mapCrc then (s.modSlice d (fun S => { S with mapErr := true })).repairRecord d 0 0 3
      else (List.range c.mapCount).foldl (fun s k => s.applyEntry d k) s
    s.startMarch d

/-- A tile whose start-up march was not reported ends it without a failure; the gleaner starts if START asks for it. -/
def Tile.started (T : Tile) (glean : Bool) : Tile :=
  let T := match T.march with
    | some r => { T with march := none, marchDone := true, bg := (List.range 16).map (fun b => (b, some r.bg)) }
    | none => T
  { T with glean := if glean then 0xFFFF else T.glean }

/-- Every binding of slice `e` is copied to slice `d`. -/
def State.copyBinds (s : State) (e d : Nat) : State :=
  let E := s.slice e
  s.modSlice d (fun S => { S with hh := (List.range 16).map (fun h => (h, E.bind h)) })

/-- Steps 7 to 9 (R371). -/
def State.readyOp (s : State) (d : Nat) : State :=
  let S := s.slice d
  if S.step ≠ 6 && S.step ≠ 7 then s
  else
    let s := { s with valid := s.valid.cut (validKey (256 * d) 14 0) (validKey (256 * d + 256) 14 0) }
    let s := s.modTiles d (fun T => T.started (bit S.start 2))
    let l := (List.range s.dies).filter (fun e => e != d && s.ready e)
    let s := match l with
      | [] => s
      | e :: _ =>
        let s := s.copyBinds e d
        if d = 0 then l.foldl (fun s f => s.copyBinds e f) s else s
    s.modSlice d (fun S => { S with step := 9 })

/-- SLC_STATUS.STEP: with every march of step 6 ended, step 7 is in progress. -/
def Slice.stepShown (S : Slice) : Nat := if S.step = 6 && S.base.march.isNone && S.tiles.all (fun q => q.2.march.isNone) then 7 else S.step

/-- Link training of a port ends (spec/07_external_bridges.md R243). -/
def State.trainedOp (s : State) (d port : Nat) (up : Bool) : State :=
  let q := peer s.dies d port
  let P := s.slice q.1
  if 8 ≤ port || !bit (s.slice d).linkTrain port then s
  else if up && P.power && 1 ≤ P.step then (s.linkState d port true 0).linkState q.1 q.2 true 0
  else
    let s := s.linkState d port false 1
    if bit P.linkTrain q.2 then s.linkState q.1 q.2 false 1 else s

/-! ## Core resets (spec/04_fabric_arbitration.md R149) -/

/-- A core resets: its notice is in its own slice, and sets out for every other. -/
def State.coreResetOp (s : State) (core : Nat) : State :=
  let d := tileDie core
  let i : Issuer := { die := d, tile := core, master := 3, chan := 0, hh := (s.tile core).hh, port := 127 }
  let s := { s with notices := s.notices.set core [] }
  let s := s.modSlices (fun S => { S with noticeIn := S.noticeIn.filter (fun c => c != core) })
  let s := s.modSlice d (fun S => { S with noticeIn := S.noticeIn ++ [core] })
  ((List.range s.dies).filter (fun e => e != d)).foldl (fun s e => s.launch (s.newPacket i .notice 7 (.slice e) 0 0 0 false [])) s

/-- The notice reaches a tile: the core's locks free with SUSPECT, and on its own tile every endpoint closes
(spec/08_tallies_bells_channels.md R299). -/
def State.noticeOp (s : State) (tile core : Nat) : State :=
  match s.notices.find core with
  | none => s
  | some l =>
    if l.contains tile || !((s.slice (tileDie tile)).noticeIn.contains core) then s
    else
      let l := Keys.add l tile
      let s := { s with notices := if l.length = 256 * s.dies then s.notices.del core else s.notices.set core l }
      let s := s.breakLocks tile 1 (fun h => h.isCore tile core)
      if tile = core then s.closeEps tile (fun _ => true) else s

end Sys2Proof.Machine
end

