-- ==== Sys2Proof/Machine/Regs.lean ====
section
/-!
DEFINITION. The two register blocks: what each offset is, who reads and writes it, register accesses by every path, accesses that
waited, and REGWRITE (spec/13_registers.md R387 to R403; spec/04_fabric_arbitration.md R111, R122 to R124; spec/05_stream_engine.md R169, R170).
-/

namespace Sys2Proof.Machine

/-- `off` is a word of the range [lo, hi]. -/
def within (off lo hi : Nat) : Bool := lo ≤ off && off ≤ hi && off % 4 == 0

/-! ## Registers without an operation of their own -/

/-- A write to a register without a writer: OK and no effect for a party with read right (R391, R392). -/
def State.roTile (s : State) (w : Src) (tile : Nat) : State × Status := (s, if s.mayRead w tile then .ok else .deed)

/-- TL_PRIO. -/
def State.prioOp (s : State) (w : Src) (tile : Nat) (v : Word) : State × Status :=
  if !s.mayWrite .slgm w tile then (s, .deed) else (s.modTile tile (fun T => { T with prio := v &&& 0x3FFF8 }), .ok)

/-- TL_ROTATE_A and TL_ROTATE_B. -/
def State.rotateMaskOp (s : State) (w : Src) (tile : Nat) (b : Bool) (v : Word) : State × Status :=
  let m : BitVec 16 := BitVec.ofNat 16 (bits v 0 16)
  if !s.mayWrite .slgm w tile then (s, .deed) else (s.modTile tile (fun T => if b then { T with rotB := m } else { T with rotA := m }), .ok)

/-- TL_CONF[i]. -/
def State.confOp (s : State) (w : Src) (tile i : Nat) (v : Word) : State × Status :=
  if !s.mayWrite .hm w tile then (s, .deed) else (s.modTile tile (fun T => { T with conf := T.conf.set i v }), .ok)

/-- TL_DEEDFLT. -/
def State.deedFltOp (s : State) (w : Src) (tile : Nat) (v : Word) : State × Status :=
  if !s.mayWrite .hm w tile then (s, .deed) else (s.modTile tile (fun T => { T with deedFlt := v }), .ok)

/-! ## The tile block (R400, R401) -/

/-- The map names the offset as a register or a zero word. -/
def tileMapped (off : Nat) : Bool :=
  within off 0x000 0x00C || within off 0x040 0x090 || within off 0x0A0 0x0A8 || within off 0x0C0 0x0D4 || off == 0x0E0 ||
  within off 0x0F0 0x0F8 || within off 0x100 0x180 || within off 0x200 0x2D0 || within off 0x300 0x31C || within off 0x340 0x360 ||
  within off 0x400 0x824 || off == 0x840 || off == 0x848 || off == 0x84C || off == 0x860 || off == 0x864 || within off 0x880 0x90C

/-- What performing a write at a mapped offset of a tile block gives. -/
def State.tileWrite (s : State) (w : Src) (tile off : Nat) (v : Word) : RegRes :=
  if off = 0x004 then RegRes.now (s.ctrlOp w tile v)
  else if off = 0x008 then RegRes.now (s.statusOp w tile v)
  else if off = 0x00C then RegRes.orWait (s.sweepOp w tile v)
  else if within off 0x040 0x07C then RegRes.orWait (s.deedWriteOp w tile ((off - 0x040) / 4) v)
  else if off = 0x080 then RegRes.orWait (s.commonsWriteOp w tile v)
  else if off = 0x084 then RegRes.now (s.prioOp w tile v)
  else if off = 0x088 then RegRes.now (s.rotateMaskOp w tile false v)
  else if off = 0x08C then RegRes.now (s.rotateMaskOp w tile true v)
  else if off = 0x090 then RegRes.orWait (s.rotateGoOp w tile v)
  else if off = 0x0A0 then RegRes.now (s.gleanOp w tile v)
  else if off = 0x0A4 then RegRes.now (s.mirrorOp w tile v)
  else if off = 0x0A8 then RegRes.orWait (s.retireOp w tile v)
  else if within off 0x0C0 0x0D4 then RegRes.now (s.confOp w tile ((off - 0x0C0) / 4) v)
  else if off = 0x0E0 then RegRes.now (s.deedFltOp w tile v)
  else if off = 0x0F8 then RegRes.now (s.lockOp w tile v)
  else if within off 0x100 0x17C then RegRes.now (s.gateOp w tile ((off - 0x100) / 16) (off % 16 / 4) v)
  else if off = 0x180 then RegRes.now (s.lateOp w tile v)
  else if within off 0x200 0x2BC then s.tallyOp w tile ((off - 0x200) / 4) v
  else if within off 0x2C0 0x2C4 then s.tallyModeOp w tile ((off - 0x2C0) / 4) v
  else if within off 0x2C8 0x2CC then RegRes.now (s.tallyLOp w tile ((off - 0x2C8) / 4) v)
  else if off = 0x2D0 then RegRes.now (s.syncFaultWriteOp w tile v)
  else if within off 0x300 0x31C then s.bellOp w tile ((off - 0x300) / 4) v
  else if off = 0x340 then RegRes.now (s.wmOp w tile v)
  else if within off 0x400 0x5FC then
    let e := (off - 0x400) / 0x20
    RegRes.now (match off % 0x20 with
      | 0x00 => s.chCtrlOp w tile e v
      | 0x04 => s.chBaseOp w tile e v
      | 0x10 => s.chDropOp w tile e v
      | _ => s.roTile w tile)
  else if within off 0x600 0x7FC then RegRes.now (s.chanRegOp w tile ((off - 0x600) / 0x40) (off % 0x40) v)
  else if off = 0x800 then RegRes.now (s.mcStallRegOp w tile v)
  else if off = 0x804 then RegRes.now (s.stPrioOp w tile v)
  else if within off 0x808 0x824 then RegRes.now (s.mcLagOp w tile ((off - 0x808) / 4) v)
  else if off = 0x840 then RegRes.now (s.testOp w tile v)
  else if within off 0x848 0x84C then RegRes.now (s.testParOp w tile ((off - 0x848) / 4) v)
  else if off = 0x860 then RegRes.now (s.marchOp w tile v)
  else if off = 0x864 then RegRes.now (s.marchFailOp w tile v)
  else if within off 0x880 0x8FC then RegRes.now (s.remapRowOp w tile ((off - 0x880) / 4) v)
  else if off = 0x904 then RegRes.now (s.wdogOp w tile v)
  else if off = 0x908 then RegRes.now (s.replaysOp w tile v)
  else if off = 0x90C then RegRes.now (s.poisonsOp w tile v)
  else RegRes.now (s.roTile w tile)

/-- A nibble of TL_LOCK STATE, relative to the reader. -/
def Lock.nibble (L : Lock) (w : Src) (tile : Nat) : Nat :=
  let mine := match L.holder with
    | some (.master _) => isLocal w tile
    | some (.core t _) => !isLocal w tile && srcTile w == some t
    | none => false
  let remote := match L.holder with | some (.core _ _) => true | _ => false
  (if L.holder.isSome then 1 else 0) + (if mine then 2 else 0) + (if L.suspect then 4 else 0) + (if remote then 8 else 0)

/-- TL_LOCK STATE0 or STATE1. -/
def Tile.lockWord (T : Tile) (w : Src) (tile k : Nat) : Word :=
  (List.range 8).foldl (fun x b => x ||| put (4 * b) ((T.lock (8 * k + b)).nibble w tile)) 0

/-- Word `k` of TL_GATE. -/
def Gate.word (G : Gate) (k : Nat) : Word :=
  match k with
  | 0 => put 6 G.base.toNat
  | 1 => put 6 G.size.toNat
  | 2 => flag 0 G.r ||| flag 1 G.w ||| put 4 G.hh.toNat ||| flag 8 G.isOpen ||| flag 16 G.closing ||| flag 17 G.closedDone ||| flag 18 G.forced
  | _ => put 0 (min G.bursts 255)

/-- TL_BELL. -/
def Bell.word (B : Bell) : Word := put 0 B.mask.toNat ||| put 4 B.arrived.toNat ||| put 8 B.tally.toNat ||| flag 14 B.l ||| put 20 B.gen.toNat

/-- A register of an endpoint. -/
def Endpoint.word (E : Endpoint) (off : Nat) : Word :=
  match off with
  | 0x00 => flag 0 E.isOpen ||| put 4 E.hh.toNat
  | 0x04 => put 6 E.off.toNat ||| put 20 E.size.toNat
  | 0x08 => E.occWord
  | 0x0C => E.headWord
  | 0x10 => E.drop
  | _ => 0

/-- TL_TEST. -/
def Tile.testWord (T : Tile) : Word :=
  flag 3 T.testSpare ||| put 4 T.testBank.toNat ||| put 8 T.testRow.toNat ||| flag 20 T.testBusy ||| flag 21 T.testReplayed |||
    put 24 (statusCode T.testStatus)

/-- What a mapped offset of a tile block reads as. -/
def State.tileRead (s : State) (w : Src) (tile off : Nat) : Word :=
  let T := s.tile tile
  if off = 0x000 then put 0 tile ||| put 16 T.hh
  else if off = 0x004 then flag 0 T.remap ||| flag 1 T.logLate
  else if off = 0x008 then put 0 (T.quar.toNat % 64) ||| put 8 T.biteRes.toNat ||| put 13 T.biteMaster.toNat ||| flag 16 T.bite
  else if off = 0x00C then flag 8 T.sweep14 ||| flag 9 T.sweep15
  else if within off 0x040 0x07C then
    let b := (off - 0x040) / 4
    put 0 (if bit T.retired b then 0 else T.ownerOf b) ||| flag 8 (bit T.pend b) ||| flag 9 (bit T.retired b)
  else if off = 0x080 then put 0 T.commons.toNat
  else if off = 0x084 then T.prio
  else if off = 0x088 then put 0 T.rotA.toNat
  else if off = 0x08C then put 0 T.rotB.toNat
  else if off = 0x090 then flag 8 T.rotBusy ||| flag 9 T.rotErr ||| put 12 T.rotCause.toNat
  else if off = 0x0A0 then put 0 T.glean.toNat ||| put 16 T.lap.toNat
  else if off = 0x0A4 then put 0 T.mirror.toNat
  else if off = 0x0A8 then put 0 T.retired.toNat
  else if within off 0x0C0 0x0D4 then Tbl.get 0 T.conf ((off - 0x0C0) / 4)
  else if off = 0x0E0 then T.deedFlt
  else if within off 0x0F0 0x0F4 then T.lockWord w tile ((off - 0x0F0) / 4)
  else if within off 0x100 0x17C then (T.gate ((off - 0x100) / 16)).word (off % 16 / 4)
  else if off = 0x180 then T.late
  else if within off 0x200 0x2BC then T.tallyOf ((off - 0x200) / 4)
  else if within off 0x2C0 0x2C4 then BitVec.ofNat 32 (bits T.tallyMode (8 * (off - 0x2C0)) 32)
  else if within off 0x2C8 0x2CC then BitVec.ofNat 32 (bits T.tallyL (8 * (off - 0x2C8)) 32)
  else if off = 0x2D0 then T.syncFault
  else if within off 0x300 0x31C then (T.bell ((off - 0x300) / 4)).word
  else if off = 0x340 then flag 0 T.wmEn ||| flag 1 T.wmHostwait ||| flag 8 T.wmNow ||| flag 9 T.wmStill ||| put 16 T.wmRaises.toNat
  else if within off 0x344 0x360 then Tbl.get 0 T.wmSnap ((off - 0x344) / 4)
  else if within off 0x400 0x5FC then (T.ep ((off - 0x400) / 0x20)).word (off % 0x20)
  else if within off 0x600 0x7FC then (T.chan ((off - 0x600) / 0x40)).read tile (off % 0x40)
  else if off = 0x800 then put 0 T.mcStall.toNat
  else if off = 0x804 then put 0 T.stPrio.toNat
  else if within off 0x808 0x824 then T.lagWord ((off - 0x808) / 4)
  else if off = 0x840 then T.testWord
  else if within off 0x848 0x84C then BitVec.ofNat 32 (bits T.testPar (8 * (off - 0x848)) 32)
  else if off = 0x860 then put 0 T.marchBanks.toNat ||| flag 17 T.marchMode ||| flag 18 T.marchBg ||| flag 24 T.march.isSome ||| flag 25 T.marchDone
  else if off = 0x864 then put 0 T.failBanks.toNat ||| put 16 T.failRow.toNat ||| put 27 T.failBank.toNat ||| flag 31 T.failSig
  else if within off 0x880 0x8FC then Tbl.get 0 T.remapRow ((off - 0x880) / 4)
  else if off = 0x900 then s.look.pace tile
  else if off = 0x904 then put 0 T.wdog.toNat
  else if off = 0x908 then T.replays
  else if off = 0x90C then T.poisons
  else 0

/-- A read of TL_PACE looks at the clock. -/
def State.readLook (s : State) (off : Nat) : State := if off = 0x900 then s.look else s

/-- What performing an access at a tile block gives, and the value of a read. -/
def State.tileAcc (s : State) (tile : Nat) (a : RegAcc) : RegRes × Word :=
  if a.write then (s.tileWrite a.src tile a.off a.value, 0)
  else if s.mayRead a.src tile then (RegRes.now (s.readLook a.off, .ok), s.tileRead a.src tile a.off)
  else (RegRes.now (s, .deed), 0)

/-! ## The slice block (R397 to R399) -/

/-- The map names the offset as a register or a zero word of the slice block of die `d`. -/
def sliceMapped (d off : Nat) : Bool :=
  within off 0x0000 0x0004 || within off 0x0010 0x0018 || within off 0x0020 0x0028 || within off 0x0040 0x0140 ||
  (d == 0 && within off 0x0148 0x014C) || within off 0x0180 0x01C8 || within off 0x0200 0x0220 || within off 0x0300 0x037C ||
  within off 0x0400 0x0418 || within off 0x0500 0x0728 || within off 0x1000 0x107C || within off 0x2000 0x2FFC

/-- The party may read the offset (Read column of the slice map). -/
def State.sliceMayRead (s : State) (w : Src) (off : Nat) : Bool :=
  if within off 0x0300 0x037C || within off 0x2000 0x2FFC then s.isManager w
  else if within off 0x0500 0x05FC then s.mayHh w ((off - 0x0500) / 16)
  else if within off 0x0600 0x06FC then s.mayHh w ((off - 0x0600) / 16)
  else (s.hhOf w).isSome

/-- A write to a register without a writer. -/
def State.roSlice (s : State) (w : Src) (off : Nat) : State × Status := (s, if s.sliceMayRead w off then .ok else .deed)

/-- A write by the manager that changes the slice. -/
def State.sliceM (s : State) (w : Src) (d : Nat) (f : Slice → Slice) : State × Status :=
  if !s.isManager w then (s, .deed) else (s.modSlice d f, .ok)

/-- A write to SLC_DECERR_SRC: writing 1 to VALID clears VALID and MULTI (spec/04_fabric_arbitration.md R124). -/
def State.rearmOp (s : State) (w : Src) (d : Nat) (v : Word) : State × Status :=
  s.sliceM w d (fun S => if bit v 31 then { S with decSrc := S.decSrc &&& ~~~ (put 30 3) } else S)

/-- A write to SLC_ROTATE control (spec/02_banks_deeds.md R63 to R66). -/
def State.sliceRotateOp (s : State) (w : Src) (d : Nat) (v : Word) : State × Status :=
  let S := s.slice d
  if !s.isManager w then (s, .deed)
  else if S.rotBusy || !bit v 0 then (s, .ok)
  else if S.rotMask = 0 then (s.modSlice d (fun S => { S with rotDone := true, rotErr := false }), .ok)
  else
    let s := s.modSlice d (fun S => { S with rotBusy := true, rotDone := false, rotErr := false, rotLeft := S.rotMask, rotRefused := false, rotLapse := S.lpActive })
    ((bitsOf S.rotMask).foldl (fun s i => s.modTile (256 * d + i) (fun T => { T with rotWait := true })) s, .ok)

/-- A masked tile accepts the slice's rotation request (R64, R65). -/
def State.tileRotateOp (s : State) (tile : Nat) : State :=
  let T := s.tile tile
  if !T.rotWait || T.rotateWaits || T.reassign.isSome then s
  else
    let s := (s.modTile tile (fun T => { T with rotWait := false })).rotateAccept tile 0 1 true
    if T.rotateCause ≠ 0 then s.modSlice (tileDie tile) (fun S => S.rotateAnswered (tile % 256) true) else s

/-- Every masked tile has answered (R65). -/
def State.sliceRotateDoneOp (s : State) (d : Nat) : State :=
  let S := s.slice d
  if S.rotBusy && S.rotLeft == 0 then s.modSlice d (fun S => { S with rotBusy := false, rotDone := true, rotErr := S.rotRefused }) else s

/-- A write to a TILEMASK word. -/
def State.tileMaskOp (s : State) (w : Src) (d k : Nat) (v : Word) : State × Status :=
  s.sliceM w d (fun S => if S.rotBusy then S else
    { S with rotMask := (S.rotMask &&& ~~~ (BitVec.ofNat 256 (0xFFFFFFFF <<< (32 * k)))) ||| BitVec.ofNat 256 (v.toNat <<< (32 * k)) })

/-- What performing a write at a mapped offset of a slice block gives. -/
def State.sliceWrite (s : State) (w : Src) (d off : Nat) (v : Word) : RegRes :=
  if off = 0x0010 then RegRes.now (s.srstOp w d v)
  else if off = 0x0018 then RegRes.now (s.startWordOp w d v)
  else if off = 0x0020 then RegRes.now (s.lapseStatusOp w d v)
  else if off = 0x0024 then RegRes.now (s.sliceM w d id)
  else if off = 0x0028 then RegRes.now (s.forceOp w d v)
  else if within off 0x0040 0x007C then RegRes.now (s.hhBindOp w d ((off - 0x0040) / 4) v)
  else if within off 0x0080 0x00BC then RegRes.now (s.titheOp w d ((off - 0x0080) / 4) v)
  else if within off 0x00C0 0x013C then
    let h := (off - 0x00C0) / 8
    RegRes.now (s.sliceM w d (fun S =>
      if off % 8 = 0 then { S with winLo := S.winLo.set h (v &&& 0x7FFFFFC0) } else { S with winHi := S.winHi.set h (BitVec.ofNat 17 (bits v 0 17)) }))
  else if off = 0x0140 then RegRes.now (s.unboundOp w d v)
  else if off = 0x0148 then RegRes.now (s.bindReqOp w v)
  else if within off 0x0180 0x019C then RegRes.now (s.sliceM w d (fun S => { S with park := S.park.set ((off - 0x0180) / 4) (v &&& 0x17F) }))
  else if within off 0x01A0 0x01BC then RegRes.now (s.routeOp w d ((off - 0x01A0) / 4) v)
  else if off = 0x01C8 then RegRes.now (s.rearmOp w d v)
  else if off = 0x0200 then RegRes.now (s.sliceRotateOp w d v)
  else if within off 0x0204 0x0220 then RegRes.now (s.tileMaskOp w d ((off - 0x0204) / 4) v)
  else if within off 0x0300 0x037C then RegRes.now (s.bookRegOp w d off v)
  else if off = 0x0414 then RegRes.now (s.roSlice w off)
  else if within off 0x0400 0x0418 then RegRes.now (s.captureOp w d (off - 0x0400) v)
  else if within off 0x0500 0x05FC then RegRes.now (s.cringOp w d ((off - 0x0500) / 16) (off % 16 / 4) v)
  else if within off 0x0600 0x06FC then RegRes.now (s.irqOp w d ((off - 0x0600) / 16) (off % 16 / 4) v)
  else if within off 0x0700 0x071C then
    let p := (off - 0x0700) / 4
    RegRes.now (s.sliceM w d (fun S => { S with linkRetx := S.linkRetx.set p (BitVec.ofNat 16 (bits v 0 16)), linkFail := S.linkFail.set p (BitVec.ofNat 12 (bits v 16 12)) }))
  else if within off 0x0720 0x0728 then
    let p := (off - 0x0720) / 4
    RegRes.now (s.sliceM w d (fun S => { S with ext := S.ext.set p { S.extPort p with
      refetch := BitVec.ofNat 12 (bits v 0 12), crc := BitVec.ofNat 12 (bits v 12 12), uncorr := BitVec.ofNat 8 (bits v 24 8) } }))
  else if within off 0x1000 0x107C then s.tileHhOp w d ((off - 0x1000) / 4) v
  else if within off 0x2000 0x2FFC then
    RegRes.now (s.sliceM w d (fun S => { S with doorsteps := S.doorsteps.set ((off - 0x2000) / 4) (v &&& 0x8000FFFF) }))
  else RegRes.now (s.roSlice w off)

/-- SLC_STATUS.ALLQUIET bit `h` (spec/08_tallies_bells_channels.md R286). -/
def Slice.allQuiet (S : Slice) (h : Nat) : Bool :=
  let l := ((List.range 256).map S.tile).filter (fun T => T.hh == h && T.wmEn)
  !l.isEmpty && l.all (fun T => T.wmNow)

/-- SLC_STATUS. -/
def Slice.statusWord (S : Slice) : Word :=
  flag 0 (S.step == 9) ||| flag 1 S.bookErr ||| flag 2 S.mapErr ||| flag 3 S.marchFail ||| put 4 S.stepShown ||| put 8 S.linkUp.toNat |||
    (List.range 16).foldl (fun x h => x ||| flag (16 + h) (S.allQuiet h)) 0

/-- SLC_CFG. -/
def State.cfgWord (s : State) (d : Nat) : Word :=
  (List.range 3).foldl (fun x p => x ||| flag p ((s.slice d).extPort p).ready) 0 |||
    (List.range s.dies).foldl (fun x e => x ||| flag (8 + e) (s.slice e).power) 0 ||| put 16 stackFrames

/-- SLC_ID. -/
def State.idWord (s : State) (d : Nat) : Word :=
  put 0 0x6A3 ||| put 12 1 ||| put 16 d ||| put 19 (match s.pkg with | .yx2 => 0 | .yx4 => 1 | .yx8 => 2)

/-- SLC_HH_BIND. -/
def HhBind.word (b : HhBind) : Word := put 0 b.fn.toNat ||| flag 8 b.bound ||| put 9 b.home.toNat ||| flag 12 b.dbg

/-- What a mapped offset of a slice block reads as. -/
def State.sliceRead (s : State) (d off : Nat) : Word :=
  let S := s.slice d
  if off = 0x0000 then s.idWord d
  else if off = 0x0004 then s.cfgWord d
  else if off = 0x0014 then S.statusWord
  else if off = 0x0018 then (s.book.cur.startOf d).zeroExtend 32
  else if off = 0x0020 then S.lapseWord
  else if off = 0x0024 then S.lpLongest
  else if off = 0x0028 then flag 0 S.lpForce
  else if within off 0x0040 0x007C then (S.bind ((off - 0x0040) / 4)).word
  else if within off 0x0080 0x00BC then
    put 0 (S.titheOf ((off - 0x0080) / 4)).rate.toNat ||| put 8 (S.titheOf ((off - 0x0080) / 4)).burst.toNat
  else if within off 0x00C0 0x013C then
    (if off % 8 = 0 then Tbl.get 0 S.winLo ((off - 0x00C0) / 8) else (Tbl.get 0 S.winHi ((off - 0x00C0) / 8)).zeroExtend 32)
  else if off = 0x0140 then put 0 S.unbCount.toNat ||| put 16 S.unbFn.toNat
  else if off = 0x014C then
    put 0 S.bindStat.hh.toNat ||| put 4 S.bindStat.cause.toNat ||| flag 8 S.bindStat.busy ||| flag 9 S.bindStat.err
  else if within off 0x0180 0x019C then Tbl.get 0 S.park ((off - 0x0180) / 4)
  else if within off 0x01A0 0x01BC then s.routeWord d ((off - 0x01A0) / 4)
  else if off = 0x01C0 then put 0 (S.decAddr.toNat % 2 ^ 32)
  else if off = 0x01C4 then put 0 (S.decAddr.toNat / 2 ^ 32)
  else if off = 0x01C8 then S.decSrc
  else if off = 0x0200 then flag 8 S.rotBusy ||| flag 9 S.rotDone ||| flag 10 S.rotErr
  else if within off 0x0204 0x0220 then BitVec.ofNat 32 (bits S.rotMask (8 * (off - 0x0204)) 32)
  else if within off 0x0300 0x037C then s.bookWord d off
  else if within off 0x0400 0x0418 then S.cap.word (off - 0x0400)
  else if within off 0x0500 0x05FC then (S.cring ((off - 0x0500) / 16)).word (off % 16 / 4)
  else if within off 0x0600 0x06FC then (S.irq ((off - 0x0600) / 16)).word (off % 16 / 4)
  else if within off 0x0700 0x071C then
    put 0 (Tbl.get 0 S.linkRetx ((off - 0x0700) / 4)).toNat ||| put 16 (Tbl.get 0 S.linkFail ((off - 0x0700) / 4)).toNat
  else if within off 0x0720 0x0728 then
    let E := S.extPort ((off - 0x0720) / 4)
    put 0 E.refetch.toNat ||| put 12 E.crc.toNat ||| put 24 E.uncorr.toNat
  else if within off 0x1000 0x107C then S.tileHhWord ((off - 0x1000) / 4)
  else if within off 0x2000 0x2FFC then Tbl.get 0 S.doorsteps ((off - 0x2000) / 4)
  else 0

/-- What performing an access at a slice block gives, and the value of a read. -/
def State.sliceAcc (s : State) (d : Nat) (a : RegAcc) : RegRes × Word :=
  if a.write then (s.sliceWrite a.src d a.off a.value, 0)
  else if s.sliceMayRead a.src a.off then (RegRes.now (s, .ok), s.sliceRead d a.off)
  else (RegRes.now (s, .deed), 0)

/-! ## Accesses (R387, R388, R393; spec/04_fabric_arbitration.md R111) -/

/-- An access decodes to the default target: DECERR, latched in the slice of die `d` (R393; spec/04_fabric_arbitration.md R123, R124). -/
def State.holeAcc (s : State) (d base : Nat) (a : RegAcc) : State :=
  (s.latchDecerr d (BitVec.ofNat 48 (base + a.off)) (s.issuer a.src)).answerAcc d base a .decerr 0

/-- An access reaches the block of a tile. -/
def State.atTileBlock (s : State) (tile : Nat) (a : RegAcc) : State :=
  if !s.ready (tileDie tile) then s.answerAcc (tileDie tile) (tileRegAddr tile 0) a .decerr 0
  else if !tileMapped a.off then s.holeAcc (tileDie tile) (tileRegAddr tile 0) a
  else s.acceptAcc tile a (s.tileAcc tile a).1 (s.tileAcc tile a).2

/-- The block of a slice performs an access; before READY it performs register reads of H0 that came through a host port alone
(spec/11_startup_power_book.md R372). -/
def State.atSliceBlock (s : State) (d : Nat) (a : RegAcc) : State :=
  let early := !a.write && s.isManager a.src && (srcTile a.src).isNone
  if !s.ready d && !early then s.answerAcc d (sliceRegAddr d 0) a .decerr 0
  else if !sliceMapped d a.off then s.holeAcc d (sliceRegAddr d 0) a
  else if !s.ready d then
    s.answerAcc d (sliceRegAddr d 0) a (if s.sliceMayRead a.src a.off then .ok else .deed) (s.sliceRead d a.off)
  else s.acceptSliceAcc d a (s.sliceAcc d a).1 (s.sliceAcc d a).2

/-- One 4-byte access by its fabric address, at a place that the package holds. -/
def State.regOne (s : State) (w : Src) (addr : Addr) (write : Bool) (v : Word) (half : Nat) (pkt : Option Nat) : State :=
  if space addr = 2 then s.atTileBlock (addrTile addr) { src := w, off := tileRegOff addr, value := v, write := write, half := half, pkt := pkt }
  else s.atSliceBlock (addrDie addr) { src := w, off := sliceRegOff addr, value := v, write := write, half := half, pkt := pkt }

/-- The slice whose block a register address names, if the address decodes and the package holds it (spec/04_fabric_arbitration.md R122). -/
def State.regPlace (s : State) (addr : Addr) : Option Nat :=
  if !addrBitsZero addr then none
  else if space addr = 2 then (if s.hasTile (addrTile addr) then some (tileDie (addrTile addr)) else none)
  else if space addr = 3 then (if s.hasDie (addrDie addr) then some (addrDie addr) else none)
  else none

/-- The size and alignment of a register access from a source (R387; spec/04_fabric_arbitration.md R111). -/
def regSize (w : Src) (addr : Addr) (size : Nat) (write : Bool) : Bool :=
  (size == 4 && addr.toNat % 4 == 0 && (match w with | .st _ _ => write | _ => true)) ||
  (size == 8 && addr.toNat % 8 == 0 && (srcTile w).isNone)

/-- The packet carries the source's access to an address. -/
def State.carries (s : State) (p : Packet) (w : Src) (addr : Addr) (write : Bool) : Bool :=
  p.kind.access == some write && p.addr == addr &&
  (match w with
    | .st t n => p.iss.port == 127 && p.iss.tile == t && p.iss.master == 4 && p.iss.chan == n
    | .host d _ => p.iss.port == 64 && p.iss.die == d && some p.iss.hh == s.hhOf w
    | .sc t => p.iss.port == 127 && p.iss.tile == t && p.iss.master == 3)

/-- The first access that has come to the register bus of a die: its converter keeps their order (spec/04_fabric_arbitration.md R109). -/
def State.busHead (s : State) (d : Nat) : Option Packet :=
  argMin (·.came) (s.net.filter (fun p => p.target == .regs d && p.loc == Loc.arrived && p.resp.isNone))

/-- The access whose turn it is at the register bus, if it is the source's to an address. -/
def State.busPkt (s : State) (w : Src) (d : Nat) (addr : Addr) (write : Bool) : Option Packet :=
  (s.busHead d).filter (fun p => s.carries p w addr write)

/-- An access that does not come by a local path sets out to the slice matrix, with QoS 6, or decodes to the default target of its issuer's
slice (spec/04_fabric_arbitration.md R111, R112, R122 to R124). A host function's enters at its host port; a stream engine's is issued by its
REGWRITE. -/
def State.issueReg (s : State) (w : Src) (addr : Addr) (size : Nat) (write : Bool) (data : BitVec 64) : State :=
  let rows : List RowData := if write then [data.zeroExtend 512] else []
  let sent (l : List Addr) : List Addr := if write then l ++ [addr] else l.filter (fun a => a != addr)
  match w with
  | .host d fn => s.hostRequestOp d fn addr size write rows
  | .st _ _ => s
  | .sc t =>
    match s.regPlace addr, regSize w addr size write with
    | some d, true =>
      let s := s.modTile t (fun T => { T with regSent := sent T.regSent })
      s.launch (s.newPacket (s.issuer w) (.reg write) 6 (.regs d) addr 0 size write rows)
    | _, _ => (s.latchDecerr (tileDie t) addr (s.issuer w)).answerReg w addr.toNat .decerr 0

/-- An access over the register bus has been handed to its block; it is answered there and then, or waits. -/
def State.handed (s : State) (id : Nat) : State := s.modPkt id (fun p => if p.resp.isNone then { p with loc := .served } else p)

/-- The register bus performs an access: one, or two halves, lower address first (spec/04_fabric_arbitration.md R110, R111). -/
def State.busPerform (s : State) (w : Src) (p : Packet) : State :=
  let v : BitVec 64 := (p.data.headD 0).truncate 64
  (if p.size = 8 then (s.regOne w p.addr p.write (v.truncate 32) 1 (some p.id)).regOne w (p.addr + 4) p.write (v.extractLsb' 32 32) 2 (some p.id)
   else s.regOne w p.addr p.write (v.truncate 32) 0 (some p.id)).handed p.id

/-- A register access: the scalar core's own tile block is reached by the local path; any other access is performed at the register bus of its
slice when its turn has come there, and otherwise sets out (spec/04_fabric_arbitration.md R109 to R111; R387). -/
def State.busAccess (s : State) (w : Src) (addr : Addr) (size : Nat) (write : Bool) (data : BitVec 64) : State :=
  if space addr = 2 && isLocal w (addrTile addr) && addrBitsZero addr && regSize w addr size write then
    (match w with
      | .sc _ => s.regOne w addr write (data.truncate 32) 0 none
      | _ => s)
  else match s.regPlace addr with
    | none => s.issueReg w addr size write data
    | some d =>
      match s.busPkt w d addr write with
      | some p => if s.live d then s.busPerform w p else s
      | none => s.issueReg w addr size write data

/-! ## Accesses that waited (R388, R390, R395) -/

/-- The block of a tile performs the accesses that wait, oldest first, until one must wait still. -/
def State.drainTile (s : State) (tile : Nat) : Nat → State
  | 0 => s
  | n + 1 =>
    let T := s.tile tile
    match T.regWait with
    | [] => s
    | a :: rest =>
      if T.reassign.isSome || T.regBusy.isSome then s
      else match (s.tileAcc tile a).1 with
        | none => s
        | some _ => ((s.modTile tile (fun T => { T with regWait := [] })).atTileBlock tile a).modTile tile (fun T => { T with regWait := rest ++ T.regWait }) |>.drainTile tile n

/-- The block of a slice performs the accesses that wait. -/
def State.drainSlice (s : State) (d : Nat) : Nat → State
  | 0 => s
  | n + 1 =>
    let S := s.slice d
    match S.regWait with
    | [] => s
    | a :: rest =>
      if S.hhBusy.isSome then s
      else ((s.modSlice d (fun S => { S with regWait := [] })).atSliceBlock d a).modSlice d (fun S => { S with regWait := rest ++ S.regWait }) |>.drainSlice d n

/-- The accesses that wait at a tile's block are taken up. -/
def State.freed (s : State) (tile : Nat) : State := s.drainTile tile (s.tile tile).regWait.length

/-- What follows once the operations of a boundary have taken effect: POPs and SENDs, the spread of a local ring, the answers to the read-backs whose
adds were made, the completions that waited for DONE_TALLY; and RECVs whose endpoint holds a message are met (R263, R297, R298;
spec/05_stream_engine.md R178, R185, R187). -/
def State.channelOps (s : State) (tile : Nat) (ops : List TOp) : State :=
  let s := ops.foldl (fun s o => match o with
    | .pop _ e => s.modTile tile (fun T => T.setEp e (T.ep e).pop)
    | .send g src u target e qos => s.sendOp tile g src u target e qos
    | .fill n _ _ => s.fillTaken tile n
    | .homeAdd pkt _ _ => s.homeAdded tile pkt
    | .done n _ _ => s.doneTaken tile n
    | _ => s) s
  allEngines.foldl (fun s g => match (s.tile tile).engine g with | .recv e => s.recvMeets tile e g | _ => s) s

/-- A tally boundary: operations take effect, and the register write that waited for it completes (R263, R270, R269, R280, R281, R395). -/
def State.boundaryOp (s : State) (tile : Nat) : State :=
  let b := s.boundary tile
  let r := (b.1.channelOps tile (s.tile tile).tops, b.2)
  match (s.tile tile).regBusy with
  | none => r.1.freed tile
  | some a =>
    (((r.1.modTile tile (fun T => { T with regBusy := none })).answerAcc (tileDie tile) (tileRegAddr tile 0) a r.2 0)).freed tile

/-- Step 5 of a reassignment, and the completion of the SLC_TILE_HH write once every tile has reached it (R390, R395). -/
def State.reassignDoneOp (s : State) (tile : Nat) : State :=
  match (s.tile tile).reassign with
  | none => s
  | some r =>
    if !(s.tile tile).reassignReady then s
    else
      let d := tileDie tile
      let s := (s.reassignEndOp tile r.hh).freed tile
      match (s.slice d).hhBusy with
      | none => s
      | some a =>
        if (s.slice d).hhTiles.isEmpty then
          let s := (s.modSlice d (fun S => { S with hhBusy := none })).answerAcc d (sliceRegAddr d 0) a .ok 0
          s.drainSlice d (s.slice d).regWait.length
        else s

/-! ## REGWRITE (spec/05_stream_engine.md R169, R170) -/

/-- A REGWRITE writes VALUE: on the local path to its own tile's block, otherwise through the slice matrix with its descriptor's QOS (DEDUCED,
notes/assumptions/91.md); space 3 is the manager's. -/
def State.regwriteOp (s : State) (tile n : Nat) : State :=
  match (s.chan tile n).acting 7 with
  | none => s
  | some d =>
    let a : Addr := BitVec.ofNat 48 (Desc.dst d)
    let w : Src := .st tile n
    if space a = 3 ∧ !s.isManager w then s.failNow tile n a 1 .deed 0
    else match s.regPlace a with
      | none => s.failDefault tile n a 1 0
      | some e =>
        let mark (s : State) : State := s.modChan tile n (fun c => { c with outst := 1 })
        if space a = 2 ∧ addrTile a = tile then
          (mark s).atTileBlock tile { src := w, off := tileRegOff a, value := Desc.regValue d }
        else if 16 < s.remoteBusy tile + 1 then s
        else (mark s).launch ((mark s).newPacket (s.issuer w) (.reg true) (Desc.qos d) (.regs e) a 0 4 true [(Desc.regValue d).zeroExtend 512])

/-! ## Commands that name a source -/

/-- A command from a source that the package does not hold, or whose die is not live, does not happen; one from a function bound to no household
is refused at the host port (spec/09_households.md R310). -/
def State.fromSrc (s : State) (w : Src) (r : Result) : Result :=
  match w with
  | .host d fn =>
    if !(s.hasDie d && s.live d) then .next s
    else if (s.hhOf w).isNone then .next (s.fromHost d fn true (fun _ => s))
    else r
  | .sc t => if s.hasTile t && s.live (tileDie t) then r else .next s
  | .st t n => if s.hasTile t && s.live (tileDie t) && n < 8 then r else .next s

/-- A command whose operands name nothing that the hardware has does not happen. -/
def State.named (s : State) (b : Bool) (r : Result) : Result := if b then r else .next s

/-- A write over the register bus: performed, `f` with its packet, when its turn has come at the bus; otherwise the source issues it. A write of
another value to the register, whose turn it is, keeps it from the bus. -/
def State.byBus (s : State) (w : Src) (d : Nat) (addr : Addr) (v : Word) (f : Nat → State) : State :=
  match s.busPkt w d addr true with
  | some p => if s.live d && p.size == 4 && (p.data.headD 0).truncate 32 == v then (f p.id).handed p.id else s
  | none => s.issueReg w addr 4 true (v.zeroExtend 64)

/-- A command that is a write of a register of a tile block: `r` is what performing it now gives. -/
def State.tileReg (s : State) (w : Src) (tile off : Nat) (v : Word) (r : RegRes) : Result :=
  s.fromSrc w (.next (
    if isLocal w tile then s.acceptTile w tile off v r none
    else s.byBus w (tileDie tile) (BitVec.ofNat 48 (tileRegAddr tile off)) v (fun id => s.acceptTile w tile off v r (some id))))

/-- A command that is a write of a register of a slice block. -/
def State.sliceReg (s : State) (w : Src) (d off : Nat) (v : Word) (r : RegRes) : Result :=
  s.fromSrc w (.next (s.byBus w d (BitVec.ofNat 48 (sliceRegAddr d off)) v (fun id => s.acceptSlice w d off v r (some id))))

/-- A field of a register word that the command itself sets. -/
def withField (v : Word) (lo len x : Nat) : Word := (v &&& ~~~ (put lo (2 ^ len - 1))) ||| put lo x

end Sys2Proof.Machine
end

