-- ==== Sys2Proof/Machine/Banks.lean ====
section
/-!
DEFINITION. The commands of banks, deeds and the merge buffer (spec/02_banks_deeds.md R38 to R82, R404; spec/03_timing_promise.md R87 to R92;
spec/04_fabric_arbitration.md R125 to R127).
-/

namespace Sys2Proof.Machine

/-! ## Requests -/

/-- A request that its master can make: MX, VX, the march engine, and reads of SC; up to 16 beats, an aligned one inside the tile's 1 MiB,
with the data of a write (spec/02_banks_deeds.md R42, R44; spec/05_stream_engine.md R155). -/
def coreShape (m : Master) (off size : Nat) (write : Bool) (beats : Nat) (data : List RowData) : Bool :=
  (match m with | .mx | .vx | .test => true | .sc => !write && beats == 1 | .st | .nw => false) &&
  1 ≤ beats && beats ≤ 16 && off < 2 ^ 20 && (!alignOk m .bank off size write && !alignOk m .quad off size write || off + beats * size ≤ 2 ^ 20) && data.length == (if write then beats * size / 64 else 0)

/-- A scalar-core read that the merge buffer answers (R73): its row and bytes, all valid in one entry. -/
def Tile.bufferHit (T : Tile) (a : Access) : Bool :=
  a.master == .sc && T.mergeHit (viewBank .bank a.off) (viewRow .bank a.off) (bytesMask (a.off % 64) a.size)

/-- The data that the merge buffer holds for a scalar-core read. -/
def Tile.bufferData (T : Tile) (a : Access) : RowData := T.overlay (viewBank .bank a.off) (viewRow .bank a.off) 0

/-- A request of an engine or of the march engine at the tile matrix: READY, reassignment, quarantine, alignment, boot ROM, deed, merge
buffer (R45, R46, R73; spec/04_fabric_arbitration.md R125, R152; spec/08_tallies_bells_channels.md R301; spec/11_startup_power_book.md R372). -/
def State.coreRequest (s : State) (tile : Nat) (a : Access) : State :=
  let T := s.tile tile
  let s := s.takeId
  if !s.ready (tileDie tile) then s.deliver tile a .decerr
  else if T.reassign.isSome then s.deliver tile a .aborted
  else if T.quarantined a.master then s.deliver tile a .wdog
  else if !alignOk a.master a.view a.off a.size a.write then s.deliver tile a .align
  else if a.master == .sc && !T.remap && a.off < 0x4000 then
    s.modTile tile (fun T => { T with accs := T.accs ++ [{ a with rom := true, stage := .beat }] })
  else if T.bufferHit a && T.deedCheck a.master a.banks == .allow then s.deliver tile { a with data := [T.bufferData a] } .ok
  else s.offer tile a

/-- An access that the NW port has been granted goes to its bank, beat by beat (R43; spec/04_fabric_arbitration.md R130). -/
def State.portRequest (s : State) (tile id : Nat) : State :=
  match (s.tile tile).acc id with
  | none => s
  | some a => if a.stage == .portGranted then s.reach tile a else s

/-- BANK_REQUEST (R44 to R49, R57). On a slice in reset a request is not acknowledged (spec/11_startup_power_book.md R368). -/
def execBankRequest (tile : Nat) (rq : BankReq) (s : State) : Result :=
  match rq with
  | .nw id => s.atTile tile (s.portRequest tile id)
  | .core m view off size write beats qos data =>
    if !s.hasTile tile then .next s
    else if !coreShape m off size write beats data || 8 ≤ qos then .next s
    else if !s.live (tileDie tile) then .next (s.emit (.notAcknowledged tile m))
    else .next (s.coreRequest tile
      (s.newAccess m view write off size beats qos data (s.issuer (.sc tile)) .port .waiting))

/-! ## Beats (R21, R41, R43; spec/01_architecture.md R22) -/

/-- The access whose beat a bank starts next: admitted by its owner's request register, or granted by the bank's arbiter. -/
def Tile.nextBeat (T : Tile) (bank : Nat) : Option Access :=
  T.accs.find? (fun a => a.cells.any (fun c => c.1 == bank) && (a.stage == .granted || (a.stage == .waiting && (T.arbOf a).isNone && !T.afterFlush a)))

/-- A beat is in progress on a bank of the access. -/
def Tile.beatBusy (T : Tile) (a : Access) : Bool :=
  T.accs.any (fun b => b.stage == .beat && b.cells.any (fun c => a.cells.any (fun e => e.1 == c.1)))

/-- A bank starts its next beat; its request register takes the owner's next request (spec/03_timing_promise.md R87). The wait of the
watchdog counts from the grant (spec/04_fabric_arbitration.md R150). -/
def State.startBeat (s : State) (tile bank : Nat) : State :=
  match (s.tile tile).nextBeat bank with
  | none => s
  | some a =>
    if (s.tile tile).beatBusy a then s
    else (s.modTile tile (fun T => T.modAcc a.id (fun a =>
      { a with stage := .beat, since := if a.stage == .granted then a.since else s.paceNat tile }))).promote tile

/-- BANK_BEAT (R41, R43; spec/01_architecture.md R21, R22). -/
def execBankBeat (tile bank : Nat) (s : State) : Result := s.atTile tile (s.startBeat tile bank)

/-- The access in its beat. -/
def Tile.inBeat (T : Tile) (id : Nat) : Option Access := (T.acc id).filter (fun a => a.stage == .beat)

/-- The rows of a read beat as the master sees them: a scalar-core read takes the valid bytes of its own entries (R72, R73). -/
def Tile.seen (T : Tile) (a : Access) (rows : List RowData) : List RowData :=
  if a.master = .sc then (a.cells.zip rows).map (fun p => T.overlay p.1.1 p.1.2 p.2) else rows

/-- A read beat ends: its rows are read and checked, and join the access's data (R76, R81; spec/10_integrity.md R340 to R345). -/
def State.readBeat (s : State) (tile : Nat) (a : Access) (u1 u2 : List ByteMask) : State :=
  let x := readCells tile a a.cells u1 u2 s
  let a := { a with done := a.done + 1, data := a.data ++ (s.tile tile).seen a x.2.1,
                    badAt := if x.2.2 && a.badAt.isNone then some a.done else a.badAt }
  (x.1.beatDone tile a).issueSends tile

/-- A read of the boot ROM ends: its parity is checked as a bank read's is, with a replay (spec/04_fabric_arbitration.md R126). -/
def State.romRead (s : State) (tile : Nat) (a : Access) (u1 u2 : ByteMask) : State :=
  s.beatDone tile { a with done := 1, data := [Config.bootRom tile (a.off / 64)], badAt := if u1 = 0 ∨ u2 = 0 then none else some 0 }

/-- The first beat of a two-beat flush of a commons bank reads the row that its second beat merges into and writes back; where the read
fails the flush ends (R70, R75, R404). -/
def State.flushRead (s : State) (tile : Nat) (a : Access) (u1 u2 : ByteMask) : State :=
  match a.dest with
  | .flush b r =>
    let x := s.readRow tile b r 3 none u1 u2
    if x.2.1 = .ok then
      x.1.modTile tile (fun T => T.modAcc a.id (fun a => { a with done := a.done + 1, stage := .waiting, since := s.paceNat tile, data := [x.2.2] }))
    else (x.1.flushFails tile b r).drainNarrow tile
  | _ => s

/-- What a read beat gives: of a flush, of the boot ROM, or of an access. -/
def State.readComplete (s : State) (tile acc : Nat) (u1 u2 : List ByteMask) : State :=
  match (s.tile tile).inBeat acc with
  | none => s
  | some a =>
    if a.isFlush then (if a.done + 1 < a.beats then s.flushRead tile a (u1.headD 0) (u2.headD 0) else s)
    else if a.rom then s.romRead tile a (u1.headD 0) (u2.headD 0)
    else if a.write then s
    else s.readBeat tile a u1 u2

/-- BANK_READ_COMPLETE (spec/02_banks_deeds.md R72, R76, R81; spec/03_timing_promise.md R89 to R91; spec/10_integrity.md R340, R341). -/
def execBankReadComplete (tile acc : Nat) (upset replayUpset : List ByteMask) (s : State) : Result :=
  s.atTile tile (s.readComplete tile acc upset replayUpset)

/-- A write beat commits: whole rows with computed parity (R38, R77). -/
def State.writeCommit (s : State) (tile acc : Nat) : State :=
  match (s.tile tile).inBeat acc with
  | none => s
  | some a =>
    if a.isFlush || a.rom || !a.write then s
    else
      let per := a.size / 64
      let s := writeCells tile a.cells ((a.data.drop (a.done * per)).take per) s
      s.beatDone tile { a with done := a.done + 1 }

/-- BANK_WRITE_COMMIT (R38, R77). Of two writes to a row the later commit stands, also around a revocation (DESIGN CHOICE,
notes/assumptions/92.md). -/
def execBankWriteCommit (tile acc : Nat) (s : State) : Result := s.atTile tile (s.writeCommit tile acc)

/-! ## The merge buffer -/

/-- NARROW_WRITE (R67, R68, R74). -/
def execNarrowWrite (tile off size : Nat) (data : BitVec 64) (qos : Nat) (s : State) : Result :=
  if !s.hasTile tile then .next s
  else if 8 ≤ qos then .next s
  else if !s.live (tileDie tile) then .next (s.emit (.notAcknowledged tile .sc))
  else .next (s.narrowWrite tile { off := off, size := size, data := data, qos := qos }).takeId

/-- An entry in state Filling flushes when 64 paces have passed with no write into it (R69). -/
def State.idleFlush (s : State) (tile bank row : Nat) : State :=
  match (s.tile tile).merge.find? (fun e => e.bank == bank && e.row == row && !e.flushing) with
  | none => s
  | some e => if s.paceOver tile e.since 64 then s.startFlush tile bank row false else s

/-- MERGE_IDLE_FLUSH (R69). -/
def execMergeIdleFlush (tile bank row : Nat) (s : State) : Result := s.atTile tile (s.idleFlush tile bank row)

/-- A flush may commit: its last beat is in progress at the commons bank; or it takes its beats directly: in step 4 of a deed operation
once every access admitted before has completed (R55), in step 2 of a reassignment (spec/08_tallies_bells_channels.md R301), otherwise
unless SC is quarantined (R70, R404; spec/04_fabric_arbitration.md R152). -/
def Tile.flushReady (T : Tile) (bank row : Nat) : Bool :=
  T.merge.any (fun e => e.bank == bank && e.row == row && e.flushing) &&
  (match T.accs.find? (fun a => a.dest == .flush bank row) with
    | none =>
      if T.stopped bank then T.quietBank bank
      else T.reassign.isSome || (T.ownerOf bank != 6 && !T.quarantined .sc)
    | some a => a.stage == .beat && a.done + 1 == a.beats)

/-- The oldest flush of a row commits, and narrow writes that waited are taken again (R70, R74, R75). -/
def State.flushCommit (s : State) (tile bank row : Nat) (u1 u2 : ByteMask) : State :=
  if (s.tile tile).flushReady bank row then ((s.flushEnd tile bank row u1 u2).drainNarrow tile).reassignStep3 tile else s

/-- MERGE_FLUSH_COMMIT (R70, R71, R74, R75, R77). -/
def execMergeFlushCommit (tile bank row : Nat) (upset replayUpset : ByteMask) (s : State) : Result :=
  s.atTile tile (s.flushCommit tile bank row upset replayUpset)

/-! ## Deeds -/

/-- DEED_WRITE (R50, R51, R53 to R55, R79, R82). -/
def execDeedWrite (w : Src) (tile bank : Nat) (value : Word) (s : State) : Result :=
  s.named (bank < 16) (s.tileReg w tile (0x040 + 4 * bank) value (RegRes.orWait (s.deedWriteOp w tile bank value)))

/-- COMMONS_WRITE (R50 to R54). -/
def execCommonsWrite (w : Src) (tile : Nat) (value : Word) (s : State) : Result :=
  s.tileReg w tile 0x080 value (RegRes.orWait (s.commonsWriteOp w tile value))

/-- DEED_ADMISSION_STOP (R55, step 2; R56, R59). -/
def execDeedAdmissionStop (tile : Nat) (s : State) : Result := s.atTile tile (s.deedStopOp tile)

/-- The pending operation has reached its effect point. -/
def Tile.effective (T : Tile) : Option DeedOp := T.deedOp.filter (fun op => T.deedReady op)

def DeedOp.isRotate : DeedOp → Bool
  | .rotate _ _ _ => true
  | _ => false

/-- The effect point of a deed write, a write of TL_COMMONS or a retirement; accesses that waited are taken up (R55, R57, R58, R82). -/
def State.effectPoint (s : State) (tile : Nat) (rotate : Bool) : State :=
  match (s.tile tile).effective with
  | none => s
  | some op => if op.isRotate = rotate then (s.deedEffectOp tile op).freed tile else s

/-- DEED_EFFECT_POINT (R53, R55, R57, R58, R82). -/
def execDeedEffectPoint (tile : Nat) (s : State) : Result := s.atTile tile (s.effectPoint tile false)

/-- ROTATE_GO (R50, R53, R60, R79). -/
def execRotateGo (w : Src) (tile : Nat) (value : Word) (s : State) : Result :=
  s.tileReg w tile 0x090 value (RegRes.orWait (s.rotateGoOp w tile value))

/-- ROTATION_EFFECT_POINT (R53, R61, R62). -/
def execRotationEffectPoint (tile : Nat) (s : State) : Result := s.atTile tile (s.effectPoint tile true)

/-- SLICE_ROTATE_GO (R63 to R66). -/
def execSliceRotateGo (w : Src) (die : Nat) (value : Word) (s : State) : Result :=
  s.sliceReg w die 0x0200 value (RegRes.now (s.sliceRotateOp w die value))

/-- TILE_ROTATE_REQUEST (R53, R60, R64, R65). -/
def execTileRotateRequest (tile : Nat) (s : State) : Result := s.atTile tile (s.tileRotateOp tile)

/-- SLICE_ROTATE_DONE (R64, R65). -/
def execSliceRotateDone (die : Nat) (s : State) : Result := s.atDie die (s.sliceRotateDoneOp die)

/-- RETIRE_BANK (R82). -/
def execRetireBank (w : Src) (tile : Nat) (value : Word) (s : State) : Result :=
  s.tileReg w tile 0x0A8 value (RegRes.orWait (s.retireOp w tile value))

/-- SWEEP (R78). -/
def execSweep (w : Src) (tile : Nat) (value : Word) (s : State) : Result :=
  s.tileReg w tile 0x00C value (RegRes.orWait (s.sweepOp w tile value))

/-- A sweep ends: every valid bit of the bank is 0 (R78); until then they stand as they were (DESIGN CHOICE, notes/assumptions/88.md). -/
def State.sweepEnd (s : State) (tile bank : Nat) : State :=
  let T := s.tile tile
  if (bank = 14 && T.sweep14) || (bank = 15 && T.sweep15) then
    ({ s with valid := s.valid.cut (validKey tile bank 0) (validKey tile bank 0 + 1024) }.modTile tile (fun T =>
      if bank = 14 then { T with sweep14 := false } else { T with sweep15 := false })).freed tile
  else s

/-- SWEEP_END (R78, R79). -/
def execSweepEnd (tile bank : Nat) (s : State) : Result := s.atTile tile (s.sweepEnd tile bank)

/-- REMAP_WRITE: a write to TL_CTRL (spec/04_fabric_arbitration.md R127). -/
def execRemapWrite (w : Src) (tile : Nat) (value : Word) (s : State) : Result :=
  s.tileReg w tile 0x004 value (RegRes.now (s.ctrlOp w tile value))

end Sys2Proof.Machine
end

