-- ==== Sys2Proof/Machine/Book.lean ====
section
/-!
DEFINITION. The commands of the book, and the writes of registers that have no command of their own
(spec/11_startup_power_book.md R376 to R385; spec/13_registers.md R387 to R395).
-/

namespace Sys2Proof.Machine

/-- BOOK_APPEND: the oldest record of a slice's hold reaches the book path; ring 0 severe, 1 routine (R378 to R382). -/
def execBookAppend (die ring : Nat) (s : State) : Result := s.named (ring < 2) (s.atDie die (s.appendOp die ring))

/-- BOOK_RECORD_DROP: a record that has found its slice's hold full is dropped and counted (R380). -/
def execBookRecordDrop (die ring : Nat) (s : State) : Result := s.named (ring < 2) (s.atDie die (s.recordDropOp die ring))

/-- A command written to SLC_BOOK_CTRL. -/
def State.bookCmd (s : State) (w : Src) (die cmd : Nat) (value : Word) : Result :=
  s.sliceReg w die 0x0300 (withField value 0 3 cmd) (RegRes.now (s.bookCtrlOp w die cmd (withField value 0 3 cmd)))

/-- READ: a write to SLC_BOOK_CTRL with CMD 1 (R384). -/
def execRead (w : Src) (die : Nat) (value : Word) (s : State) : Result := s.bookCmd w die 1 value

/-- MAPADD: a write to SLC_BOOK_CTRL with CMD 2 (R378, R384). -/
def execMapadd (w : Src) (die : Nat) (value : Word) (s : State) : Result := s.bookCmd w die 2 value

/-- MAPCLEAR: a write to SLC_BOOK_CTRL with CMD 3 (R378, R384). -/
def execMapclear (w : Src) (die : Nat) (value : Word) (s : State) : Result := s.bookCmd w die 3 value

/-- INIT: a write to SLC_BOOK_CTRL with CMD 4 (R384). -/
def execInit (w : Src) (die : Nat) (value : Word) (s : State) : Result := s.bookCmd w die 4 value

/-- BOOK_COMMAND_END (R384). -/
def execBookCommandEnd (die : Nat) (s : State) : Result := s.atDie die (s.bookEndOp die)

/-- BOOK_ACK: a write to SLC_BOOK_ACK (R379, R385). -/
def execBookAck (w : Src) (die : Nat) (value : Word) (s : State) : Result :=
  s.sliceReg w die 0x030C value (RegRes.now (s.bookAckOp w die value))

/-- BOOK_SPACE4_READ (R383). -/
def execBookSpace4Read (w : Src) (die : Nat) (addr : Addr) (size : Nat) (write : Bool) (s : State) : Result :=
  s.fromSrc w (s.named (space addr == 4) (s.atDie die (s.bookSpaceOp w die addr size write)))

/-- START_WORD_WRITE: a write to SLC_START (R378; SLC_START). -/
def execStartWordWrite (w : Src) (die : Nat) (value : Word) (s : State) : Result :=
  s.sliceReg w die 0x0018 value (RegRes.now (s.startWordOp w die value))

/-- REGISTER_WRITE (spec/13_registers.md R387 to R395, R397, R400; spec/00_scope.md R10 to R12). -/
def execRegisterWrite (w : Src) (addr : Addr) (value : Word) (s : State) : Result :=
  s.fromSrc w (.next (s.busAccess w addr 4 true (value.zeroExtend 64)))

end Sys2Proof.Machine
end

