-- ==== Sys2Proof/Machine/External.lean ====
section
/-!
DEFINITION. The commands of the external memory ports, the tithes, the bridges, the ring, the NW port and the gates
(spec/07_external_bridges.md; spec/13_registers.md R399; spec/05_stream_engine.md R158).
-/

namespace Sys2Proof.Machine

/-! ## External memory (R234 to R241) -/

/-- The first stack request that has come to a port: its converter keeps their order (spec/04_fabric_arbitration.md R109). -/
def State.extHead (s : State) (die port : Nat) : Option Packet :=
  argMin (·.came) (s.net.filter (fun k => k.target == .ext die port && k.loc == Loc.arrived && k.resp.isNone))

/-- A stack request that has arrived at its port, and whose turn it is. -/
def State.extArrive (s : State) (die port pkt : Nat) : State :=
  match s.extHead die port with
  | none => s
  | some k => if k.id = pkt then s.extRequestOp die port k else s

/-- EXT_REQUEST (R235, R237, R238, R240; spec/13_registers.md R399). -/
def execExtRequest (die port pkt : Nat) (s : State) : Result := s.atDie die (s.extArrive die port pkt)

/-- The controller completes a transfer for a request that it performs: with the CRC-32C that came with it, or none where it reports a failure. -/
def State.extAnswer (s : State) (die port pkt : Nat) (crc : Option (BitVec 32)) (uncorr : Bool) (data : List RowData) : State :=
  match s.pkt pkt, ((s.slice die).extPort port).work.find? (fun w => w.pkt == pkt) with
  | some k, some w => if k.atExt die port then s.extResponseOp die port k w crc uncorr data else s
  | _, _ => s

/-- EXT_RESPONSE (R234, R236 to R238; spec/10_integrity.md R347 to R349). -/
def execExtResponse (die port pkt : Nat) (crc : Option (BitVec 32)) (uncorr : Bool) (data : List RowData) (s : State) : Result :=
  s.atDie die (s.extAnswer die port pkt crc uncorr data)

/-- TITHE_TOKEN_ADD (R239). -/
def execTitheTokenAdd (die port hh paces : Nat) (s : State) : Result :=
  s.named (port < 3 && hh < 16) (s.atDie die (s.tokenOp die port hh paces))

/-- TITHE_WRITE (R239, R241). -/
def execTitheWrite (w : Src) (die hh : Nat) (value : Word) (s : State) : Result :=
  s.named (hh < 16) (s.sliceReg w die (0x0080 + 4 * hh) value (RegRes.now (s.titheOp w die hh value)))

/-- EXT_CONTROLLER_READY_CHANGE (spec/13_registers.md R399). -/
def execExtControllerReadyChange (die port : Nat) (ready : Bool) (s : State) : Result :=
  s.named (port < 3) (s.atDie die (s.extReadyOp die port ready))

/-! ## Bridges and the ring (R242 to R252) -/

/-- STRIPE_SEND (R244, R245, R250). -/
def execStripeSend (die port : Nat) (s : State) : Result := s.named (port < 8) (s.atDie die (s.stripeSendOp die port))

/-- STRIPE_RECEIVED (R244, R246, R247). -/
def execStripeReceived (die port : Nat) (noise : List Byte) (s : State) : Result :=
  s.named (port < 8) (s.atDie die (s.stripeReceivedOp die port noise))

/-- STRIPE_NAK (R246, R247). -/
def execStripeNak (die port ack : Nat) (s : State) : Result := s.named (port < 8) (s.atDie die (s.stripeNakOp die port ack))

/-- STRIPE_ACK (R246). -/
def execStripeAck (die port ack : Nat) (s : State) : Result := s.named (port < 8) (s.atDie die (s.stripeAckOp die port ack))

/-- The stripe of failed entries has failed too: the link goes down. -/
def State.linkFails (s : State) (die port : Nat) : State :=
  if bit (s.slice die).linkUp port && s.failNaked die port then s.linkDownOp die port else s

/-- LINK_DOWN (R243, R248). -/
def execLinkDown (die port : Nat) (s : State) : Result := s.named (port < 8) (s.atDie die (s.linkFails die port))

/-- A slice that gets a link-down notice ends its outstanding ring requests. -/
def State.linkTold (s : State) (die : Nat) : State :=
  if (s.slice die).linkNotice then (s.modSlice die (fun S => { S with linkNotice := false })).endRing die else s

/-- LINK_DOWN_NOTICE (R248). -/
def execLinkDownNotice (die : Nat) (s : State) : Result := s.atDie die (s.linkTold die)

/-- A packet in the slice matrix that travels to another die. -/
def State.ringRoute (s : State) (die pkt : Nat) : State :=
  match s.pkt pkt with
  | none => s
  | some p => if p.loc == .matrix die && p.destDie != die && !s.heldBack p && !s.outOfTurn p then s.ringRouteOp die p else s

/-- RING_ROUTE (R251, R407; spec/01_architecture.md R26, R29; spec/03_timing_promise.md R96; spec/04_fabric_arbitration.md R120). -/
def execRingRoute (die pkt : Nat) (s : State) : Result := s.atDie die (s.ringRoute die pkt)

/-- ROUTE_WRITE (R252). -/
def execRouteWrite (w : Src) (die t : Nat) (value : Word) (s : State) : Result :=
  s.named (t < 8) (s.sliceReg w die (0x01A0 + 4 * t) value (RegRes.now (s.routeOp w die t value)))

/-! ## The NW port and the gates (R253 to R261) -/

/-- The requests that the NW port performs as accesses. -/
def PKind.atBanks : PKind → Bool
  | .read | .write | .readback | .slotReadback _ _ _ | .rtally _ | .mcast _ | .lookup _ | .index _ | .fetch | .doorstep _ | .record | .capture
  | .sliceLookup _ => true
  | _ => false

/-- A remote request that has arrived, in its requester's order of issue. -/
def State.nwArrive (s : State) (tile pkt : Nat) : State :=
  match s.pkt pkt with
  | none => s
  | some p =>
    if p.target == .tile tile && p.loc == Loc.arrived && p.resp.isNone && p.kind.atBanks && s.nwFirst p then s.nwRequestOp tile p else s

/-- NW_REQUEST (R253 to R256, R260; spec/02_banks_deeds.md R43; spec/04_fabric_arbitration.md R130, R152; spec/05_stream_engine.md R158). -/
def execNwRequest (tile pkt : Nat) (s : State) : Result := s.atTile tile (s.nwArrive tile pkt)

/-- GATE_OPEN: a write to the third word of TL_GATE with OPEN 1 (R257, R261). -/
def execGateOpen (w : Src) (tile gate : Nat) (value : Word) (s : State) : Result :=
  s.named (gate < 8) (s.tileReg w tile (0x108 + 0x10 * gate) (withField value 8 1 1)
    (RegRes.now (s.gateOp w tile gate 2 (withField value 8 1 1))))

/-- GATE_CLOSE: a write to the third word of TL_GATE with OPEN 0 (R258, R261). -/
def execGateClose (w : Src) (tile gate : Nat) (value : Word) (s : State) : Result :=
  s.named (gate < 8) (s.tileReg w tile (0x108 + 0x10 * gate) (withField value 8 1 0)
    (RegRes.now (s.gateOp w tile gate 2 (withField value 8 1 0))))

/-- GATE_CLOSED_DONE (R258, R261). -/
def execGateClosedDone (tile gate : Nat) (s : State) : Result := s.named (gate < 8) (s.atTile tile (s.gateDrained tile gate))

/-- GATE_FORCED_CLOSE (R259, R261). -/
def execGateForcedClose (tile gate : Nat) (s : State) : Result := s.named (gate < 8) (s.atTile tile (s.gateForced tile gate))

end Sys2Proof.Machine
end

