-- ==== Sys2Proof/Machine/Fabric.lean ====
section
/-!
DEFINITION. The commands of the lanes, the slice matrix, the default target, the register bus, the arbiters, the bank locks and the
watchdog (spec/04_fabric_arbitration.md R109 to R153; spec/01_architecture.md R23 to R25; spec/13_registers.md R387 to R395).
-/

namespace Sys2Proof.Machine

/-! ## Lanes and slice matrix -/

/-- A flit in the lanes moves on when its router output grants it (spec/01_architecture.md R23 to R25; R113; spec/03_timing_promise.md R95). -/
def State.flitMove (s : State) (pkt : Nat) : State :=
  match s.pkt pkt with
  | none => s
  | some p =>
    match p.loc with
    | .lane d x y =>
      if s.live d && (s.laneGrant d x y (routeOut x y (p.goal d)) p.lane).map (·.id) == some pkt then s.laneHop p d x y else s
    | _ => s

/-- LANE_FLIT (spec/01_architecture.md R23 to R25; R113). -/
def execLaneFlit (pkt : Nat) (s : State) : Result := .next (s.flitMove pkt)

/-- A write that the slice makes on its own account is posted: the host port acknowledges it (R118; spec/09_households.md R329). -/
def PKind.posted : PKind → Bool
  | .record | .capture => true
  | _ => false

/-- What passes the host port's target leaves for the host, or comes home to the slice. -/
def State.hostSide (s : State) (die id : Nat) : State :=
  match s.pkt id with
  | none => s
  | some p =>
    if p.resp.isNone then
      let s := s.emit (.hostRequest die ((s.slice die).bind p.iss.hh).fn.toNat p.place p.size p.write p.data)
      if !p.kind.posted then s
      else if p.kind == .record && !p.abandoned then (s.dropPkt id).recordDone p.iss.die p.iss.hh
      else s.dropPkt id
    else s.hostHome p

/-- A target port of the slice matrix grants the request or response whose turn it is, or arbitrates away from its parked source
(R115 to R118). -/
def State.matrixGrant (s : State) (die target : Nat) : State :=
  let s := s.holdBackAll die
  let g := (s.slice die).portGrant target (s.atPort die target)
  let s := s.modSlice die (fun S => { S with unparked := g.2 })
  match g.1 with
  | none => s
  | some p =>
    let s := s.matrixPass die target p
    if target = 0 then s.hostSide die p.id else s

/-- SLICE_MATRIX_GRANT (R115 to R118). -/
def execSliceMatrixGrant (die target : Nat) (s : State) : Result := s.atDie die (s.matrixGrant die target)

/-- A held request whose earlier requests have returned waits at the matrix again (R118, R119). -/
def State.holdRelease (s : State) (die pkt : Nat) : State :=
  match s.pkt pkt with
  | none => s
  | some p => if p.loc == .held die && !s.heldBack p then s.release die p else s

/-- HOLDBACK_RELEASE (R118, R119). -/
def execHoldbackRelease (die pkt : Nat) (s : State) : Result := s.atDie die (s.holdRelease die pkt)

/-- BRIDGE_SLOT_ADMIT (R121). -/
def execBridgeSlotAdmit (die port : Nat) (s : State) : Result := s.named (port < 8) (s.atDie die (s.slotAdmit die port))

/-! ## The default target and the register bus -/

/-- The address names a target for a request of the source (R122): a tile's memory, a register, or for the host the book. -/
def State.decodes (s : State) (w : Src) (a : Addr) : Bool :=
  match space a with
  | 1 => addrBitsZero a && s.hasTile (addrTile a)
  | 2 => (s.regPlace a).isSome && tileMapped (tileRegOff a)
  | 3 => (match s.regPlace a with | some d => sliceMapped d (sliceRegOff a) | none => false)
  | 4 => (srcTile w).isNone && (bookPlace a).isSome
  | _ => false

/-- A request without a target is answered DECERR and latched (R122 to R124). -/
def State.defaultOp (s : State) (w : Src) (die : Nat) (a : Addr) : State :=
  if s.decodes w a then s
  else
    let s := s.latchDecerr die a (s.issuer w)
    match w with
    | .host d fn => s.emit (.hostAnswer d fn .decerr [])
    | _ => s.answerReg w a.toNat .decerr 0

/-- DEFAULT_TARGET (R122 to R124; spec/07_external_bridges.md R228). -/
def execDefaultTarget (w : Src) (die : Nat) (addr : Addr) (s : State) : Result := s.fromSrc w (s.atDie die (s.defaultOp w die addr))

/-- DECERR_REARM: a write to SLC_DECERR_SRC (R124). -/
def execDecerrRearm (w : Src) (die : Nat) (value : Word) (s : State) : Result :=
  s.sliceReg w die 0x01C8 value (RegRes.now (s.rearmOp w die value))

/-- REGISTER_BUS_ACCESS (R109 to R111; spec/13_registers.md R387, R388). -/
def execRegisterBusAccess (w : Src) (addr : Addr) (size : Nat) (write : Bool) (data : BitVec 64) (s : State) : Result :=
  s.fromSrc w (.next (s.busAccess w addr size write data))

/-! ## Arbiters -/

/-- A beat boundary of an arbiter that the tile has and whose last beat has ended (R128, R131). -/
def State.decideAt (s : State) (tile arb : Nat) : State :=
  if (s.tile tile).hasArb arb && !(s.tile tile).arbBusy arb then s.modTile tile (fun T => T.boundary arb (s.paceNat tile)) else s

/-- ARBITER_DECISION (R128, R131 to R137, R142, R145; spec/03_timing_promise.md R93, R94). -/
def execArbiterDecision (tile arb : Nat) (s : State) : Result := s.atTile tile (s.decideAt tile arb)

/-- The arbiter at which a deadline request asks for a place, unless a lock keeps it out (R139, R145). -/
def Tile.asksAt (T : Tile) (a : Access) : Option Nat :=
  (T.arbOf a).filter (fun k => a.deadline && !a.inSet && (k == 20 || T.lockAdmits a))

/-- The packet of an access that an arbiter has admitted or demoted carries that on: its slice's acceptance during lapse, or DEMOTED
(R140, R141; spec/03_timing_promise.md R86, R107). -/
def State.admittedPkt (s : State) (tile acc : Nat) : State :=
  match (s.tile tile).acc acc with
  | none => s
  | some a =>
    match a.dest with
    | .packet id => s.modPkt id (fun p => { p with
        demoted := p.demoted || a.demoted, lapse := if a.inSet && s.lapsed tile then tileDie tile :: p.lapse else p.lapse })
    | _ => s

/-- A deadline request enters the deadline set, or is demoted (R139, R140). -/
def State.askDeadline (s : State) (tile acc : Nat) : State :=
  match (s.tile tile).acc acc with
  | none => s
  | some a =>
    match (s.tile tile).asksAt a with
    | none => s
    | some k => (s.modTile tile (fun T => T.admitDeadline k a (s.lapsed tile))).admittedPkt tile acc

/-- DEADLINE_ADMISSION (R139 to R141, R145). -/
def execDeadlineAdmission (tile acc : Nat) (s : State) : Result := s.atTile tile (s.askDeadline tile acc)

/-! ## Bank locks and core resets -/

/-- LOCK_ACQUIRE: a write of OP 1 to TL_LOCK (R143, R144). -/
def execLockAcquire (w : Src) (tile : Nat) (value : Word) (s : State) : Result :=
  s.tileReg w tile 0x0F8 (withField value 4 2 1) (RegRes.now (s.lockAcquireOp w tile (withField value 4 2 1)))

/-- LOCK_RELEASE: a write of OP 2 to TL_LOCK (R144, R146). -/
def execLockRelease (w : Src) (tile : Nat) (value : Word) (s : State) : Result :=
  s.tileReg w tile 0x0F8 (withField value 4 2 2) (RegRes.now (s.lockReleaseOp w tile (withField value 4 2 2)))

/-- CORE_RESET (R149). -/
def execCoreReset (tile : Nat) (s : State) : Result := s.atTile tile (s.coreResetOp tile)

/-- CORE_RESET_NOTICE (R147, R149; spec/08_tallies_bells_channels.md R299). -/
def execCoreResetNotice (tile core : Nat) (s : State) : Result := s.atTile tile (s.noticeOp tile core)

/-! ## The watchdog -/

/-- A granted beat has not ended for TL_WDOG paces (R150, R151, R153). -/
def State.biteAt (s : State) (tile res : Nat) : State :=
  match (s.tile tile).hung res with
  | none => s
  | some a => if s.paceOver tile a.since (s.tile tile).wdog.toNat then s.bite tile res a else s

/-- WATCHDOG_BITE (R147, R150 to R152; spec/03_timing_promise.md R98). -/
def execWatchdogBite (tile res : Nat) (s : State) : Result := s.named (res ≤ 16) (s.atTile tile (s.biteAt tile res))

/-- A request of a non-holder has waited on a locked bank for TL_WDOG paces (R150, R151, R153). -/
def State.lockBiteAt (s : State) (tile bank : Nat) : State :=
  match ((s.tile tile).lock bank).holder, (s.tile tile).lockWaitFrom bank with
  | some h, some n => if s.paceOver tile n (s.tile tile).wdog.toNat then s.lockBite tile bank h else s
  | _, _ => s

/-- WATCHDOG_LOCK_BITE (R147, R150, R151). -/
def execWatchdogLockBite (tile bank : Nat) (s : State) : Result := s.named (bank < 16) (s.atTile tile (s.lockBiteAt tile bank))

/-- QUAR_RELEASE: a write to TL_STATUS (R152). -/
def execQuarRelease (w : Src) (tile : Nat) (value : Word) (s : State) : Result :=
  s.tileReg w tile 0x008 value (RegRes.now (s.statusOp w tile value))

/-- WDOG_INTERVAL_WRITE: a write to TL_WDOG (R153). -/
def execWdogIntervalWrite (w : Src) (tile : Nat) (value : Word) (s : State) : Result :=
  s.tileReg w tile 0x904 value (RegRes.now (s.wdogOp w tile value))

end Sys2Proof.Machine
end

