-- ==== Sys2Proof/Machine/House.lean ====
section
/-!
DEFINITION. The commands of the households: binding, the host port, doorbells and doorsteps, completion records, interrupts, capture
and re-run (spec/09_households.md).
-/

namespace Sys2Proof.Machine

/-! ## Binding (R306 to R311) -/

/-- BIND: a write to SLC_BINDREQ with OP 1 (R307, R309; spec/11_startup_power_book.md R371). -/
def execBind (w : Src) (value : Word) (s : State) : Result :=
  s.sliceReg w 0 0x0148 (withField value 12 2 1) (RegRes.now (s.bindReqOp w (withField value 12 2 1)))

/-- UNBIND: a write to SLC_BINDREQ with OP 2 (R308; spec/08_tallies_bells_channels.md R299; spec/11_startup_power_book.md R371). -/
def execUnbind (w : Src) (value : Word) (s : State) : Result :=
  s.sliceReg w 0 0x0148 (withField value 12 2 2) (RegRes.now (s.bindReqOp w (withField value 12 2 2)))

/-- UNBIND_FINISH (R308, R309). -/
def execUnbindFinish (s : State) : Result := s.atDie 0 s.unbindFinishOp

/-- UNBOUND_CLR: a write to SLC_UNBOUND with bit 31 set (R310). -/
def execUnboundClr (w : Src) (die : Nat) (value : Word) (s : State) : Result :=
  s.sliceReg w die 0x0140 (withField value 31 1 1) (RegRes.now (s.unboundOp w die (withField value 31 1 1)))

/-! ## The host port (R305, R310, R314 to R323) -/

/-- HOST_REQUEST (R305, R310, R314, R334, R337; spec/07_external_bridges.md R228; spec/11_startup_power_book.md R372). A write brings
its data, a read none. -/
def execHostRequest (die fn : Nat) (addr : Addr) (size : Nat) (write : Bool) (data : List RowData) (s : State) : Result :=
  s.named (fn < 256 && data.length == (if write then (size + 63) / 64 else 0)) (s.atDie die (s.hostRequestOp die fn addr size write data))

/-- DOORBELL_ARRIVAL (R315, R318, R334). -/
def execDoorbellArrival (die fn offset size : Nat) (word : BitVec 64) (s : State) : Result :=
  s.named (fn < 256) (s.atDie die (s.fromHost die fn true (fun h => s.doorbellOp die h offset size word)))

/-- DOORBELL_RELEASE (R316, R318, R319, R408). -/
def execDoorbellRelease (die hh : Nat) (s : State) : Result := s.named (hh < 16) (s.atDie die (s.bellReleaseOp die hh))

/-- A doorbell that has arrived at its tile and names a code. -/
def State.bellIn (s : State) (tile pkt code : Nat) : Option (Packet × BitVec 64) :=
  (s.atHome tile pkt).bind (fun p => match p.kind with | .doorbell w => if bellCode w = code then some (p, w) else none | _ => none)

/-- A doorbell of code 1 writes TAIL of a channel (R316, R317). -/
def State.bellTailAt (s : State) (tile pkt : Nat) : State :=
  match s.bellIn tile pkt 1 with
  | none => s
  | some (p, w) => s.bellAtTile tile p (s.tailOp tile (bellChan w) (bellTail w))

/-- DOORBELL_TAIL (R316, R317). -/
def execDoorbellTail (tile pkt : Nat) (s : State) : Result := s.atTile tile (s.bellTailAt tile pkt)

/-- A doorbell of code 2 is a GO of a channel (R316, R317, R324). -/
def State.bellGoAt (s : State) (tile pkt : Nat) : State :=
  match s.bellIn tile pkt 2 with
  | none => s
  | some (p, w) => s.bellAtTile tile p (s.cmdOp tile (bellChan w) 2)

/-- DOORBELL_GO (R316, R317, R324). -/
def execDoorbellGo (tile pkt : Nat) (s : State) : Result := s.atTile tile (s.bellGoAt tile pkt)

/-- DOORSTEP_WRITE (R320 to R323, R334). -/
def execDoorstepWrite (die fn offset length : Nat) (allEnables : Bool) (data : List RowData) (s : State) : Result :=
  s.named (fn < 256 && data.length == (length + 63) / 64 && 0 < length)
    (s.atDie die (s.fromHost die fn true (fun h => s.doorstepOp die h offset length allEnables data)))

/-! ## Completion records (R325 to R329) -/

/-- COMPLETION_RECORD_WRITE (R325 to R328). -/
def execCompletionRecordWrite (die hh : Nat) (s : State) : Result := s.named (hh < 16) (s.atDie die (s.recordWriteOp die hh))

/-- COMPLETION_RECORD_FAIL (R329). -/
def execCompletionRecordFail (die hh : Nat) (s : State) : Result := s.named (hh < 16) (s.atDie die (s.recordFailOp die hh))

/-- CRING_EN_WRITE: a write to the second word of SLC_CRING (R325, R328). -/
def execCringEnWrite (w : Src) (die hh : Nat) (value : Word) (s : State) : Result :=
  s.named (hh < 16) (s.sliceReg w die (0x0504 + 0x10 * hh) value (RegRes.now (s.cringOp w die hh 1 value)))

/-- RETRY: a write of 1 to SLC_CRING RETRY, every other field as it stands (R329). -/
def execRetry (w : Src) (die hh : Nat) (s : State) : Result :=
  s.named (hh < 16) (s.sliceReg w die (0x0504 + 0x10 * hh) (withField (withField (((s.slice die).cring hh).word 1) 25 1 0) 27 1 1)
    (RegRes.now (s.retryOp w die hh)))

/-- CRING_HEAD_WRITE (R326, R328). -/
def execCringHeadWrite (w : Src) (die hh : Nat) (value : Word) (s : State) : Result :=
  s.named (hh < 16) (s.sliceReg w die (0x0508 + 0x10 * hh) value (RegRes.now (s.cringOp w die hh 2 value)))

/-! ## Interrupts (R330 to R332) -/

/-- INTERRUPT_MESSAGE (R330 to R332). -/
def execInterruptMessage (die hh vector : Nat) (s : State) : Result := s.atDie die (s.interruptOp die hh vector)

/-- IRQ_ENABLE_WRITE (R331). -/
def execIrqEnableWrite (w : Src) (die hh : Nat) (value : Word) (s : State) : Result :=
  s.named (hh < 16) (s.sliceReg w die (0x0604 + 0x10 * hh) value (RegRes.now (s.irqOp w die hh 1 value)))

/-! ## Capture and re-run (R334 to R337) -/

/-- CAPTURE_RECORD (R334, R335). -/
def execCaptureRecord (die k : Nat) (s : State) : Result := s.atDie die (s.captureTake die k)

/-- CAPTURE_RECORD_WRITE (R336). -/
def execCaptureRecordWrite (die : Nat) (status : Status) (s : State) : Result := s.atDie die (s.captureWriteOp die status)

/-- CAPTURE_EN_WRITE: a write to SLC_CAP_CTRL (R334, R337). -/
def execCaptureEnWrite (w : Src) (die : Nat) (value : Word) (s : State) : Result :=
  s.sliceReg w die 0x0400 value (RegRes.now (s.captureOp w die 0x00 value))

/-- RERUN_PRESENT (R337). -/
def execRerunPresent (die : Nat) (status : Status) (units : List RowData) (s : State) : Result := s.atDie die (s.rerunOp die status units)

end Sys2Proof.Machine
end

