-- ==== Sys2Proof/Machine/Integrity.lean ====
section
/-!
DEFINITION. The commands of the gleaner, the check-bit test mode, the march engine and the row repair (spec/10_integrity.md).
-/

namespace Sys2Proof.Machine

/-- The gleaner decides on a gleaned bank of a READY slice. -/
def State.gleanAt (s : State) (tile bank : Nat) (u1 u2 : ByteMask) : State :=
  if s.ready (tileDie tile) && bank < 16 && bit (s.tile tile).glean bank then s.gleanBeat tile bank u1 u2 else s

/-- GLEANER_BEAT (R350 to R352; spec/02_banks_deeds.md R48; spec/03_timing_promise.md R92). -/
def execGleanerBeat (tile bank : Nat) (upset replayUpset : ByteMask) (s : State) : Result :=
  s.atTile tile (s.gleanAt tile bank upset replayUpset)

/-- WRITEPAR: a write to TL_TEST with OP 1 (R354, R355). -/
def execWritepar (w : Src) (tile : Nat) (value : Word) (s : State) : Result :=
  s.tileReg w tile 0x840 (withField value 0 2 1) (RegRes.now (s.writeparOp w tile (withField value 0 2 1)))

/-- READRAW: a write to TL_TEST with OP 2 (R354, R355). -/
def execReadraw (w : Src) (tile : Nat) (value : Word) (s : State) : Result :=
  s.tileReg w tile 0x840 (withField value 0 2 2) (RegRes.now (s.readrawOp w tile (withField value 0 2 2)))

/-- CHECK: a write to TL_TEST with OP 3 (R345, R346, R354, R355). -/
def execCheck (w : Src) (tile : Nat) (value : Word) (upset replayUpset : ByteMask) (s : State) : Result :=
  s.tileReg w tile 0x840 (withField value 0 2 3) (RegRes.now (s.checkOp w tile (withField value 0 2 3) upset replayUpset))

/-- MARCH_C_MINUS: a write to TL_MARCH with GO 1 and MODE 0 (R356, R361). -/
def execMarchCMinus (w : Src) (tile : Nat) (value : Word) (s : State) : Result :=
  s.tileReg w tile 0x860 (withField value 16 2 1) (RegRes.now (s.marchOp w tile (withField value 16 2 1)))

/-- TRANSPARENT_MARCH: a write to TL_MARCH with GO 1 and MODE 1 (R357, R361). -/
def execTransparentMarch (w : Src) (tile : Nat) (value : Word) (s : State) : Result :=
  s.tileReg w tile 0x860 (withField value 16 2 3) (RegRes.now (s.marchOp w tile (withField value 16 2 3)))

/-- The march of a tile ends; accesses that waited for its banks are taken up (R358 to R361; spec/02_banks_deeds.md R79). -/
def State.marchEnd (s : State) (tile : Nat) (fails : List MarchFail) : State :=
  match (s.tile tile).march with
  | none => s
  | some r => (s.marchEndOp tile r fails).freed tile

/-- MARCH_END (R347, R358 to R361). -/
def execMarchEnd (tile : Nat) (fails : List MarchFail) (s : State) : Result := s.atTile tile (s.marchEnd tile fails)

/-- REMAP_ROW_WRITE (R342, R362, R363; spec/02_banks_deeds.md R39). -/
def execRemapRowWrite (w : Src) (tile index : Nat) (value : Word) (s : State) : Result :=
  s.named (index < 32) (s.tileReg w tile (0x880 + 4 * index) value (RegRes.now (s.remapRowOp w tile index value)))

end Sys2Proof.Machine
end

