-- ==== Sys2Proof/Machine/Start.lean ====
section
/-!
DEFINITION. The commands of start-up, resets, power and lapse (spec/11_startup_power_book.md R365 to R375;
spec/03_timing_promise.md R102 to R108; spec/01_architecture.md R34; spec/07_external_bridges.md R243).
-/

namespace Sys2Proof.Machine

/-- SUPPLY_GOOD (spec/11_startup_power_book.md R369, step 1). -/
def execSupplyGood (die : Nat) (s : State) : Result := s.atAnyDie die (s.supplyGoodOp die)

/-- SETTLING_DELAY_EXPIRY (R369, steps 2 and 3; spec/03_timing_promise.md R85, R100). -/
def execSettlingDelayExpiry (die : Nat) (s : State) : Result := s.atAnyDie die (s.settledOp die)

/-- BOOK_CHECK (R369, step 4; R370). -/
def execBookCheck (die : Nat) (s : State) : Result := s.atDie die (s.bookCheckOp die)

/-- REPAIR_MAP_LOAD (R369, step 5; spec/10_integrity.md R364). -/
def execRepairMapLoad (die : Nat) (s : State) : Result := s.atDie die (s.mapLoadOp die)

/-- STARTUP_INITIAL_STATE (R369, steps 7 to 9; R371). -/
def execStartupInitialState (die : Nat) (s : State) : Result := s.atDie die (s.readyOp die)

/-- SLICE_RESET (R365, R367, R368). -/
def execSliceReset (die cause : Nat) (s : State) : Result := s.atAnyDie die (s.sliceResetOp die cause)

/-- SUPPLY_RESET (R366; spec/03_timing_promise.md R104). -/
def execSupplyReset (die : Nat) (s : State) : Result := s.atAnyDie die (s.supplyResetOp die)

/-- SRST: a write to SLC_CTRL (R366). -/
def execSrst (w : Src) (die : Nat) (value : Word) (s : State) : Result :=
  s.sliceReg w die 0x0010 value (RegRes.now (s.srstOp w die value))

/-- DIE_POWER_OFF (spec/01_architecture.md R34). -/
def execDiePowerOff (die : Nat) (s : State) : Result := s.atAnyDie die (s.powerOffOp die)

/-- LINK_TRAINING ends (spec/07_external_bridges.md R242, R243). -/
def execLinkTraining (die port : Nat) (up : Bool) (s : State) : Result := s.atAnyDie die (s.trainedOp die port up)

/-- MONITOR_CROSSING (spec/03_timing_promise.md R102, R105, R108). -/
def execMonitorCrossing (die mv : Nat) (degC : Int) (s : State) : Result := s.atAnyDie die (s.monitorOp die mv degC)

/-- FORCE_LAPSE: a write to SLC_LAPSE control (spec/03_timing_promise.md, SLC_LAPSE control; R105). -/
def execForceLapse (w : Src) (die : Nat) (value : Word) (s : State) : Result :=
  s.sliceReg w die 0x0028 value (RegRes.now (s.forceOp w die value))

/-- LAPSE_END (spec/03_timing_promise.md R107, R108). -/
def execLapseEnd (die : Nat) (s : State) : Result := s.atDie die (s.lapseEndOp die)

end Sys2Proof.Machine
end

