-- ==== Sys2Proof/Machine/Stream.lean ====
section
/-!
DEFINITION. The commands of the stream engine: channel commands, descriptors, bursts, slot rings, index reads and multicast
(spec/05_stream_engine.md; spec/06_stream_transforms.md; spec/07_external_bridges.md R229 to R233).
-/

namespace Sys2Proof.Machine

/-! ## Channel commands -/

/-- ST_CTRL with EN and REPEAT as they stand and a command. -/
def Channel.ctrlWord (c : Channel) (cmd : Nat) : Word := flag 0 c.en ||| put 4 cmd ||| flag 8 c.rep

/-- A command written to ST_CTRL.CMD of a channel. -/
def State.chanCmd (s : State) (w : Src) (tile chan cmd : Nat) : Result :=
  s.named (chan < 8) (s.tileReg w tile (0x600 + 0x40 * chan) ((s.chan tile chan).ctrlWord cmd) (RegRes.now (s.chanCmdOp w tile chan cmd)))

/-- EN: a write to ST_CTRL (spec/05_stream_engine.md R159, R195, R196). -/
def execEn (w : Src) (tile chan : Nat) (value : Word) (s : State) : Result :=
  s.named (chan < 8) (s.tileReg w tile (0x600 + 0x40 * chan) value (RegRes.now (s.chanCtrlOp w tile chan value)))

/-- ARM (R163, R166, R167, R195). -/
def execArm (w : Src) (tile chan : Nat) (s : State) : Result := s.chanCmd w tile chan 1

/-- GO (R163, R165, R195). -/
def execGo (w : Src) (tile chan : Nat) (s : State) : Result := s.chanCmd w tile chan 2

/-- RESUME (R191, R192, R195; spec/06_stream_transforms.md R226). -/
def execResume (w : Src) (tile chan : Nat) (s : State) : Result := s.chanCmd w tile chan 3

/-- SKIP (R164, R191, R195). -/
def execSkip (w : Src) (tile chan : Nat) (s : State) : Result := s.chanCmd w tile chan 4

/-- ABORT (R191, R194, R195). -/
def execAbort (w : Src) (tile chan : Nat) (s : State) : Result := s.chanCmd w tile chan 5

/-- DRING_TAIL_WRITE (R161, R162). -/
def execDringTailWrite (w : Src) (tile chan : Nat) (value : Word) (s : State) : Result :=
  s.named (chan < 8) (s.tileReg w tile (0x614 + 0x40 * chan) value (RegRes.now (s.chanTailOp w tile chan value)))

/-! ## Descriptors and bursts -/

/-- An event on a channel that the tile has. -/
def State.onChan (s : State) (tile chan : Nat) (r : State) : Result := s.named (chan < 8) (s.atCore tile r)

/-- DESCRIPTOR_FETCHED (R154, R159, R167, R170, R171, R195; spec/06_stream_transforms.md R210, R221, R227). -/
def execDescriptorFetched (tile chan : Nat) (s : State) : Result := s.onChan tile chan (s.fetchedOp tile chan)

/-- BURST_SELECT (R154, R156, R157). -/
def execBurstSelect (tile : Nat) (s : State) : Result := s.atCore tile (s.burstSelectOp tile)

/-- BURST_ISSUE (R155, R158, R172 to R174, R176, R180, R183, R184). -/
def execBurstIssue (tile chan : Nat) (s : State) : Result := s.onChan tile chan (s.burstIssueOp tile chan)

/-- A packet that the tile's stream engine has issued. -/
def State.ownPkt (s : State) (tile pkt : Nat) : Option Packet :=
  (s.pkt pkt).filter (fun p => p.iss.port == 127 && p.iss.tile == tile && p.iss.master == 4 && !p.abandoned)

/-- A lookup's row has returned (spec/07_external_bridges.md R230, R232, R233). -/
def State.lookupBack (s : State) (tile pkt : Nat) : State :=
  match s.ownPkt tile pkt with
  | none => s
  | some p =>
    match p.kind, p.loc, p.resp with
    | .lookup dir, .home, some st => s.lookupReturnOp tile p dir st p.data
    | _, _, _ => s

/-- WINDOW_LOOKUP_RETURN (spec/07_external_bridges.md R229 to R233; R192). -/
def execWindowLookupReturn (tile pkt : Nat) (s : State) : Result := s.atCore tile (s.lookupBack tile pkt)

/-- The answer to a register access of the tile's scalar core reaches it; a FENCE's read-back ends there
(spec/04_fabric_arbitration.md R110; spec/08_tallies_bells_channels.md R273). -/
def State.coreAnswer (s : State) (tile : Nat) (p : Packet) : State :=
  match p.loc, p.resp, p.kind with
  | .home, some st, .reg _ => (s.dropPkt p.id).answerReg (.sc tile) p.addr.toNat st ((p.data.headD 0).truncate 32)
  | .home, some _, .regBack => s.dropPkt p.id
  | _, _, _ => s

/-- A response reaches its channel, or the scalar core; sends that waited for room set out (spec/08_tallies_bells_channels.md R291). -/
def State.responseBack (s : State) (tile pkt : Nat) (outside : Status) (data : List RowData) : State :=
  match s.pkt pkt with
  | none => s
  | some p =>
    if p.iss.port = 127 ∧ p.iss.tile = tile ∧ p.iss.master = 3 then s.coreAnswer tile p
    else match s.ownPkt tile pkt, p.answer outside data with
      | some _, some (st, rows) => (s.remoteResponseOp tile p st rows).issueSends tile
      | _, _ => s

/-- REMOTE_RESPONSE (R182, R187, R190; spec/03_timing_promise.md R89, R90; spec/06_stream_transforms.md R225; spec/04_fabric_arbitration.md R110). -/
def execRemoteResponse (tile pkt : Nat) (outside : Status) (data : List RowData) (s : State) : Result :=
  s.atCore tile (s.responseBack tile pkt outside data)

/-- A read-back reaches its channel. -/
def State.readbackBack (s : State) (tile pkt : Nat) (outside : Status) : State :=
  match s.ownPkt tile pkt with
  | none => s
  | some p =>
    match p.answer outside [] with
    | none => s
    | some (st, rows) => (s.readbackReturnOp tile p st rows).issueSends tile

/-- READBACK_RETURN (R176, R177, R182, R187). -/
def execReadbackReturn (tile pkt : Nat) (outside : Status) (s : State) : Result := s.atCore tile (s.readbackBack tile pkt outside)

/-- A descriptor whose last request has returned completes (R175, R178). -/
def State.descDone (s : State) (tile chan : Nat) : State :=
  match (s.chan tile chan).snap with
  | none => s
  | some d => if (s.chan tile chan).complete d then s.completeOp tile chan d else s

/-- DESCRIPTOR_COMPLETE (R160, R162, R164, R175, R178, R179, R181, R189, R195). -/
def execDescriptorComplete (tile chan : Nat) (s : State) : Result := s.onChan tile chan (s.descDone tile chan)

/-- CHANNEL_HALT (R190, R194). -/
def execChannelHalt (tile chan : Nat) (s : State) : Result := s.onChan tile chan (s.haltOp tile chan)

/-! ## Opcodes -/

/-- NOP (R169). -/
def execNop (tile chan : Nat) (s : State) : Result := s.onChan tile chan (s.nopOp tile chan)

/-- COPY (R169, R172). -/
def execCopy (tile chan : Nat) (s : State) : Result := s.onChan tile chan (s.copyOp tile chan)

/-- GATHER (spec/06_stream_transforms.md R199, R201, R202). -/
def execGather (tile chan : Nat) (s : State) : Result := s.onChan tile chan (s.gatherOp tile chan)

/-- SCATTER (spec/06_stream_transforms.md R200 to R202). -/
def execScatter (tile chan : Nat) (s : State) : Result := s.onChan tile chan (s.scatterOp tile chan)

/-- MULTICAST (spec/06_stream_transforms.md R220, R222). -/
def execMulticast (tile chan : Nat) (s : State) : Result := s.onChan tile chan (s.multicastOp tile chan)

/-- CONVERT (spec/06_stream_transforms.md R205 to R219). -/
def execConvert (tile chan : Nat) (s : State) : Result := s.onChan tile chan (s.convertOp tile chan)

/-- FILL (R169). -/
def execFill (tile chan : Nat) (s : State) : Result := s.onChan tile chan (s.fillOp tile chan)

/-- REGWRITE (R169, R170; spec/04_fabric_arbitration.md R110). -/
def execRegwrite (tile chan : Nat) (s : State) : Result := s.onChan tile chan (s.regwriteOp tile chan)

/-- WAITT (R169, R175; spec/08_tallies_bells_channels.md R272). -/
def execWaitt (tile chan : Nat) (s : State) : Result := s.onChan tile chan (s.waittOp tile chan)

/-- SIGNAL (R169, R175). -/
def execSignal (tile chan : Nat) (s : State) : Result := s.onChan tile chan (s.signalOp tile chan)

/-! ## Index reads (spec/06_stream_transforms.md R203, R204) -/

/-- A remote read of an index block is back. -/
def State.indexPkt (s : State) (tile block : Nat) : Option Packet :=
  s.net.find? (fun p => p.kind == .index block && p.iss.tile == tile && p.iss.port == 127 && p.loc == Loc.home && p.resp.isSome)

/-- The block takes the rows that a packet brings. -/
def State.indexTake (s : State) (tile block : Nat) (p : Packet) : State :=
  let s := (s.dropPkt p.id).modTile tile (fun T =>
    { T with blocks := updWhere (fun k => k.id == block) (fun k => k.answer p.unit (p.resp.getD .ok) p.data) T.blocks })
  s.modChan tile p.iss.chan (fun c => c.tagged (p.l || (s.slice (tileDie tile)).lpActive) p.demoted)

/-- An index read returns: the prefetcher fills the block, or fails. -/
def State.indexBack (s : State) (tile block : Nat) (how : IndexReturn) : State :=
  let s := match s.indexPkt tile block with
    | some p => s.indexTake tile block p
    | none => s
  match (s.tile tile).blocks.find? (fun b => b.id == block) with
  | none => s
  | some b =>
    if b.need = 0 && !b.ready then
      let s := s.indexReturnOp tile b how
      s.serveWants tile (s.tile tile).idxWant.length
    else s

/-- INDEX_READ_RETURN (spec/06_stream_transforms.md R203, R204; R193). -/
def execIndexReadReturn (tile block : Nat) (how : IndexReturn) (s : State) : Result := s.atCore tile (s.indexBack tile block how)

/-! ## Slot rings (R183 to R189) -/

/-- The last unit of a slot of a local ring has been written. -/
def State.slotDone (s : State) (tile chan : Nat) : State :=
  let c := s.chan tile chan
  match c.working with
  | none => s
  | some d => if Desc.useRing d && !Desc.remoteRing d tile && c.slotEnd && c.outst == 0 then s.slotFilledOp tile chan d else s

/-- SLOT_FILLED (R185, R186). -/
def execSlotFilled (tile chan : Nat) (s : State) : Result := s.onChan tile chan (s.slotDone tile chan)

/-- The descriptor whose slot ring the channel waits for. -/
def Channel.ringWait (c : Channel) : Option RowData :=
  if c.state = .wait && !c.waitTally && c.fail.isNone && !c.aborting then c.snap.filter Desc.useRing else none

/-- A channel that waits on a full local ring samples FREE again. -/
def State.resample (s : State) (tile chan : Nat) : State :=
  match (s.chan tile chan).ringWait with
  | none => s
  | some d => if Desc.remoteRing d tile then s else s.resampleOp tile chan d

/-- SLOT_RING_RESAMPLE (R184, R185). -/
def execSlotRingResample (tile chan : Nat) (s : State) : Result := s.onChan tile chan (s.resample tile chan)

/-- A ring probe is answered at the ring's home. -/
def State.probeAtHome (s : State) (tile pkt : Nat) : State :=
  match s.atHome tile pkt with
  | none => s
  | some p => match p.kind with | .probe fill free => s.ringProbeOp tile p fill free | _ => s

/-- RING_PROBE (R187). -/
def execRingProbe (tile pkt : Nat) (s : State) : Result := s.atTile tile (s.probeAtHome tile pkt)

/-- A channel that waits on a full ring of another tile probes it again, 64 paces or more after the last probe. -/
def State.probeAgain (s : State) (tile chan : Nat) : State :=
  let c := s.chan tile chan
  match c.ringWait with
  | none => s
  | some d => if Desc.remoteRing d tile && !c.rbIssued && s.paceOver tile c.probeAt 64 then s.probeRing tile chan d else s

/-- RING_PROBE_RETRY (R187). -/
def execRingProbeRetry (tile chan : Nat) (s : State) : Result := s.onChan tile chan (s.probeAgain tile chan)

/-- A read-back whose row has been read at its target (R187; spec/06_stream_transforms.md R224). -/
def State.readThere (s : State) (tile pkt : Nat) : Option Packet :=
  (s.pkt pkt).filter (fun p => p.target == .tile tile && p.loc == Loc.read && p.resp.isNone)

/-- A slot read-back is served at the ring's home. -/
def State.slotAtHome (s : State) (tile pkt : Nat) : State :=
  match s.readThere tile pkt with
  | none => s
  | some p => match p.kind with | .slotReadback fill free _ => s.slotReadbackOp tile p fill free | _ => s

/-- SLOT_READBACK (R185, R187). -/
def execSlotReadback (tile pkt : Nat) (s : State) : Result := s.atTile tile (s.slotAtHome tile pkt)

/-! ## Multicast (spec/06_stream_transforms.md R222 to R227) -/

/-- MC_CREDIT (spec/06_stream_transforms.md R222, R223). -/
def execMcCredit (tile chan receiver : Nat) (s : State) : Result := s.onChan tile chan (s.creditOp tile chan receiver)

/-- A read-back of a multicast is served at a receiver. -/
def State.mcAtHome (s : State) (tile pkt : Nat) : State :=
  match s.readThere tile pkt with
  | none => s
  | some p => match p.kind with | .rtally t => s.mcReadbackOp tile p t | _ => s

/-- MC_READBACK (spec/06_stream_transforms.md R224). -/
def execMcReadback (tile pkt : Nat) (s : State) : Result := s.atTile tile (s.mcAtHome tile pkt)

/-- MC_STALL (spec/06_stream_transforms.md R225). -/
def execMcStall (tile chan : Nat) (s : State) : Result := s.onChan tile chan (s.mcStallOp tile chan)

end Sys2Proof.Machine
end

