-- ==== Sys2Proof/Machine/Sync.lean ====
section
/-!
DEFINITION. The commands of the tallies, bells, fences, the watchman, the channel endpoints, sends and reassignment
(spec/08_tallies_bells_channels.md).
-/

namespace Sys2Proof.Machine

/-! ## Operations of the core engines (R262 to R278) -/

/-- An engine begins to wait. -/
def State.startWait (s : State) (tile : Nat) (e : Engine) (q : EngState) : State := s.modTile tile (fun T => T.setEngine e q)

/-- An operation of an engine that the tile has. -/
def State.byEngine (s : State) (tile : Nat) (e : Engine) (r : State) : Result := s.atCore tile (s.issue tile e r)

/-- ADD (R263, R265). -/
def execAdd (tile : Nat) (e : Engine) (t : Nat) (amount : Word) (s : State) : Result :=
  s.named (t < 48) (s.byEngine tile e (s.enqueue tile (.add t amount false)))

/-- WAIT_GE (R263 to R265). -/
def execWaitGe (tile : Nat) (e : Engine) (t : Nat) (value : Word) (s : State) : Result :=
  s.named (t < 48) (s.byEngine tile e (s.startWait tile e (.waitGe t value)))

/-- WAIT_DEC (R263 to R265). -/
def execWaitDec (tile : Nat) (e : Engine) (t : Nat) (s : State) : Result :=
  s.named (t < 48) (s.byEngine tile e (s.startWait tile e (.waitDec t)))

/-- DEC (R263, R265). -/
def execDec (tile : Nat) (e : Engine) (t : Nat) (s : State) : Result :=
  s.named (t < 48) (s.byEngine tile e (s.enqueue tile (.dec e t)))

/-- FENCE (R273; spec/02_banks_deeds.md R69). -/
def execFence (tile : Nat) (e : Engine) (s : State) : Result :=
  s.byEngine tile e (if e = .sc then (s.fenceOp tile e).readBack tile else s.fenceOp tile e)

/-- A fence whose writes have settled ends (R273, R275; spec/02_banks_deeds.md R75). -/
def State.fenceEnd (s : State) (tile : Nat) (e : Engine) : State :=
  match (s.tile tile).engine e with
  | .fence accs uncorr => if s.fenceDone tile e accs then s.endOp tile e (if uncorr then .uncorr else .ok) false 0 else s
  | _ => s

/-- FENCE_END (R273 to R275; spec/02_banks_deeds.md R71, R75). -/
def execFenceEnd (tile : Nat) (e : Engine) (s : State) : Result := s.atCore tile (s.fenceEnd tile e)

/-- ARRIVE (R263, R276). -/
def execArrive (tile : Nat) (e : Engine) (bell : Nat) (s : State) : Result :=
  s.named (bell < 8) (s.byEngine tile e (s.enqueue tile (.arrive e bell false)))

/-- WAIT_BELL (R263, R278). -/
def execWaitBell (tile : Nat) (e : Engine) (bell gen : Nat) (s : State) : Result :=
  s.named (bell < 8) (s.byEngine tile e (s.startWait tile e (.waitBell bell (BitVec.ofNat 12 gen))))

/-- ARRIVE_WAIT (R262, R276, R278). -/
def execArriveWait (tile : Nat) (e : Engine) (bell : Nat) (s : State) : Result :=
  s.named (bell < 8) (s.byEngine tile e ((s.startWait tile e (.arriving bell)).enqueue tile (.arrive e bell true)))

/-! ## The boundary and register writes (R266 to R281) -/

/-- TALLY_BOUNDARY (R263 to R272, R276 to R279). -/
def execTallyBoundary (tile : Nat) (s : State) : Result := s.atCore tile (s.boundaryOp tile)

/-- TALLY_WRITE: a write to TL_TALLY[t] (R270). -/
def execTallyWrite (w : Src) (tile t : Nat) (value : Word) (s : State) : Result :=
  s.named (t < 48) (s.tileReg w tile (0x200 + 4 * t) value (s.tallyOp w tile t value))

/-- TALLY_MODE_WRITE: a write to a word of TL_TALLY_MODE (R269). -/
def execTallyModeWrite (w : Src) (tile word : Nat) (value : Word) (s : State) : Result :=
  s.named (word < 2) (s.tileReg w tile (0x2C0 + 4 * word) value (s.tallyModeOp w tile word value))

/-- BELL_ARRIVE_WRITE: a write of ARRIVE 1 to TL_BELL[b] (R280). -/
def execBellArriveWrite (w : Src) (tile bell : Nat) (s : State) : Result :=
  s.named (bell < 8) (s.tileReg w tile (0x300 + 4 * bell) (flag 16 true) (s.bellArriveOp w tile bell))

/-- BELL_FORCE: a write of FORCE 1 to TL_BELL[b] (R281). -/
def execBellForce (w : Src) (tile bell : Nat) (s : State) : Result :=
  s.named (bell < 8) (s.tileReg w tile (0x300 + 4 * bell) (flag 17 true) (s.bellForceOp w tile bell))

/-! ## The watchman (R283 to R286) -/

/-- The watchman of a READY slice's tile has found its core quiet for 4096 paces and has not raised STILL in this quiet period (R284, R285). -/
def State.mayStill (s : State) (tile : Nat) : Bool :=
  let T := s.tile tile
  s.ready (tileDie tile) && T.wmEn && T.quiet && !T.wmNow && T.reassign.isNone &&
  (match T.wmFrom with | some p => s.paceOver tile p 4096 | none => false)

/-- STILL (R283 to R286). -/
def execStill (tile : Nat) (s : State) : Result := s.atCore tile (if s.mayStill tile then s.stillOp tile else s)

/-- An engine stops, or runs again. -/
def State.stopEngine (s : State) (tile : Nat) (e : Engine) (stopped : Bool) : State :=
  match stopped, (s.tile tile).engine e with
  | true, .running => s.startWait tile e .stopped
  | false, .stopped => s.startWait tile e .running
  | _, _ => s

/-- ENGINE_STOPPED (R283). -/
def execEngineStopped (tile : Nat) (e : Engine) (stopped : Bool) (s : State) : Result := s.atCore tile (s.stopEngine tile e stopped)

/-! ## Channels (R287 to R299) -/

/-- SEND (R263, R290, R291). -/
def execSend (tile : Nat) (e : Engine) (src units target endpoint qos : Nat) (s : State) : Result :=
  s.named (src < 2 ^ 20 && endpoint < 16 && qos < 8)
    (s.byEngine tile e ((s.startWait tile e .sending).enqueue tile (.send e src units target endpoint qos)))

/-- A message that has arrived, in its requester's order of issue. -/
def State.messageIn (s : State) (tile pkt : Nat) : State :=
  match s.atHome tile pkt with
  | none => s
  | some p => match p.kind with | .message e u k => s.messageOp tile p e u k | _ => s

/-- MESSAGE_ARRIVAL (R289, R292, R293, R295). -/
def execMessageArrival (tile pkt : Nat) (s : State) : Result := s.atCore tile (s.messageIn tile pkt)

/-- SEND_RETRY (R293, R294). -/
def execSendRetry (tile : Nat) (e : Engine) (s : State) : Result := s.atCore tile (s.sendRetryOp tile e)

/-- SEND_STATUS (R264, R290, R294, R296). -/
def execSendStatus (tile : Nat) (e : Engine) (s : State) : Result := s.atCore tile (s.sendStatusOp tile e)

/-- RECV (R263, R297). -/
def execRecv (tile : Nat) (e : Engine) (endpoint : Nat) (s : State) : Result :=
  s.named (endpoint < 16) (s.byEngine tile e (s.startWait tile e (.recv endpoint)))

/-- POP (R263, R298). -/
def execPop (tile : Nat) (e : Engine) (endpoint : Nat) (s : State) : Result :=
  s.named (endpoint < 16) (s.byEngine tile e (s.enqueue tile (.pop e endpoint)))

/-- ENDPOINT_OPEN: a write to CH_CTRL with OPEN 1 (R287, R299). -/
def execEndpointOpen (w : Src) (tile endpoint : Nat) (value : Word) (s : State) : Result :=
  s.named (endpoint < 16) (s.tileReg w tile (0x400 + 0x20 * endpoint) (withField value 0 1 1)
    (RegRes.now (s.chCtrlOp w tile endpoint (withField value 0 1 1))))

/-- ENDPOINT_CLOSE: a write to CH_CTRL with OPEN 0 (R299). -/
def execEndpointClose (w : Src) (tile endpoint : Nat) (value : Word) (s : State) : Result :=
  s.named (endpoint < 16) (s.tileReg w tile (0x400 + 0x20 * endpoint) (withField value 0 1 0)
    (RegRes.now (s.chCtrlOp w tile endpoint (withField value 0 1 0))))

/-! ## Reassignment (R300 to R303; spec/09_households.md R312, R313) -/

/-- REASSIGNMENT: a write to SLC_TILE_HH[i] (R300 to R302, R299; spec/09_households.md R312, R313). -/
def execReassignment (w : Src) (die index : Nat) (value : Word) (s : State) : Result :=
  s.named (index < 32) (s.sliceReg w die (0x1000 + 4 * index) value (s.tileHhOp w die index value))

/-- REASSIGNMENT_COMPLETE (R301, R303; spec/04_fabric_arbitration.md R148). -/
def execReassignmentComplete (tile : Nat) (s : State) : Result := s.atCore tile (s.reassignDoneOp tile)

end Sys2Proof.Machine
end

