-- ==== Sys2Proof/Machine/Dispatch.lean ====
section
/-!
DEFINITION. The meaning of each command, one arm per constructor of Instr.
-/

namespace Sys2Proof.Machine

/-- The effect of a command on everything but the queue. -/
def exec (i : Instr) (s : State) : Host.Outcome State Fault Refusal :=
  match i with
  | .supplyGood die => Sys2Proof.Machine.execSupplyGood die s
  | .settlingDelayExpiry die => Sys2Proof.Machine.execSettlingDelayExpiry die s
  | .bookCheck die => Sys2Proof.Machine.execBookCheck die s
  | .repairMapLoad die => Sys2Proof.Machine.execRepairMapLoad die s
  | .startupInitialState die => Sys2Proof.Machine.execStartupInitialState die s
  | .sliceReset die cause => Sys2Proof.Machine.execSliceReset die cause s
  | .supplyReset die => Sys2Proof.Machine.execSupplyReset die s
  | .srst w die value => Sys2Proof.Machine.execSrst w die value s
  | .diePowerOff die => Sys2Proof.Machine.execDiePowerOff die s
  | .linkTraining die port up => Sys2Proof.Machine.execLinkTraining die port up s
  | .monitorCrossing die mv degC => Sys2Proof.Machine.execMonitorCrossing die mv degC s
  | .forceLapse w die value => Sys2Proof.Machine.execForceLapse w die value s
  | .lapseEnd die => Sys2Proof.Machine.execLapseEnd die s
  | .bankRequest tile rq => Sys2Proof.Machine.execBankRequest tile rq s
  | .bankBeat tile bank => Sys2Proof.Machine.execBankBeat tile bank s
  | .bankReadComplete tile acc upset replayUpset => Sys2Proof.Machine.execBankReadComplete tile acc upset replayUpset s
  | .bankWriteCommit tile acc => Sys2Proof.Machine.execBankWriteCommit tile acc s
  | .narrowWrite tile off size data qos => Sys2Proof.Machine.execNarrowWrite tile off size data qos s
  | .mergeIdleFlush tile bank row => Sys2Proof.Machine.execMergeIdleFlush tile bank row s
  | .mergeFlushCommit tile bank row upset replayUpset => Sys2Proof.Machine.execMergeFlushCommit tile bank row upset replayUpset s
  | .deedWrite w tile bank value => Sys2Proof.Machine.execDeedWrite w tile bank value s
  | .commonsWrite w tile value => Sys2Proof.Machine.execCommonsWrite w tile value s
  | .deedAdmissionStop tile => Sys2Proof.Machine.execDeedAdmissionStop tile s
  | .deedEffectPoint tile => Sys2Proof.Machine.execDeedEffectPoint tile s
  | .rotateGo w tile value => Sys2Proof.Machine.execRotateGo w tile value s
  | .rotationEffectPoint tile => Sys2Proof.Machine.execRotationEffectPoint tile s
  | .sliceRotateGo w die value => Sys2Proof.Machine.execSliceRotateGo w die value s
  | .tileRotateRequest tile => Sys2Proof.Machine.execTileRotateRequest tile s
  | .sliceRotateDone die => Sys2Proof.Machine.execSliceRotateDone die s
  | .retireBank w tile value => Sys2Proof.Machine.execRetireBank w tile value s
  | .sweep w tile value => Sys2Proof.Machine.execSweep w tile value s
  | .sweepEnd tile bank => Sys2Proof.Machine.execSweepEnd tile bank s
  | .remapWrite w tile value => Sys2Proof.Machine.execRemapWrite w tile value s
  | .laneFlit pkt => Sys2Proof.Machine.execLaneFlit pkt s
  | .sliceMatrixGrant die target => Sys2Proof.Machine.execSliceMatrixGrant die target s
  | .holdbackRelease die pkt => Sys2Proof.Machine.execHoldbackRelease die pkt s
  | .bridgeSlotAdmit die port => Sys2Proof.Machine.execBridgeSlotAdmit die port s
  | .defaultTarget w die addr => Sys2Proof.Machine.execDefaultTarget w die addr s
  | .decerrRearm w die value => Sys2Proof.Machine.execDecerrRearm w die value s
  | .registerBusAccess w addr size write data => Sys2Proof.Machine.execRegisterBusAccess w addr size write data s
  | .arbiterDecision tile arb => Sys2Proof.Machine.execArbiterDecision tile arb s
  | .deadlineAdmission tile acc => Sys2Proof.Machine.execDeadlineAdmission tile acc s
  | .lockAcquire w tile value => Sys2Proof.Machine.execLockAcquire w tile value s
  | .lockRelease w tile value => Sys2Proof.Machine.execLockRelease w tile value s
  | .coreReset tile => Sys2Proof.Machine.execCoreReset tile s
  | .coreResetNotice tile core => Sys2Proof.Machine.execCoreResetNotice tile core s
  | .watchdogBite tile res => Sys2Proof.Machine.execWatchdogBite tile res s
  | .watchdogLockBite tile bank => Sys2Proof.Machine.execWatchdogLockBite tile bank s
  | .quarRelease w tile value => Sys2Proof.Machine.execQuarRelease w tile value s
  | .wdogIntervalWrite w tile value => Sys2Proof.Machine.execWdogIntervalWrite w tile value s
  | .en w tile chan value => Sys2Proof.Machine.execEn w tile chan value s
  | .arm w tile chan => Sys2Proof.Machine.execArm w tile chan s
  | .go w tile chan => Sys2Proof.Machine.execGo w tile chan s
  | .resume w tile chan => Sys2Proof.Machine.execResume w tile chan s
  | .skip w tile chan => Sys2Proof.Machine.execSkip w tile chan s
  | .abort w tile chan => Sys2Proof.Machine.execAbort w tile chan s
  | .dringTailWrite w tile chan value => Sys2Proof.Machine.execDringTailWrite w tile chan value s
  | .descriptorFetched tile chan => Sys2Proof.Machine.execDescriptorFetched tile chan s
  | .burstSelect tile => Sys2Proof.Machine.execBurstSelect tile s
  | .burstIssue tile chan => Sys2Proof.Machine.execBurstIssue tile chan s
  | .windowLookupReturn tile pkt => Sys2Proof.Machine.execWindowLookupReturn tile pkt s
  | .remoteResponse tile pkt outside data => Sys2Proof.Machine.execRemoteResponse tile pkt outside data s
  | .readbackReturn tile pkt outside => Sys2Proof.Machine.execReadbackReturn tile pkt outside s
  | .descriptorComplete tile chan => Sys2Proof.Machine.execDescriptorComplete tile chan s
  | .channelHalt tile chan => Sys2Proof.Machine.execChannelHalt tile chan s
  | .nop tile chan => Sys2Proof.Machine.execNop tile chan s
  | .copy tile chan => Sys2Proof.Machine.execCopy tile chan s
  | .gather tile chan => Sys2Proof.Machine.execGather tile chan s
  | .scatter tile chan => Sys2Proof.Machine.execScatter tile chan s
  | .multicast tile chan => Sys2Proof.Machine.execMulticast tile chan s
  | .convert tile chan => Sys2Proof.Machine.execConvert tile chan s
  | .fill tile chan => Sys2Proof.Machine.execFill tile chan s
  | .regwrite tile chan => Sys2Proof.Machine.execRegwrite tile chan s
  | .waitt tile chan => Sys2Proof.Machine.execWaitt tile chan s
  | .signal tile chan => Sys2Proof.Machine.execSignal tile chan s
  | .indexReadReturn tile block how => Sys2Proof.Machine.execIndexReadReturn tile block how s
  | .slotFilled tile chan => Sys2Proof.Machine.execSlotFilled tile chan s
  | .slotRingResample tile chan => Sys2Proof.Machine.execSlotRingResample tile chan s
  | .ringProbe tile pkt => Sys2Proof.Machine.execRingProbe tile pkt s
  | .ringProbeRetry tile chan => Sys2Proof.Machine.execRingProbeRetry tile chan s
  | .slotReadback tile pkt => Sys2Proof.Machine.execSlotReadback tile pkt s
  | .mcCredit tile chan receiver => Sys2Proof.Machine.execMcCredit tile chan receiver s
  | .mcReadback tile pkt => Sys2Proof.Machine.execMcReadback tile pkt s
  | .mcStall tile chan => Sys2Proof.Machine.execMcStall tile chan s
  | .extRequest die port pkt => Sys2Proof.Machine.execExtRequest die port pkt s
  | .extResponse die port pkt crc uncorr data => Sys2Proof.Machine.execExtResponse die port pkt crc uncorr data s
  | .titheTokenAdd die port hh paces => Sys2Proof.Machine.execTitheTokenAdd die port hh paces s
  | .titheWrite w die hh value => Sys2Proof.Machine.execTitheWrite w die hh value s
  | .extControllerReadyChange die port ready => Sys2Proof.Machine.execExtControllerReadyChange die port ready s
  | .stripeSend die port => Sys2Proof.Machine.execStripeSend die port s
  | .stripeReceived die port noise => Sys2Proof.Machine.execStripeReceived die port noise s
  | .stripeNak die port ack => Sys2Proof.Machine.execStripeNak die port ack s
  | .stripeAck die port ack => Sys2Proof.Machine.execStripeAck die port ack s
  | .linkDown die port => Sys2Proof.Machine.execLinkDown die port s
  | .linkDownNotice die => Sys2Proof.Machine.execLinkDownNotice die s
  | .ringRoute die pkt => Sys2Proof.Machine.execRingRoute die pkt s
  | .routeWrite w die t value => Sys2Proof.Machine.execRouteWrite w die t value s
  | .nwRequest tile pkt => Sys2Proof.Machine.execNwRequest tile pkt s
  | .gateOpen w tile gate value => Sys2Proof.Machine.execGateOpen w tile gate value s
  | .gateClose w tile gate value => Sys2Proof.Machine.execGateClose w tile gate value s
  | .gateClosedDone tile gate => Sys2Proof.Machine.execGateClosedDone tile gate s
  | .gateForcedClose tile gate => Sys2Proof.Machine.execGateForcedClose tile gate s
  | .add tile e t amount => Sys2Proof.Machine.execAdd tile e t amount s
  | .waitGe tile e t value => Sys2Proof.Machine.execWaitGe tile e t value s
  | .waitDec tile e t => Sys2Proof.Machine.execWaitDec tile e t s
  | .dec tile e t => Sys2Proof.Machine.execDec tile e t s
  | .fence tile e => Sys2Proof.Machine.execFence tile e s
  | .fenceEnd tile e => Sys2Proof.Machine.execFenceEnd tile e s
  | .arrive tile e bell => Sys2Proof.Machine.execArrive tile e bell s
  | .waitBell tile e bell gen => Sys2Proof.Machine.execWaitBell tile e bell gen s
  | .arriveWait tile e bell => Sys2Proof.Machine.execArriveWait tile e bell s
  | .tallyBoundary tile => Sys2Proof.Machine.execTallyBoundary tile s
  | .tallyWrite w tile t value => Sys2Proof.Machine.execTallyWrite w tile t value s
  | .tallyModeWrite w tile word value => Sys2Proof.Machine.execTallyModeWrite w tile word value s
  | .bellArriveWrite w tile bell => Sys2Proof.Machine.execBellArriveWrite w tile bell s
  | .bellForce w tile bell => Sys2Proof.Machine.execBellForce w tile bell s
  | .still tile => Sys2Proof.Machine.execStill tile s
  | .send tile e src units target endpoint qos => Sys2Proof.Machine.execSend tile e src units target endpoint qos s
  | .messageArrival tile pkt => Sys2Proof.Machine.execMessageArrival tile pkt s
  | .sendRetry tile e => Sys2Proof.Machine.execSendRetry tile e s
  | .sendStatus tile e => Sys2Proof.Machine.execSendStatus tile e s
  | .recv tile e endpoint => Sys2Proof.Machine.execRecv tile e endpoint s
  | .pop tile e endpoint => Sys2Proof.Machine.execPop tile e endpoint s
  | .endpointOpen w tile endpoint value => Sys2Proof.Machine.execEndpointOpen w tile endpoint value s
  | .endpointClose w tile endpoint value => Sys2Proof.Machine.execEndpointClose w tile endpoint value s
  | .reassignment w die index value => Sys2Proof.Machine.execReassignment w die index value s
  | .reassignmentComplete tile => Sys2Proof.Machine.execReassignmentComplete tile s
  | .bind w value => Sys2Proof.Machine.execBind w value s
  | .unbind w value => Sys2Proof.Machine.execUnbind w value s
  | .unbindFinish => Sys2Proof.Machine.execUnbindFinish s
  | .unboundClr w die value => Sys2Proof.Machine.execUnboundClr w die value s
  | .hostRequest die fn addr size write data => Sys2Proof.Machine.execHostRequest die fn addr size write data s
  | .doorbellArrival die fn offset size word => Sys2Proof.Machine.execDoorbellArrival die fn offset size word s
  | .doorbellRelease die hh => Sys2Proof.Machine.execDoorbellRelease die hh s
  | .doorbellTail tile pkt => Sys2Proof.Machine.execDoorbellTail tile pkt s
  | .doorbellGo tile pkt => Sys2Proof.Machine.execDoorbellGo tile pkt s
  | .doorstepWrite die fn offset length allEnables data => Sys2Proof.Machine.execDoorstepWrite die fn offset length allEnables data s
  | .completionRecordWrite die hh => Sys2Proof.Machine.execCompletionRecordWrite die hh s
  | .completionRecordFail die hh => Sys2Proof.Machine.execCompletionRecordFail die hh s
  | .cringEnWrite w die hh value => Sys2Proof.Machine.execCringEnWrite w die hh value s
  | .retry w die hh => Sys2Proof.Machine.execRetry w die hh s
  | .cringHeadWrite w die hh value => Sys2Proof.Machine.execCringHeadWrite w die hh value s
  | .interruptMessage die hh vector => Sys2Proof.Machine.execInterruptMessage die hh vector s
  | .irqEnableWrite w die hh value => Sys2Proof.Machine.execIrqEnableWrite w die hh value s
  | .captureRecord die k => Sys2Proof.Machine.execCaptureRecord die k s
  | .captureRecordWrite die status => Sys2Proof.Machine.execCaptureRecordWrite die status s
  | .captureEnWrite w die value => Sys2Proof.Machine.execCaptureEnWrite w die value s
  | .rerunPresent die status units => Sys2Proof.Machine.execRerunPresent die status units s
  | .gleanerBeat tile bank upset replayUpset => Sys2Proof.Machine.execGleanerBeat tile bank upset replayUpset s
  | .writepar w tile value => Sys2Proof.Machine.execWritepar w tile value s
  | .readraw w tile value => Sys2Proof.Machine.execReadraw w tile value s
  | .check w tile value upset replayUpset => Sys2Proof.Machine.execCheck w tile value upset replayUpset s
  | .marchCMinus w tile value => Sys2Proof.Machine.execMarchCMinus w tile value s
  | .transparentMarch w tile value => Sys2Proof.Machine.execTransparentMarch w tile value s
  | .marchEnd tile fails => Sys2Proof.Machine.execMarchEnd tile fails s
  | .remapRowWrite w tile index value => Sys2Proof.Machine.execRemapRowWrite w tile index value s
  | .bookAppend die ring => Sys2Proof.Machine.execBookAppend die ring s
  | .bookRecordDrop die ring => Sys2Proof.Machine.execBookRecordDrop die ring s
  | .read w die value => Sys2Proof.Machine.execRead w die value s
  | .mapadd w die value => Sys2Proof.Machine.execMapadd w die value s
  | .mapclear w die value => Sys2Proof.Machine.execMapclear w die value s
  | .init w die value => Sys2Proof.Machine.execInit w die value s
  | .bookCommandEnd die => Sys2Proof.Machine.execBookCommandEnd die s
  | .bookAck w die value => Sys2Proof.Machine.execBookAck w die value s
  | .bookSpace4Read w die addr size write => Sys2Proof.Machine.execBookSpace4Read w die addr size write s
  | .startWordWrite w die value => Sys2Proof.Machine.execStartWordWrite w die value s
  | .registerWrite w addr value => Sys2Proof.Machine.execRegisterWrite w addr value s
  | .engineStopped tile e stopped => Sys2Proof.Machine.execEngineStopped tile e stopped s

end Sys2Proof.Machine
end

