-- ==== Sys2Proof/Safety.lean ====
section
/-!
DEFINITION. What claims call safe: a register write that its block takes, a command that goes on, and a state in its canonical form.
-/

namespace Sys2Proof.Machine

/-! ## When a register write is taken at once -/

/-- A command of `w` can be given: its tile or die is there and past step 2 of its start-up, and a function at a host port has a household
bound to it (spec/09_households.md R310; spec/11_startup_power_book.md R368). -/
def State.arrives (s : State) : Src → Prop
  | .sc t => s.hasTile t = true ∧ s.live (tileDie t) = true
  | .st t n => s.hasTile t = true ∧ s.live (tileDie t) = true ∧ n < 8
  | .host d fn => s.hasDie d = true ∧ s.live d = true ∧ (s.hhOf (.host d fn)).isSome = true

/-- The write of `v` to a register at address `a` by `w` whose turn it is at the register bus of a die (spec/04_fabric_arbitration.md R109,
R111). -/
def State.turn (s : State) (w : Src) (die a : Nat) (v : Word) : Option Packet :=
  (s.busPkt w die (BitVec.ofNat 48 a) true).filter (fun p => p.write && p.size == 4 && (p.data.headD 0).truncate 32 == v)

/-- The read of a register at address `a` by `w` whose turn it is at the register bus of a die. -/
def State.readTurn (s : State) (w : Src) (die a : Nat) : Option Packet :=
  (s.busPkt w die (BitVec.ofNat 48 a) false).filter (fun p => !p.write && p.size == 4)

/-- The register block of a tile takes a write of `w` at once: it comes by the local path, or its turn has come at the register bus; READY,
no reassignment, and no access before it (spec/04_fabric_arbitration.md R110, R111; spec/13_registers.md R388, R390;
spec/11_startup_power_book.md R372). -/
structure State.tileTakes (s : State) (w : Src) (tile off : Nat) (v : Word) : Prop where
  source : s.arrives w
  path : isLocal w tile = true ∨ (s.turn w (tileDie tile) (tileRegAddr tile off) v).isSome = true
  ready : s.ready (tileDie tile) = true
  given : (s.tile tile).reassign = none
  busy : (s.tile tile).regBusy = none
  first : (s.tile tile).regWait = []

/-- The register block of a slice takes a write of `w` at once. -/
structure State.sliceTakes (s : State) (w : Src) (die off : Nat) (v : Word) : Prop where
  source : s.arrives w
  path : (s.turn w die (sliceRegAddr die off) v).isSome = true
  ready : s.ready die = true
  busy : (s.slice die).hhBusy = none

/-- The register block of a tile takes an access at once: READY, no reassignment, no access before it. -/
structure State.tileFree (s : State) (tile : Nat) : Prop where
  ready : s.ready (tileDie tile) = true
  given : (s.tile tile).reassign = none
  busy : (s.tile tile).regBusy = none
  first : (s.tile tile).regWait = []

/-- The packet in which a write of a tile register has come; none by the local path. -/
def State.tileTurn (s : State) (w : Src) (tile off : Nat) (v : Word) : Option Packet :=
  if isLocal w tile then none else s.turn w (tileDie tile) (tileRegAddr tile off) v

/-- A write of a tile register that came in `p`, performed with state `t`, has been answered with status `st`: by the local path at once, over
the register bus with its response (spec/04_fabric_arbitration.md R110, R111). -/
def State.answered (s t : State) (w : Src) (tile off : Nat) (v : Word) (st : Status) : State :=
  match s.tileTurn w tile off v with
  | none => t.answerReg w (tileRegAddr tile off) st 0
  | some p => t.answerAt (tileDie tile) p.id st []

/-- A write of a slice register, performed with state `t`, has been answered with status `st`. -/
def State.sliceAnswered (s t : State) (w : Src) (die off : Nat) (v : Word) (st : Status) : State :=
  match s.turn w die (sliceRegAddr die off) v with
  | none => t
  | some p => t.answerAt die p.id st []

/-- A write of a tile register that its block has, performed with state `t` and not yet answered. -/
def State.taken (s t : State) (w : Src) (tile off : Nat) (v : Word) : State :=
  match s.tileTurn w tile off v with
  | none => t
  | some p => t.handed p.id

/-- The access that a tile's block keeps of such a write. -/
def State.accOf (s : State) (w : Src) (tile off : Nat) (v : Word) : RegAcc :=
  { src := w, off := off, value := v, pkt := (s.tileTurn w tile off v).map (·.id) }

/-- The die at which a command of `w` is given. -/
def srcDie : Src → Nat
  | .sc t => tileDie t
  | .st t _ => tileDie t
  | .host d _ => d

/-! ## Operations of the core -/

/-- The engine `e` of a tile issues an operation that takes effect: it runs, on a READY slice, with no reassignment in progress
(spec/08_tallies_bells_channels.md R264, R301). -/
structure State.issues (s : State) (tile : Nat) (e : Engine) : Prop where
  place : s.hasTile tile = true
  ready : s.ready (tileDie tile) = true
  running : (s.tile tile).engine e = .running
  given : (s.tile tile).reassign = none

/-- Nothing of a tile awaits its next tally boundary but the queued operations and, where one is named, the wait of engine `e`: no other
engine waits, no WAITT, no bell about to complete or to add, no register access. -/
structure Tile.calm (T : Tile) (e : Option Engine) : Prop where
  engines : ∀ f, some f ≠ e → T.engine f = .running ∨ T.engine f = .stopped
  chans : ∀ n, n < 8 → (T.chan n).waitTally = false
  bells : ∀ b, b < 8 → (T.bell b).mask = 0 ∨ (T.bell b).arrived ≠ (T.bell b).mask
  adds : T.bellAdds = []
  busy : T.regBusy = none
  first : T.regWait = []

/-- The command may store in a bank, or poison a row by reading it; a register access may be one of the bank test, and a command that
ends what a register access waits for performs it. -/
def reachesBanks : Instr → Bool
  | .startupInitialState _ => true
  | .sliceReset _ _ => true
  | .supplyReset _ => true
  | .diePowerOff _ => true
  | .monitorCrossing _ _ _ => true
  | .bankReadComplete _ _ _ _ => true
  | .bankWriteCommit _ _ => true
  | .mergeFlushCommit _ _ _ _ _ => true
  | .deedEffectPoint _ => true
  | .rotationEffectPoint _ => true
  | .sweepEnd _ _ => true
  | .registerBusAccess _ _ _ _ _ => true
  | .regwrite _ _ => true
  | .tallyBoundary _ => true
  | .reassignmentComplete _ => true
  | .gleanerBeat _ _ _ _ => true
  | .writepar _ _ _ => true
  | .check _ _ _ _ _ => true
  | .marchEnd _ _ => true
  | .registerWrite _ _ _ => true
  | _ => false

/-- The outcome is a next state. -/
def goesOn (r : Result) : Prop := ∃ t, r = .next t

/-- The rows, poison bits and valid bits of the banks are in their one canonical form: keys strictly rising. -/
structure State.canonical (s : State) : Prop where
  mem : s.mem.wf
  poison : Keys.wf s.poison
  valid : Keys.wf s.valid

end Sys2Proof.Machine
end

