-- ==== Sys2Proof/WellFormed.lean ====
section
/-!
DEFINITION. Well-formed commands: every operand names a place that Glirik can have (spec/01_architecture.md R17 to R19;
spec/13_registers.md, Reaching a register).
-/

namespace Sys2Proof

/-- A global tile number has 11 bits (spec/00_scope.md R8). -/
def okTile (t : Nat) : Bool := t < 2048
/-- A die number has 3 bits. -/
def okDie (d : Nat) : Bool := d < 8
/-- One of the 8 channels, bells or gates of a tile. -/
def okChan (n : Nat) : Bool := n < 8
/-- One of 16 banks, households, endpoints or receivers. -/
def okBank (b : Nat) : Bool := b < 16

/-- A source that Glirik can have. -/
def okSrc : Src → Bool
  | .sc t => okTile t
  | .st t n => okTile t && okChan n
  | .host d fn => okDie d && fn < 256

/-- A request that a master can make. -/
def okReq : BankReq → Bool
  | .core m _ off size write beats qos data =>
    (match m with | .mx | .vx | .test => true | .sc => !write && beats == 1 | .st | .nw => false) &&
    1 ≤ beats && beats ≤ 16 && off + beats * size ≤ 2 ^ 20 && qos < 8 && data.length == (if write then beats * size / 64 else 0)
  | .nw _ => true

/-- The command is well formed. -/
def Instr.wellFormed : Instr → Bool
  | .supplyGood die => okDie die
  | .settlingDelayExpiry die => okDie die
  | .bookCheck die => okDie die
  | .repairMapLoad die => okDie die
  | .startupInitialState die => okDie die
  | .sliceReset die cause => okDie die && 1 ≤ cause && cause ≤ 5
  | .supplyReset die => okDie die
  | .srst w die _ => okSrc w && okDie die
  | .diePowerOff die => okDie die
  | .linkTraining die port _ => okDie die && port < 8
  | .monitorCrossing die _ _ => okDie die
  | .forceLapse w die _ => okSrc w && okDie die
  | .lapseEnd die => okDie die
  | .bankRequest tile rq => okTile tile && okReq rq
  | .bankBeat tile bank => okTile tile && okBank bank
  | .bankReadComplete tile _ _ _ => okTile tile
  | .bankWriteCommit tile _ => okTile tile
  | .narrowWrite tile off _ _ qos => okTile tile && off < 2 ^ 20 && qos < 8
  | .mergeIdleFlush tile bank row => okTile tile && okBank bank && row < 1024
  | .mergeFlushCommit tile bank row _ _ => okTile tile && okBank bank && row < 1024
  | .deedWrite w tile bank _ => okSrc w && okTile tile && okBank bank
  | .commonsWrite w tile _ => okSrc w && okTile tile
  | .deedAdmissionStop tile => okTile tile
  | .deedEffectPoint tile => okTile tile
  | .rotateGo w tile _ => okSrc w && okTile tile
  | .rotationEffectPoint tile => okTile tile
  | .sliceRotateGo w die _ => okSrc w && okDie die
  | .tileRotateRequest tile => okTile tile
  | .sliceRotateDone die => okDie die
  | .retireBank w tile _ => okSrc w && okTile tile
  | .sweep w tile _ => okSrc w && okTile tile
  | .sweepEnd tile bank => okTile tile && (bank == 14 || bank == 15)
  | .remapWrite w tile _ => okSrc w && okTile tile
  | .laneFlit _ => true
  | .sliceMatrixGrant die target => okDie die && target < 76
  | .holdbackRelease die _ => okDie die
  | .bridgeSlotAdmit die port => okDie die && port < 8
  | .defaultTarget w die _ => okSrc w && okDie die
  | .decerrRearm w die _ => okSrc w && okDie die
  | .registerBusAccess w _ _ _ _ => okSrc w
  | .arbiterDecision tile arb => okTile tile && arb ≤ 20
  | .deadlineAdmission tile _ => okTile tile
  | .lockAcquire w tile _ => okSrc w && okTile tile
  | .lockRelease w tile _ => okSrc w && okTile tile
  | .coreReset tile => okTile tile
  | .coreResetNotice tile core => okTile tile && okTile core
  | .watchdogBite tile res => okTile tile && res ≤ 16
  | .watchdogLockBite tile bank => okTile tile && okBank bank
  | .quarRelease w tile _ => okSrc w && okTile tile
  | .wdogIntervalWrite w tile _ => okSrc w && okTile tile
  | .en w tile chan _ => okSrc w && okTile tile && okChan chan
  | .arm w tile chan => okSrc w && okTile tile && okChan chan
  | .go w tile chan => okSrc w && okTile tile && okChan chan
  | .resume w tile chan => okSrc w && okTile tile && okChan chan
  | .skip w tile chan => okSrc w && okTile tile && okChan chan
  | .abort w tile chan => okSrc w && okTile tile && okChan chan
  | .dringTailWrite w tile chan _ => okSrc w && okTile tile && okChan chan
  | .descriptorFetched tile chan => okTile tile && okChan chan
  | .burstSelect tile => okTile tile
  | .burstIssue tile chan => okTile tile && okChan chan
  | .windowLookupReturn tile _ => okTile tile
  | .remoteResponse tile _ _ _ => okTile tile
  | .readbackReturn tile _ _ => okTile tile
  | .descriptorComplete tile chan => okTile tile && okChan chan
  | .channelHalt tile chan => okTile tile && okChan chan
  | .nop tile chan => okTile tile && okChan chan
  | .copy tile chan => okTile tile && okChan chan
  | .gather tile chan => okTile tile && okChan chan
  | .scatter tile chan => okTile tile && okChan chan
  | .multicast tile chan => okTile tile && okChan chan
  | .convert tile chan => okTile tile && okChan chan
  | .fill tile chan => okTile tile && okChan chan
  | .regwrite tile chan => okTile tile && okChan chan
  | .waitt tile chan => okTile tile && okChan chan
  | .signal tile chan => okTile tile && okChan chan
  | .indexReadReturn tile _ _ => okTile tile
  | .slotFilled tile chan => okTile tile && okChan chan
  | .slotRingResample tile chan => okTile tile && okChan chan
  | .ringProbe tile _ => okTile tile
  | .ringProbeRetry tile chan => okTile tile && okChan chan
  | .slotReadback tile _ => okTile tile
  | .mcCredit tile chan receiver => okTile tile && okChan chan && okBank receiver
  | .mcReadback tile _ => okTile tile
  | .mcStall tile chan => okTile tile && okChan chan
  | .extRequest die port _ => okDie die && port < 3
  | .extResponse die port _ _ _ _ => okDie die && port < 3
  | .titheTokenAdd die port hh _ => okDie die && port < 3 && okBank hh
  | .titheWrite w die hh _ => okSrc w && okDie die && okBank hh
  | .extControllerReadyChange die port _ => okDie die && port < 3
  | .stripeSend die port => okDie die && port < 8
  | .stripeReceived die port _ => okDie die && port < 8
  | .stripeNak die port ack => okDie die && port < 8 && ack < 256
  | .stripeAck die port ack => okDie die && port < 8 && ack < 256
  | .linkDown die port => okDie die && port < 8
  | .linkDownNotice die => okDie die
  | .ringRoute die _ => okDie die
  | .routeWrite w die t _ => okSrc w && okDie die && t < 8
  | .nwRequest tile _ => okTile tile
  | .gateOpen w tile gate _ => okSrc w && okTile tile && okChan gate
  | .gateClose w tile gate _ => okSrc w && okTile tile && okChan gate
  | .gateClosedDone tile gate => okTile tile && okChan gate
  | .gateForcedClose tile gate => okTile tile && okChan gate
  | .add tile _ t _ => okTile tile && t < 48
  | .waitGe tile _ t _ => okTile tile && t < 48
  | .waitDec tile _ t => okTile tile && t < 48
  | .dec tile _ t => okTile tile && t < 48
  | .fence tile _ => okTile tile
  | .fenceEnd tile _ => okTile tile
  | .arrive tile _ bell => okTile tile && okChan bell
  | .waitBell tile _ bell gen => okTile tile && okChan bell && gen < 4096
  | .arriveWait tile _ bell => okTile tile && okChan bell
  | .tallyBoundary tile => okTile tile
  | .tallyWrite w tile t _ => okSrc w && okTile tile && t < 48
  | .tallyModeWrite w tile word _ => okSrc w && okTile tile && word < 2
  | .bellArriveWrite w tile bell => okSrc w && okTile tile && okChan bell
  | .bellForce w tile bell => okSrc w && okTile tile && okChan bell
  | .still tile => okTile tile
  | .send tile _ src _ target endpoint qos => okTile tile && src < 2 ^ 20 && okTile target && okBank endpoint && qos < 8
  | .messageArrival tile _ => okTile tile
  | .sendRetry tile _ => okTile tile
  | .sendStatus tile _ => okTile tile
  | .recv tile _ endpoint => okTile tile && okBank endpoint
  | .pop tile _ endpoint => okTile tile && okBank endpoint
  | .endpointOpen w tile endpoint _ => okSrc w && okTile tile && okBank endpoint
  | .endpointClose w tile endpoint _ => okSrc w && okTile tile && okBank endpoint
  | .reassignment w die index _ => okSrc w && okDie die && index < 32
  | .reassignmentComplete tile => okTile tile
  | .bind w _ => okSrc w
  | .unbind w _ => okSrc w
  | .unbindFinish => true
  | .unboundClr w die _ => okSrc w && okDie die
  | .hostRequest die fn _ size write data => okDie die && fn < 256 && data.length == (if write then (size + 63) / 64 else 0)
  | .doorbellArrival die fn _ _ _ => okDie die && fn < 256
  | .doorbellRelease die hh => okDie die && okBank hh
  | .doorbellTail tile _ => okTile tile
  | .doorbellGo tile _ => okTile tile
  | .doorstepWrite die fn _ length _ data => okDie die && fn < 256 && 0 < length && data.length == (length + 63) / 64
  | .completionRecordWrite die hh => okDie die && okBank hh
  | .completionRecordFail die hh => okDie die && okBank hh
  | .cringEnWrite w die hh _ => okSrc w && okDie die && okBank hh
  | .retry w die hh => okSrc w && okDie die && okBank hh
  | .cringHeadWrite w die hh _ => okSrc w && okDie die && okBank hh
  | .interruptMessage die hh vector => okDie die && okBank hh && vector < 8
  | .irqEnableWrite w die hh _ => okSrc w && okDie die && okBank hh
  | .captureRecord die _ => okDie die
  | .captureRecordWrite die _ => okDie die
  | .captureEnWrite w die _ => okSrc w && okDie die
  | .rerunPresent die _ _ => okDie die
  | .gleanerBeat tile bank _ _ => okTile tile && okBank bank
  | .writepar w tile _ => okSrc w && okTile tile
  | .readraw w tile _ => okSrc w && okTile tile
  | .check w tile _ _ _ => okSrc w && okTile tile
  | .marchCMinus w tile _ => okSrc w && okTile tile
  | .transparentMarch w tile _ => okSrc w && okTile tile
  | .marchEnd tile _ => okTile tile
  | .remapRowWrite w tile index _ => okSrc w && okTile tile && index < 32
  | .bookAppend die ring => okDie die && ring < 2
  | .bookRecordDrop die ring => okDie die && ring < 2
  | .read w die _ => okSrc w && okDie die
  | .mapadd w die _ => okSrc w && okDie die
  | .mapclear w die _ => okSrc w && okDie die
  | .init w die _ => okSrc w && okDie die
  | .bookCommandEnd die => okDie die
  | .bookAck w die _ => okSrc w && okDie die
  | .bookSpace4Read w die _ _ _ => okSrc w && okDie die
  | .startWordWrite w die _ => okSrc w && okDie die
  | .registerWrite w _ _ => okSrc w
  | .engineStopped tile _ _ => okTile tile

end Sys2Proof
end

