-- ==== Sys2Proof/Certificates/Slice0/Obligations.lean ====
section
/-!
DEFINITION. The statements about the model, one for each group of commands and rules of spec/. A statement says what `exec` answers: its
hypotheses are on the state and the operands alone, and it holds in every state that meets them, reached by a run or not.
-/

open Sys2Proof Sys2Proof.Machine Host

/-! ## The whole machine -/

/-- A step runs the command at the front of the queue on the state with the rest of the queue. On an empty queue a step
lets the model's clock go on and changes nothing else (the model's own choice, notes/assumptions/3.md). -/
def Obligations.StepRunsFrontCommand : Prop :=
  (∀ (s : State) (c : Instr) (rest : List Instr), s.pending = c :: rest → step s = exec c { s with pending := rest }) ∧
  (∀ s : State, s.pending = [] → step s = .next { s with ticks := s.ticks + 1 })

/-- The reset state keeps the canonical form, which is the model's own (notes/assumptions/8.md). -/
def Obligations.ResetIsCanonical : Prop := State.reset.canonical

/-- Every register of a tile block reads 0 at reset, except those of the table of R403: TL_ID by its tile, TL_WDOG, the third word of each
gate, the bells, TL_WM and ST_MC_STALL. Every register of a slice block reads 0 at reset, except SLC_ID and SLC_CFG, which are constants or
current, the words that are backed by the book, SLC_HH_BIND[0], and the SLC_ROUTE entries of the dies of the package other than its own. The
state after reset is that of a YX2 before step 1 (notes/assumptions/1.md, 2.md). -/
def Obligations.RegistersAtReset : Prop :=
  (∀ (w : Src) (tile off : Nat), tile < 2048 → off < 0x1000 → off % 4 = 0 →
     State.reset.tileRead w tile off =
       if off = 0x000 then BitVec.ofNat 32 tile
       else if 0x100 ≤ off ∧ off < 0x180 ∧ off % 16 = 8 then 0x00020000
       else if 0x300 ≤ off ∧ off < 0x320 then 0x00003F00
       else if off = 0x340 then 0x00000003
       else if off = 0x800 then 0x00000800
       else if off = 0x904 then 0x00002000
       else 0) ∧
  (∀ d off : Nat, d < 2 → off < 0x10000 → off % 4 = 0 → off ≠ 0x0000 → off ≠ 0x0004 → off ≠ 0x0018 → ¬(0x0300 ≤ off ∧ off < 0x0380) →
     State.reset.sliceRead d off =
       if off = 0x0040 then 0x00000100
       else if off = 0x01A0 ∧ d = 1 ∨ off = 0x01A4 ∧ d = 0 then 0x000000F0
       else 0)

/-- No command changes the package or the queue (the model's own form); the queue is the step's alone. -/
def Obligations.CommandsKeepQueueAndPackage : Prop :=
  ∀ (c : Instr) (s t : State), exec c s = .next t → t.pending = s.pending ∧ t.pkg = s.pkg

/-- From every state in canonical form (notes/assumptions/8.md), a step leads to a state in canonical form. -/
def Obligations.StepKeepsCanonicalForm : Prop :=
  ∀ s t : State, s.canonical → step s = .next t → t.canonical

/-- Every command goes on, whatever its operands and whatever the state: none stops with a fault, and none is refused. That one which names a
place the package does not hold goes on unchanged is the model's choice (notes/assumptions/85.md). -/
def Obligations.EveryCommandGoesOn : Prop := ∀ (c : Instr) (s : State), goesOn (exec c s)

/-- The commands that store nothing in a bank leave every stored row, poison bit and valid bit of the package as it was. -/
def Obligations.OtherCommandsLeaveBanks : Prop :=
  ∀ (c : Instr) (s t : State), reachesBanks c = false → exec c s = .next t →
    t.mem = s.mem ∧ t.poison = s.poison ∧ t.valid = s.valid

/-- A write of a tile register changes no other tile, no other slice and not the book, a write of a slice register no other slice and not the
book: but for the tile and the slice of the writer, where one that does not come by the local path sets out. -/
def Obligations.WritesStayInTheirBlock : Prop :=
  (∀ (s t : State) (w : Src) (tile k : Nat) (v : Word) (x y : ByteMask) (c : Instr),
    c ∈ [.deedWrite w tile k v, .commonsWrite w tile v, .rotateGo w tile v, .retireBank w tile v, .sweep w tile v, .remapWrite w tile v,
      .lockAcquire w tile v, .lockRelease w tile v, .quarRelease w tile v, .wdogIntervalWrite w tile v, .en w tile k v, .arm w tile k,
      .go w tile k, .resume w tile k, .skip w tile k, .abort w tile k, .dringTailWrite w tile k v, .gateOpen w tile k v,
      .gateClose w tile k v, .tallyWrite w tile k v, .tallyModeWrite w tile k v, .bellArriveWrite w tile k, .bellForce w tile k,
      .endpointOpen w tile k v, .endpointClose w tile k v, .writepar w tile v, .readraw w tile v, .check w tile v x y,
      .marchCMinus w tile v, .transparentMarch w tile v, .remapRowWrite w tile k v] → exec c s = .next t →
    (∀ g, g ≠ tile → srcTile w ≠ some g → t.tile g = s.tile g) ∧
    (∀ e, e ≠ tileDie tile → e ≠ srcDie w → t.slice e = s.slice e) ∧ t.book = s.book) ∧
  (∀ (s t : State) (w : Src) (d k : Nat) (v : Word) (c : Instr),
    c ∈ [.srst w d v, .forceLapse w d v, .sliceRotateGo w d v, .decerrRearm w d v, .titheWrite w d k v, .routeWrite w d k v,
      .unboundClr w d v, .cringEnWrite w d k v, .retry w d k, .cringHeadWrite w d k v, .irqEnableWrite w d k v, .captureEnWrite w d v] →
    exec c s = .next t → (∀ e, e ≠ d → e ≠ srcDie w → t.slice e = s.slice e) ∧ t.book = s.book)

/-! ## Start-up, resets, lapse -/

/-- The start-up sequence: step 1 powers the die and starts link training; the settling delay leads to step 4 with a new start number and
the pace meters at 0; step 4 counts BOOT, loads SLC_START and clears the cause latch; step 5 leads to the march if START asks for it; steps
7 to 9 clear every valid bit and raise READY. -/
def Obligations.StartUpSequence : Prop :=
  (∀ (s : State) (d : Nat), s.hasDie d = true → (s.slice d).step = 0 →
    ∃ t : State, exec (.supplyGood d) s = .next t ∧ (t.slice d).power = true ∧ (t.slice d).step = 1 ∧ (t.slice d).linkTrain = 0xFF ∧
      710 ≤ (t.slice d).mv ∧ ((s.slice d).power = false → Tbl.get 0 s.book.cause d = 0 → Tbl.get 0 t.book.cause d = 1)) ∧
  (∀ (s : State) (d : Nat), s.hasDie d = true → (s.slice d).step = 1 →
    ∃ t : State, exec (.settlingDelayExpiry d) s = .next t ∧ (t.slice d).step = 4 ∧ (t.slice d).epoch = (s.slice d).epoch + 1 ∧
      (t.slice d).paceFrom = some s.ticks) ∧
  (∀ (s : State) (d : Nat), s.hasDie d = true → s.live d = true → (s.slice d).step = 4 →
    (s.book.a.good = true ∨ s.book.b.good = true) → s.book.cur.gen.toNat + 1 < 2 ^ 32 →
    ∃ t : State, exec (.bookCheck d) s = .next t ∧ (t.slice d).step = 5 ∧ (t.slice d).start = s.book.cur.startOf d ∧
      t.book.cur.bootOf d = satInc (s.book.cur.bootOf d) ∧ Tbl.get 0 t.book.cause d = 0) ∧
  (∀ (s : State) (d : Nat), s.hasDie d = true → s.live d = true → (s.slice d).step = 5 →
    ∃ t : State, exec (.repairMapLoad d) s = .next t ∧ (t.slice d).step = (if bit (s.slice d).start 0 then 6 else 7) ∧
      ((t.slice d).mapErr = true ↔ (s.slice d).mapErr = true ∨ s.book.crcOf s.book.cur.mapCount ≠ s.book.cur.mapCrc)) ∧
  (∀ (s : State) (d : Nat), s.hasDie d = true → s.live d = true → ((s.slice d).step = 6 ∨ (s.slice d).step = 7) →
    ∃ t : State, exec (.startupInitialState d) s = .next t ∧ t.ready d = true ∧
      ∀ g b r, tileDie g = d → (b = 14 ∨ b = 15) → r < 1024 → t.unswept g b r = true)

/-- The slice resets: POWER, SUPPLY and the other causes, each latched if no cause is; every register of the slice and of its tiles takes
its reset value, no row of its banks is left as written, and start-up begins again. A write of SRST asks for one with its key, and is
answered DEED from another household. The level that the monitors hold after a supply reset is the model's (notes/assumptions/10.md). -/
def Obligations.SliceResets : Prop :=
  (∀ (s : State) (d cause : Nat), s.hasDie d = true → (cause = 1 ∨ (s.slice d).power = true ∧ (cause = 2 ∨ cause = 5 ∨ cause = 3 ∧ (s.slice d).srst = true)) →
    ∃ t : State, exec (.sliceReset d cause) s = .next t ∧ (t.slice d).power = true ∧ (t.slice d).step = 0 ∧ (t.slice d).tiles = [] ∧
      (t.slice d).base = {} ∧ (t.slice d).crings = [] ∧ (t.slice d).irqs = [] ∧
      (∀ g b p, tileDie g = d → b < 16 → p < 1040 → Tbl.find t.mem (rowKey g b p) = none) ∧
      (Tbl.get 0 s.book.cause d = 0 → Tbl.get 0 t.book.cause d = cause)) ∧
  (∀ (s : State) (d : Nat), s.hasDie d = true →
    exec (.sliceReset d 4) s = .next ((List.range s.dies).foldl (fun t e => t.resetSlice e 4) s)) ∧
  (∀ (s : State) (d : Nat), s.hasDie d = true → (s.slice d).power = true →
    ∃ t : State, exec (.supplyReset d) s = .next t ∧ (t.slice d).step = 0 ∧ (t.slice d).tiles = [] ∧ (t.slice d).mv ≤ 639 ∧
      (Tbl.get 0 s.book.cause d = 0 → Tbl.get 0 t.book.cause d = 2)) ∧
  (∀ (s : State) (d : Nat), s.hasDie d = true → (s.slice d).power = true →
    ∃ t : State, exec (.diePowerOff d) s = .next t ∧ (t.slice d).power = false ∧ (t.slice d).step = 0 ∧ (t.slice d).tiles = [] ∧
      t.live d = false) ∧
  (∀ (s : State) (w : Src) (d : Nat) (v : Word), s.sliceTakes w d 0x0010 v →
    exec (.srst w d v) s =
      if s.isManager w = false then .next (s.sliceAnswered s w d 0x0010 v .deed)
      else if bit v 0 = true ∧ bits v 8 8 = 0xA5 then
        .next (s.sliceAnswered (s.modSlice d (fun S => { S with srst := true })) w d 0x0010 v .ok)
      else .next (s.sliceAnswered s w d 0x0010 v (if bit v 0 then .deed else .ok)))

/-- Lapse: monitors that show a cause put a slice that stands past step 2 into lapse, with STICKY and the causes set; FORCE does as they do.
The clear count runs from the pace at which nothing holds it at 0; once it has reached 4096 paces and nothing bounded is outstanding, lapse
ends, and not before. Below 0.64 V the slice resets. -/
def Obligations.LapseEntryAndEnd : Prop :=
  (∀ (s : State) (d mv : Nat) (degC : Int), s.hasDie d = true → s.live d = true → 640 ≤ mv →
    ∃ t : State, exec (.monitorCrossing d mv degC) s = .next t ∧ (t.slice d).mv = mv ∧ (t.slice d).degC = degC ∧
      (t.slice d).lpClear = (if 710 ≤ mv ∧ mv ≤ 790 ∧ 2 ≤ degC ∧ degC ≤ 103 ∧ (s.slice d).lpForce = false
        then some ((s.slice d).lpClear.getD (s.paceNat (256 * d))) else none) ∧
      ((t.slice d).lpActive = true ↔ (s.slice d).lpActive = true ∨ mv < 700 ∨ 800 < mv ∨ 105 < degC ∨ degC < 0 ∨ (s.slice d).lpForce = true) ∧
      ((s.slice d).lpActive = false → (t.slice d).lpActive = true → (t.slice d).lpSticky = true ∧
        ((t.slice d).lpCS = true ↔ mv < 700 ∨ 800 < mv) ∧ ((t.slice d).lpCT = true ↔ 105 < degC ∨ degC < 0) ∧
        (t.slice d).lpCF = (s.slice d).lpForce ∧ (t.slice d).lpCount = satInc (s.slice d).lpCount)) ∧
  (∀ (s : State) (d mv : Nat) (degC : Int), s.hasDie d = true → (s.slice d).power = true → mv < 640 →
    ∃ t : State, exec (.monitorCrossing d mv degC) s = .next t ∧ (t.slice d).step = 0 ∧ (t.slice d).mv = mv) ∧
  (∀ (s : State) (w : Src) (d : Nat) (v : Word), s.sliceTakes w d 0x0028 v → s.isManager w = true →
    exec (.forceLapse w d v) s = .next (s.sliceAnswered ((s.modSlice d (fun S => { S with lpForce := bit v 0 })).lapseLevel d) w
      d 0x0028 v .ok)) ∧
  (∀ (s : State) (d : Nat), s.hasDie d = true → s.live d = true → (s.slice d).lpActive = true → (s.slice d).clear = true →
    (∃ k, (s.slice d).lpClear = some k ∧ k + 4096 ≤ s.paceNat (256 * d)) → s.lapseDrained d = true →
    ∃ t : State, exec (.lapseEnd d) s = .next t ∧ (t.slice d).lpActive = false ∧ (t.slice d).lpSticky = (s.slice d).lpSticky ∧
      (t.slice d).lpCount = (s.slice d).lpCount) ∧
  (∀ (s : State) (d : Nat), (∀ k, (s.slice d).lpClear = some k → s.paceNat (256 * d) < k + 4096) → exec (.lapseEnd d) s = .next s)

/-! ## Banks, the merge buffer and deeds -/

/-- A request of an engine that passes every check of the tile matrix is admitted at its banks: into the request register of an owned bank, or
unacknowledged behind it where that is full, or raised at the arbiter of a commons bank. One that the deeds of a pending operation will allow
is held; one that its deeds refuse is answered DEED and counted; and nothing else of the tile or of any bank changes. An access granted at the
NW port goes on to its bank. A bank starts the beat of the access that its owner's request register or its arbiter holds ready, if no beat of
it is in progress, and its request register takes the owner's next request. -/
def Obligations.BanksServeRequests : Prop :=
  (∀ (s : State) (tile : Nat) (m : Master) (v : View) (off size : Nat) (write : Bool) (beats qos : Nat) (data : List RowData),
    let a := s.newAccess m v write off size beats qos data (s.issuer (.sc tile)) .port .waiting
    s.hasTile tile = true → s.ready (tileDie tile) = true → coreShape m off size write beats data = true → qos < 8 →
    (s.tile tile).reassign = none → (s.tile tile).quarantined m = false → alignOk m v off size write = true →
    ¬(m = .sc ∧ off < 0x4000 ∧ (s.tile tile).remap = false) → (s.tile tile).bufferHit a = false →
    ((s.tile tile).deedCheck m a.banks = .allow →
      exec (.bankRequest tile (.core m v off size write beats qos data)) s =
        .next (s.takeId.modTile tile (fun T => { T with accs := (T.dropAcc a.id).accs ++ [
          if T.direct a = false then { a with since := s.paceNat tile }
          else if T.regFull a = true then { a with stage := .queued }
          else { a with lapse := s.lapsed tile, since := s.paceNat tile }] }))) ∧
    ((s.tile tile).deedCheck m a.banks = .hold →
      exec (.bankRequest tile (.core m v off size write beats qos data)) s =
        .next (s.takeId.modTile tile (fun T => { T with accs := (T.dropAcc a.id).accs ++ [{ a with stage := .held, since := s.paceNat tile }] }))) ∧
    ((s.tile tile).deedCheck m a.banks = .refuse →
      exec (.bankRequest tile (.core m v off size write beats qos data)) s =
        .next (((s.takeId.modTile tile Tile.countDeed).modTile tile (fun T => T.dropAcc a.id)).emit
          (.access tile m a.id .deed [] (s.slice (tileDie tile)).lpActive false)))) ∧
  (∀ (s : State) (tile id : Nat) (a : Access), s.hasTile tile = true → s.live (tileDie tile) = true →
    (s.tile tile).acc id = some a → a.stage = .portGranted →
    exec (.bankRequest tile (.nw id)) s = .next (s.reach tile a)) ∧
  (∀ (s : State) (tile bank : Nat) (a : Access), s.hasTile tile = true → s.live (tileDie tile) = true →
     (s.tile tile).nextBeat bank = some a → (s.tile tile).beatBusy a = false →
     exec (.bankBeat tile bank) s = .next ((s.modTile tile (fun T => T.modAcc a.id (fun a =>
       { a with stage := .beat, since := if a.stage = .granted then a.since else s.paceNat tile }))).promote tile))

/-- A 64 B write of one beat that commits stores its row with computed parity at the row's place, clears its poison bit, sets its valid bit
in a swept bank, and answers OK; no other row of any bank changes. -/
def Obligations.WriteCommitStoresRow : Prop :=
  ∀ (s : State) (tile id : Nat) (a : Access) (x : RowData), s.hasTile tile = true → s.live (tileDie tile) = true →
    (s.tile tile).acc id = some a → a.id = id → a.stage = .beat → a.write = true → a.size = 64 → a.beats = 1 → a.done = 0 →
    a.dest = .port → a.badAt = none → a.rom = false → a.data = [x] →
    let b := viewBank a.view a.off
    let r := viewRow a.view a.off
    let p := (s.tile tile).physRow b r
    ∃ t : State, exec (.bankWriteCommit tile id) s = .next t ∧
      t.stored tile b p = mkRow x ∧ t.poisoned tile b p = false ∧ (14 ≤ b → t.unswept tile b r = false) ∧
      (∀ g c q, rowKey g c q ≠ rowKey tile b p → t.stored g c q = s.stored g c q ∧ (t.poisoned g c q ↔ s.poisoned g c q)) ∧
      t.out = s.out ++ [Output.access tile a.master id .ok [] (a.l || (s.slice (tileDie tile)).lpActive) a.demoted] ∧
      (t.tile tile).accs = (s.tile tile).accs.filter (fun k => k.id != id)

/-- What a read of a row gives: zeros where the valid bit of a swept row is 0; UNCORR where the row is poisoned, with nothing counted or
recorded; the data where a check finds every parity bit right; the data, with a corrected event counted, where the replay's check does; and
otherwise UNCORR with the row poisoned. -/
def Obligations.RowReadOutcomes : Prop :=
  ∀ (s : State) (tile bank row master : Nat) (iss : Option Issuer) (u1 u2 : ByteMask),
    let p := (s.tile tile).physRow bank row
    let k := missMask (s.stored tile bank p)
    let x := s.readRow tile bank row master iss u1 u2
    (s.unswept tile bank row = true → x = (s, .ok, 0)) ∧
    (s.unswept tile bank row = false →
      (s.poisoned tile bank p = true → x = (s, .uncorr, 0)) ∧
      (s.poisoned tile bank p = false →
        (k ^^^ u1 = 0 → x = (s, .ok, (s.stored tile bank p).data)) ∧
        (k ^^^ u1 ≠ 0 → k ^^^ u2 = 0 → x.2 = (.ok, (s.stored tile bank p).data) ∧
          (x.1.tile tile).replays = satInc (s.tile tile).replays ∧ x.1.poison = s.poison) ∧
        (k ^^^ u1 ≠ 0 → k ^^^ u2 ≠ 0 → x.2.1 = .uncorr ∧ x.1.poisoned tile bank p = true ∧
          (x.1.tile tile).poisons = satInc (s.tile tile).poisons)))

/-- The last beat of a read that finds its row right answers OK with the row, at the issuer's port. -/
def Obligations.ReadCompleteReturnsRow : Prop :=
  ∀ (s : State) (tile id : Nat) (a : Access) (u1 u2 : List ByteMask), s.hasTile tile = true → s.live (tileDie tile) = true →
    (s.tile tile).acc id = some a → a.id = id → a.stage = .beat → a.write = false → a.size = 64 → a.beats = 1 → a.done = 0 →
    a.dest = .port → a.badAt = none → a.rom = false → a.data = [] → a.master ≠ .sc → (s.tile tile).sends = [] →
    let b := viewBank a.view a.off
    let r := viewRow a.view a.off
    let p := (s.tile tile).physRow b r
    s.unswept tile b r = false → s.poisoned tile b p = false → missMask (s.stored tile b p) ^^^ u1.headD 0 = 0 →
    exec (.bankReadComplete tile id u1 u2) s =
      .next ((s.modTile tile (fun T => T.dropAcc id)).emit
        (.access tile a.master id .ok [(s.stored tile b p).data] (a.l || (s.slice (tileDie tile)).lpActive) a.demoted))

/-- Narrow writes merge in the buffer: one that its deed allows joins its row's entry, or opens one where an entry is free or can be evicted,
and is answered OK, with its bytes in the entry's image and every byte that the entry held kept; 64 paces without a write into it, and no
fewer, start the flush of an entry, into a commons bank as a request at the arbiter; and a flush that may commit writes its row: whole from a
fully valid entry, otherwise merged into what its read gave, and its entry is gone. -/
def Obligations.MergeBufferWrites : Prop :=
  (∀ (s : State) (tile off size : Nat) (data : BitVec 64) (qos : Nat), s.hasTile tile = true → s.ready (tileDie tile) = true → qos < 8 →
    (s.tile tile).reassign = none → (s.tile tile).quarantined .sc = false →
    (size = 1 ∨ size = 2 ∨ size = 4 ∨ size = 8) → off % size = 0 → off < 2 ^ 20 → (0x4000 ≤ off ∨ (s.tile tile).remap = true) →
    let b := viewBank .bank off
    let r := viewRow .bank off
    let m := bytesMask (off % 64) size
    let x : RowData := data.zeroExtend 512 <<< (8 * (off % 64))
    (s.tile tile).deedCheck .sc [b] = .allow →
    ((∃ e, e ∈ (s.tile tile).merge ∧ e.bank = b ∧ e.row = r ∧ e.flushing = false) ∨
      (∀ e, e ∈ (s.tile tile).merge → ¬(e.bank = b ∧ e.row = r)) ∧ (s.tile tile).room b ≠ .wait) →
    ∃ t : State, exec (.narrowWrite tile off size data qos) s = .next t ∧
      t.out = s.out ++ [Output.access tile .sc s.nextId .ok [] (s.lapsed tile) false] ∧
      t.mem = s.mem ∧ t.poison = s.poison ∧ t.valid = s.valid ∧
      (∃ k, k ∈ (t.tile tile).merge ∧ k.bank = b ∧ k.row = r ∧
        (match (s.tile tile).merge.find? (fun e => e.bank == b && e.row == r && !e.flushing) with
          | some e => k.image = mergeRow m x e.image ∧ k.mask = e.mask ||| m ∧ k.qos = max e.qos qos
          | none => k.image = mergeRow m x 0 ∧ k.mask = m ∧ k.qos = qos))) ∧
  (∀ (s : State) (tile bank row : Nat) (e : MergeEntry), s.hasTile tile = true → s.live (tileDie tile) = true →
    (s.tile tile).merge.find? (fun e => e.bank == bank && e.row == row && !e.flushing) = some e →
    (s.paceNat tile < e.since + 64 → exec (.mergeIdleFlush tile bank row) s = .next s) ∧
    (e.since + 64 ≤ s.paceNat tile →
      ∃ t : State, exec (.mergeIdleFlush tile bank row) s = .next t ∧
        (t.tile tile).merge = updWhere (fun k => k.bank == bank && k.row == row && !k.flushing)
          (fun k => { k with flushing := true, evicted := false, flushAt := s.nextId }) (s.tile tile).merge ∧
        ((s.tile tile).ownerOf bank = 6 → (s.tile tile).stopped bank = false → (s.tile tile).reassign = none →
          ∃ a, (t.tile tile).accs = (s.tile tile).accs ++ [a] ∧ a.dest = .flush bank row ∧ a.master = .sc ∧ a.qos = e.qos ∧ a.stage = .waiting ∧
            a.beats = if e.mask = BitVec.allOnes 64 then 1 else 2) ∧
        ((s.tile tile).ownerOf bank ≠ 6 → (t.tile tile).accs = (s.tile tile).accs))) ∧
  (∀ (s : State) (tile bank row : Nat) (e : MergeEntry) (u1 u2 : ByteMask), s.hasTile tile = true → s.live (tileDie tile) = true →
    bank < 16 → row < 1024 → (s.tile tile).flushReady bank row = true →
    (s.tile tile).merge.find? (fun e => e.bank == bank && e.row == row && e.flushing) = some e →
    let p := (s.tile tile).physRow bank row
    let y := s.readRow tile bank row 3 none u1 u2
    (e.mask = BitVec.allOnes 64 →
      ∃ t : State, exec (.mergeFlushCommit tile bank row u1 u2) s = .next t ∧ t.stored tile bank p = mkRow e.image ∧
        t.poisoned tile bank p = false ∧ (14 ≤ bank → t.unswept tile bank row = false) ∧
        ∀ g c q, rowKey g c q ≠ rowKey tile bank p → t.stored g c q = s.stored g c q) ∧
    (e.mask ≠ BitVec.allOnes 64 → (∀ a, a ∈ (s.tile tile).accs → a.dest ≠ .flush bank row) → y.2.1 = .ok →
      ∃ t : State, exec (.mergeFlushCommit tile bank row u1 u2) s = .next t ∧ t.stored tile bank p = mkRow (mergeRow e.mask e.image y.2.2)) ∧
    (e.mask ≠ BitVec.allOnes 64 → ∀ a d, (s.tile tile).accs.find? (fun a => a.dest == .flush bank row) = some a → a.data = [d] →
      ∃ t : State, exec (.mergeFlushCommit tile bank row u1 u2) s = .next t ∧ t.stored tile bank p = mkRow (mergeRow e.mask e.image d)))

/-- Deed writes that a tile takes: TL_DEED, TL_COMMONS and TL_RETIRED are answered OK, and begin their operation on exactly the banks whose
deed they change, with PEND set there; no deed changes before the effect point, and one that changes none completes without PEND. That the
RETIRED bits set at acceptance is the model's choice (notes/assumptions/80.md). While one is pending, another waits. A write by a party
without the right, or of OWNER 7 by another than the manager, is answered DEED. -/
def Obligations.DeedWritesBegin : Prop :=
  (∀ (s : State) (w : Src) (tile b : Nat) (v : Word), s.tileTakes w tile (0x040 + 4 * b) v → s.mayWrite .slgm w tile = true → b < 16 →
    (bits v 0 3 = 7 → s.isManager w = true) → (s.tile tile).deedOp = none → (s.tile tile).underTest b = false →
    bit (s.tile tile).retired b = false →
    ∃ t : State, exec (.deedWrite w tile b v) s = .next (s.answered t w tile (0x040 + 4 * b) v .ok) ∧ t.out = s.out ∧
      (t.tile tile).owner = (s.tile tile).owner ∧ (t.tile tile).commons = (s.tile tile).commons ∧
      (if (s.tile tile).ownerOf b = bits v 0 3 then (t.tile tile).deedOp = none ∧ (t.tile tile).pend = (s.tile tile).pend
       else (t.tile tile).deedOp = some (.deed b (BitVec.ofNat 3 (bits v 0 3))) ∧ bit (t.tile tile).pend b = true ∧
         ∀ k, k < 16 → k ≠ b → bit (t.tile tile).pend k = bit (s.tile tile).pend k)) ∧
  (∀ (s : State) (w : Src) (tile : Nat) (v : Word), s.tileTakes w tile 0x080 v → s.mayWrite .slgm w tile = true →
    (s.tile tile).deedOp = none → (∀ b, b < 16 → (s.tile tile).ownerOf b = 6 → (s.tile tile).underTest b = false) →
    ∃ t : State, exec (.commonsWrite w tile v) s = .next (s.answered t w tile 0x080 v .ok) ∧ t.out = s.out ∧
      (t.tile tile).owner = (s.tile tile).owner ∧
      ((s.tile tile).commons.toNat ≠ v.toNat &&& 0x3E → (∃ b, b < 16 ∧ (s.tile tile).ownerOf b = 6) →
        (t.tile tile).deedOp = some (.commons (BitVec.ofNat 6 (v.toNat &&& 0x3E))) ∧ (t.tile tile).commons = (s.tile tile).commons ∧
          ∀ b, b < 16 → (bit (t.tile tile).pend b = true ↔ (s.tile tile).ownerOf b = 6 ∨ bit (s.tile tile).pend b = true)) ∧
      ((s.tile tile).commons.toNat = v.toNat &&& 0x3E ∨ (∀ b, b < 16 → (s.tile tile).ownerOf b ≠ 6) →
        (t.tile tile).deedOp = none ∧ (t.tile tile).commons.toNat = v.toNat &&& 0x3E)) ∧
  (∀ (s : State) (w : Src) (tile : Nat) (v : Word), s.tileTakes w tile 0x0A8 v → s.isManager w = true → (s.tile tile).deedOp = none →
    (∀ b, b < 16 → bit v b = true → (s.tile tile).underTest b = false) →
    ∃ t : State, exec (.retireBank w tile v) s = .next (s.answered t w tile 0x0A8 v .ok) ∧ t.out = s.out ∧
      (∀ b, b < 16 → bit (t.tile tile).retired b = (bit (s.tile tile).retired b || bit v b)) ∧
      (t.tile tile).owner = (s.tile tile).owner ∧
      (∀ b, b < 16 → bit (t.tile tile).pend b = (bit (s.tile tile).pend b || (bit v b && !bit (s.tile tile).retired b && (s.tile tile).ownerOf b != 0))) ∧
      ((t.tile tile).deedOp = none ↔ ∀ b, b < 16 → bit v b = true → bit (s.tile tile).retired b = true ∨ (s.tile tile).ownerOf b = 0)) ∧
  (∀ (s : State) (w : Src) (tile b : Nat) (v : Word), s.tileTakes w tile (0x040 + 4 * b) v → s.mayWrite .slgm w tile = true → b < 16 →
    (bits v 0 3 = 7 → s.isManager w = true) → ((s.tile tile).deedOp.isSome = true ∨ (s.tile tile).underTest b = true) →
    exec (.deedWrite w tile b v) s =
      .next (s.taken (s.modTile tile (fun T => { T with regWait := T.regWait ++ [s.accOf w tile (0x040 + 4 * b) v] })) w tile (0x040 + 4 * b) v)) ∧
  (∀ (s : State) (w : Src) (tile b : Nat) (v : Word), b < 16 →
    (s.tileTakes w tile (0x040 + 4 * b) v → (s.mayWrite .slgm w tile = false ∨ bits v 0 3 = 7 ∧ s.isManager w = false) →
      exec (.deedWrite w tile b v) s = .next (s.answered s w tile (0x040 + 4 * b) v .deed)) ∧
    (s.tileTakes w tile 0x080 v → s.mayWrite .slgm w tile = false → exec (.commonsWrite w tile v) s = .next (s.answered s w tile 0x080 v .deed)))

/-- TL_ROTATE_GO begins a rotation of the sets of TL_ROTATE_A and TL_ROTATE_B, or refuses it with ERR and its CAUSE; SLC_ROTATE control asks
the tiles of TILEMASK for theirs, each begins or refuses it, and once every one has answered DONE sets. -/
def Obligations.RotationsBegin : Prop :=
  (∀ (s : State) (w : Src) (tile : Nat) (v : Word), s.tileTakes w tile 0x090 v → s.mayWrite .slgm w tile = true → bit v 0 = true →
    (s.tile tile).rotateWaits = false →
    ∃ t : State, exec (.rotateGo w tile v) s = .next (s.answered t w tile 0x090 v .ok) ∧ t.out = s.out ∧
      (t.tile tile).owner = (s.tile tile).owner ∧
      (if (s.tile tile).rotateCause = 0 then
        (t.tile tile).rotBusy = true ∧ (t.tile tile).rotErr = false ∧
          (t.tile tile).deedOp = some (.rotate (s.tile tile).rotA (s.tile tile).rotB false) ∧
          ∀ b, b < 16 → (bit (t.tile tile).pend b = true ↔
            bit (s.tile tile).rotA b = true ∨ bit (s.tile tile).rotB b = true ∨ bit (s.tile tile).pend b = true)
       else (t.tile tile).rotErr = true ∧ (t.tile tile).rotCause.toNat = (s.tile tile).rotateCause ∧
         (t.tile tile).rotBusy = false ∧ (t.tile tile).deedOp = none ∧ (t.tile tile).pend = (s.tile tile).pend)) ∧
  (∀ (s : State) (w : Src) (d : Nat) (v : Word), s.sliceTakes w d 0x0200 v → s.isManager w = true → bit v 0 = true →
    (s.slice d).rotBusy = false →
    ∃ t : State, exec (.sliceRotateGo w d v) s = .next (s.sliceAnswered t w d 0x0200 v .ok) ∧ t.out = s.out ∧
      (t.slice d).rotErr = false ∧
      (if (s.slice d).rotMask = 0 then (t.slice d).rotBusy = false ∧ (t.slice d).rotDone = true
       else (t.slice d).rotBusy = true ∧ (t.slice d).rotDone = false ∧ (t.slice d).rotLeft = (s.slice d).rotMask ∧
         ∀ i, i < 256 → bit (s.slice d).rotMask i = true → (t.tile (256 * d + i)).rotWait = true)) ∧
  (∀ (s : State) (tile : Nat), s.hasTile tile = true → s.live (tileDie tile) = true → (s.tile tile).rotWait = true →
    (s.tile tile).rotateWaits = false → (s.tile tile).reassign = none →
    ∃ t : State, exec (.tileRotateRequest tile) s = .next t ∧ (t.tile tile).rotWait = false ∧
      (if (s.tile tile).rotateCause = 0 then
        (t.tile tile).deedOp = some (.rotate (s.tile tile).rotA (s.tile tile).rotB true) ∧ (t.tile tile).rotBusy = true ∧
          (t.slice (tileDie tile)).rotLeft = (s.slice (tileDie tile)).rotLeft
       else (t.tile tile).rotErr = true ∧ (t.tile tile).deedOp = none ∧
         bit (t.slice (tileDie tile)).rotLeft (tile % 256) = false ∧ (t.slice (tileDie tile)).rotRefused = true)) ∧
  (∀ (s : State) (d : Nat), s.hasDie d = true → s.live d = true → (s.slice d).rotBusy = true → (s.slice d).rotLeft = 0 →
    exec (.sliceRotateDone d) s =
      .next (s.modSlice d (fun S => { S with rotBusy := false, rotDone := true, rotErr := S.rotRefused }))) ∧
  (∀ (s : State) (w : Src) (d k : Nat) (v : Word), d < 8 → k < 8 →
    (s.sliceTakes w d 0x0200 v → s.isManager w = false → exec (.sliceRotateGo w d v) s = .next (s.sliceAnswered s w d 0x0200 v .deed)) ∧
    (s.sliceTakes w d 0x0200 v → s.isManager w = true → (s.slice d).rotBusy = true →
      exec (.sliceRotateGo w d v) s = .next (s.sliceAnswered s w d 0x0200 v .ok)) ∧
    (s.hasDie d = true → s.sliceTakes w d (0x0204 + 4 * k) v →
      (s.isManager w = false → exec (.registerWrite w (BitVec.ofNat 48 (sliceRegAddr d (0x0204 + 4 * k))) v) s =
        .next (s.sliceAnswered s w d (0x0204 + 4 * k) v .deed)) ∧
      (s.isManager w = true → (s.slice d).rotBusy = true →
        exec (.registerWrite w (BitVec.ofNat 48 (sliceRegAddr d (0x0204 + 4 * k))) v) s =
          .next (s.sliceAnswered (s.modSlice d id) w d (0x0204 + 4 * k) v .ok))))

/-- The steps of a deed operation: admission stops on its banks, and their merge-buffer entries begin to flush; at the effect point of a
deed write the bank has its new owner, of a write of TL_COMMONS the tile its new mask, and of a retirement the banks owner 0. -/
def Obligations.DeedSteps : Prop :=
  (∀ (s : State) (tile : Nat) (op : DeedOp), s.hasTile tile = true → s.live (tileDie tile) = true → (s.tile tile).deedOp = some op →
    (s.tile tile).deedStop = false →
    ∃ t : State, exec (.deedAdmissionStop tile) s = .next t ∧ (t.tile tile).deedStop = true ∧ (t.tile tile).deedOp = some op ∧
      (t.tile tile).owner = (s.tile tile).owner ∧ (t.tile tile).commons = (s.tile tile).commons ∧
      ∀ e, e ∈ (t.tile tile).merge → e.bank ∈ (s.tile tile).opBanks op → e.flushing = true) ∧
  (∀ (s : State) (tile : Nat) (op : DeedOp), s.hasTile tile = true → s.live (tileDie tile) = true → (s.tile tile).deedOp = some op →
    (s.tile tile).deedReady op = true → op.isRotate = false → (s.tile tile).regWait = [] →
    ∃ t : State, exec (.deedEffectPoint tile) s = .next t ∧ (t.tile tile).deedOp = none ∧ (t.tile tile).pend = 0 ∧
      ∀ b, b < 16 → match op with
        | .deed k o => (t.tile tile).commons = (s.tile tile).commons ∧
            (t.tile tile).ownerOf b = if b = k then o.toNat else (s.tile tile).ownerOf b
        | .commons m => (t.tile tile).commons = m ∧ (t.tile tile).ownerOf b = (s.tile tile).ownerOf b
        | .retire m => (t.tile tile).commons = (s.tile tile).commons ∧
            (t.tile tile).ownerOf b = if bit m b then 0 else (s.tile tile).ownerOf b
        | .rotate _ _ _ => True)

/-- At the effect point of a rotation the banks of set A take the owner that those of set B held, and those of B the owner of A's; every
other bank, the mask and every stored row stay as they are. -/
def Obligations.RotationSwapsOwners : Prop :=
  ∀ (s : State) (tile : Nat) (A B : BitVec 16) (bySlice : Bool) (x y : Nat), s.hasTile tile = true → s.live (tileDie tile) = true →
    (s.tile tile).deedOp = some (.rotate A B bySlice) → (s.tile tile).deedReady (.rotate A B bySlice) = true →
    (s.tile tile).regWait = [] → A &&& B = 0 → A ≠ 0 → B ≠ 0 →
    (∀ b, b < 16 → bit A b = true → (s.tile tile).ownerOf b = x) → (∀ b, b < 16 → bit B b = true → (s.tile tile).ownerOf b = y) →
    ∃ t : State, exec (.rotationEffectPoint tile) s = .next t ∧ (t.tile tile).deedOp = none ∧ (t.tile tile).rotBusy = false ∧
      (t.tile tile).pend = 0 ∧ (t.tile tile).commons = (s.tile tile).commons ∧ t.mem = s.mem ∧ t.poison = s.poison ∧ t.valid = s.valid ∧
      (∀ b, b < 16 → (t.tile tile).ownerOf b = if bit A b then y else if bit B b then x else (s.tile tile).ownerOf b) ∧
      (bySlice = true → bit (t.slice (tileDie tile)).rotLeft (tile % 256) = false)

/-- A sweep clears every valid bit of its bank at its end, and no other (that the bits stand until then is the model's choice,
notes/assumptions/88.md); TL_SWEEP begins one on banks that no master holds, and a write to it waits for a pending deed operation. -/
def Obligations.SweepsClearValidBits : Prop :=
  (∀ (s : State) (w : Src) (tile : Nat) (v : Word), s.tileTakes w tile 0x00C v → s.isManager w = true → (s.tile tile).deedOp = none →
    (∀ b, b = 14 ∨ b = 15 → (s.tile tile).ownerOf b = 0 ∨ (s.tile tile).ownerOf b = 7) → (s.tile tile).sweep14 = false →
    (s.tile tile).sweep15 = false →
    exec (.sweep w tile v) s = .next (s.answered
      (if bit v 0 || bit v 1 then s.modTile tile (fun T => { T with sweep14 := bit v 0, sweep15 := bit v 1 }) else s) w tile 0x00C v .ok)) ∧
  (∀ (s : State) (w : Src) (tile : Nat) (v : Word), s.tileTakes w tile 0x00C v → s.isManager w = true → (s.tile tile).deedOp.isSome = true →
    exec (.sweep w tile v) s =
      .next (s.taken (s.modTile tile (fun T => { T with regWait := T.regWait ++ [s.accOf w tile 0x00C v] })) w tile 0x00C v)) ∧
  (∀ (s : State) (tile bank : Nat), s.hasTile tile = true → s.live (tileDie tile) = true → Keys.wf s.valid → (s.tile tile).regWait = [] →
    (bank = 14 ∧ (s.tile tile).sweep14 = true ∨ bank = 15 ∧ (s.tile tile).sweep15 = true) →
    ∃ t : State, exec (.sweepEnd tile bank) s = .next t ∧ (∀ r, r < 1024 → t.unswept tile bank r = true) ∧
      (∀ g b r, r < 1024 → 14 ≤ b → b < 16 → (g ≠ tile ∨ b ≠ bank) → t.unswept g b r = s.unswept g b r) ∧
      (bank = 14 → (t.tile tile).sweep14 = false ∧ (t.tile tile).sweep15 = (s.tile tile).sweep15) ∧
      (bank = 15 → (t.tile tile).sweep15 = false ∧ (t.tile tile).sweep14 = (s.tile tile).sweep14))

/-! ## Lanes, slice matrix, default target, register bus, arbiters, locks, watchdog -/

/-- REGISTER_WRITE stores in the registers that have no command of their own: TL_PRIO, TL_ROTATE_A and TL_ROTATE_B, TL_CONF and TL_DEEDFLT
of a tile, the park, window and doorstep tables of a slice. TL_CTRL takes REMAP and LOGLATE from any writer that has the right. -/
def Obligations.RegisterWrites : Prop :=
  (∀ (s : State) (w : Src) (tile off : Nat) (v : Word), s.hasTile tile = true → s.tileTakes w tile off v →
    (isLocal w tile = true → ∃ t, w = .sc t) → s.mayWrite .slgm w tile = true → s.mayWrite .hm w tile = true →
    (off = 0x084 ∨ off = 0x088 ∨ off = 0x08C ∨ (∃ i, i < 6 ∧ off = 0x0C0 + 4 * i) ∨ off = 0x0E0) →
    exec (.registerWrite w (BitVec.ofNat 48 (tileRegAddr tile off)) v) s = .next (s.answered (s.modTile tile (fun T =>
      if off = 0x084 then { T with prio := v &&& 0x3FFF8 } else if off = 0x088 then { T with rotA := v.truncate 16 }
      else if off = 0x08C then { T with rotB := v.truncate 16 } else if off = 0x0E0 then { T with deedFlt := v }
      else { T with conf := T.conf.set ((off - 0x0C0) / 4) v })) w tile off v .ok)) ∧
  (∀ (s : State) (w : Src) (d off : Nat) (v : Word), s.hasDie d = true → s.sliceTakes w d off v → s.isManager w = true →
    ((∃ i, i < 8 ∧ off = 0x0180 + 4 * i) ∨ (∃ h, h < 16 ∧ off = 0x00C0 + 8 * h) ∨ (∃ k, k < 1024 ∧ off = 0x2000 + 4 * k)) →
    exec (.registerWrite w (BitVec.ofNat 48 (sliceRegAddr d off)) v) s = .next (s.sliceAnswered (s.modSlice d (fun S =>
      if off < 0x0180 then { S with winLo := S.winLo.set ((off - 0x00C0) / 8) (v &&& 0x7FFFFFC0) }
      else if off < 0x2000 then { S with park := S.park.set ((off - 0x0180) / 4) (v &&& 0x17F) }
      else { S with doorsteps := S.doorsteps.set ((off - 0x2000) / 4) (v &&& 0x8000FFFF) })) w d off v .ok)) ∧
  (∀ (s : State) (w : Src) (tile : Nat) (v : Word), s.tileTakes w tile 0x004 v →
     exec (.remapWrite w tile v) s = .next (s.answered
       (if s.mayWrite .slgm w tile then s.modTile tile (fun T => { T with remap := bit v 0, logLate := bit v 1 }) else s) w
       tile 0x004 v (if s.mayWrite .slgm w tile then .ok else .deed)))

/-- A router's output grants, on each of its lanes, the flit that goes first: on the bulk request lane the highest QoS, on the response lane a
response to a deadline request, and among equals the inputs in turn after the one granted last; a flit that is not granted stays. A granted
flit for a tile of its die goes one hop nearer, first along x, then along y, and arrives there; one that leaves the lanes goes one hop nearer
the perimeter, and there to the slice matrix. -/
def Obligations.LaneFlitRoutes : Prop :=
  (∀ (s : State) (id d x y : Nat) (p : Packet), s.pkt id = some p → p.loc = .lane d x y → s.live d = true →
    let out := routeOut x y (p.goal d)
    let last := Tbl.get 5 (s.slice d).routers (routerKey x y out p.lane)
    ((s.laneGrant d x y out p.lane).map (·.id) ≠ some id → exec (.laneFlit id) s = .next s) ∧
    ∀ q, s.laneGrant d x y out p.lane = some q →
      q ∈ s.net ∧ q.loc = .lane d x y ∧ routeOut x y (q.goal d) = out ∧ q.lane = p.lane ∧
      ∀ r, r ∈ s.net → r.loc = .lane d x y → routeOut x y (r.goal d) = out → r.lane = p.lane →
        (∀ o, o ∈ s.net → o.loc = .lane d x y → routeOut x y (o.goal d) = out → o.lane = p.lane → o.sameTxn r = true → r.ord ≤ o.ord) →
        q.laneRank < r.laneRank ∨ q.laneRank = r.laneRank ∧ turnDist 6 last q.side ≤ turnDist 6 last r.side) ∧
  (∀ (s : State) (id d x y g : Nat) (p : Packet), s.pkt id = some p → p.loc = .lane d x y → s.live d = true → x < 16 → y < 16 →
    p.goal d = some g → (s.laneGrant d x y (routeOut x y (some g)) p.lane).map (·.id) = some id →
    (x = tileX g → y = tileY g → exec (.laneFlit id) s =
      .next ((s.modSlice d (fun S => { S with routers := S.routers.set (routerKey x y 0 p.lane) p.side })).landed p)) ∧
    ((x ≠ tileX g ∨ y ≠ tileY g) → ∃ t : State, ∃ u v, exec (.laneFlit id) s = .next t ∧ (t.pkt id).map (·.loc) = some (.lane d u v) ∧
      Tbl.get 5 (t.slice d).routers (routerKey x y (routeOut x y (some g)) p.lane) = p.side ∧
      (x ≠ tileX g → v = y ∧ max u (tileX g) - min u (tileX g) + 1 = max x (tileX g) - min x (tileX g)) ∧
      (x = tileX g → u = x ∧ max v (tileY g) - min v (tileY g) + 1 = max y (tileY g) - min y (tileY g)))) ∧
  (∀ (s : State) (id d x y : Nat) (p : Packet), s.pkt id = some p → p.loc = .lane d x y → s.live d = true → x < 16 → y < 16 →
    p.goal d = none → (s.laneGrant d x y (routeOut x y none) p.lane).map (·.id) = some id →
    ((x = 0 ∨ x = 15 ∨ y = 0 ∨ y = 15) → ∃ t : State, exec (.laneFlit id) s = .next t ∧
      (t.pkt id).map (fun q => (q.loc, q.port)) = some (.matrix d, attachment x y)) ∧
    (0 < x → x < 15 → 0 < y → y < 15 → ∃ t : State, ∃ u v, exec (.laneFlit id) s = .next t ∧ (t.pkt id).map (·.loc) = some (.lane d u v) ∧
      min (min u (15 - u)) (min v (15 - v)) + 1 = min (min x (15 - x)) (min y (15 - y)) ∧ (u = x ∨ v = y)))

/-- A target port of the slice matrix grants a waiting packet of the highest QoS, by the turn of source codes at equal QoS, and remembers
its source; the packet goes on to its target, to its tile's lanes, or to the host. A port that is parked on a source takes its packets without
arbitration, and spends a handshake on arbitration before it grants another's. A request held behind an earlier one of its transaction ID goes
on once none of that ID is outstanding to another port. An outbound bridge port takes a request of its own die while two stripe slots are
free, a transit request while one is, by the same grant. -/
def Obligations.SliceMatrix : Prop :=
  (∀ (S : Slice) (target : Nat) (l : List Packet),
    ((S.parkedOn target = none ∨ S.unparked.contains target = true ∨ ∀ p, p ∈ l → S.parkedOn target = some p.port) →
      (S.portGrant target l).1 = turnPick (Tbl.get 127 S.turn target) l) ∧
    (∀ c p, S.parkedOn target = some c → S.unparked.contains target = false → p ∈ l → p.port ≠ c →
      S.portGrant target l = (none, S.unparked.add target))) ∧
  (∀ (last : Nat) (l : List Packet), (turnPick last l = none → l = []) ∧
    ∀ p, turnPick last l = some p → p ∈ l ∧ ∀ q, q ∈ l → q.qosNow ≤ 7 → p.qosNow ≤ 7 →
      q.qosNow < p.qosNow ∨ q.qosNow = p.qosNow ∧ turnDist 128 last p.port ≤ turnDist 128 last q.port) ∧
  (∀ (s : State) (d target : Nat), s.hasDie d = true → s.live d = true →
     let m := s.holdBackAll d
     (((m.slice d).portGrant target (m.atPort d target)).1 = none →
       exec (.sliceMatrixGrant d target) s =
         .next (m.modSlice d (fun S => { S with unparked := ((m.slice d).portGrant target (m.atPort d target)).2 }))) ∧
     ∀ p, ((m.slice d).portGrant target (m.atPort d target)).1 = some p → m.pkt p.id = some p →
     (16 ≤ target → ∃ t : State, exec (.sliceMatrixGrant d target) s = .next t ∧ Tbl.get 127 (t.slice d).turn target = p.port ∧
       (t.pkt p.id).map (·.loc) = some (.lane d (attachRouter (target - 16)).1 (attachRouter (target - 16)).2)) ∧
     (0 < target → target < 16 → p.resp = none → ∃ t : State, exec (.sliceMatrixGrant d target) s = .next t ∧
       Tbl.get 127 (t.slice d).turn target = p.port ∧ (t.pkt p.id).map (·.loc) = some .arrived) ∧
     (target = 0 → p.resp = none → ∃ t : State, exec (.sliceMatrixGrant d target) s = .next t ∧
       t.out = s.out ++ [.hostRequest d ((s.slice d).bind p.iss.hh).fn.toNat p.place p.size p.write p.data])) ∧
  (∀ (s : State) (d id : Nat) (p : Packet), s.hasDie d = true → s.live d = true → s.pkt id = some p → p.loc = .held d →
    exec (.holdbackRelease d id) s =
      .next (if p.resp.isNone && p.usesMatrix && s.net.any (fun q => q.ord < p.ord && q.usesMatrix && q.outstanding && p.sameTxn q && !p.samePort q)
        then s else s.move id (.matrix d))) ∧
  (∀ (s : State) (d port : Nat), s.hasDie d = true → s.live d = true → port < 8 →
    let g := (s.slice d).portGrant (80 + port) (s.ringReady d port)
    (∀ p : Packet, p ∈ s.ringReady d port ↔ p ∈ s.net ∧ p.loc = .ring d port ∧ s.outOfTurn p = false ∧
      (if p.transit then 1 else 2) + (s.bridge d port).used ≤ 16) ∧
    (g.1 = none → exec (.bridgeSlotAdmit d port) s = .next (s.modSlice d (fun S => { S with unparked := g.2 }))) ∧
    (∀ p : Packet, g.1 = some p → ∃ t : State, exec (.bridgeSlotAdmit d port) s = .next t ∧
      (t.bridge d port).queue = (s.bridge d port).queue ++ [p.id] ∧ Tbl.get 127 (t.slice d).turn (80 + port) = p.port ∧
      (t.pkt p.id).map (·.loc) = some (.bridge d port)))

/-- A request that decodes to no target is answered DECERR; the slice latches its address and source, or sets MULTI while an earlier one is
latched. Writing VALID of SLC_DECERR_SRC rearms it. -/
def Obligations.DefaultTargetAnswersDecerr : Prop :=
  (∀ (s : State) (w : Src) (d : Nat) (a : Addr), s.arrives w → s.hasDie d = true → s.live d = true → s.decodes w a = false →
    ∃ t : State, exec (.defaultTarget w d a) s = .next t ∧ t.mem = s.mem ∧
      (match w with
        | .host e fn => t.out = s.out ++ [Output.hostAnswer e fn .decerr []]
        | _ => t.out = s.out ++ [Output.reg w a.toNat .decerr 0]) ∧
      (bit (s.slice d).decSrc 31 = false → (t.slice d).decAddr = a ∧ (t.slice d).decSrc = decerrSource (s.issuer w) ||| flag 31 true) ∧
      (bit (s.slice d).decSrc 31 = true → (t.slice d).decAddr = (s.slice d).decAddr ∧ (t.slice d).decSrc = (s.slice d).decSrc ||| flag 30 true)) ∧
  (∀ (s : State) (w : Src) (d : Nat) (v : Word), s.sliceTakes w d 0x01C8 v → s.isManager w = true →
    exec (.decerrRearm w d v) s = .next (s.sliceAnswered
      (if bit v 31 then s.modSlice d (fun S => { S with decSrc := S.decSrc &&& 0x3FFFFFFF }) else s.modSlice d id) w
      d 0x01C8 v .ok))

/-- A read of a register of a tile or a slice, by a party that may read it, answers OK with what the register holds; by another party, DEED
and 0: to the scalar core of the tile at once, over the register bus with the access's response. A read of TL_PACE lets one tick of the
model's clock pass first (notes/assumptions/4.md).
A register access that does not come by a local path, of a scalar core or a host function, sets out to the slice matrix with QoS 6 toward
the register bus of its target's slice; one that decodes to no register block, or has another size than its port takes, is answered DECERR
and latched. The register bus takes the accesses in the order in which they came. -/
def Obligations.RegisterReads : Prop :=
  ((∀ (s : State) (tile off : Nat) (x : BitVec 64), s.arrives (.sc tile) → s.tileFree tile → off < 0x1000 → tileMapped off = true →
     exec (.registerBusAccess (.sc tile) (BitVec.ofNat 48 (tileRegAddr tile off)) 4 false x) s = .next
       (if s.mayRead (.sc tile) tile then (if off = 0x900 then { s with ticks := s.ticks + 1 } else s).emit
         (.reg (.sc tile) (tileRegAddr tile off) .ok (s.tileRead (.sc tile) tile off))
        else s.emit (.reg (.sc tile) (tileRegAddr tile off) .deed 0))) ∧
   (∀ (s : State) (w : Src) (tile off : Nat) (x : BitVec 64) (p : Packet), s.arrives w → s.hasTile tile = true → s.tileFree tile →
     isLocal w tile = false → off < 0x1000 → tileMapped off = true → s.readTurn w (tileDie tile) (tileRegAddr tile off) = some p →
     exec (.registerBusAccess w (BitVec.ofNat 48 (tileRegAddr tile off)) 4 false x) s = .next
       (if s.mayRead w tile then (if off = 0x900 then { s with ticks := s.ticks + 1 } else s).answerAt (tileDie tile) p.id .ok
         [(s.tileRead w tile off).zeroExtend 512]
        else s.answerAt (tileDie tile) p.id .deed [0])) ∧
   (∀ (s : State) (w : Src) (d off : Nat) (x : BitVec 64) (p : Packet), s.arrives w → s.hasDie d = true → s.ready d = true →
     (s.slice d).hhBusy = none → off < 0x10000 → sliceMapped d off = true → s.readTurn w d (sliceRegAddr d off) = some p →
     exec (.registerBusAccess w (BitVec.ofNat 48 (sliceRegAddr d off)) 4 false x) s = .next
       (if s.sliceMayRead w off then s.answerAt d p.id .ok [(s.sliceRead d off).zeroExtend 512] else s.answerAt d p.id .deed [0]))) ∧
  ((∀ (s : State) (t d size : Nat) (a : Addr) (write : Bool) (x : BitVec 64), s.arrives (.sc t) → s.regPlace a = some d →
     ¬(space a = 2 ∧ addrTile a = t) → size = 4 → a.toNat % 4 = 0 → s.busPkt (.sc t) d a write = none →
     ∃ u : State, ∃ p : Packet, exec (.registerBusAccess (.sc t) a size write x) s = .next u ∧ u.net = s.net ++ [p] ∧ u.out = s.out ∧
       p.kind = .reg write ∧ p.qos = 6 ∧ p.target = .regs d ∧ p.addr = a ∧ p.iss = s.issuer (.sc t) ∧ p.resp = none ∧ p.write = write) ∧
   (∀ (s : State) (d fn h e : Nat) (a : Addr) (size : Nat) (write : Bool) (x : BitVec 64), s.hasDie d = true → s.ready d = true →
     (s.slice d).hhOfFn fn = some h → (s.slice d).replays h = false → s.regPlace a = some e →
     (size = 4 ∧ a.toNat % 4 = 0 ∨ size = 8 ∧ a.toNat % 8 = 0) → s.busPkt (.host d fn) e a write = none →
     ∃ u : State, ∃ p : Packet, exec (.registerBusAccess (.host d fn) a size write x) s = .next u ∧ u.net = s.net ++ [p] ∧ u.out = s.out ∧
       p.kind = .reg write ∧ p.qos = 6 ∧ p.target = .regs e ∧ p.addr = a ∧ p.iss.hh = h ∧ p.resp = none) ∧
   (∀ (s : State) (t size : Nat) (a : Addr) (write : Bool) (x : BitVec 64), s.arrives (.sc t) → s.regPlace a = none →
     ∃ u : State, exec (.registerBusAccess (.sc t) a size write x) s = .next u ∧ u.net = s.net ∧
       u.out = s.out ++ [Output.reg (.sc t) a.toNat .decerr 0] ∧
       (bit (s.slice (tileDie t)).decSrc 31 = false → (u.slice (tileDie t)).decAddr = a)) ∧
   (∀ (s : State) (d : Nat) (w : Src) (a : Addr) (write : Bool) (p : Packet), s.busPkt w d a write = some p →
     p ∈ s.net ∧ p.target = .regs d ∧ ∀ q, q ∈ s.net → q.target = .regs d → q.loc = .arrived → q.resp = none → p.came ≤ q.came))

/-- A party that is neither the manager nor of the tile's household reads nothing of a tile block and changes nothing in it: whatever
register it names, its access completes with DEED. -/
def Obligations.ForeignAccessRefused : Prop :=
  ∀ (s : State) (w : Src) (tile off : Nat) (write : Bool) (x : BitVec 64) (p : Packet), s.arrives w → s.hasTile tile = true →
    s.tileFree tile → (∀ h, s.hhOf w = some h → h ≠ 0 ∧ h ≠ (s.tile tile).hh) → off < 0x1000 → tileMapped off = true →
    s.busPkt w (tileDie tile) (BitVec.ofNat 48 (tileRegAddr tile off)) write = some p → p.size = 4 → p.write = write →
    exec (.registerBusAccess w (BitVec.ofNat 48 (tileRegAddr tile off)) 4 write x) s =
      .next (s.answerAt (tileDie tile) p.id .deed (if write then [] else [0]))

/-- At a beat boundary the arbiter starts the beat that it has decided, and decides the next: an admitted deadline request that nothing but the
contest keeps from a grant comes before every bulk request. A deadline request is admitted while its set has a place for it, or else demoted. -/
def Obligations.ArbiterRules : Prop :=
  (∀ (s : State) (tile k id : Nat) (a : Access), s.hasTile tile = true → s.live (tileDie tile) = true → (s.tile tile).hasArb k = true →
    (s.tile tile).arbBusy k = false → ((s.tile tile).arb k).next = some id → (s.tile tile).acc id = some a → a.raised k = true →
    ∃ t : State, ∃ b : Access, exec (.arbiterDecision tile k) s = .next t ∧ (t.tile tile).acc id = some b ∧
      b.stage = (if k = 20 then .portGranted else .granted) ∧ ((t.tile tile).arb k).beat = some id) ∧
  (∀ (s : State) (tile k : Nat) (a : Access), s.hasTile tile = true → s.live (tileDie tile) = true → (s.tile tile).hasArb k = true →
    (s.tile tile).arbBusy k = false → a ∈ (s.tile tile).accs → a.raised k = true → a.qos = 7 → a.demoted = false → a.inSet = true →
    (s.tile tile).mayCompete k a = true → ((s.tile tile).arb k).next ≠ some a.id →
    (∀ n, ((s.tile tile).arb k).tenure ≠ some (a.id, n)) →
    ∃ t : State, ∃ b : Access, exec (.arbiterDecision tile k) s = .next t ∧ b ∈ (t.tile tile).accs ∧ ((t.tile tile).arb k).next = some b.id ∧
      b.qos = 7 ∧ b.demoted = false ∧ b.inSet = true) ∧
  (∀ (s : State) (tile id k : Nat) (a : Access), s.hasTile tile = true → s.live (tileDie tile) = true → (s.tile tile).acc id = some a →
    (s.tile tile).arbOf a = some k → a.qos = 7 → a.demoted = false → a.inSet = false → (k = 20 ∨ (s.tile tile).lockAdmits a = true) →
    let A := (s.tile tile).cleanSlots k
    ∃ t : State, exec (.deadlineAdmission tile id) s = .next t ∧
      (t.tile tile).acc id = some (if A.slots.length < 4 ∨
          A.slots.any (fun p => if k = 20 then sameRequester p.2 a.iss else p.1 == masterCode a.master) = true
        then { a with inSet := true, lapse := a.lapse || s.lapsed tile } else { a with demoted := true }))

/-- Bank locks: an acquire on a free commons bank gives it to the holder that the writer names; a release by the holder frees it and clears
SUSPECT; a release by any other writer is answered DEED and changes nothing. A core's reset puts its notice into its own slice and
sends one to every other slice of the package; at each tile of a slice where it has come in, the core's locks free with SUSPECT set, and on the
core's own tile every endpoint closes. -/
def Obligations.LocksAndCoreResets : Prop :=
  (∀ (s : State) (w : Src) (tile : Nat) (v : Word) (h : Holder), s.tileTakes w tile 0x0F8 (withField v 4 2 1) → s.hhOf w = some (s.tile tile).hh →
    lockHolder w tile (s.tile tile).hh v = some h → (s.tile tile).ownerOf (bits v 0 4) = 6 →
    exec (.lockAcquire w tile v) s = .next (s.answered
      (if ((s.tile tile).lock (bits v 0 4)).holder.isSome then s
       else s.modTile tile (fun T => { T with locks := T.locks.set (bits v 0 4) { T.lock (bits v 0 4) with holder := some h, since := s.paceNat tile } })) w
      tile 0x0F8 (withField v 4 2 1) .ok)) ∧
  (∀ (s : State) (w : Src) (tile : Nat) (v : Word), s.tileTakes w tile 0x0F8 (withField v 4 2 1) → (s.tile tile).ownerOf (bits v 0 4) ≠ 6 →
    exec (.lockAcquire w tile v) s = .next (s.answered s w tile 0x0F8 (withField v 4 2 1) .deed)) ∧
  (∀ (s : State) (w : Src) (tile : Nat) (v : Word), s.tileTakes w tile 0x0F8 (withField v 4 2 2) →
    let byHolder : Prop := s.hhOf w = some (s.tile tile).hh ∧ ∃ h g, lockHolder w tile (s.tile tile).hh v = some h ∧
      ((s.tile tile).lock (bits v 0 4)).holder = some g ∧ g.sameAs h = true
    (byHolder → exec (.lockRelease w tile v) s = .next (s.answered
      (s.modTile tile (fun T => { T with locks := T.locks.set (bits v 0 4) { holder := none, suspect := false } })) w
      tile 0x0F8 (withField v 4 2 2) .ok)) ∧
    (¬byHolder → exec (.lockRelease w tile v) s =
      .next (s.answered s w tile 0x0F8 (withField v 4 2 2) .deed))) ∧
  (∀ (s : State) (tile : Nat), s.hasTile tile = true → s.live (tileDie tile) = true →
    ∃ t : State, exec (.coreReset tile) s = .next t ∧ t.notices.find tile = some [] ∧
      (∃ l : List Packet, t.net = s.net ++ l ∧ (∀ p, p ∈ l → p.kind = .notice ∧ p.qos = 7 ∧ p.iss.tile = tile ∧ p.resp = none) ∧
        l.map (·.target) = ((List.range s.dies).filter (fun e => e != tileDie tile)).map Target.slice) ∧
      tile ∈ (t.slice (tileDie tile)).noticeIn ∧ ∀ d, d ≠ tileDie tile → tile ∉ (t.slice d).noticeIn) ∧
  (∀ (s : State) (tile core : Nat) (l : List Nat), s.hasTile tile = true → s.live (tileDie tile) = true →
    s.notices.find core = some l → tile ∉ l → core ∈ (s.slice (tileDie tile)).noticeIn → (s.tile tile).locks.wf →
    ∃ t : State, exec (.coreResetNotice tile core) s = .next t ∧
      (∀ b h, ((s.tile tile).lock b).holder = some h → h.isCore tile core = true →
        (t.tile tile).lock b = { holder := none, suspect := true }) ∧
      (∀ b h, ((s.tile tile).lock b).holder = some h → h.isCore tile core = false → (t.tile tile).lock b = (s.tile tile).lock b) ∧
      (tile = core → ∀ e, e < 16 → ((t.tile tile).ep e).isOpen = false)) ∧
  (∀ (s : State) (tile core : Nat), core ∉ (s.slice (tileDie tile)).noticeIn → exec (.coreResetNotice tile core) s = .next s)

/-- A bite, once a granted beat or a wait on a lock has lasted TL_WDOG paces and not before. On a hung beat: the beat's access ends WDOG and
leaves, its master is quarantined, TL_STATUS says where, and UNCORR's neighbour
cause WDOG is raised to H0; a bite on a lock frees it with SUSPECT set, and quarantines a local holder. The manager releases a quarantine
bit, and clears BITE, by writing 1 to it, and sets the watchdog's interval, at least 1024 paces; no other writer does either. -/
def Obligations.Watchdog : Prop :=
  (∀ (s : State) (tile res : Nat) (a : Access), s.hasTile tile = true → s.live (tileDie tile) = true → res ≤ 16 →
    (s.tile tile).hung res = some a → a.since + (s.tile tile).wdog.toNat ≤ s.paceNat tile →
    let m := if res = 16 then 5 else masterCode a.master
    ∃ t : State, exec (.watchdogBite tile res) s = .next t ∧ (∀ b, b ∈ (t.tile tile).accs → b.id ≠ a.id) ∧
      (m ≤ 5 → bit (t.tile tile).quar m = true) ∧ (t.tile tile).bite = true ∧ (t.tile tile).biteRes.toNat = res ∧
      (t.tile tile).biteMaster.toNat = m ∧ bit ((t.slice (tileDie tile)).irq 0).cause 7 = true ∧
      (a.dest = .port → .access tile a.master a.id .wdog [] (a.l || (s.slice (tileDie tile)).lpActive) a.demoted ∈ t.out)) ∧
  (∀ (s : State) (tile bank : Nat) (h : Holder), s.hasTile tile = true → s.live (tileDie tile) = true → bank < 16 →
    ((s.tile tile).lock bank).holder = some h → (∃ n, (s.tile tile).lockWaitFrom bank = some n ∧ n + (s.tile tile).wdog.toNat ≤ s.paceNat tile) →
    ∃ t : State, exec (.watchdogLockBite tile bank) s = .next t ∧ (t.tile tile).lock bank = { holder := none, suspect := true } ∧
      (t.tile tile).bite = true ∧ (t.tile tile).biteRes.toNat = bank ∧ bit ((t.slice (tileDie tile)).irq 0).cause 7 = true ∧
      (match h with
        | .master m => m ≤ 5 → bit (t.tile tile).quar m = true
        | .core _ _ => (t.tile tile).quar = (s.tile tile).quar)) ∧
  (∀ (s : State) (tile res bank : Nat),
    ((∀ a, (s.tile tile).hung res = some a → s.paceNat tile < a.since + (s.tile tile).wdog.toNat) → exec (.watchdogBite tile res) s = .next s) ∧
    ((∀ n, (s.tile tile).lockWaitFrom bank = some n → s.paceNat tile < n + (s.tile tile).wdog.toNat) →
      exec (.watchdogLockBite tile bank) s = .next s)) ∧
  (∀ (s : State) (w : Src) (tile : Nat) (v : Word),
     (s.tileTakes w tile 0x008 v → exec (.quarRelease w tile v) s = .next (if s.isManager w then
       s.answered (s.modTile tile (fun T => { T with quar := T.quar &&& ~~~ (v.truncate 8 &&& 0x3E), bite := T.bite && !bit v 16 })) w
         tile 0x008 v .ok
       else s.answered s w tile 0x008 v .deed)) ∧
     (s.tileTakes w tile 0x904 v → exec (.wdogIntervalWrite w tile v) s = .next (if s.isManager w then
       s.answered (s.modTile tile (fun T => { T with wdog := BitVec.ofNat 24 (max 1024 (v.toNat % 2 ^ 24)) })) w tile 0x904 v .ok
       else s.answered s w tile 0x904 v .deed)))

/-! ## Tallies, bells, fences, the watchman -/

/-- What an engine's synchronisation operations begin: ADD, DEC, ARRIVE and ARRIVE_WAIT join those that wait for the next tally boundary,
WAIT_GE, WAIT_DEC, WAIT_BELL and ARRIVE_WAIT keep the engine waiting. -/
def Obligations.SyncOperationsIssued : Prop :=
  ∀ (s : State) (tile : Nat) (e : Engine) (t b g : Nat) (v : Word), s.issues tile e → t < 48 → b < 8 →
    exec (.add tile e t v) s = .next ((s.modTile tile (fun T => { T with tops := T.tops ++ [TOp.add t v false] })).watch tile) ∧
    exec (.dec tile e t) s = .next ((s.modTile tile (fun T => { T with tops := T.tops ++ [TOp.dec e t] })).watch tile) ∧
    exec (.arrive tile e b) s = .next ((s.modTile tile (fun T => { T with tops := T.tops ++ [TOp.arrive e b false] })).watch tile) ∧
    exec (.waitGe tile e t v) s = .next ((s.modTile tile (fun T => T.setEngine e (.waitGe t v))).watch tile) ∧
    exec (.waitDec tile e t) s = .next ((s.modTile tile (fun T => T.setEngine e (.waitDec t))).watch tile) ∧
    exec (.waitBell tile e b g) s = .next ((s.modTile tile (fun T => T.setEngine e (.waitBell b (BitVec.ofNat 12 g)))).watch tile) ∧
    ∃ u : State, exec (.arriveWait tile e b) s = .next u ∧ (u.tile tile).tops = (s.tile tile).tops ++ [TOp.arrive e b true] ∧
      (u.tile tile).engine e = .arriving b

/-- A tally boundary adds every ADD that waits to its tally, modulo 2^32, and changes no other tally. -/
def Obligations.BoundaryAddsAll : Prop :=
  ∀ (s : State) (tile : Nat) (l : List (Nat × Word)), s.hasTile tile = true → s.live (tileDie tile) = true →
    (s.tile tile).calm none → (s.tile tile).tops = l.map (fun p => .add p.1 p.2 false) →
    ∃ t : State, exec (.tallyBoundary tile) s = .next t ∧ (t.tile tile).tops = [] ∧ t.out = s.out ∧
      ∀ k, (t.tile tile).tallyOf k = (s.tile tile).tallyOf k + ((l.filter (fun p => p.1 == k)).map Prod.snd).sum

/-- The waits and decrements of a tally boundary: a WAIT_GE ends once its tally has reached its value, modulo 2^32; a WAIT_DEC ends and
takes one from a tally that is not 0; a DEC takes one, or meets the fault UNDER at 0 and MODE on a MONO tally. A bell all of whose
participants have arrived completes at the tally boundary: its generation goes up by one, its arrivals clear, and its tally is due one more;
an arrival of an engine that has arrived, or is no participant, is a fault. -/
def Obligations.BoundaryWaitsAndBells : Prop :=
  (∀ (s : State) (tile : Nat) (e : Engine) (k : Nat) (v : Word), s.hasTile tile = true → s.live (tileDie tile) = true →
    (s.tile tile).calm (some e) → (s.tile tile).tops = [] → (s.tile tile).engine e = .waitGe k v → bit (s.tile tile).tallyMode k = false →
    ∃ t : State, exec (.tallyBoundary tile) s = .next t ∧ (t.tile tile).tally = (s.tile tile).tally ∧
      (if ((s.tile tile).tallyOf k - v).toNat < 2 ^ 31 then
        (t.tile tile).engine e = .running ∧ t.out = s.out ++ [Output.op tile e .ok (bit (s.tile tile).tallyL k) 0]
       else (t.tile tile).engine e = .waitGe k v ∧ t.out = s.out)) ∧
  (∀ (s : State) (tile : Nat) (e : Engine) (k : Nat), s.hasTile tile = true → s.live (tileDie tile) = true →
    (s.tile tile).calm (some e) → (s.tile tile).tops = [] → (s.tile tile).engine e = .waitDec k → bit (s.tile tile).tallyMode k = true →
    ∃ t : State, exec (.tallyBoundary tile) s = .next t ∧
      (if (s.tile tile).tallyOf k = 0 then (t.tile tile).engine e = .waitDec k ∧ t.out = s.out ∧ (t.tile tile).tallyOf k = 0
       else (t.tile tile).engine e = .running ∧ t.out = s.out ++ [Output.op tile e .ok (bit (s.tile tile).tallyL k) 0] ∧
         (t.tile tile).tallyOf k = (s.tile tile).tallyOf k - 1)) ∧
  (∀ (s : State) (tile : Nat) (e : Engine) (k : Nat), s.hasTile tile = true → s.live (tileDie tile) = true →
    (s.tile tile).calm none → (s.tile tile).tops = [.dec e k] → (s.tile tile).engine e = .running →
    ∃ t : State, exec (.tallyBoundary tile) s = .next t ∧
      (if bit (s.tile tile).tallyMode k = true ∧ (s.tile tile).tallyOf k ≠ 0 then
        (t.tile tile).tallyOf k = (s.tile tile).tallyOf k - 1 ∧ t.out = s.out ++ [Output.op tile e .ok false 0]
       else (t.tile tile).tallyOf k = (s.tile tile).tallyOf k ∧ t.out = s.out ++ [Output.op tile e .decerr false 0] ∧
         (bit (s.tile tile).syncFault 16 = false → bits (t.tile tile).syncFault 0 4 = (if bit (s.tile tile).tallyMode k then 1 else 2) ∧
           bit (t.tile tile).syncFault 16 = true))) ∧
  (∀ (s : State) (tile b : Nat), s.hasTile tile = true → s.live (tileDie tile) = true → b < 8 → (s.tile tile).tops = [] →
    (∀ e, (s.tile tile).engine e = .running ∨ (s.tile tile).engine e = .stopped) → (∀ n, n < 8 → ((s.tile tile).chan n).waitTally = false) →
    (s.tile tile).regBusy = none → (s.tile tile).regWait = [] → ((s.tile tile).bell b).mask ≠ 0 →
    ((s.tile tile).bell b).arrived = ((s.tile tile).bell b).mask →
    ∃ t : State, exec (.tallyBoundary tile) s = .next t ∧ ((t.tile tile).bell b).gen = ((s.tile tile).bell b).gen + 1 ∧
      ((t.tile tile).bell b).arrived = 0 ∧ ((t.tile tile).bell b).mask = ((s.tile tile).bell b).mask ∧
      (((s.tile tile).bell b).tally ≠ 63 →
        (((s.tile tile).bell b).tally.toNat, (s.slice (tileDie tile)).lpActive) ∈ (t.tile tile).bellAdds)) ∧
  (∀ (s : State) (tile b : Nat) (e : Engine), s.hasTile tile = true → s.live (tileDie tile) = true → b < 8 →
    (s.tile tile).calm none → (s.tile tile).tops = [.arrive e b false] → (s.tile tile).engine e = .running →
    let B := (s.tile tile).bell b
    let k := engineBell e
    ∃ t : State, exec (.tallyBoundary tile) s = .next t ∧
      ((bit B.mask k = false ∨ bit B.arrived k = true) → t.out = s.out ++ [Output.op tile e .decerr false 0] ∧ (t.tile tile).bell b = B ∧
        (bit (s.tile tile).syncFault 16 = false → bits (t.tile tile).syncFault 0 4 = (if bit B.mask k then 3 else 4))) ∧
      (bit B.mask k = true → bit B.arrived k = false → t.out = s.out ++ [Output.op tile e .ok false B.gen.toNat] ∧
        (((t.tile tile).bell b).gen = B.gen ∧ bit ((t.tile tile).bell b).arrived k = true ∨
         ((t.tile tile).bell b).gen = B.gen + 1 ∧ ((t.tile tile).bell b).arrived = 0)))

/-- Writes of TL_TALLY, TL_TALLY_MODE and of ARRIVE and FORCE of TL_BELL wait for the tally boundary, with their block busy until then;
there the tally takes the value, and the write is answered. -/
def Obligations.TallyRegisterWrites : Prop :=
  (∀ (s : State) (w : Src) (tile k b : Nat) (v : Word), k < 48 → b < 8 →
    let later (off : Nat) (v : Word) (o : TOp) : Result := .next (s.taken (s.modTile tile (fun T =>
      { T with tops := T.tops ++ [o], regBusy := some (s.accOf w tile off v) })) w tile off v)
    (s.tileTakes w tile (0x200 + 4 * k) v → s.mayWrite .slmd w tile = true →
      exec (.tallyWrite w tile k v) s = later (0x200 + 4 * k) v (.write w k v)) ∧
    (s.tileTakes w tile (0x2C0 + 4 * k) v → s.mayWrite .hm w tile = true → k < 2 →
      exec (.tallyModeWrite w tile k v) s = later (0x2C0 + 4 * k) v (.mode w k v)) ∧
    (s.tileTakes w tile (0x300 + 4 * b) 0x20000 → s.mayForce w tile = true →
      exec (.bellForce w tile b) s = later (0x300 + 4 * b) 0x20000 (.force w b)) ∧
    (∀ n, w = .st tile n → s.tileTakes w tile (0x300 + 4 * b) 0x10000 →
      exec (.bellArriveWrite w tile b) s = later (0x300 + 4 * b) 0x10000 (.stArrive w n b)) ∧
    ((∀ n, w ≠ .st tile n) → s.tileTakes w tile (0x300 + 4 * b) 0x10000 → s.mayWrite .hm w tile = true →
      exec (.bellArriveWrite w tile b) s = .next (s.answered s w tile (0x300 + 4 * b) 0x10000 .ok))) ∧
  (∀ (s : State) (w : Src) (tile k : Nat) (v : Word) (a : RegAcc), s.hasTile tile = true → s.live (tileDie tile) = true → k < 48 →
    (s.tile tile).tops = [.write w k v] → (s.tile tile).bellAdds = [] → (s.tile tile).regWait = [] →
    (s.tile tile).regBusy = some a → a.src = w → a.off = 0x200 + 4 * k → a.write = true → a.half = 0 → a.dropped = false →
    (∀ e, (s.tile tile).engine e = .running ∨ (s.tile tile).engine e = .stopped) → (∀ n, n < 8 → ((s.tile tile).chan n).waitTally = false) →
    (∀ c, c < 8 → ((s.tile tile).bell c).mask = 0 ∨ ((s.tile tile).bell c).arrived ≠ ((s.tile tile).bell c).mask) →
    ∃ t : State, exec (.tallyBoundary tile) s = .next t ∧ (t.tile tile).tallyOf k = v ∧ (t.tile tile).regBusy = none ∧
      (a.pkt = none → t.out = s.out ++ [Output.reg w (tileRegAddr tile (0x200 + 4 * k)) .ok 0]) ∧
      (∀ id p, a.pkt = some id → s.pkt id = some p → t.out = s.out ∧ (t.pkt id).map (·.resp) = some (some .ok)))

/-- A FENCE waits for the writes of its engine that are in progress, that of the scalar core for its merge buffer too and for a read-back of
each register it has written through the slice matrix; once they have settled it ends, UNCORR if a flush has failed. The watchman of a tile
that has been quiet for 4096 paces raises STILL: NOW and STILL set, RAISES counts, the first snapshot is kept, and the household gets STILL; an
engine stops, and runs again. -/
def Obligations.FencesAndWatchman : Prop :=
  (∀ (s : State) (tile : Nat) (e : Engine), s.issues tile e →
    ∃ t : State, ∃ ids, exec (.fence tile e) s = .next t ∧ (t.tile tile).engine e = .fence ids false ∧
      (∀ a : Access, a ∈ (s.tile tile).accs → a.master = engineMaster e → a.write = true → (∀ b r, a.dest ≠ .flush b r) → a.id ∈ ids) ∧
      (e = .sc → (∀ m, m ∈ (t.tile tile).merge → m.bank < 16 → m.flushing = true) ∧ (t.tile tile).regSent = [] ∧
        ∃ l, t.net = s.net ++ l ∧ l.map (·.addr) = (s.tile tile).regSent ∧
          ∀ p, p ∈ l → p.kind = .regBack ∧ p.iss = s.issuer (.sc tile)) ∧
      (e ≠ .sc → t.net = s.net) ∧ t.out = s.out) ∧
  (∀ (s : State) (tile : Nat) (e : Engine) (ids : List Nat) (bad : Bool), s.hasTile tile = true → s.live (tileDie tile) = true →
    (s.tile tile).engine e = .fence ids bad → (∀ a : Access, a ∈ (s.tile tile).accs → a.id ∉ ids) →
    (e = .sc → (s.tile tile).merge = [] ∧ (s.tile tile).narrow = [] ∧ s.regPending tile = false) →
    exec (.fenceEnd tile e) s = .next (((s.modTile tile (fun T => T.setEngine e .running)).emit
      (.op tile e (if bad then .uncorr else .ok) false 0)).watch tile)) ∧
  (∀ (s : State) (tile p : Nat), s.hasTile tile = true → s.ready (tileDie tile) = true → (s.tile tile).wmEn = true →
    (s.tile tile).quiet = true → (s.tile tile).wmNow = false → (s.tile tile).reassign = none →
    (s.tile tile).wmFrom = some p → p + 4096 ≤ s.paceNat tile →
    ∃ t : State, exec (.still tile) s = .next t ∧ (t.tile tile).wmNow = true ∧ (t.tile tile).wmStill = true ∧
      (t.tile tile).wmRaises = satInc (s.tile tile).wmRaises ∧
      bit ((t.slice (tileDie tile)).irq (s.tile tile).hh).cause 4 = true ∧
      ((s.tile tile).wmStill = true → (t.tile tile).wmSnap = (s.tile tile).wmSnap)) ∧
  (∀ (s : State) (tile : Nat) (e : Engine), s.hasTile tile = true → s.live (tileDie tile) = true →
    ((s.tile tile).engine e = .running → exec (.engineStopped tile e true) s = .next ((s.modTile tile (fun T => T.setEngine e .stopped)).watch tile)) ∧
    ((s.tile tile).engine e = .stopped → exec (.engineStopped tile e false) s = .next ((s.modTile tile (fun T => T.setEngine e .running)).watch tile)))

/-! ## Channels and reassignment -/

/-- A SEND takes effect at the next boundary: an address that is not aligned ends it ALIGN, and a length that is 0 or beyond 64 units SIZE;
otherwise its units are to be read, and the local side reads them before any channel's burst. The end of a SEND: once the last of its pieces
is back its status returns to its engine; an answer *full* keeps it until its message, which sets out again after 64 paces in pieces of up to
four units, is taken. -/
def Obligations.Sends : Prop :=
  (∀ (s : State) (tile : Nat) (e : Engine) (src u g ep q : Nat), s.issues tile e → src < 2 ^ 20 → ep < 16 → q < 8 →
    exec (.send tile e src u g ep q) s = .next (((s.modTile tile (fun T => T.setEngine e .sending)).modTile tile
      (fun T => { T with tops := T.tops ++ [.send e src u g ep q] })).watch tile)) ∧
  (∀ (s : State) (tile : Nat) (e : Engine) (src u g ep q : Nat), s.hasTile tile = true → s.live (tileDie tile) = true →
    (s.tile tile).tops = [.send e src u g ep q] → (s.tile tile).engine e = .sending → (s.tile tile).calm (some e) → (s.tile tile).send? e = none →
    (src % 64 ≠ 0 → ∃ t : State, exec (.tallyBoundary tile) s = .next t ∧ (t.tile tile).engine e = .running ∧
      t.out = s.out ++ [Output.op tile e .align false 0]) ∧
    (src % 64 = 0 → (u = 0 ∨ 64 < u) → ∃ t : State, exec (.tallyBoundary tile) s = .next t ∧ (t.tile tile).engine e = .running ∧
      t.out = s.out ++ [Output.op tile e .size false 0]) ∧
    (src % 64 = 0 → 1 ≤ u → u ≤ 64 → ∃ t : State, ∃ x : SendState, exec (.tallyBoundary tile) s = .next t ∧ (t.tile tile).engine e = .sending ∧
      (t.tile tile).send? e = some x ∧ x.src = src ∧ x.units = u ∧ x.target = g ∧ x.endpoint = ep ∧ x.qos = q ∧ x.asked = false ∧ t.out = s.out)) ∧
  (∀ (s : State) (tile : Nat) (q : SendState), s.hasTile tile = true → s.live (tileDie tile) = true → (s.tile tile).localBusy = false →
    (s.tile tile).sends.find? (fun q => !q.asked) = some q →
    exec (.burstSelect tile) s = .next ((s.askSend tile q).watch tile)) ∧
  (∀ (s : State) (tile : Nat) (e : Engine) (q : SendState), s.hasTile tile = true → s.live (tileDie tile) = true →
    (s.tile tile).send? e = some q → (∀ a : Access, a ∈ (s.tile tile).accs → ∀ u, a.dest ≠ .sendRead e u) →
    let ended (s : State) (st : Status) (l : Bool) (v : Nat) : Result := .next ((((s.modTile tile (fun T => T.dropSend e)).modTile tile
      (fun T => T.setEngine e .running)).emit (.op tile e st l v)).watch tile)
    let ps := s.net.filter (fun p => p.isPieceOf tile e)
    let gone : State := { s with net := s.net.filter (fun p => !p.isPieceOf tile e) }
    (∀ st, q.status = some st → exec (.sendStatus tile e) s = ended s st (q.l || s.lapsed tile) 0) ∧
    (q.status = none → ps ≠ [] → (∀ p : Packet, p ∈ ps → p.loc = .home) →
      ((∀ p : Packet, p ∈ ps → p.full = false) →
        ((∀ p : Packet, p ∈ ps → p.resp = some .ok) →
          exec (.sendStatus tile e) s = ended gone .ok (ps.any (·.l) || s.lapsed tile) (if ps.any (·.demoted) then 1 else 0)) ∧
        (∀ st, st ≠ .ok → (∃ p : Packet, p ∈ ps ∧ p.resp = some st) → (∀ p : Packet, p ∈ ps → p.resp = some .ok ∨ p.resp = some st) →
          exec (.sendStatus tile e) s = ended gone st (ps.any (·.l) || s.lapsed tile) (if ps.any (·.demoted) then 1 else 0))) ∧
      ((∃ p : Packet, p ∈ ps ∧ p.full = true) →
        ∃ t : State, exec (.sendStatus tile e) s = .next t ∧ (t.tile tile).engine e = .sendFull q.endpoint q.target ∧ t.out = s.out ∧
          t.net = gone.net ∧ ((t.tile tile).send? e).map (fun x => (x.full, x.since)) = some (true, s.paceNat tile)))) ∧
  (∀ (s : State) (tile : Nat) (e : Engine) (q : SendState), s.hasTile tile = true → s.live (tileDie tile) = true →
    (s.tile tile).send? e = some q → q.full = true → (∀ p : Packet, p ∈ s.net → p.isPieceOf tile e = false) →
    (s.paceNat tile < q.since + 64 → exec (.sendRetry tile e) s = .next (s.watch tile)) ∧
    (q.since + 64 ≤ s.paceNat tile → ∃ t : State, ∃ l, exec (.sendRetry tile e) s = .next t ∧ t.net = s.net ++ l ∧
      l.map (·.kind) = (List.range ((q.units + 3) / 4)).map (fun k => .message q.endpoint q.units k) ∧
      l.map (·.data) = (List.range ((q.units + 3) / 4)).map (fun k => (q.data.drop (4 * k)).take 4) ∧
      ∀ p, p ∈ l → p.target = .tile q.target ∧ p.qos = q.qos ∧ p.iss = s.sender tile q.e ∧ p.write = true))

/-- The first piece of a message brings it to its checks: for a closed endpoint it is counted and answered CLOSED, of another household GATE, too
long for the ring SIZE; without room it is answered full, and nothing is stored. Otherwise it takes its place in the queue, behind a pad where
it wraps, and the piece waits at the NW port to be written there. With the last piece written it is whole, and answered OK. -/
def Obligations.MessagesArrive : Prop :=
  (∀ (s : State) (tile id e u : Nat) (p : Packet), s.hasTile tile = true → s.ready (tileDie tile) = true →
    s.atHome tile id = some p → p.kind = .message e u 0 → (s.tile tile).quarantined .nw = false → (s.tile tile).msgOf p.iss = none →
    let E := (s.tile tile).ep e
    ((E.isOpen = false ∨ (s.tile tile).reassign ≠ none) →
      ∃ t : State, exec (.messageArrival tile id) s = .next t ∧ ((t.tile tile).ep e).drop = satInc E.drop ∧
        (t.pkt id).map (·.resp) = some (some .closed) ∧ t.mem = s.mem) ∧
    (E.isOpen = true → (s.tile tile).reassign = none →
      (E.hh.toNat ≠ p.iss.hh →
        ∃ t : State, exec (.messageArrival tile id) s = .next t ∧ (t.pkt id).map (·.resp) = some (some .gate) ∧ (t.tile tile).eps = (s.tile tile).eps ∧
          t.mem = s.mem) ∧
      (E.hh.toNat = p.iss.hh → E.units < u →
        ∃ t : State, exec (.messageArrival tile id) s = .next t ∧ (t.pkt id).map (·.resp) = some (some .size) ∧ (t.tile tile).eps = (s.tile tile).eps ∧
          t.mem = s.mem) ∧
      (E.hh.toNat = p.iss.hh → u ≤ E.units → E.place u = none →
        ∃ t : State, exec (.messageArrival tile id) s = .next t ∧ (t.pkt id).map (fun r => (r.resp, r.full)) = some (some .ok, true) ∧
          (t.tile tile).eps = (s.tile tile).eps ∧ t.mem = s.mem) ∧
      (∀ pad pos, E.hh.toNat = p.iss.hh → u ≤ E.units → E.place u = some (pad, pos) →
        ∃ t : State, ∃ a : Access, exec (.messageArrival tile id) s = .next t ∧ t.mem = s.mem ∧
          ((t.tile tile).ep e).recs.length = E.recs.length + (if pad.isSome then 2 else 1) ∧
          ((t.tile tile).ep e).recs.getLast?.map (fun r => (r.pad, r.whole, r.units, r.pos, r.tile, r.master)) =
            some (false, false, u, pos, p.iss.tile, p.iss.master) ∧
          (t.tile tile).accs = (s.tile tile).accs ++ [a] ∧ a.master = .nw ∧ a.write = true ∧ a.stage = .atPort ∧ a.dest = .packet p.id ∧
          a.off = 64 * (E.off.toNat + pos) ∧ a.data = p.data ∧ (t.pkt id).map (fun r => (r.loc, r.resp)) = some (.served, none)))) ∧
  (∀ (s : State) (tile e u k : Nat) (a : Access) (p : Packet) (m : MsgIn), s.hasTile tile = true → s.live (tileDie tile) = true →
    (s.tile tile).acc a.id = some a → a.stage = .beat → a.write = true → a.done + 1 = a.beats → a.badAt = none → a.rom = false →
    a.dest = .packet p.id → s.pkt p.id = some p → p.kind = .message e u k → (s.tile tile).msgOf p.iss = some m → m.endpoint = e → m.left = 1 →
    m.status = .ok → m.full = false →
    ∃ t : State, exec (.bankWriteCommit tile a.id) s = .next t ∧ (t.pkt p.id).map (fun r => (r.resp, r.full)) = some (some .ok, false) ∧
      (t.tile tile).msgOf p.iss = none ∧
      ((t.tile tile).ep e).recs.map (fun r => (r.pad, r.units, r.pos)) = ((s.tile tile).ep e).recs.map (fun r => (r.pad, r.units, r.pos)) ∧
      ∀ r, r ∈ ((t.tile tile).ep e).recs → r.pad = false → r.pos = m.pos → r.whole = true)

/-- RECV waits for its endpoint's head message and POP for the next boundary: there POP frees the head and the pads around it, and RECV returns
the head message that is whole, removing nothing, or waits on. An endpoint whose ring lies in a swept bank opens empty, with its household;
closing it discards its queue and ends the RECVs that wait at it with ABORTED. -/
def Obligations.EndpointsAndReceive : Prop :=
  (∀ (s : State) (tile e : Nat) (g : Engine), s.issues tile g → e < 16 →
     exec (.recv tile g e) s = .next ((s.modTile tile (fun T => T.setEngine g (.recv e))).watch tile) ∧
     exec (.pop tile g e) s = .next ((s.modTile tile (fun T => { T with tops := T.tops ++ [.pop g e] })).watch tile)) ∧
  (∀ (s : State) (tile e : Nat) (g : Engine), s.hasTile tile = true → s.live (tileDie tile) = true → e < 16 →
     ((s.tile tile).tops = [.pop g e] → (s.tile tile).calm none → ∃ t : State, exec (.tallyBoundary tile) s = .next t ∧
       ((t.tile tile).ep e).recs = (if ((s.tile tile).ep e).head? = none then ((s.tile tile).ep e).recs
         else (((((s.tile tile).ep e).recs.dropWhile (·.pad)).drop 1).dropWhile (·.pad)))) ∧
     ((s.tile tile).tops = [] → (s.tile tile).engine g = .recv e → (s.tile tile).calm (some g) →
       (((s.tile tile).ep e).head? = none → ∃ t : State, exec (.tallyBoundary tile) s = .next t ∧ (t.tile tile).engine g = .recv e ∧ t.out = s.out) ∧
       (∀ r, ((s.tile tile).ep e).head? = some r → ∃ t : State, exec (.tallyBoundary tile) s = .next t ∧ (t.tile tile).engine g = .running ∧
         (t.tile tile).eps = (s.tile tile).eps ∧ t.out = s.out ++ [Output.op tile g .ok r.l ((s.tile tile).ep e).headWord.toNat]))) ∧
  (∀ (s : State) (w : Src) (tile e : Nat) (v : Word), s.mayWrite .hm w tile = true → e < 16 →
     let E := (s.tile tile).ep e
     let N : Endpoint := { E with isOpen := true, hh := BitVec.ofNat 4 (bits v 4 4), recs := [], tail := 0 }
     (s.tileTakes w tile (0x400 + 0x20 * e) (withField v 0 1 1) → E.isOpen = false →
       exec (.endpointOpen w tile e v) s = .next (s.answered
         (if E.baseValid then s.modTile tile (fun T => { T with eps := T.eps.set e N }) else s) w tile
         (0x400 + 0x20 * e) (withField v 0 1 1) (if E.baseValid then .ok else .size))) ∧
     (s.tileTakes w tile (0x400 + 0x20 * e) (withField v 0 1 0) → E.isOpen = true → E.hh.toNat = bits v 4 4 →
       ∃ t : State, exec (.endpointClose w tile e v) s = .next t ∧
       ((t.tile tile).ep e).isOpen = false ∧ ((t.tile tile).ep e).recs = [] ∧
       (∀ g, (s.tile tile).engine g = .recv e → (t.tile tile).engine g = .running ∧ .op tile g .aborted false 0 ∈ t.out) ∧
       (∀ g, (s.tile tile).engine g ≠ .recv e → (t.tile tile).engine g = (s.tile tile).engine g)))

/-- A write of SLC_TILE_HH gives its tiles to other households: each that changes begins its reassignment, its gates and endpoints closed to
later requests and, its merge buffer empty, its channels dropped, and the write completes with the last of them; there the tile belongs to its
new household, with no deed, no tally and no gate of the old one, and keeps its retired banks and remapped rows. -/
def Obligations.ReassignmentSteps : Prop :=
  (∀ (s : State) (w : Src) (d i : Nat) (v : Word), s.sliceTakes w d (0x1000 + 4 * i) v → s.isManager w = true → i < 32 →
    (∀ j, j < 8 → (s.tile (256 * d + 8 * i + j)).hh ≠ bits v (4 * j) 4 → s.givable d (bits v (4 * j) 4) = true) →
    ((∀ j, j < 8 → (s.tile (256 * d + 8 * i + j)).hh = bits v (4 * j) 4) →
      exec (.reassignment w d i v) s = .next (s.sliceAnswered s w d (0x1000 + 4 * i) v .ok)) ∧
    ((∃ j, j < 8 ∧ (s.tile (256 * d + 8 * i + j)).hh ≠ bits v (4 * j) 4) →
      ∃ t : State, exec (.reassignment w d i v) s = .next t ∧
        (t.slice d).hhBusy = some { src := w, off := 0x1000 + 4 * i, value := v, pkt := (s.turn w d (sliceRegAddr d (0x1000 + 4 * i)) v).map (·.id) } ∧
        ∀ j, j < 8 → (s.tile (256 * d + 8 * i + j)).hh ≠ bits v (4 * j) 4 →
          256 * d + 8 * i + j ∈ (t.slice d).hhTiles ∧
          (t.tile (256 * d + 8 * i + j)).reassign =
            some { hh := bits v (4 * j) 4, stopped := (s.tile (256 * d + 8 * i + j)).merge.isEmpty && !(s.tile (256 * d + 8 * i + j)).narrow.any (·.passed) } ∧
          (t.tile (256 * d + 8 * i + j)).hh = (s.tile (256 * d + 8 * i + j)).hh ∧
          ((s.tile (256 * d + 8 * i + j)).merge = [] → (s.tile (256 * d + 8 * i + j)).narrow = [] →
            ∀ n, ((t.tile (256 * d + 8 * i + j)).chan n).state = .disabled) ∧
          (∀ e, e < 16 → ((t.tile (256 * d + 8 * i + j)).ep e).isOpen = false) ∧
          ∀ g, ((t.tile (256 * d + 8 * i + j)).gate g).isOpen = false)) ∧
  (∀ (s : State) (tile h : Nat), s.hasTile tile = true → s.live (tileDie tile) = true →
    (s.tile tile).reassign = some { hh := h, stopped := true } →
    (s.tile tile).accs = [] → (s.tile tile).merge = [] → (s.tile tile).narrow = [] → (s.tile tile).regBusy = none →
    (s.tile tile).regWait = [] → (s.slice (tileDie tile)).regWait = [] →
    ∃ t : State, exec (.reassignmentComplete tile) s = .next t ∧ (t.tile tile).hh = h ∧ (t.tile tile).reassign = none ∧
      (∀ b, (t.tile tile).ownerOf b = 0) ∧ (∀ k, (t.tile tile).tallyOf k = 0) ∧ (∀ g, ((t.tile tile).gate g).isOpen = false) ∧
      (t.tile tile).retired = (s.tile tile).retired ∧ (t.tile tile).remapRow = (s.tile tile).remapRow ∧
      (∀ a id p, (s.slice (tileDie tile)).hhBusy = some a → a.pkt = some id → s.pkt id = some p → a.half = 0 →
        (∀ g, g ∈ (s.slice (tileDie tile)).hhTiles → g = tile) → (t.slice (tileDie tile)).hhBusy = none ∧ (t.pkt id).map (·.resp) = some (some .ok)))

/-! ## Gleaner, check-bit tests, march, repair -/

/-- The gleaner passes over poisoned rows, swept rows without a valid bit and the rows of a bank under test, checks the next row, once 64 paces
have passed since its last read of the bank and the bank is free, and goes on past it, past row 1023 to row 0 with LAP set; a row whose check and replay both miss is poisoned and counted, and UNCORR is raised to H0. The check-bit tests, on a bank that the march engine holds: WRITEPAR gives a row
the parity of TL_TEST_PAR and leaves its bytes and its poison bit; READRAW reads the parity as stored; CHECK reads as an owner does, with
INJ making its first check miss. On a bank with another owner each is answered DEED. A write of a free remap entry on a bank that no engine
holds puts a spare row in the place of its row; an entry that is valid stays as it is. -/
def Obligations.RowChecksAndRepair : Prop :=
  (∀ (s : State) (tile bank : Nat) (u1 u2 : ByteMask), s.hasTile tile = true → s.ready (tileDie tile) = true →
     bank < 16 → bit (s.tile tile).glean bank = true →
     let r := Tbl.get 0 (s.tile tile).gleanRow bank
     let past (row : Nat) (T : Tile) : Tile :=
       if row = 1023 then { T with gleanRow := T.gleanRow.set bank 0, lap := setBit T.lap bank true } else { T with gleanRow := T.gleanRow.set bank (row + 1) }
     let read (T : Tile) : Tile := { T with gleanAt := T.gleanAt.set bank (s.paceNat tile) }
     let may : Prop := (s.tile tile).gleanFree bank = true ∧ (∀ k, Tbl.find (s.tile tile).gleanAt bank = some k → k + 64 ≤ s.paceNat tile)
     ((∀ j, r ≤ j → j < 1024 → s.gleanSkips tile bank j = true) →
       exec (.gleanerBeat tile bank u1 u2) s = .next (s.modTile tile (past 1023))) ∧
     (∀ row, r ≤ row → row < 1024 → (∀ j, r ≤ j → j < row → s.gleanSkips tile bank j = true) → s.gleanSkips tile bank row = false →
       let p := (s.tile tile).physRow bank row
       let k := missMask (s.stored tile bank p)
       (¬may → exec (.gleanerBeat tile bank u1 u2) s = .next s) ∧
       (may → k ^^^ u1 = 0 → exec (.gleanerBeat tile bank u1 u2) s = .next (s.modTile tile (fun T => read (past row T)))) ∧
       (may → k ^^^ u1 ≠ 0 → k ^^^ u2 ≠ 0 → ∃ t : State, exec (.gleanerBeat tile bank u1 u2) s = .next t ∧ t.poisoned tile bank p = true ∧
         (t.tile tile).poisons = satInc (s.tile tile).poisons ∧ bit ((t.slice (tileDie tile)).irq 0).cause 6 = true ∧
         Tbl.get 0 (t.tile tile).gleanRow bank = (if row = 1023 then 0 else row + 1) ∧ t.mem = s.mem))) ∧
  (∀ (s : State) (w : Src) (tile : Nat) (v : Word) (u1 u2 : ByteMask), s.isManager w = true →
     let takes (op : Nat) : Prop := s.tileTakes w tile 0x840 (withField v 0 2 op)
     let b := bits v 4 4
     let p := if bit v 3 then 1024 + bits v 8 4 else (s.tile tile).physRow b (bits v 8 10)
     let k := missMask (s.stored tile b p)
     ((s.tile tile).ownerOf b ≠ 7 →
       (takes 1 → exec (.writepar w tile v) s = .next (s.answered s w tile 0x840 (withField v 0 2 1) .deed)) ∧
       (takes 2 → exec (.readraw w tile v) s = .next (s.answered s w tile 0x840 (withField v 0 2 2) .deed)) ∧
       (takes 3 → exec (.check w tile v u1 u2) s = .next (s.answered s w tile 0x840 (withField v 0 2 3) .deed))) ∧
     ((s.tile tile).ownerOf b = 7 → (s.tile tile).testBusy = false → (s.tile tile).underTest b = false →
       (takes 1 → ∃ t : State, exec (.writepar w tile v) s = .next t ∧ t.poison = s.poison ∧
         (∀ g c q, t.stored g c q = if rowKey g c q = rowKey tile b p then { data := (s.stored tile b p).data, par := (s.tile tile).testPar }
           else s.stored g c q)) ∧
       (takes 2 → ∃ t : State, exec (.readraw w tile v) s = .next t ∧ (t.tile tile).testPar = (s.stored tile b p).par ∧ t.mem = s.mem) ∧
       (takes 3 → s.poisoned tile b p = false → (bit v 3 = true ∨ s.unswept tile b (bits v 8 10) = false) →
         (bit v 2 = false → k ^^^ u1 = 0 → ∃ t : State, exec (.check w tile v u1 u2) s = .next t ∧ (t.tile tile).testStatus = .ok ∧
           (t.tile tile).testReplayed = false ∧ (t.tile tile).testPar = 0 ∧ (t.tile tile).replays = (s.tile tile).replays) ∧
         (bit v 2 = true → k ^^^ u2 = 0 → ∃ t : State, exec (.check w tile v u1 u2) s = .next t ∧ (t.tile tile).testStatus = .ok ∧
           (t.tile tile).testReplayed = true ∧ (t.tile tile).replays = satInc (s.tile tile).replays) ∧
         (bit v 2 = true → k ^^^ u2 ≠ 0 → ∃ t : State, exec (.check w tile v u1 u2) s = .next t ∧ (t.tile tile).testStatus = .uncorr ∧
           (t.tile tile).testPar = k ^^^ u2 ∧ t.poisoned tile b p = true)))) ∧
  (∀ (s : State) (w : Src) (tile i : Nat) (v : Word), s.tileTakes w tile (0x880 + 4 * i) v → s.isManager w = true → i < 32 →
     let b := bits v 10 4
     let clash := (s.tile tile).remapRow.any
       (fun p => bit p.2 31 && bits p.2 10 4 == b && (bits p.2 0 10 == bits v 0 10 || bits p.2 14 4 == bits v 14 4))
     (bit (Tbl.get 0 (s.tile tile).remapRow i) 31 = true →
       exec (.remapRowWrite w tile i v) s = .next (s.answered (s.modTile tile id) w tile (0x880 + 4 * i) v .ok)) ∧
     (bit (Tbl.get 0 (s.tile tile).remapRow i) 31 = false → bit v 31 = true →
       ((s.tile tile).ownerOf b = 0 ∨ (s.tile tile).ownerOf b = 7) → clash = false →
       ∃ t : State, exec (.remapRowWrite w tile i v) s = .next (s.answered t w tile (0x880 + 4 * i) v .ok) ∧ t.out = s.out ∧
         (t.tile tile).physRow b (bits v 0 10) = 1024 + bits v 14 4 ∧
         (∀ c q, c ≠ b ∨ q ≠ bits v 0 10 → (t.tile tile).physRow c q = (s.tile tile).physRow c q)) ∧
     (bit (Tbl.get 0 (s.tile tile).remapRow i) 31 = false → bit v 31 = true →
       (s.tile tile).ownerOf b ≠ 0 → (s.tile tile).ownerOf b ≠ 7 →
       exec (.remapRowWrite w tile i v) s = .next (s.answered (s.modTile tile id) w tile (0x880 + 4 * i) v .deed)))

/-- A march begins on banks that the march engine holds or that are retired. Where March C− ends, every row of its banks holds the
background with right parity and no poison, and no row of another bank has changed; a transparent march has written no row. -/
def Obligations.Marches : Prop :=
  (∀ (s : State) (w : Src) (tile : Nat) (v : Word), s.isManager w = true → (s.tile tile).march = none →
    (∀ b, b < 16 → bit v b = true → (s.tile tile).ownerOf b = 7 ∨ bit (s.tile tile).retired b = true) →
    let m : BitVec 16 := v.truncate 16
    (s.tileTakes w tile 0x860 (withField v 16 2 1) → exec (.marchCMinus w tile v) s = .next (s.answered (s.modTile tile (fun T =>
      { T with marchBanks := m, marchMode := false, marchBg := bit v 18, marchDone := false,
               march := some { banks := m, mode := false, bg := bit v 18, startup := false } })) w
      tile 0x860 (withField v 16 2 1) .ok)) ∧
    (s.tileTakes w tile 0x860 (withField v 16 2 3) → exec (.transparentMarch w tile v) s = .next (s.answered (s.modTile tile (fun T =>
      { T with marchBanks := m, marchMode := true, marchBg := bit v 18, marchDone := false,
               march := some { banks := m, mode := true, bg := bit v 18, startup := false } })) w
      tile 0x860 (withField v 16 2 3) .ok))) ∧
  (∀ (s : State) (tile : Nat) (r : MarchRun) (fails : List MarchFail), s.hasTile tile = true → s.live (tileDie tile) = true →
    (s.tile tile).march = some r → (s.tile tile).regWait = [] →
    ∃ t : State, exec (.marchEnd tile fails) s = .next t ∧ (t.tile tile).march = none ∧ (t.tile tile).marchDone = true ∧
      (r.mode = true → t.mem = s.mem) ∧
      (r.mode = false → ∀ b p, b < 16 → p < 1040 →
        (bit r.banks b = true → t.stored tile b p = mkRow (marchD r.bg p) ∧ t.poisoned tile b p = false) ∧
        (bit r.banks b = false → t.stored tile b p = s.stored tile b p ∧ t.poisoned tile b p = s.poisoned tile b p)) ∧
      (∀ b, b < 16 → bit (t.tile tile).failBanks b = (bit (s.tile tile).failBanks b || (bit r.banks b && fails.any (fun f => f.bank == b)))) ∧
      (r.startup = true → fails.any (fun f => bit r.banks f.bank) = true → (t.slice (tileDie tile)).marchFail = true))

/-! ## Stream engine -/

/-- EN of a channel: it enables a channel with a valid ring, disables one that has no descriptor under way, and is answered REARM_BUSY on
one that has; a channel without a valid ring is answered DECERR. A new TAIL is taken while the ring has as many entries. -/
def Obligations.ChannelEnableAndTail : Prop :=
  (∀ (s : State) (w : Src) (tile n : Nat) (v : Word), s.tileTakes w tile (0x600 + 0x40 * n) v → s.mayWrite .hm w tile = true → n < 8 → bits v 4 3 = 0 →
    let c := s.chan tile n
    (bit v 0 = true → c.state = .disabled → c.localRing tile = true →
      ∃ t : State, exec (.en w tile n v) s = .next (s.answered t w tile (0x600 + 0x40 * n) v .ok) ∧ t.out = s.out ∧ (t.chan tile n).en = true ∧ (t.chan tile n).state = .idle ∧
      (t.chan tile n).rep = bit v 8) ∧
    (bit v 0 = true → c.state = .disabled → c.localRing tile = false → c.hhRing = false →
      exec (.en w tile n v) s = .next (s.answered s w tile (0x600 + 0x40 * n) v .decerr)) ∧
    (bit v 0 = false → (c.state = .idle ∨ c.state = .armed ∨ c.state = .halt) →
      ∃ t : State, exec (.en w tile n v) s = .next (s.answered t w tile (0x600 + 0x40 * n) v .ok) ∧ t.out = s.out ∧ (t.chan tile n).en = false ∧ (t.chan tile n).state = .disabled) ∧
    (bit v 0 = false → (c.state = .run ∨ c.state = .wait ∨ c.state = .arming) →
      exec (.en w tile n v) s = .next (s.answered s w tile (0x600 + 0x40 * n) v .rearmBusy))) ∧
  (∀ (s : State) (w : Src) (tile n : Nat) (v : Word), s.tileTakes w tile (0x614 + 0x40 * n) v → s.mayWrite .hm w tile = true → n < 8 →
    let c := s.chan tile n
    let x : BitVec 16 := v.truncate 16
    ((x - c.head).toNat ≤ c.entries → ∃ t : State, exec (.dringTailWrite w tile n v) s = .next (s.answered t w tile (0x614 + 0x40 * n) v .ok) ∧
      (t.chan tile n).tail = x ∧ t.out = s.out) ∧
    (c.entries < (x - c.head).toNat →
      exec (.dringTailWrite w tile n v) s = .next (s.answered s w tile (0x614 + 0x40 * n) v .size)))

/-- ARM fetches the descriptor at HEAD of a local ring; GO starts an armed descriptor, is kept while one is fetched or runs, and a second is
lost. From a halt, RESUME runs the descriptor again, fetching it anew where the halt came at its fetch; SKIP goes past it with its record, and
ABORT goes to TAIL and IDLE; an ABORT of a running channel waits for its requests. -/
def Obligations.ChannelCommands : Prop :=
  ∀ (s : State) (w : Src) (tile n : Nat), s.mayWrite .hm w tile = true → n < 8 →
    let c := s.chan tile n
    let off := 0x600 + 0x40 * n
    let takes (cmd : Nat) : Prop := s.tileTakes w tile off (c.ctrlWord cmd)
    let ok (t : State) (cmd : Nat) : Result := .next (s.answered t w tile off (c.ctrlWord cmd) .ok)
    let R := (s.slice (tileDie tile)).cring (s.tile tile).hh
    (c.localRing tile = true →
     (takes 1 → (c.state = .idle ∨ c.state = .armed) → c.head ≠ c.tail → ∃ t : State, exec (.arm w tile n) s = ok t 1 ∧
       (t.chan tile n).state = .arming ∧ (t.chan tile n).armPoint = c.head ∧ (t.chan tile n).head = c.head) ∧
     (takes 1 → (c.state = .run ∨ c.state = .wait ∨ c.state = .halt) →
       exec (.arm w tile n) s = .next (s.answered (s.watch tile) w tile off (c.ctrlWord 1) .rearmBusy)) ∧
     (∀ d, takes 2 → c.state = .armed → c.snap = some d → ∃ t : State, exec (.go w tile n) s = ok t 2 ∧ (t.chan tile n).state = .run ∧
       (t.chan tile n).snap = some d ∧ t.out = s.out) ∧
     (takes 2 → (c.state = .arming ∨ c.state = .run ∨ c.state = .wait) → ∃ t : State, exec (.go w tile n) s = ok t 2 ∧
       (t.chan tile n).pendGo = true ∧ (t.chan tile n).goLost = (c.goLost || c.pendGo) ∧ (t.chan tile n).state = c.state)) ∧
    (c.state = .halt → c.ending = false → c.contWait = none →
     (∀ d, takes 3 → c.haltAll = false → c.snap = some d → c.haltDir ≠ 3 → c.haltDir ≠ 5 → c.haltFrom ≠ .arming → c.phase ≠ .fetched →
       ∃ t : State, exec (.resume w tile n) s = ok t 3 ∧ (t.chan tile n).state = .run ∧ (t.chan tile n).head = c.head ∧ (t.chan tile n).snap = some d) ∧
     (takes 3 → c.haltFrom = .arming → ∃ t : State, exec (.resume w tile n) s = ok t 3 ∧ (t.chan tile n).state = .arming ∧
       (t.chan tile n).head = c.head) ∧
     (takes 3 → c.haltAll = true → c.haltFrom = .armed → ∃ t : State, exec (.resume w tile n) s = ok t 3 ∧ (t.chan tile n).state = .armed) ∧
     (takes 4 → c.haltedIdle = false → c.rep = false → ∃ t : State, exec (.skip w tile n) s = ok t 4 ∧ (t.chan tile n).head = c.head + 1 ∧
       ((R.en = false ∨ R.takes = true) → c.head + 1 = c.tail → (t.chan tile n).state = .idle) ∧
       (R.en = true → R.takes = true → ∃ r : CRec, ((t.slice (tileDie tile)).cring (s.tile tile).hh).due = R.due ++ [r] ∧
         r.status = c.code ∧ r.idx = c.head ∧ r.tag = c.tag)) ∧
     (takes 5 → c.haltedIdle = false → ∃ t : State, exec (.abort w tile n) s = ok t 5 ∧ (t.chan tile n).head = c.tail ∧
       ((R.en = false ∨ R.takes = true) → (t.chan tile n).state = .idle))) ∧
    (takes 5 → c.state = .run → c.ending = false → c.outst ≠ 0 → ∃ t : State, exec (.abort w tile n) s = ok t 5 ∧
      (t.chan tile n).aborting = true ∧ (t.chan tile n).state = .run ∧ (t.chan tile n).head = c.head)

/-- A fetched descriptor that passes its checks arms its channel, or runs; one that fails them leaves its status as the channel's failure,
and so does a fetch that failed; a channel that is aborting starts nothing. A descriptor that has completed first adds to its DONE tally, at a
tally boundary; then it issues its record, raises COMPLETE if FULL asks for it, and the channel goes past it. A channel whose requests have
returned after a failure halts with its status, and FAULT is raised to its household. -/
def Obligations.DescriptorsCheckedAndEnded : Prop :=
  (∀ (s : State) (tile n : Nat) (st : Status) (d : RowData), s.hasTile tile = true → s.live (tileDie tile) = true → n < 8 →
     (s.chan tile n).fetched = some (st, d) →
     let c := s.chan tile n
     let bad := Desc.check d tile (fun k => !(s.tile tile).isCount k)
     ∃ t : State, exec (.descriptorFetched tile n) s = .next t ∧ (t.chan tile n).curIdx = c.head ∧
       ((c.aborting = true ∨ c.fail ≠ none) → (t.chan tile n).state = c.state ∧ (t.chan tile n).fail = c.fail ∧ t.net = s.net) ∧
       (c.aborting = false → c.fail = none →
         (st = .ok → bad = none → (t.chan tile n).snap = some d ∧ (t.chan tile n).curTag = Desc.tag d ∧
           (t.chan tile n).state = if c.state = .arming ∧ c.pendGo = false then .armed else .run) ∧
         (∀ e, st = .ok → bad = some e →
           (t.chan tile n).state = c.state ∧ (t.chan tile n).fail.map (fun f => (f.status, f.dir)) = some (e, 5)) ∧
         (st ≠ .ok →
           (t.chan tile n).state = c.state ∧ (t.chan tile n).fail.map (fun f => (f.status, f.dir)) = some (st, 3)))) ∧
  (∀ (s : State) (tile n : Nat) (d : RowData), s.hasTile tile = true → s.live (tileDie tile) = true → n < 8 → (s.chan tile n).snap = some d →
    let c := s.chan tile n
    let h := (s.tile tile).hh
    let R := (s.slice (tileDie tile)).cring h
    let lp := c.l || (s.slice (tileDie tile)).lpActive
    (c.complete d = true → Desc.doneTally d ≠ 63 → exec (.descriptorComplete tile n) s =
      .next (((s.modTile tile (fun T => { T with tops := T.tops ++ [.done n (Desc.doneTally d) lp] })).modChan tile n
        (fun c => { c with doneWait := true })).watch tile)) ∧
    (c.complete d = true → Desc.doneTally d = 63 → c.rep = false → (Desc.op d ≠ 4 ∨ c.drop = 0) →
      ∃ t : State, exec (.descriptorComplete tile n) s = .next t ∧ (t.chan tile n).head = c.head + 1 ∧ (t.tile tile).tops = (s.tile tile).tops ∧
        (Desc.crec d = false → Desc.full d = true → bit ((t.slice (tileDie tile)).irq h).cause 0 = true) ∧
        (Desc.crec d = true → R.en = true → R.takes = true → ∃ r : CRec, ((t.slice (tileDie tile)).cring h).due = R.due ++ [r] ∧
          r.status = .ok ∧ r.idx = c.head ∧ r.tag = Desc.tag d ∧ r.chan = n ∧ r.tile = tile)) ∧
    (∀ k l, (s.tile tile).tops = [.done n k l] → (s.tile tile).calm none → c.state = .run → c.doneWait = true → c.aborting = false →
      c.rep = false → (Desc.op d ≠ 4 ∨ c.drop = 0) →
      ∃ t : State, exec (.tallyBoundary tile) s = .next t ∧ (t.tile tile).tallyOf k = (s.tile tile).tallyOf k + 1 ∧
        (t.chan tile n).head = c.head + 1 ∧ (Desc.crec d = false → Desc.full d = true → bit ((t.slice (tileDie tile)).irq h).cause 0 = true))) ∧
  (∀ (s : State) (tile n : Nat) (f : ChFail), s.hasTile tile = true → s.live (tileDie tile) = true → n < 8 →
    let c := s.chan tile n
    c.fail = some f → c.aborting = false → c.outst = 0 → c.fetching = false → c.fetched = none → c.doneWait = false →
    (s.tile tile).indexPending n = false → (c.state = .run ∨ c.state = .wait ∨ c.state = .arming ∨ c.state = .armed) →
    ∃ t : State, exec (.channelHalt tile n) s = .next t ∧ (t.chan tile n).state = .halt ∧ (t.chan tile n).code = f.status ∧
      (t.chan tile n).faultAddr = f.addr ∧ (t.chan tile n).faultDir = f.dir ∧ (t.chan tile n).head = c.head ∧
      (f.all = false → bit ((t.slice (tileDie tile)).irq (s.tile tile).hh).cause 2 = true))

/-- The local side of a stream engine, when free and no send has reads to make, goes to a ready channel of the highest ST_PRIO. A channel's bursts: a write burst to
another tile sets out as requests that carry its output in order, a read burst from another tile as requests of its length; a local burst
uses the local side up; and when all is issued the read-backs follow. -/
def Obligations.BurstsAreIssued : Prop :=
  (∀ (s : State) (tile : Nat), s.hasTile tile = true → s.live (tileDie tile) = true → (s.tile tile).localBusy = false →
     (∀ q, q ∈ (s.tile tile).sends → q.asked = true) →
     ∃ t : State, exec (.burstSelect tile) s = .next t ∧
       ((∃ n, n < 8 ∧ s.wantsLocal tile n = true) → ∃ n, (t.tile tile).picked = some n ∧ n < 8 ∧ s.wantsLocal tile n = true ∧
         ∀ m, m < 8 → s.wantsLocal tile m = true → bits (s.tile tile).stPrio (3 * m) 3 ≤ bits (s.tile tile).stPrio (3 * n) 3) ∧
       ((∀ n, n < 8 → s.wantsLocal tile n = false) → (t.tile tile).picked = none)) ∧
  (∀ (s : State) (tile n : Nat) (d : RowData), s.hasTile tile = true → s.live (tileDie tile) = true → n < 8 →
     (s.chan tile n).working = some d → (s.chan tile n).slotEnd = false →
     let c := s.chan tile n
     (∀ g, c.phase = .writing → Desc.useRing d = false → c.trans = none →
       let q := c.writeNext d (((s.tile tile).indexFor n d c.wunit).getD 0)
       s.side tile q.2.1 = .remote g → c.targetsFull (.tile g) = false →
       s.remoteBusy tile + (requestPieces (addrOff q.2.1) q.2.2 0 q.2.2).length ≤ 16 →
       ∃ t : State, ∃ l m : List Packet, exec (.burstIssue tile n) s = .next t ∧ t.net = s.net ++ l ++ m ∧ (l.flatMap (·.data)) = c.outBuf.take q.2.2 ∧
         (∀ p : Packet, p ∈ l → p.target = .tile g ∧ p.write = true ∧ p.iss = s.issuer (.st tile n)) ∧
         (t.chan tile n).wunit = c.wunit + q.2.2 ∧ (t.chan tile n).outst = c.outst + l.length) ∧
     (∀ g v, c.phase = .idle → (s.tile tile).indexFor n d c.wunit = some v → c.need = 0 → c.chunkIn d v = false →
       (Desc.op d = 5 ∨ Desc.useRing d = false) →
       let q := c.readNext d v
       s.side tile q.2.1 = .remote g → s.remoteBusy tile + (requestPieces (addrOff q.2.1) q.2.2 0 q.2.2).length ≤ 16 →
       ∃ t : State, ∃ l : List Packet, exec (.burstIssue tile n) s = .next t ∧ t.net = s.net ++ l ∧ (l.map (·.size)).sum = 64 * q.2.2 ∧
         (∀ p : Packet, p ∈ l → p.target = .tile g ∧ p.write = false) ∧ (t.chan tile n).runit = q.1 + q.2.2 ∧
         (t.chan tile n).need = l.length) ∧
     (∀ v, c.phase = .idle → (s.tile tile).indexFor n d c.wunit = some v → c.need = 0 → c.chunkIn d v = false →
       (Desc.op d = 5 ∨ Desc.useRing d = false) → s.side tile (c.readNext d v).2.1 = .own → (s.tile tile).picked = some n →
       ∃ t : State, exec (.burstIssue tile n) s = .next t ∧ (t.chan tile n).runit = (c.readNext d v).1 + (c.readNext d v).2.2 ∧
         (t.tile tile).picked = none ∧ (t.tile tile).lastChan = n ∧ t.net = s.net) ∧
     (c.phase = .finished → ∃ t : State, ∃ l : List Packet, exec (.burstIssue tile n) s = .next t ∧ t.net = s.net ++ l ∧
       l.length = min (c.targets.filter (fun x => !x.issued)).length (16 - s.remoteBusy tile) ∧
       ∀ p : Packet, p ∈ l → p.write = false ∧ p.size = 64))

/-- A window lookup returns its row: the burst, descriptor fetch or index read that waited for it sets out to where the entry maps it, once the
remote side has room, or fails with the lookup's status or the entry's: PAGE, DECERR or ALIGN. One whose channel works no more is dropped. -/
def Obligations.LookupsReturn : Prop :=
  ∀ (s : State) (tile id : Nat) (p : Packet) (st : Status), s.hasTile tile = true → s.live (tileDie tile) = true →
    s.ownPkt tile id = some p → p.loc = .home → p.resp = some st →
    let n := p.iss.chan
    let c := s.chan tile n
    let row := p.data.headD 0
    let rest := s.net.filter (fun q => q.id != p.id)
    let tr (a : Addr) (write strict : Bool) (len : Nat) : Except Status (Target × Nat) :=
      if st ≠ .ok then .error st else s.translate (tileDie tile) (entryIn row a) a write strict len
    (∀ d dir, c.snap = some d → dir < 2 → p.kind = .lookup dir → c.working = none → ∃ t : State,
      exec (.windowLookupReturn tile id) s = .next t ∧ t.net = rest ∧ (t.chan tile n).outst = c.outst - 1) ∧
    (∀ d, c.working = some d → p.kind = .lookup 0 →
      let q := c.readNext d (((s.tile tile).indexFor n d c.wunit).getD 0)
      (∀ e, tr q.2.1 false true (64 * q.2.2) = .error e → ∃ t : State, exec (.windowLookupReturn tile id) s = .next t ∧ t.net = rest ∧
        (t.chan tile n).outst = c.outst - 1 ∧ (t.chan tile n).fail.map (fun f => (f.status, f.dir, f.addr)) = some (e, 0, q.2.1)) ∧
      (∀ tg, tr q.2.1 false true (64 * q.2.2) = .ok tg → s.remoteBusy tile + (requestPieces tg.2 q.2.2 0 q.2.2).length ≤ 16 →
        ∃ t : State, ∃ l : List Packet, exec (.windowLookupReturn tile id) s = .next t ∧ t.net = rest ++ l ∧
          (∀ r : Packet, r ∈ l → r.target = tg.1 ∧ r.write = false ∧ r.kind = .read) ∧ (l.map (·.size)).sum = 64 * q.2.2 ∧
          (t.chan tile n).runit = q.1 + q.2.2 ∧ (t.chan tile n).need = c.need + l.length)) ∧
    (∀ d, c.working = some d → p.kind = .lookup 1 → Desc.useRing d = false →
      let q := c.writeNext d (((s.tile tile).indexFor n d c.wunit).getD 0)
      (∀ e, tr q.2.1 true true (64 * q.2.2) = .error e → ∃ t : State, exec (.windowLookupReturn tile id) s = .next t ∧ t.net = rest ∧
        (t.chan tile n).outst = c.outst - 1 ∧ (t.chan tile n).fail.map (fun f => (f.status, f.dir, f.addr)) = some (e, 1, q.2.1)) ∧
      (∀ tg, tr q.2.1 true true (64 * q.2.2) = .ok tg → c.targetsFull tg.1 = false →
        s.remoteBusy tile + (requestPieces tg.2 q.2.2 0 q.2.2).length ≤ 16 →
        ∃ t : State, ∃ l m : List Packet, exec (.windowLookupReturn tile id) s = .next t ∧ t.net = rest ++ l ++ m ∧
          (∀ r : Packet, r ∈ l → r.target = tg.1 ∧ r.write = true ∧ r.kind = .write) ∧ l.flatMap (·.data) = c.outBuf.take q.2.2 ∧
          (t.chan tile n).wunit = c.wunit + q.2.2)) ∧
    (p.kind = .lookup 3 →
      let a := c.entryAddr c.head
      (∀ e, tr a false false 64 = .error e → ∃ t : State, exec (.windowLookupReturn tile id) s = .next t ∧ t.net = rest ∧
        (t.chan tile n).fetching = false ∧ (t.chan tile n).fetched = some (e, 0)) ∧
      (∀ tg, tr a false false 64 = .ok tg → s.remoteBusy tile < 16 → ∃ t : State, ∃ r : Packet, exec (.windowLookupReturn tile id) s = .next t ∧
        t.net = rest ++ [r] ∧ r.kind = .fetch ∧ r.target = tg.1 ∧ r.place = tg.2 ∧ r.size = 64 ∧ r.qos = 6)) ∧
    (∀ d b, c.snap = some d → p.kind = .lookup 4 → (s.tile tile).blocks.find? (fun k => k.id == p.unit) = some b →
      (∀ e, tr b.addr false false (64 * b.count) = .error e → c.fail = none → ∃ t : State, exec (.windowLookupReturn tile id) s = .next t ∧
        t.net = rest ∧ (∀ k, k ∈ (t.tile tile).blocks → k.id ≠ b.id) ∧ (t.chan tile n).fail.map (fun f => (f.status, f.dir, f.addr)) = some (e, 4, b.addr)) ∧
      (∀ tg, tr b.addr false false (64 * b.count) = .ok tg → ∃ t : State, ∃ r : Packet, exec (.windowLookupReturn tile id) s = .next t ∧
        t.net = rest ++ [r] ∧ r.kind = .index b.id ∧ r.target = tg.1 ∧ r.place = tg.2 ∧ r.size = Desc.blockBytes d b.first))

/-- A response from another place reaches its issuer, its packet gone. The rows of a read join the channel's input at their place, a write is
one request fewer, a fetch brings its descriptor, a probe the ring's FILL and FREE, with SPREAD where they stand too far apart, a REGWRITE its
status; a failed one leaves its status as the channel's failure. A register access of the scalar core is answered there.
A read-back returns: it marks its target, a slot's takes up FREE and ends the slot, and a failed one leaves its status as the channel's
failure. An index block whose read has returned intact is ready, and one whose read failed is gone and leaves its status to its channel; a tag
that names no read, or a block with bad parity, stops every channel of the tile that is not disabled with ALLSTOP. -/
def Obligations.ReadsAndResponses : Prop :=
  ((∀ (s : State) (tile id : Nat) (p : Packet) (o st : Status) (x rows : List RowData), s.hasTile tile = true → s.live (tileDie tile) = true →
     s.ownPkt tile id = some p → p.answer o x = some (st, rows) →
     let n := p.iss.chan
     let c := s.chan tile n
     let here (f : State → List Packet → Prop) : Prop := ∃ t : State, ∃ m : List Packet, exec (.remoteResponse tile id o x) s = .next t ∧
       t.net = s.net.filter (fun q => q.id != p.id) ++ m ∧ (∀ q : Packet, q ∈ m → ∃ e u k, q.kind = .message e u k) ∧ f t m
     ((p.kind = .read ∨ p.kind = .write) → here (fun t _ => (t.chan tile n).outst = c.outst - 1 ∧
       (st = .ok → p.write = false → (t.chan tile n).fail = c.fail ∧
         ∀ k, k < rows.length → Tbl.get 0 (t.chan tile n).inBuf (p.unit + k) = rows.getD k 0) ∧
       (st = .ok → p.write = true → (t.chan tile n).fail = c.fail ∧ (t.chan tile n).inBuf = c.inBuf) ∧
       (st ≠ .ok → c.fail = none → (t.chan tile n).fail.map (fun f => (f.status, f.addr, f.dir)) = some (st, p.addr, if p.write then 1 else 0)))) ∧
     (∀ rs, p.kind = .mcast rs → here (fun t _ => (t.chan tile n).outst = c.outst - 1 ∧ (st = .ok → (t.chan tile n).fail = c.fail) ∧
       (st ≠ .ok → c.fail = none → (t.chan tile n).fail.map (fun f => (f.status, f.dir)) = some (st, 1) ∧
         ∀ i, i < 16 → (bit (Tbl.get 0 (t.tile tile).mcLag n) i = true ↔ ∃ r, r ∈ rs ∧ r.1 = i)))) ∧
     (p.kind = .fetch → here (fun t _ => (t.chan tile n).fetching = false ∧ (t.chan tile n).fetched = some (st, rows.headD 0))) ∧
     (∀ fill free, p.kind = .probe fill free → here (fun t _ => (t.chan tile n).outst = c.outst - 1 ∧ (t.chan tile n).rbIssued = false ∧
       (c.fail = none →
         (st ≠ .ok → (t.chan tile n).fail.map (fun f => (f.status, f.dir)) = some (st, 2)) ∧
         (∀ d, st = .ok → c.snap = some d →
           let a : Word := BitVec.ofNat 32 (rowWord (rows.headD 0) 0)
           let b : Word := BitVec.ofNat 32 (rowWord (rows.headD 0) 1)
           (t.chan tile n).ringFree = b ∧ (c.phase = .probe → (t.chan tile n).started = a ∧ (t.chan tile n).phase = .idle) ∧
           (Desc.ringN d < (a - b).toNat → (t.chan tile n).fail.map (fun f => (f.status, f.dir)) = some (.spread, 1)) ∧
           ((a - b).toNat ≤ Desc.ringN d → (t.chan tile n).fail = none ∧ (t.chan tile n).state =
             if c.state = .wait ∧ ((t.chan tile n).started - b).toNat < Desc.ringN d then .run else c.state))))) ∧
     (∀ wr, p.kind = .reg wr → here (fun t _ => t.out = s.out ++ [Output.reg (.st tile n) p.addr.toNat st 0] ∧
       (∀ d, c.snap = some d → c.state = .run → Desc.op d = 7 → 0 < c.outst → Desc.dst d = p.addr.toNat →
         (t.chan tile n).outst = 0 ∧ (st = .ok → (t.chan tile n).bodyDone = true) ∧
         (st ≠ .ok → c.fail = none → (t.chan tile n).fail.map (fun f => (f.status, f.dir)) = some (st, 1)))))) ∧
   (∀ (s : State) (tile id : Nat) (p : Packet) (o st : Status) (x : List RowData), s.hasTile tile = true → s.live (tileDie tile) = true →
     s.pkt id = some p → p.iss.port = 127 → p.iss.tile = tile → p.iss.master = 3 → p.loc = .home → p.resp = some st →
     (∀ wr, p.kind = .reg wr → exec (.remoteResponse tile id o x) s = .next (((s.dropPkt p.id).emit
       (.reg (.sc tile) p.addr.toNat st ((p.data.headD 0).truncate 32))).watch tile)) ∧
     (p.kind = .regBack → exec (.remoteResponse tile id o x) s = .next ((s.dropPkt p.id).watch tile)))) ∧
  ((∀ (s : State) (tile id : Nat) (p : Packet) (o st : Status) (rows : List RowData), s.hasTile tile = true → s.live (tileDie tile) = true →
     s.ownPkt tile id = some p → p.answer o [] = some (st, rows) →
     let n := p.iss.chan
     let c := s.chan tile n
     let bad (t : State) : Prop := st ≠ .ok → c.fail = none → (t.chan tile n).fail.map (fun f => (f.status, f.dir)) = some (st, if st = .spread then 1 else 2)
     ((p.kind = .readback ∨ ∃ k, p.kind = .rtally k) → ∃ t : State, exec (.readbackReturn tile id o) s = .next t ∧
       (t.chan tile n).outst = c.outst - 1 ∧ bad t ∧
       (st = .ok → c.phase = .finished →
         (t.chan tile n).targets = updWhere (fun w => w.target == p.target) (fun w => { w with returned := true }) c.targets)) ∧
     (∀ fill free k, p.kind = .slotReadback fill free k → ∃ t : State, exec (.readbackReturn tile id o) s = .next t ∧
       (t.chan tile n).outst = c.outst - 1 ∧ (t.chan tile n).rbIssued = false ∧ bad t ∧
       (st = .ok → (t.chan tile n).ringFree = BitVec.ofNat 32 (rowWord (rows.headD 0) 1) ∧ (t.chan tile n).slotOpen = false ∧
         (t.chan tile n).slotEnd = false ∧ (t.chan tile n).known = c.wunit))) ∧
   (∀ (s : State) (tile id : Nat) (b : IndexBlock), s.hasTile tile = true → s.live (tileDie tile) = true →
      (s.tile tile).blocks.find? (fun k => k.id == id) = some b → b.need = 0 → b.ready = false → s.indexPkt tile id = none →
      (s.tile tile).idxWant = [] →
      (b.status = .ok → exec (.indexReadReturn tile id .tagged) s = .next ((s.modTile tile (fun T =>
        { T with blocks := updWhere (fun k => k.id == b.id) (fun _ => { b with ready := true }) T.blocks })).watch tile)) ∧
      (b.status ≠ .ok → b.status ≠ .crc → (s.chan tile b.chan).fail = none → ∃ t : State, exec (.indexReadReturn tile id .tagged) s = .next t ∧
        (t.tile tile).blocks = (s.tile tile).blocks.filter (fun k => k.id != b.id) ∧
        (t.chan tile b.chan).fail.map (fun f => (f.status, f.dir, f.addr)) = some (b.status, 4, b.addr)) ∧
      (∀ how, (how ≠ .tagged ∨ b.status = .crc) → ∃ t : State, exec (.indexReadReturn tile id how) s = .next t ∧
        bit ((t.slice (tileDie tile)).irq (s.tile tile).hh).cause 2 = true ∧
        ∀ n, ((s.chan tile n).state = .idle ∨ (s.chan tile n).state = .armed) → (s.chan tile n).outst = 0 → (s.chan tile n).fetching = false →
          (s.chan tile n).fetched = none → (s.chan tile n).fail = none → (s.tile tile).indexPending n = false →
          (t.chan tile n).state = .halt ∧ (t.chan tile n).code = .allstop ∧ (t.chan tile n).faultAll = true ∧
            (t.chan tile n).haltFrom = (s.chan tile n).state)))

/-- NOP is done as it runs; WAITT asks the tally block; SIGNAL adds at the next boundary. REGWRITE writes its value to a register of another
place by a request with its descriptor's QOS (the model's choice, notes/assumptions/91.md), to one of its own tile at once, and space 3 is not a
household's. A data opcode with its source in hand makes its output: COPY the rows it has read, GATHER zeros for a null entry, FILL the pattern;
SCATTER passes over a null entry; CONVERT makes the rest of an element. -/
def Obligations.Opcodes : Prop :=
  (∀ (s : State) (tile n : Nat) (d : RowData), s.hasTile tile = true → s.live (tileDie tile) = true → n < 8 →
     let c := s.chan tile n
     (c.acting 0 = some d → exec (.nop tile n) s = .next ((s.modChan tile n (fun c => { c with bodyDone := true })).watch tile)) ∧
     (c.acting 8 = some d → exec (.waitt tile n) s = .next ((s.modChan tile n (fun c => { c with waitTally := true })).watch tile)) ∧
     (c.acting 9 = some d → exec (.signal tile n) s = .next (((s.modChan tile n (fun c => { c with outst := 1 })).modTile tile
       (fun T => { T with tops := T.tops ++ [TOp.stAdd n (Desc.tally d) (Desc.value d)] })).watch tile)) ∧
     (c.acting 7 = some d →
       let a : Addr := BitVec.ofNat 48 (Desc.dst d)
       (space a = 3 → (s.tile tile).hh ≠ 0 → ∃ t : State, exec (.regwrite tile n) s = .next t ∧ t.net = s.net ∧ t.mem = s.mem ∧
         (t.chan tile n).fail.map (fun f => (f.status, f.dir)) = some (.deed, 1)) ∧
       (s.regPlace a = none → (space a ≠ 3 ∨ (s.tile tile).hh = 0) → ∃ t : State, exec (.regwrite tile n) s = .next t ∧ t.net = s.net ∧
         (t.chan tile n).fail.map (fun f => (f.status, f.dir)) = some (.decerr, 1)) ∧
       (∀ e, s.regPlace a = some e → (space a = 2 ∧ addrTile a ≠ tile ∨ space a = 3 ∧ (s.tile tile).hh = 0) → s.remoteBusy tile < 16 →
         ∃ t : State, ∃ p : Packet, exec (.regwrite tile n) s = .next t ∧ t.net = s.net ++ [p] ∧ p.kind = .reg true ∧ p.addr = a ∧ p.size = 4 ∧
           p.target = .regs e ∧ p.qos = Desc.qos d ∧ p.data = [(Desc.regValue d).zeroExtend 512] ∧ (t.chan tile n).outst = 1) ∧
       (Desc.dst d = tileRegAddr tile 0x0E0 → s.ready (tileDie tile) = true → (s.tile tile).reassign = none →
         (s.tile tile).regBusy = none → (s.tile tile).regWait = [] →
         ∃ t : State, exec (.regwrite tile n) s = .next t ∧ (t.tile tile).deedFlt = Desc.regValue d ∧ (t.chan tile n).bodyDone = true))) ∧
  (∀ (s : State) (tile n : Nat) (d : RowData) (v : Nat), s.hasTile tile = true → s.live (tileDie tile) = true → n < 8 →
     let c := s.chan tile n
     let rows := c.rowsIn (Desc.srcRange d v c.wunit)
     let made (x : List RowData) : State := (s.modChan tile n (fun c => { c with outBuf := x, inBuf := [], phase := .writing })).watch tile
     c.working = some d → c.phase = .idle → c.slotEnd = false → (s.tile tile).indexFor n d c.wunit = some v → c.chunkIn d v = true →
     (Desc.op d = 1 → exec (.copy tile n) s = .next (made rows)) ∧
     (Desc.op d = 2 → exec (.gather tile n) s =
       .next (made (if v = 0xFFFFFFFF then List.replicate (Desc.chunk d v c.wunit) 0 else rows))) ∧
     (Desc.op d = 3 → v ≠ 0xFFFFFFFF → exec (.scatter tile n) s = .next (made rows)) ∧
     (Desc.op d = 3 → v = 0xFFFFFFFF → ∃ t : State, exec (.scatter tile n) s = .next t ∧
       (t.chan tile n).wunit = c.wunit + Desc.chunk d v c.wunit ∧ c.wunit / Desc.dstUnits d ∈ (t.chan tile n).skipped) ∧
     (Desc.op d = 6 → ∃ t : State, exec (.fill tile n) s = .next t ∧ (t.chan tile n).outBuf.length = Desc.chunk d v c.wunit ∧
       ∀ r, r ∈ (t.chan tile n).outBuf → ∀ k, k < 8 → bits r (64 * k) 64 = Desc.pattern d) ∧
     (Desc.op d = 5 → ∃ t : State, exec (.convert tile n) s = .next t ∧ (t.chan tile n).phase = .writing ∧
       (t.chan tile n).outBuf.length = Desc.dstUnits d - c.wunit % Desc.dstUnits d ∧
       (t.tile tile).fracs = (s.tile tile).fracs + if Desc.stoch d then Conv.vals d else 0))

/-- Every finite number of a narrow float format converts back to its own code. -/
def Obligations.FormatsRoundTrip : Prop :=
  ∀ (f : Fmt) (c : Nat), f ∈ [fmt16, fmtBf, fmtE4M3, fmtE5M2, fmtE3M2, fmtE2M3, fmtE2M1] →
    c < 2 ^ f.width → (∃ n m e, f.decode c = .fin n m e) → f.encode none (f.decode c) = c

/-- MULTICAST issues each flit for every receiver, once along each way that they take; each gives its credit once the flit's last beat has
started there, and with the last credit the next flit may be formed. A flit that stalls for ST_MC_STALL paces, and no sooner, leaves its late
receivers in LAG and fails with MC_STALL. -/
def Obligations.MulticastFlits : Prop :=
  ∀ (s : State) (tile n : Nat) (d : RowData), s.hasTile tile = true → s.live (tileDie tile) = true → n < 8 →
    (s.chan tile n).working = some d →
    let c := s.chan tile n
    let all := c.mcTargets d tile
    (∀ v, Desc.op d = 4 → c.phase = .idle → c.slotEnd = false → (s.tile tile).indexFor n d c.wunit = some v → c.chunkIn d v = true → all ≠ [] →
      s.remoteBusy tile < 16 →
      ∃ t : State, ∃ l : List Packet, exec (.multicast tile n) s = .next t ∧ t.net = s.net ++ l ∧
        (∀ p : Packet, p ∈ l → p.data = c.rowsIn (Desc.srcRange d v c.wunit) ∧ p.write = true ∧ p.qos = Desc.qos d ∧ p.place = Desc.mcOff d c.wunit) ∧
        (∀ r, r ∈ all ↔ ∃ p : Packet, p ∈ l ∧ r ∈ p.heads) ∧ (t.chan tile n).phase = .flit ∧
        (t.chan tile n).outst = c.outst + all.length ∧ (t.chan tile n).flitEnd = s.paceNat tile + (s.tile tile).mcStall.toNat) ∧
    (∀ i p, c.phase = .flit → i ∉ c.credits → s.net.find? (fun p => p.flitTo tile n i) = some p → s.lastBeatStarted p = true →
      ((∃ q, q ∈ all ∧ q.1 ≠ i ∧ q.1 ∉ c.credits) →
        exec (.mcCredit tile n i) s = .next ((s.modChan tile n (fun c => { c with credits := c.credits.add i })).watch tile)) ∧
      (Desc.op d = 4 → (∀ q, q ∈ all → q.1 = i ∨ q.1 ∈ c.credits) →
        ∃ t : State, exec (.mcCredit tile n i) s = .next t ∧ (t.chan tile n).wunit = c.wunit + min 4 (Desc.totalUnits d - c.wunit) ∧
          (t.chan tile n).credits = [])) ∧
    (c.phase = .flit → (∃ q, q ∈ all ∧ q.1 ∉ c.credits) →
      (s.paceNat tile < c.flitEnd → exec (.mcStall tile n) s = .next (s.watch tile)) ∧
      (c.flitEnd ≤ s.paceNat tile → ∃ t : State, exec (.mcStall tile n) s = .next t ∧
        (t.chan tile n).fail.map (fun f => (f.status, f.dir)) = some (.mcStall, 1) ∧
        ∀ i, i < 16 → (bit (Tbl.get 0 (t.tile tile).mcLag n) i = true ↔ ∃ q, q ∈ all ∧ q.1 = i ∧ i ∉ c.credits)))

/-- Slot rings at the channel: a filled slot adds to FILL at the next boundary, where the ring's spread is checked; a channel that waits runs
again once FREE leaves it a slot, and fails with SPREAD where it stands too far behind; it probes a ring of another tile again after 64 paces
and no sooner.
At a ring's home: a probe that passes its gates is answered with FILL and FREE. Slot and multicast read-backs whose row has been read add
one to FILL or RTALLY at the next tally boundary and are answered there, the slot's with FILL and FREE, or SPREAD; a tally in mode COUNT is
answered DECERR, and a multicast read-back without RTALLY is answered at once. -/
def Obligations.SlotRings : Prop :=
  (∀ (s : State) (tile n : Nat) (d : RowData), s.hasTile tile = true → s.live (tileDie tile) = true → n < 8 →
     let c := s.chan tile n
     let T := s.tile tile
     (c.working = some d → Desc.useRing d = true → Desc.remoteRing d tile = false → c.slotEnd = true → c.outst = 0 →
       exec (.slotFilled tile n) s = .next (((s.modTile tile (fun T => { T with tops := T.tops ++
         [.fill n (Desc.ringFill d) (c.l || (s.slice (tileDie tile)).lpActive)] })).modChan tile n
           (fun c => { c with slotOpen := false, slotEnd := false, known := c.wunit, outst := c.outst + 1 })).watch tile)) ∧
     (∀ k l, T.tops = [.fill n k l] → T.calm none → c.snap = some d → c.fail = none → ∃ t : State, exec (.tallyBoundary tile) s = .next t ∧
       (t.tile tile).tallyOf k = T.tallyOf k + 1 ∧ (t.chan tile n).outst = c.outst - 1 ∧
       let spread := ((t.tile tile).tallyOf (Desc.ringFill d) - (t.tile tile).tallyOf (Desc.ringFree d)).toNat
       (spread ≤ Desc.ringN d → (t.chan tile n).fail = none) ∧
       (Desc.ringN d < spread → (t.chan tile n).fail.map (fun f => (f.status, f.dir)) = some (.spread, 1))) ∧
     (c.ringWait = some d → Desc.remoteRing d tile = false →
       let spread := (T.tallyOf (Desc.ringFill d) - T.tallyOf (Desc.ringFree d)).toNat
       ∃ t : State, exec (.slotRingResample tile n) s = .next t ∧
         (spread ≤ Desc.ringN d → (t.chan tile n).fail = none ∧
           (t.chan tile n).state = if (c.started - T.tallyOf (Desc.ringFree d)).toNat < Desc.ringN d then .run else .wait) ∧
         (Desc.ringN d < spread → (t.chan tile n).fail.map (fun f => (f.status, f.dir)) = some (.spread, 1))) ∧
     (c.ringWait = some d → Desc.remoteRing d tile = true → c.rbIssued = false →
       (s.paceNat tile < c.probeAt + 64 → exec (.ringProbeRetry tile n) s = .next (s.watch tile)) ∧
       (c.probeAt + 64 ≤ s.paceNat tile → s.remoteBusy tile < 16 → s.side tile (Desc.dstAddr d 0 (Desc.slotFirst d c.wunit)) ≠ .none →
         ∃ t : State, ∃ p : Packet, exec (.ringProbeRetry tile n) s = .next t ∧ t.net = s.net ++ [p] ∧
           p.kind = .probe (Desc.ringFill d) (Desc.ringFree d) ∧ p.target = .tile (Desc.home d) ∧ (t.chan tile n).probeAt = s.paceNat tile))) ∧
  ((∀ (s : State) (tile id fill free : Nat) (p : Packet), s.hasTile tile = true → s.ready (tileDie tile) = true →
     s.atHome tile id = some p → p.kind = .probe fill free → (s.tile tile).quarantined .nw = false → (s.tile tile).reassign = none →
     let T := s.tile tile
     let open? := (T.gatesFor p.iss.hh .w (burstPieces p.view p.bstart p.blen)).isSome
     ∃ t : State, exec (.ringProbe tile id) s = .next t ∧ (t.pkt id).map (fun q => (q.resp, q.data)) = some
       (if open? = false then (some .gate, [])
        else if T.isCount fill ∨ T.isCount free then (some .decerr, [])
        else (some .ok, [ringWords (T.tallyOf fill) (T.tallyOf free)]))) ∧
   (∀ (s : State) (tile id : Nat) (p : Packet), s.hasTile tile = true → s.live (tileDie tile) = true → s.readThere tile id = some p →
      let T := s.tile tile
      let l := p.l || (s.slice (tileDie tile)).lpActive
      let adds (k : Nat) : State :=
        (s.modTile tile (fun T => { T with tops := T.tops ++ [.homeAdd p.id k l] })).modPkt p.id (fun p => { p with loc := .served })
      T.reassign = none →
      (∀ fill free k, p.kind = .slotReadback fill free k →
        (T.isCount fill = false → T.isCount free = false → exec (.slotReadback tile id) s = .next (adds fill)) ∧
        ((T.isCount fill = true ∨ T.isCount free = true) → ∃ t : State, exec (.slotReadback tile id) s = .next t ∧ t.tile tile = T ∧
          (t.pkt id).map (·.resp) = some (some .decerr))) ∧
      (∀ k, p.kind = .rtally k →
        (k ≠ 63 → p.abandoned = false → exec (.mcReadback tile id) s = .next (adds k)) ∧
        (k = 63 → ∃ t : State, exec (.mcReadback tile id) s = .next t ∧ t.tile tile = T ∧ (t.pkt id).map (·.resp) = some (some .ok)))) ∧
   (∀ (s : State) (tile id k : Nat) (l : Bool) (p : Packet), s.hasTile tile = true → s.live (tileDie tile) = true →
      (s.tile tile).tops = [.homeAdd id k l] → (s.tile tile).calm none → s.pkt id = some p →
      ∃ t : State, exec (.tallyBoundary tile) s = .next t ∧ (t.tile tile).tallyOf k = (s.tile tile).tallyOf k + 1 ∧
        (∀ m, p.kind = .rtally m → (t.pkt id).map (·.resp) = some (some .ok)) ∧
        (∀ fill free n, p.kind = .slotReadback fill free n → (t.pkt id).map (fun q => (q.resp, q.data)) = some
          (if n < ((t.tile tile).tallyOf fill - (t.tile tile).tallyOf free).toNat then (some .spread, [])
           else (some .ok, [ringWords ((t.tile tile).tallyOf fill) ((t.tile tile).tallyOf free)])))))

/-! ## Households -/

/-- BIND takes the lowest free household in every powered slice that has passed step 2, with its registers as after reset in every slice, or fails
with its cause; UNBIND closes the gates
and endpoints of a household without tiles, and UNBIND_FINISH, once its gates show CLOSED_DONE, clears its bindings. While an unbind is in
progress both are answered REARM_BUSY. UNBOUND_CLR clears SLC_UNBOUND. -/
def Obligations.Bindings : Prop :=
  let cleared (S : Slice) (h : Nat) : Prop := (S.bind h).dbg = false ∧ S.titheOf h = {} ∧ Tbl.get 0 S.winLo h = 0 ∧
    Tbl.get 0 S.winHi h = 0 ∧ S.cring h = {} ∧ S.irq h = {} ∧ ∀ k, k < 64 → Tbl.get 0 S.doorsteps (64 * h + k) = 0
  (∀ (s : State) (w : Src) (v : Word), s.sliceTakes w 0 0x0148 (withField v 12 2 1) → s.isManager w = true → (s.slice 0).bindStat.busy = false →
    let fn := bits v 0 8
    let home := bits v 14 3
    (s.dies ≤ home → ∃ t : State, exec (.bind w v) s = .next t ∧ (t.slice 0).bindStat.err = true ∧ (t.slice 0).bindStat.cause = 4 ∧
      ∀ d, (t.slice d).hh = (s.slice d).hh) ∧
    (home < s.dies → (∃ h, h < 16 ∧ ((s.slice 0).bind h).bound = true ∧ ((s.slice 0).bind h).fn.toNat = fn) →
      ∃ t : State, exec (.bind w v) s = .next t ∧ (t.slice 0).bindStat.err = true ∧ (t.slice 0).bindStat.cause = 2 ∧
        ∀ d, (t.slice d).hh = (s.slice d).hh) ∧
    (home < s.dies → (∀ h, h < 16 → ((s.slice 0).bind h).bound = true → ((s.slice 0).bind h).fn.toNat ≠ fn) →
      (∀ h, 0 < h → h < 16 → ((s.slice 0).bind h).bound = true) →
      ∃ t : State, exec (.bind w v) s = .next t ∧ (t.slice 0).bindStat.err = true ∧ (t.slice 0).bindStat.cause = 1 ∧
        ∀ d, (t.slice d).hh = (s.slice d).hh) ∧
    (∀ h, home < s.dies → (∀ k, k < 16 → ((s.slice 0).bind k).bound = true → ((s.slice 0).bind k).fn.toNat ≠ fn) → 0 < h → h < 16 →
      ((s.slice 0).bind h).bound = false → (∀ k, 0 < k → k < h → ((s.slice 0).bind k).bound = true) →
      ∃ t : State, exec (.bind w v) s = .next t ∧ (t.slice 0).bindStat.err = false ∧ (t.slice 0).bindStat.hh.toNat = h ∧
        ∀ d, d < s.dies →
          (s.live d = true → (t.slice d).bind h = { fn := BitVec.ofNat 8 fn, bound := true, home := BitVec.ofNat 3 home, dbg := false }) ∧
          cleared (t.slice d) h ∧ ∀ k, k ≠ h → (t.slice d).bind k = (s.slice d).bind k)) ∧
  (∀ (s : State) (w : Src) (v : Word), s.isManager w = true →
    ((s.slice 0).bindStat.busy = true →
      (s.sliceTakes w 0 0x0148 (withField v 12 2 1) → exec (.bind w v) s = .next (s.sliceAnswered s w 0 0x0148 (withField v 12 2 1) .rearmBusy)) ∧
      (s.sliceTakes w 0 0x0148 (withField v 12 2 2) →
        exec (.unbind w v) s = .next (s.sliceAnswered s w 0 0x0148 (withField v 12 2 2) .rearmBusy))) ∧
    (s.sliceTakes w 0 0x0148 (withField v 12 2 2) → (s.slice 0).bindStat.busy = false →
      let h := bits v 8 4
      ((h = 0 ∨ ((s.slice 0).bind h).bound = false ∨ s.hasTiles h = true) →
        ∃ t : State, exec (.unbind w v) s = .next t ∧ (t.slice 0).bindStat.err = true ∧ (t.slice 0).bindStat.cause = 3 ∧
          (t.slice 0).bindStat.busy = false ∧ ∀ d, (t.slice d).hh = (s.slice d).hh) ∧
      (h ≠ 0 → ((s.slice 0).bind h).bound = true → s.hasTiles h = false →
        ∃ t : State, exec (.unbind w v) s = .next t ∧ (t.slice 0).bindStat.busy = true ∧ (t.slice 0).bindStat.unbinding = some h ∧
          (∀ d, (t.slice d).hh = (s.slice d).hh) ∧
          ∀ g, g ∈ s.listedTiles →
            (∀ k, ((t.tile g).gate k).hh.toNat = h → ((t.tile g).gate k).isOpen = false) ∧
            (∀ e, e < 16 → ((t.tile g).ep e).hh.toNat = h → ((t.tile g).ep e).isOpen = false)))) ∧
  (∀ (s : State) (h : Nat), s.live 0 = true → (s.slice 0).bindStat.unbinding = some h → h < 16 →
    ((∃ g k, g ∈ s.listedTiles ∧ k ∈ (s.tile g).gates ∧ k.2.hh.toNat = h ∧ k.2.closedDone = false) → exec .unbindFinish s = .next s) ∧
    ((∀ g k, g ∈ s.listedTiles → k ∈ (s.tile g).gates → k.2.hh.toNat = h → k.2.closedDone = true) →
      ∃ t : State, exec .unbindFinish s = .next t ∧ (t.slice 0).bindStat.busy = false ∧ (t.slice 0).bindStat.unbinding = none ∧
        ∀ d, d < s.dies → (0 < h → s.live d = true → (t.slice d).bind h = {}) ∧ bit (t.slice d).cap.mask h = false ∧
          cleared (t.slice d) h ∧ ∀ k, k ≠ h → (t.slice d).bind k = (s.slice d).bind k)) ∧
  (∀ (s : State) (w : Src) (d : Nat) (v : Word), s.sliceTakes w d 0x0140 (withField v 31 1 1) → s.isManager w = true →
    exec (.unboundClr w d v) s = .next (s.sliceAnswered (s.modSlice d (fun S => { S with unbCount := 0, unbFn := 0 })) w
      d 0x0140 (withField v 31 1 1) .ok))

/-- The host port: a function bound to no household is answered DECERR and counted; a request of a bound one passes into the slice matrix
with its household, to the tile of a space-1 address; an address of no space is answered DECERR. Before READY every function but the
manager's is answered DECERR, and counted where no slice of the package has it bound (notes/assumptions/68.md). Doorbells: one that arrives is held behind
the doorstep pieces of its household that arrived before it; released in turn, it sets out to its tile, or fails its check and is reported;
at the tile code 1 is a new TAIL and code 2 a GO. A doorstep write that is aligned, with all byte enables, to an entry of the household's
table that leads to a tile of its own on this die, goes to that tile in pieces of 64 B and 256 B that carry its data in order; a write that
is not is reported ALIGN. -/
def Obligations.HostPort : Prop :=
  (∀ (s : State) (d fn : Nat) (a : Addr) (size : Nat) (write : Bool) (data : List RowData), s.hasDie d = true → s.ready d = true →
     fn < 256 → data.length = (if write then (size + 63) / 64 else 0) →
     ((s.slice d).hhOfFn fn = none →
       let refused : Result := .next ((s.modSlice d (fun S => { S with unbCount := satInc S.unbCount, unbFn := BitVec.ofNat 8 fn })).emit
         (.hostAnswer d fn .decerr []))
       exec (.hostRequest d fn a size write data) s = refused ∧
       (∀ offset word, exec (.doorbellArrival d fn offset size word) s = refused) ∧
       (∀ offset x, write = true → 0 < size → exec (.doorstepWrite d fn offset size x data) s = refused)) ∧
     (∀ h, (s.slice d).hhOfFn fn = some h → (s.slice d).replays h = false →
       (space a = 1 → addrBitsZero a = true → s.hasTile (addrTile a) = true →
         ∃ t : State, ∃ p : Packet, exec (.hostRequest d fn a size write data) s = .next t ∧ t.net = s.net ++ [p] ∧ t.out = s.out ∧
           p.kind = (if write then .write else .read) ∧ p.target = .tile (addrTile a) ∧ p.place = addrOff a ∧ p.size = size ∧
           p.data = data ∧ p.write = write ∧ p.qos = 6 ∧ p.iss = hostIssuer d h ∧ p.loc = .matrix d) ∧
       ((space a = 0 ∨ 4 < space a) → ∃ t : State, exec (.hostRequest d fn a size write data) s = .next t ∧ t.net = s.net ∧
         t.out = s.out ++ [Output.hostAnswer d fn .decerr []]))) ∧
  (∀ (s : State) (d fn : Nat) (a : Addr) (size : Nat) (write : Bool) (data : List RowData), s.hasDie d = true → s.live d = true →
     s.ready d = false → 0 < fn → fn < 256 → data.length = (if write then (size + 63) / 64 else 0) →
     let bound : Bool := (List.range s.dies).any (fun e => ((s.slice e).hhOfFn fn).isSome)
     let t : State := if bound then s else s.modSlice d (fun S => { S with unbCount := satInc S.unbCount, unbFn := BitVec.ofNat 8 fn })
     let refused : Result := .next (t.emit (.hostAnswer d fn .decerr []))
     exec (.hostRequest d fn a size write data) s = refused ∧
     (∀ offset word, exec (.doorbellArrival d fn offset size word) s = refused) ∧
     (∀ offset x, write = true → 0 < size → exec (.doorstepWrite d fn offset size x data) s = refused)) ∧
  (∀ (s : State) (d fn h offset size : Nat) (word : BitVec 64), s.hasDie d = true → s.ready d = true → fn < 256 →
    (s.slice d).hhOfFn fn = some h → (s.slice d).replays h = false →
    ∃ t : State, ∃ b : Doorbell, exec (.doorbellArrival d fn offset size word) s = .next t ∧ (t.slice d).bells = (s.slice d).bells ++ [b] ∧ t.net = s.net ∧
      b.hh = h ∧ b.offset = offset ∧ b.size = size ∧ b.word = word ∧
      ∀ p k, p ∈ s.net → p.kind = .doorstep k → p.iss = hostIssuer d h → p.resp = none → p.id ∈ b.pieces) ∧
  (∀ (s : State) (d h : Nat) (b : Doorbell), s.hasDie d = true → s.live d = true → h < 16 → (s.slice d).bellReady h = some b →
    (s.slice d).bellTurnOf = some h →
    let st : Option Status :=
      if b.size ≠ 8 ∨ b.offset % 8 ≠ 0 then some .align
      else if bellCode b.word = 0 ∨ bellCode b.word = 3 ∨ s.hasTile (bellTile b.word) = false then some .decerr
      else if (s.tile (bellTile b.word)).hh ≠ b.hh then some .gate
      else none
    ∃ t : State, exec (.doorbellRelease d h) s = .next t ∧ (t.slice d).bells.length + 1 = (s.slice d).bells.length ∧ (t.slice d).bellTurn = h ∧
      (st = none → (t.slice d).irqs = (s.slice d).irqs ∧ ∃ p : Packet, t.net = s.net ++ [p] ∧ p.kind = .doorbell b.word ∧ p.qos = 7 ∧
        p.target = .tile (bellTile b.word) ∧ p.iss = hostIssuer d h) ∧
      (∀ e, st = some e → t.net = s.net ∧ bit ((t.slice d).irq h).cause 2 = true ∧ bit ((t.slice d).irq h).hostflt 31 = true ∧
        (bit ((s.slice d).irq h).hostflt 31 = false → bits ((t.slice d).irq h).hostflt 0 4 = statusCode e ∧
          bits ((t.slice d).irq h).hostflt 4 2 = 1 ∧ bits ((t.slice d).irq h).hostflt 12 11 = bellTile b.word))) ∧
  (∀ (s : State) (tile id : Nat) (p : Packet) (word : BitVec 64), s.hasTile tile = true → s.ready (tileDie tile) = true →
    s.atHome tile id = some p → p.kind = .doorbell word → (s.tile tile).reassign = none → (s.tile tile).regBusy = none →
    (s.tile tile).regWait = [] →
    let n := bellChan word
    let c := s.chan tile n
    (bellCode word = 1 → (s.tile tile).hh = p.iss.hh → ∃ t : State, exec (.doorbellTail tile id) s = .next t ∧
      (t.pkt id).map (·.resp) = some (some (if c.entries < (bellTail word - c.head).toNat then .size else .ok)) ∧
      (t.chan tile n).tail = if c.entries < (bellTail word - c.head).toNat then c.tail else bellTail word) ∧
    (bellCode word = 1 → (s.tile tile).hh ≠ p.iss.hh → ∃ t : State, exec (.doorbellTail tile id) s = .next t ∧
      (t.pkt id).map (·.resp) = some (some .gate) ∧ t.tile tile = s.tile tile) ∧
    (bellCode word = 2 → (s.tile tile).hh = p.iss.hh → c.localRing tile = true → ∃ t : State, exec (.doorbellGo tile id) s = .next t ∧
      (t.pkt id).map (·.resp) = some (some .ok) ∧
      (∀ x, c.state = .armed → c.snap = some x → (t.chan tile n).state = .run) ∧
      ((c.state = .arming ∨ c.state = .run ∨ c.state = .wait) → (t.chan tile n).pendGo = true))) ∧
  (∀ (s : State) (d fn h offset length : Nat) (allEnables : Bool) (data : List RowData), s.hasDie d = true → s.ready d = true → fn < 256 →
     (s.slice d).hhOfFn fn = some h → (s.slice d).replays h = false → 0 < length → data.length = (length + 63) / 64 →
     let k := offset / 4096 % 64
     let e := Tbl.get 0 (s.slice d).doorsteps (64 * h + k)
     let g := bits e 0 11
     (offset % 64 = 0 → length % 64 = 0 → allEnables = true → offset % 4096 + length ≤ 4096 → bit e 31 = true → tileDie g = d →
       (s.tile g).hh = h →
       ∃ t : State, ∃ l : List Packet, exec (.doorstepWrite d fn offset length allEnables data) s = .next t ∧ t.net = s.net ++ l ∧ l.flatMap (·.data) = data ∧
         (l.map (·.size)).sum = length ∧
         ∀ i p, l[i]? = some p → p.kind = .doorstep k ∧ p.target = .tile g ∧ p.write = true ∧ p.qos = 7 ∧ p.iss = hostIssuer d h ∧
           (p.size = 64 ∨ p.size = 256) ∧ p.place % p.size = 0 ∧
           p.place = (14 + bits e 11 1) * 65536 + bits e 12 4 * 4096 + offset % 4096 + ((l.take i).map (·.size)).sum) ∧
     ((offset % 64 ≠ 0 ∨ length % 64 ≠ 0 ∨ allEnables = false) →
       ∃ t : State, exec (.doorstepWrite d fn offset length allEnables data) s = .next t ∧ t.net = s.net ∧
         bit ((t.slice d).irq h).cause 2 = true ∧ bit ((t.slice d).irq h).hostflt 31 = true ∧
         (bit ((s.slice d).irq h).hostflt 31 = false → bits ((t.slice d).irq h).hostflt 0 4 = statusCode .align ∧
           bits ((t.slice d).irq h).hostflt 4 2 = 2 ∧ bits ((t.slice d).irq h).hostflt 6 6 = k)))

/-- Completion records: the slice takes its oldest one for entry TAIL, whose address it looks up in the household's window table, and writes it
where the entry maps it, or keeps it with ERR if the lookup fails; without room it is held, with OVF; a failed write keeps it, and TAIL. EN
empties the ring and is refused for a ring whose size or place is not right; RETRY writes the kept record again; HEAD is taken while it is within
the ring. Interrupts: a message that is due leaves, once no record or host write of its household that came before it is under way; enabling a
cause that is set makes its message due. -/
def Obligations.RecordsAndInterrupts : Prop :=
  (∀ (s : State) (d h : Nat) (r : CRec) (l : List CRec), s.hasDie d = true → s.live d = true → h < 16 →
    let R := (s.slice d).cring h
    R.en = true → R.flight = none → R.kept = none → R.hold = [] → R.due = r :: l →
    (∀ g off, 0 < R.room → s.winEntry d h (R.entryAddr R.tail) = some (g, off) →
      ∃ t : State, ∃ p : Packet, exec (.completionRecordWrite d h) s = .next t ∧ ((t.slice d).cring h).flight = some r ∧ ((t.slice d).cring h).tail = R.tail ∧
        p ∈ t.net ∧ p.kind = .sliceLookup h ∧ p.target = .tile g ∧ p.place = off / 64 * 64 ∧ p.size = 64 ∧ p.iss = sliceIssuer d 0) ∧
    (0 < R.room → s.winEntry d h (R.entryAddr R.tail) = none →
      ∃ t : State, exec (.completionRecordWrite d h) s = .next t ∧ ((t.slice d).cring h).err = true ∧ ((t.slice d).cring h).status = .decerr ∧
        ((t.slice d).cring h).kept = some r ∧ ((t.slice d).cring h).tail = R.tail ∧ bit ((t.slice d).irq h).cause 2 = true) ∧
    (R.room = 0 → ∃ t : State, exec (.completionRecordWrite d h) s = .next t ∧ ((t.slice d).cring h).hold = [r] ∧
      ((t.slice d).cring h).ovf = true ∧ ((t.slice d).cring h).tail = R.tail)) ∧
  (∀ (s : State) (d h : Nat) (r : CRec) (st : Status) (row : RowData),
    let R := (s.slice d).cring h
    R.flight = some r →
    (∀ g a, s.looked d (R.entryAddr R.tail) st row true = .ok (g, a) → ∃ p : Packet, (s.recordLooked d h st row).net = s.net ++ [p] ∧
      p.kind = .record ∧ p.target = g ∧ p.place = a ∧ p.size = 32 ∧ p.write = true ∧ p.data = [r.row (!bit R.tail R.size.toNat)]) ∧
    (∀ e, s.looked d (R.entryAddr R.tail) st row true = .error e → (((s.recordLooked d h st row).slice d).cring h).err = true ∧
      (((s.recordLooked d h st row).slice d).cring h).status = e ∧ (((s.recordLooked d h st row).slice d).cring h).kept = some r)) ∧
  (∀ (s : State) (d h : Nat) (p : Packet) (st : Status) (r : CRec), s.hasDie d = true → s.live d = true → h < 16 →
    s.recordError d h = some (p, st) → ((s.slice d).cring h).flight = some r →
    ∃ t : State, exec (.completionRecordFail d h) s = .next t ∧ ((t.slice d).cring h).err = true ∧ ((t.slice d).cring h).status = st ∧
      ((t.slice d).cring h).kept = some r ∧ ((t.slice d).cring h).flight = none ∧
      ((t.slice d).cring h).tail = ((s.slice d).cring h).tail ∧ bit ((t.slice d).irq h).cause 2 = true ∧ t.pkt p.id = none) ∧
  (∀ (s : State) (w : Src) (d h : Nat) (v : Word), s.mayHh w h = true → h < 16 →
    let R := (s.slice d).cring h
    let ctl := s.sliceTakes w d (0x0504 + 0x10 * h) v
    let rv := withField (withField (R.word 1) 25 1 0) 27 1 1
    let headOff := 0x0508 + 0x10 * h
    (ctl → bit v 24 = true → R.en = false → 4 ≤ bits v 16 4 → (bits v 0 13 * 2 ^ 32 + R.lo.toNat) % (32 * 2 ^ bits v 16 4) = 0 →
      ∃ t : State, exec (.cringEnWrite w d h v) s = .next (s.sliceAnswered t w d (0x0504 + 0x10 * h) v .ok) ∧ ((t.slice d).cring h).en = true ∧ ((t.slice d).cring h).head = 0 ∧
        ((t.slice d).cring h).tail = 0 ∧ ((t.slice d).cring h).size.toNat = bits v 16 4) ∧
    (ctl → bit v 24 = true → R.en = false → (bits v 16 4 < 4 ∨ (bits v 0 13 * 2 ^ 32 + R.lo.toNat) % (32 * 2 ^ bits v 16 4) ≠ 0) →
      exec (.cringEnWrite w d h v) s = .next (s.sliceAnswered s w d (0x0504 + 0x10 * h) v .size)) ∧
    (s.sliceTakes w d (0x0504 + 0x10 * h) rv → R.err = true → exec (.retry w d h) s =
      .next (s.sliceAnswered (s.modSlice d (fun S => S.setCring h { R with err := false, again := true })) w d (0x0504 + 0x10 * h) rv .ok)) ∧
    (s.sliceTakes w d headOff v → 2 ^ R.size.toNat < (R.tail - BitVec.ofNat 16 (bits v 0 16)).toNat →
      exec (.cringHeadWrite w d h v) s = .next (s.sliceAnswered s w d headOff v .size)) ∧
    (s.sliceTakes w d headOff v → (R.tail - BitVec.ofNat 16 (bits v 0 16)).toNat ≤ 2 ^ R.size.toNat →
      ∃ t : State, exec (.cringHeadWrite w d h v) s = .next (s.sliceAnswered t w d headOff v .ok) ∧ ((t.slice d).cring h).head.toNat = bits v 0 16 ∧
        ((t.slice d).cring h).tail = R.tail)) ∧
  (∀ (s : State) (d h k : Nat), s.hasDie d = true → s.live d = true → ∀ m : IrqMsg,
    (s.slice d).irqDue.find? (fun x => x.hh == h && x.vec == k) = some m → ((s.slice d).cring h).owes m.recs = false →
    (∀ p : Packet, p ∈ s.net → p.target = .host d → p.iss.hh = h → p.write = true → p.resp = none → p.ord < m.ord → p.loc = .arrived) →
    exec (.interruptMessage d h k) s = .next ((s.modSlice d (fun S => { S with irqDue := S.irqDue.erase m })).emit
      (.interrupt d ((s.slice d).bind h).fn.toNat k))) ∧
  (∀ (s : State) (w : Src) (d h : Nat) (v : Word), s.sliceTakes w d (0x0604 + 0x10 * h) v → s.mayHh w h = true → h < 16 →
    ∃ t : State, exec (.irqEnableWrite w d h v) s = .next (s.sliceAnswered t w d (0x0604 + 0x10 * h) v .ok) ∧ ((t.slice d).irq h).cause = ((s.slice d).irq h).cause ∧
      (∀ k, k < 8 → bit ((t.slice d).irq h).enable k = (bit v k && (h == 0 || k < 5))) ∧
      (∀ k, k < 8 → bit v k = true → (h = 0 ∨ k < 5) → bit ((s.slice d).irq h).enable k = false → bit ((s.slice d).irq h).cause k = true →
        ∃ m : IrqMsg, m ∈ (t.slice d).irqDue ∧ m.hh = h ∧ m.vec = k ∧ m.recs = ((s.slice d).cring h).issued) ∧
      (∀ x, x ∈ (s.slice d).irqDue → x ∈ (t.slice d).irqDue))

/-- Capture: an event that has come to the unit before later ones of its origin takes the next SEQ and the hold, or is dropped and counted; a
record is written unit by unit, each at the address that a lookup finds, or is dropped for want of room, or ends capture with ERR; EN 0 to 1
starts with an empty ring. Re-run looks the record at HEAD up, presents the doorbells of its household again, passes over the records of others,
and sets DONE at the end of the ring. -/
def Obligations.CaptureAndRerun : Prop :=
  (∀ (s : State) (d k : Nat) (r : CapRec), s.hasDie d = true → s.live d = true → (s.slice d).cap.due[k]? = some r →
    (∀ q, q ∈ (s.slice d).cap.due.take k → q.sameOrigin r = false) →
    let c := (s.slice d).cap
    ∃ t : State, exec (.captureRecord d k) s = .next t ∧ (t.slice d).cap.due = c.due.eraseIdx k ∧ (t.slice d).cap.seq = c.seq + 1 ∧
      (c.err = false → (c.hold.map CapRec.units).sum + r.units ≤ 256 → (t.slice d).cap.gap = false ∧
        ∃ q : CapRec, (t.slice d).cap.hold = c.hold ++ [q] ∧ q.seq = c.seq ∧ q.gap = c.gap ∧ q.payload = r.payload ∧ q.type = r.type) ∧
      ((c.err = true ∨ 256 < (c.hold.map CapRec.units).sum + r.units) → (t.slice d).cap.hold = c.hold ∧
        (t.slice d).cap.drop = satInc c.drop ∧ (t.slice d).cap.gap = true)) ∧
  (∀ (s : State) (d : Nat) (r : CapRec) (l : List CapRec) (st : Status), s.hasDie d = true → s.live d = true →
    (s.slice d).cap.out = [] → (s.slice d).cap.hold = r :: l → (s.slice d).cap.err = false →
    let c := (s.slice d).cap
    let fits : Prop := (c.tail - c.head).toNat + r.units ≤ 2 ^ c.size.toNat
    (¬fits → ∃ t : State, exec (.captureRecordWrite d st) s = .next t ∧ (t.slice d).cap.hold.length = l.length ∧
      (t.slice d).cap.drop = satInc c.drop ∧ (t.slice d).cap.tail = c.tail ∧ t.net = s.net ∧
      (∀ q : CapRec, (t.slice d).cap.hold.head? = some q → q.gap = true)) ∧
    (fits → st ≠ .ok → ∃ t : State, exec (.captureRecordWrite d st) s = .next t ∧ (t.slice d).cap.err = true ∧ (t.slice d).cap.status = st ∧
      (t.slice d).cap.hold = [] ∧ (t.slice d).cap.tail = c.tail ∧ bit ((t.slice d).irq 0).cause 2 = true) ∧
    (∀ g off, fits → s.winEntry d 0 (c.unitAddr c.tail.toNat) = some (g, off) → ∃ t : State, ∃ p : Packet,
      exec (.captureRecordWrite d .ok) s = .next t ∧ (t.slice d).cap.hold = l ∧ (t.slice d).cap.tail = c.tail + BitVec.ofNat 32 r.units ∧
        (t.slice d).cap.out.map Prod.snd = r.header :: r.payload ∧ (t.slice d).cap.out.map Prod.fst = (List.range r.units).map (fun i => c.tail.toNat + i) ∧
        (t.slice d).cap.asked = true ∧ t.net = s.net ++ [p] ∧ p.kind = .sliceLookup 16 ∧ p.target = .tile g) ∧
    (fits → s.winEntry d 0 (c.unitAddr c.tail.toNat) = none → ∃ t : State, exec (.captureRecordWrite d .ok) s = .next t ∧
      (t.slice d).cap.err = true ∧ (t.slice d).cap.status = .decerr ∧ bit ((t.slice d).irq 0).cause 2 = true)) ∧
  (∀ (s : State) (d k : Nat) (st : Status) (row u : RowData) (l : List (Nat × RowData)),
    let c := (s.slice d).cap
    c.out = (k, u) :: l →
    (∀ g a, s.looked d (c.unitAddr k) st row true = .ok (g, a) → ∃ m : List Packet, ∃ p : Packet, (s.captureLooked d st row).net = s.net ++ [p] ++ m ∧
      p.kind = .capture ∧ p.target = g ∧ p.place = a ∧ p.size = 64 ∧ p.write = true ∧ p.data = [u]) ∧
    (∀ e, s.looked d (c.unitAddr k) st row true = .error e → ((s.captureLooked d st row).slice d).cap.err = true ∧
      ((s.captureLooked d st row).slice d).cap.status = e)) ∧
  (∀ (s : State) (w : Src) (d : Nat) (v : Word), s.sliceTakes w d 0x0400 v → s.isManager w = true →
    ∃ t : State, exec (.captureEnWrite w d v) s = .next (s.sliceAnswered t w d 0x0400 v .ok) ∧ (t.slice d).cap.en = bit v 16 ∧
      (t.slice d).cap.rerun = bit v 17 ∧ (t.slice d).cap.mask.toNat = bits v 0 16 ∧ (t.slice d).cap.rhh.toNat = bits v 18 4 ∧
      ((s.slice d).cap.en = false → bit v 16 = true → (t.slice d).cap.err = false ∧ (t.slice d).cap.done = false ∧
        (bit v 17 = false → (t.slice d).cap.head = 0 ∧ (t.slice d).cap.tail = 0))) ∧
  (∀ (s : State) (d : Nat) (st : Status) (u : RowData) (l : List RowData), s.hasDie d = true → s.live d = true →
    (s.slice d).cap.busy = true → (s.slice d).cap.err = false → (s.slice d).cap.asked = false →
    let c := (s.slice d).cap
    (c.head = c.tail → exec (.rerunPresent d st (u :: l)) s = .next (s.modSlice d (fun S => { S with cap := { S.cap with done := true } }))) ∧
    (∀ g off, c.head ≠ c.tail → c.found = false → s.winEntry d 0 (c.unitAddr c.head.toNat) = some (g, off) →
      ∃ t : State, ∃ p : Packet, exec (.rerunPresent d st (u :: l)) s = .next t ∧ (t.slice d).cap.asked = true ∧ t.net = s.net ++ [p] ∧
        p.kind = .sliceLookup 17 ∧ p.target = .tile g) ∧
    (c.head ≠ c.tail → (c.found = true ∧ st ≠ .ok ∨ c.found = false ∧ s.winEntry d 0 (c.unitAddr c.head.toNat) = none) →
      ∃ t : State, exec (.rerunPresent d st (u :: l)) s = .next t ∧ (t.slice d).cap.err = true ∧
        (t.slice d).cap.status = (if c.found then st else .decerr) ∧ (t.slice d).cap.head = c.head ∧ bit ((t.slice d).irq 0).cause 2 = true) ∧
    (c.head ≠ c.tail → c.found = true →
      let next := c.head + BitVec.ofNat 32 (1 + bits u 48 16)
      (bits u 40 4 = c.rhh.toNat → bits u 32 8 = 1 →
        ∃ t : State, ∃ b : Doorbell, exec (.rerunPresent d .ok (u :: l)) s = .next t ∧ (t.slice d).bells = (s.slice d).bells ++ [b] ∧ b.hh = c.rhh.toNat ∧
          b.offset = bits u 64 48 ∧ b.word.toNat = bits u 128 64 ∧ (t.slice d).cap.head = next ∧ ((t.slice d).cap.done = true ↔ next = c.tail)) ∧
      (bits u 40 4 ≠ c.rhh.toNat →
        ∃ t : State, exec (.rerunPresent d .ok (u :: l)) s = .next t ∧ (t.slice d).bells = (s.slice d).bells ∧ t.net = s.net ∧
          (t.slice d).cap.head = next ∧ ((t.slice d).cap.done = true ↔ next = c.tail))))

/-! ## The book -/

/-- The oldest record of a slice's hold goes to slot TAIL of its ring with the ring's next SEQ; TAIL goes on, past the oldest record where
it meets HEAD, which is counted; a severe record raises BOOK to H0. A record that finds its hold full is dropped and counted. BOOK_ACK moves
HEAD of a ring on by COUNT records, to TAIL at most. A space-4 read by the manager returns the bytes of the book; a write, or a read by
another household, is answered DEED, and an address outside the book DECERR. SLC_START is kept for the next start. -/
def Obligations.BookRecordsAndAccesses : Prop :=
  (∀ (s : State) (d : Nat) (r : BookRec) (l : List BookRec), s.hasDie d = true → s.live d = true → (s.slice d).bookErr = false →
    (s.book.a.good = true ∨ s.book.b.good = true) → s.book.cur.gen.toNat + 1 < 2 ^ 32 →
    let c := s.book.cur
    ((s.slice d).holdSev = r :: l → severe r.type = true →
      ∃ t : State, ∃ m : List BookRec, exec (.bookAppend d 0) s = .next t ∧ Tbl.find t.book.sev c.sevTail = some { r with seq := c.sevSeq } ∧ t.book.rou = s.book.rou ∧
        t.book.cur.sevTail = (c.sevTail + 1) % 4096 ∧ t.book.cur.sevSeq = c.sevSeq + 1 ∧ t.book.cur.gen = c.gen + 1 ∧
        t.book.cur.sevHead = (if (c.sevTail + 1) % 4096 = c.sevHead then (c.sevHead + 1) % 4096 else c.sevHead) ∧
        t.book.cur.ovwr = (if (c.sevTail + 1) % 4096 = c.sevHead then satInc c.ovwr else c.ovwr) ∧
        (t.slice d).holdSev = l ++ m ∧ bit ((t.slice d).irq 0).cause 5 = true) ∧
    ((s.slice d).holdRou = r :: l → severe r.type = false →
      ∃ t : State, ∃ m : List BookRec, exec (.bookAppend d 1) s = .next t ∧ Tbl.find t.book.rou c.rouTail = some { r with seq := c.rouSeq } ∧ t.book.sev = s.book.sev ∧
        t.book.cur.rouTail = (c.rouTail + 1) % 11264 ∧ t.book.cur.rouSeq = c.rouSeq + 1 ∧ t.book.cur.gen = c.gen + 1 ∧
        t.book.cur.rouHead = (if (c.rouTail + 1) % 11264 = c.rouHead then (c.rouHead + 1) % 11264 else c.rouHead) ∧
        t.book.cur.ovwr = (if (c.rouTail + 1) % 11264 = c.rouHead then satInc c.ovwr else c.ovwr) ∧
        (t.slice d).holdRou = l ++ m ∧ ((r.type = 19 ∨ r.type = 21) → bit ((t.slice d).irq 0).cause 5 = true))) ∧
  (∀ (s : State) (d ring : Nat), s.hasDie d = true → s.live d = true → ring < 2 → (ring == 0) ∈ (s.slice d).noRoom →
    ((s.slice d).bookErr = true ∨ 8 ≤ (if ring = 0 then (s.slice d).holdSev else (s.slice d).holdRou).length) →
    ∃ t : State, exec (.bookRecordDrop d ring) s = .next t ∧ (t.slice d).bkDrops = satInc (s.slice d).bkDrops ∧
      (t.slice d).noRoom.length + 1 = (s.slice d).noRoom.length ∧ t.book = s.book ∧
      (t.slice d).dropSev = (s.slice d).dropSev + (if ring = 0 then 1 else 0) ∧
      (t.slice d).dropRou = (s.slice d).dropRou + (if ring = 0 then 0 else 1)) ∧
  (∀ (s : State) (w : Src) (d : Nat) (v : Word), s.isManager w = true →
    (s.book.a.good = true ∨ s.book.b.good = true) → s.book.cur.gen.toNat + 1 < 2 ^ 32 →
    let c := s.book.cur
    (s.sliceTakes w d 0x030C v → ∃ t : State, exec (.bookAck w d v) s = .next (s.sliceAnswered t w d 0x030C v .ok) ∧ t.out = s.out ∧
      t.book.sev = s.book.sev ∧ t.book.rou = s.book.rou ∧ t.book.cur.sevTail = c.sevTail ∧ t.book.cur.rouTail = c.rouTail ∧
      (bit v 16 = false → c.sevHead < 4096 → t.book.cur.rouHead = c.rouHead ∧
        t.book.cur.sevHead = (c.sevHead + min (bits v 0 14) ((c.sevTail + 4096 - c.sevHead) % 4096)) % 4096) ∧
      (bit v 16 = true → c.rouHead < 11264 → t.book.cur.sevHead = c.sevHead ∧
        t.book.cur.rouHead = (c.rouHead + min (bits v 0 14) ((c.rouTail + 11264 - c.rouHead) % 11264)) % 11264)) ∧
    (s.sliceTakes w d 0x0018 v → ∃ t : State, exec (.startWordWrite w d v) s = .next (s.sliceAnswered t w d 0x0018 v .ok) ∧ t.book.cur.startOf d = BitVec.ofNat 8 (bits v 0 3) ∧
      (∀ e, e ≠ d → t.book.cur.startOf e = c.startOf e) ∧ (t.slice d).start = (s.slice d).start)) ∧
  (∀ (s : State) (w : Src) (d : Nat) (a : Addr) (size : Nat) (write : Bool), s.arrives w → s.hasDie d = true → s.ready d = true → space a = 4 →
    ∃ t : State, exec (.bookSpace4Read w d a size write) s = .next t ∧ t.book = s.book ∧
      (bits a 21 24 = 0 → bits a 0 21 < 0x101000 →
        (size = 64 → a.toNat % 64 = 0 → write = false → s.isManager w = true →
          t.out = s.out ++ [Output.bookRead w .ok (rowBytes (s.book.unit (bits a 0 21 / 64)))]) ∧
        (size = 4 → a.toNat % 4 = 0 → write = false → s.isManager w = true →
          t.out = s.out ++ [Output.bookRead w .ok (((rowBytes (s.book.unit (bits a 0 21 / 64))).drop (bits a 0 21 % 64)).take 4)]) ∧
        (((size = 64 ∧ a.toNat % 64 = 0) ∨ (size = 4 ∧ a.toNat % 4 = 0)) → (write = true ∨ s.isManager w = false) →
          t.out = s.out ++ [Output.bookRead w .deed []])) ∧
      ((bits a 21 24 ≠ 0 ∨ 0x101000 ≤ bits a 0 21) → t.out = s.out ++ [Output.bookRead w .decerr []]))

/-- A command written to SLC_BOOK_CTRL sets BUSY and waits its turn at the book path, or is answered REARM_BUSY; in its turn READ puts a
record into SLC_BOOK_DATA, MAPADD adds an entry to the repair map, MAPCLEAR empties it and INIT empties the rings; then BUSY clears. -/
def Obligations.BookCommands : Prop :=
  (∀ (s : State) (w : Src) (d : Nat) (v : Word), s.isManager w = true →
    let takes (cmd : Nat) : Prop := s.sliceTakes w d 0x0300 (withField v 0 3 cmd)
    let outcome (cmd : Nat) : Result :=
      let S : State := s.modSlice d (fun S =>
        { S with bkRing := bit v 4, bkBusy := true, bkCmd := some { cmd := cmd, ring := bit v 4, keepmap := bit v 3 } })
      .next (if (s.slice d).bkBusy then s.sliceAnswered s w d 0x0300 (withField v 0 3 cmd) .rearmBusy
        else s.sliceAnswered { S with book := { S.book with queue := S.book.queue ++ [d] } } w d 0x0300 (withField v 0 3 cmd) .ok)
    (takes 1 → exec (.read w d v) s = outcome 1) ∧ (takes 2 → exec (.mapadd w d v) s = outcome 2) ∧
      (takes 3 → exec (.mapclear w d v) s = outcome 3) ∧ (takes 4 → exec (.init w d v) s = outcome 4)) ∧
  (∀ (s : State) (d e : Nat) (l : List Nat) (c : BookCmd), s.hasDie d = true → s.live d = true → s.book.queue = e :: l →
    (s.slice d).bkCmd = some c → (s.book.a.good = true ∨ s.book.b.good = true) → s.book.cur.gen.toNat + 1 < 2 ^ 32 →
    (e ≠ d → exec (.bookCommandEnd d) s = .next s) ∧
    (e = d → ∃ t : State, exec (.bookCommandEnd d) s = .next t ∧ (t.slice d).bkBusy = false ∧ (t.slice d).bkCmd = none ∧ t.book.queue = l ∧
      (t.slice d).bkErr = ((t.slice d).bkStatus != .ok) ∧
      (c.cmd = 1 → t.book.cur = s.book.cur ∧
        (if bookSize (if c.ring then 1 else 0) ≤ (s.slice d).bkIndex.toNat then (t.slice d).bkStatus = .size
         else (t.slice d).bkStatus = .ok ∧ ∀ k, k < 16 → Tbl.get 0 (t.slice d).bkData k =
           BitVec.ofNat 32 (rowWord (s.book.slotRow (if c.ring then 1 else 0) (s.slice d).bkIndex.toNat) k))) ∧
      (c.cmd = 2 →
        let w0 := Tbl.get 0 (s.slice d).bkData 0
        if 8192 ≤ s.book.cur.mapCount then (t.slice d).bkStatus = .size ∧ t.book.cur = s.book.cur
        else if bit w0 0 = false ∨ bits w0 1 2 = 0 ∨ bits w0 1 2 = 3 then (t.slice d).bkStatus = .decerr ∧ t.book.cur = s.book.cur
        else (t.slice d).bkStatus = .ok ∧ t.book.cur.mapCount = s.book.cur.mapCount + 1 ∧
          t.book.entry s.book.cur.mapCount = (s.book.cur.bootOf d) ++ w0 ∧ t.book.cur.mapCrc = t.book.crcOf t.book.cur.mapCount) ∧
      (c.cmd = 3 → (t.slice d).bkStatus = .ok ∧ t.book.cur.mapCount = 0 ∧ t.book.cur.sevTail = s.book.cur.sevTail) ∧
      (c.cmd = 4 → (s.slice d).bookErr = false → (t.slice d).bkStatus = .ok ∧ t.book.cur.sevHead = 0 ∧ t.book.cur.sevTail = 0 ∧
        t.book.cur.rouHead = 0 ∧ t.book.cur.rouTail = 0 ∧ t.book.cur.sevSeq = s.book.cur.sevSeq ∧
        t.book.cur.mapCount = (if c.keepmap then s.book.cur.mapCount else 0)) ∧
      (c.cmd = 4 → (s.slice d).bookErr = true → c.keepmap = true → (t.slice d).bkStatus = .decerr ∧ t.book.cur = s.book.cur)))

/-! ## External memory, bridges and the ring, gates -/

/-- Stack requests are taken at a port in the order in which they came. One at a port that is not ready is answered DECERR; one whose 256 B unit
is between the read and the write of a merge waits; a deadline one pays a token of its household or is demoted; the controller is given
the whole unit, to write, or to read first for a write of fewer bytes. A transfer that fails its check is asked for once more; a second
failure is answered CRC, an error that the controller does not correct UNCORR, each counted; a read of a merge is followed by its write; else
the request is answered OK, a read with its own bytes of the unit. A bucket gains RATE at every pace and a token at every 33, up to
BURST; a tithe beyond 64 in sum is answered SIZE; a port that leaves the ready state ends its requests with CRC. -/
def Obligations.ExternalMemory : Prop :=
  (∀ (s : State) (d port id : Nat) (k : Packet), s.hasDie d = true → s.live d = true → s.pkt id = some k → s.extHead d port = some k →
    let B := (s.slice d).bucket port k.iss.hh
    let merge : Bool := k.write && k.size < 256
    let due : Bool := k.qos == 7 && !k.demoted && !merge
    let pay : Bool := due && 0 < B.tokens
    (((s.slice d).extPort port).ready = false → ∃ t : State, exec (.extRequest d port id) s = .next t ∧
      (t.pkt id).map (·.resp) = some (some .decerr) ∧ t.out = s.out) ∧
    (((s.slice d).extPort port).ready = true → s.unitBusy d port (stackUnit k.place) = true → exec (.extRequest d port id) s = .next s) ∧
    (((s.slice d).extPort port).ready = true → s.unitBusy d port (stackUnit k.place) = false →
      ∃ t : State, exec (.extRequest d port id) s = .next t ∧
      t.out = s.out ++ [Output.stackRequest d port (stackUnit k.place) 256 (k.write && !merge) pay (if merge then [] else k.data)] ∧
      (t.slice d).bucket port k.iss.hh = { B with tokens := if pay then B.tokens - 1 else B.tokens } ∧
      (t.pkt id).map (fun q => (q.loc, q.demoted)) = some (.served, k.demoted || due && B.tokens == 0))) ∧
  (∀ (s : State) (d port id : Nat) (crc : Option (BitVec 32)) (u : Bool) (data : List RowData) (k : Packet) (w : ExtWork),
    s.hasDie d = true → s.live d = true → s.pkt id = some k → k.atExt d port = true →
    ((s.slice d).extPort port).work.find? (fun x => x.pkt == id) = some w →
    let E := (s.slice d).extPort port
    let unit := (List.range 4).map (fun i => data.getD i 0)
    let bad : Bool := match crc with | none => true | some c => !w.writing && crc32c (bytesOfRows unit) != c
    ∃ t : State, exec (.extResponse d port id crc u data) s = .next t ∧
      (bad = true → w.again = false → ((t.slice d).extPort port).refetch = satInc E.refetch ∧ t.net = s.net ∧
        t.out = s.out ++ [Output.stackRequest d port (stackUnit k.place) 256 w.writing w.urgent w.data]) ∧
      (bad = true → w.again = true → (t.pkt id).map (·.resp) = some (some .crc) ∧ ((t.slice d).extPort port).crc = satInc E.crc) ∧
      (bad = false → u = true → (t.pkt id).map (·.resp) = some (some .uncorr) ∧ ((t.slice d).extPort port).uncorr = satInc E.uncorr ∧
        bit ((t.slice d).irq 0).cause 6 = true) ∧
      (bad = false → u = false → w.writing = true → (t.pkt id).map (fun q => (q.resp, q.data)) = some (some .ok, [])) ∧
      (bad = false → u = false → w.writing = false → k.write = true → (t.pkt id).map (·.resp) = some none ∧
        Output.stackRequest d port (stackUnit k.place) 256 true w.urgent (unitMerge k unit) ∈ t.out) ∧
      (bad = false → u = false → w.writing = false → k.write = false →
        (t.pkt id).map (fun q => (q.resp, q.data)) = some (some .ok, unitSlice k unit))) ∧
  (∀ (s : State) (d port h n : Nat), s.hasDie d = true → s.live d = true → port < 3 → h < 16 →
    ∃ t : State, exec (.titheTokenAdd d port h n) s = .next t ∧ (t.slice d).bucket port h =
      { tokens := min ((s.slice d).titheOf h).burst.toNat
          (((s.slice d).bucket port h).tokens + (((s.slice d).bucket port h).acc + ((s.slice d).titheOf h).rate.toNat * n) / 33),
        acc := (((s.slice d).bucket port h).acc + ((s.slice d).titheOf h).rate.toNat * n) % 33 }) ∧
  (∀ (s : State) (w : Src) (d h : Nat) (v : Word), s.sliceTakes w d (0x0080 + 4 * h) v → s.isManager w = true → h < 16 →
    let others (f : Tithe → Nat) : Nat := (((List.range 16).filter (fun k => k != h)).map (fun k => f ((s.slice d).titheOf k))).sum
    (others (fun x => x.rate.toNat) + bits v 0 7 ≤ 64 → others (fun x => x.burst.toNat) + min 32 (bits v 8 6) ≤ 64 →
      ∃ t : State, exec (.titheWrite w d h v) s = .next (s.sliceAnswered t w d (0x0080 + 4 * h) v .ok) ∧ t.net = s.net ∧ t.out = s.out ∧
        ((t.slice d).titheOf h).rate.toNat = bits v 0 7 ∧ ((t.slice d).titheOf h).burst.toNat = min 32 (bits v 8 6) ∧
        ∀ k, k ≠ h → (t.slice d).titheOf k = (s.slice d).titheOf k) ∧
    ((64 < others (fun x => x.rate.toNat) + bits v 0 7 ∨ 64 < others (fun x => x.burst.toNat) + min 32 (bits v 8 6)) →
      exec (.titheWrite w d h v) s = .next (s.sliceAnswered s w d (0x0080 + 4 * h) v .size))) ∧
  (∀ (s : State) (d port : Nat), s.hasDie d = true → s.live d = true → port < 3 →
    (∃ t : State, exec (.extControllerReadyChange d port true) s = .next t ∧ ((t.slice d).extPort port).ready = true ∧ t.net = s.net) ∧
    (∃ t : State, exec (.extControllerReadyChange d port false) s = .next t ∧ ((t.slice d).extPort port).ready = false ∧
      ∀ k : Packet, k ∈ s.net → k.atExt d port = true → (t.pkt k.id).map (·.resp) = some (some .crc)))

/-- Links: training brings one up at both ends, or not; a port sends a data stripe that is due, or else a command stripe of at most 16
entries that wait; a stripe whose CRC-32C checks and whose SEQ is expected is accepted, any other is discarded and asked for again; an ACK frees the
slots before it; a NAK resends, or sends the failed entries after a second failure; a link that fails then goes down at both ends, every
slice is told, and what a slice has outstanding on the ring ends with CRC. A packet for another die takes a link of its direction that is
set in LINKS and up; a request that finds none, or whose way meets a die that is off, is answered DECERR; a response turns back, or is lost.
A reset notice ends at its slice, or with its link. SLC_ROUTE of another present die takes its DIR and LINKS. -/
def Obligations.LinksAndRoutes : Prop :=
  (∀ (s : State) (d port : Nat) (up : Bool), s.hasDie d = true → port < 8 → bit (s.slice d).linkTrain port = true →
    let q := peer s.dies d port
    let comes : Prop := up = true ∧ (s.slice q.1).power = true ∧ 1 ≤ (s.slice q.1).step
    ∃ t : State, exec (.linkTraining d port up) s = .next t ∧ bit (t.slice d).linkTrain port = false ∧
      (comes → bit (t.slice d).linkUp port = true ∧ bit (t.slice q.1).linkUp q.2 = true) ∧
      (¬comes → bit (t.slice d).linkUp port = false)) ∧
  (∀ (s : State) (d port : Nat), s.hasDie d = true → s.live d = true → port < 8 → bit (s.slice d).linkUp port = true →
    (s.bridge d port).slots.length < 16 →
    let B := s.bridge d port
    (∀ i l, B.dataDue = i :: l → ∃ t : State, ∃ x : Stripe, exec (.stripeSend d port) s = .next t ∧ x.kind = .data ∧ x.entries = [i] ∧ x.seq = B.nextSeq ∧
      x.ack = B.expect ∧ x.nak = B.nak ∧
      (t.bridge d port).wire = B.wire ++ [x] ∧ (t.bridge d port).slots = B.slots ++ [x] ∧ (t.bridge d port).dataDue = l ∧
      (t.bridge d port).nextSeq = (B.nextSeq + 1) % 256) ∧
    (∀ i, B.dataDue = [] → i ∈ B.queue → (s.pkt i).isSome = true →
      ∃ t : State, ∃ x : Stripe, exec (.stripeSend d port) s = .next t ∧ x.kind = .command ∧ x.entries ≠ [] ∧ x.entries.length ≤ 16 ∧
        (∀ j, j ∈ x.entries → j ∈ B.queue ∧ j ∉ (t.bridge d port).queue) ∧ x.seq = B.nextSeq ∧ x.ack = B.expect ∧ x.nak = B.nak ∧
        (t.bridge d port).wire = B.wire ++ [x] ∧ (t.bridge d port).slots = B.slots ++ [x] ∧
        (t.bridge d port).nextSeq = (B.nextSeq + 1) % 256)) ∧
  (∀ (s : State) (d port : Nat) (noise : List Byte) (x : Stripe) (l : List Stripe), s.hasDie d = true → s.live d = true → port < 8 →
    let q := peer s.dies d port
    let good := stripeGood (withNoise (s.stripeBytes x) noise)
    (s.bridge q.1 q.2).wire = x :: l →
    ∃ t : State, exec (.stripeReceived d port noise) s = .next t ∧ (t.bridge q.1 q.2).wire = l ∧
      (good = true → x.seq = (s.bridge d port).expect → (t.bridge d port).expect = (x.seq + 1) % 256 ∧
        ∀ i p, i ∈ x.entries → s.pkt i = some p →
          ((x.kind = .data ∨ x.kind = .command ∧ p.hasData = false) →
            (p.kind = .notice → p.destDie = d → p.iss.tile ∈ (t.slice d).noticeIn ∧ t.pkt i = none) ∧
            (¬(p.kind = .notice ∧ p.destDie = d) →
              (t.pkt i).map (fun k => (k.loc, k.port, k.resp)) = some (.matrix d, 72 + port, p.resp))) ∧
          (x.kind = .failed → p.kind ≠ .notice → (t.pkt i).map (fun k => (k.loc, k.resp)) = some (.matrix d, some .crc))) ∧
      ((good = false ∨ x.seq ≠ (s.bridge d port).expect) → (t.bridge d port).expect = (s.bridge d port).expect ∧
        (t.bridge d port).discard = true ∧ t.net = s.net ∧
        (((s.bridge d port).discard = false ∨ x.seq = (s.bridge d port).expect) → (t.bridge d port).nak = true))) ∧
  (∀ (s : State) (d port ack : Nat), s.hasDie d = true → s.live d = true → port < 8 →
    let q := peer s.dies d port
    let B := s.bridge d port
    let kept := B.slots.filter (fun y => !beforeAck ack y)
    exec (.stripeAck d port ack) s = .next (if ((s.bridge q.1 q.2).expect + 256 - ack) % 256 < 128 then
      s.modBridge d port (fun B => { B with slots := kept }) else s) ∧
    (∀ x l, (s.bridge q.1 q.2).nak = true → (s.bridge q.1 q.2).expect = ack → kept = x :: l → x.kind ≠ .failed →
      ∃ t : State, exec (.stripeNak d port ack) s = .next t ∧ (t.bridge q.1 q.2).nak = false ∧
        (x.retried = false → (t.bridge d port).slots = kept.map (fun y => { y with retried := true, ack := B.expect, nak := B.nak }) ∧
          (t.bridge d port).wire = B.wire ++ kept.map (fun y => { y with retried := true, ack := B.expect, nak := B.nak }) ∧
          Tbl.get 0 (t.slice d).linkRetx port = satInc (Tbl.get 0 (s.slice d).linkRetx port)) ∧
        (x.retried = true → ((t.bridge d port).slots.head?).map (fun y => (y.kind, y.seq % 256, y.entries)) =
            some (.failed, x.seq % 256, x.entries) ∧
          Tbl.get 0 (t.slice d).linkFail port = satInc (Tbl.get 0 (s.slice d).linkFail port)))) ∧
  (∀ (s : State) (d port : Nat), s.hasDie d = true → s.live d = true → port < 8 → bit (s.slice d).linkUp port = true →
    s.failNaked d port = true →
    let q := peer s.dies d port
    ∃ t : State, exec (.linkDown d port) s = .next t ∧ bit (t.slice d).linkUp port = false ∧ bit (t.slice q.1).linkUp q.2 = false ∧
      (∀ e, e < s.dies → e ≠ d → (t.slice e).linkNotice = true) ∧
      ∀ p : Packet, p ∈ s.net → p.onRing d = true → ∃ c : Packet, c ∈ t.net ∧ c.resp = some .crc ∧ c.iss = p.iss ∧ c.ord = p.ord ∧ c.loc = .matrix d) ∧
  (∀ (s : State) (d : Nat), s.hasDie d = true → s.live d = true → (s.slice d).linkNotice = true →
    ∃ t : State, exec (.linkDownNotice d) s = .next t ∧ (t.slice d).linkNotice = false ∧ (∀ p : Packet, p ∈ s.net → p.onRing d = false → p ∈ t.net) ∧
      ∀ p : Packet, p ∈ s.net → p.onRing d = true → ∃ c : Packet, c ∈ t.net ∧ c.resp = some .crc ∧ c.iss = p.iss ∧ c.ord = p.ord ∧ c.loc = .matrix d) ∧
  (∀ (s : State) (d id : Nat) (p : Packet), s.hasDie d = true → s.live d = true → s.pkt id = some p → p.loc = .matrix d → p.destDie ≠ d →
    s.heldBack p = false → s.outOfTurn p = false → (p.dir = none ∨ p.dir = some 0 ∨ p.dir = some 1) →
    let dir := p.dir.getD (s.routeDir d p.destDie)
    let up (dir i : Nat) : Prop := i < 4 ∧ bit (s.slice d).linkUp (4 * dir + i) = true
    let set (i : Nat) : Prop := p.turned = true ∨ bit (s.routeLinks d p.destDie) i = true
    ((∃ i, up dir i ∧ set i) → (p.resp = none → s.routeOff dir p.destDie s.dies d = false) →
      ∃ t : State, ∃ i, exec (.ringRoute d id) s = .next t ∧ up dir i ∧ set i ∧ (t.pkt id).map (fun k => (k.loc, k.dir)) = some (.ring d (4 * dir + i), some dir)) ∧
    (p.resp = none → ((∀ i, ¬(up dir i ∧ set i)) ∨ s.routeOff dir p.destDie s.dies d = true) →
      ∃ t : State, exec (.ringRoute d id) s = .next t ∧ (p.kind = .notice → t.pkt id = none) ∧
        (p.kind ≠ .notice → (t.pkt id).map (fun k => (k.loc, k.resp)) = some (.matrix d, some .decerr) ∧ bit (t.slice d).decSrc 31 = true)) ∧
    (p.resp ≠ none → (∀ i, ¬(up dir i ∧ set i)) → (∃ i, up (1 - dir) i) →
      ∃ t : State, ∃ i, exec (.ringRoute d id) s = .next t ∧ up (1 - dir) i ∧
        (t.pkt id).map (fun k => (k.loc, k.dir)) = some (.ring d (4 * (1 - dir) + i), some (1 - dir))) ∧
    (p.resp ≠ none → (∀ i, ¬(up dir i ∧ set i)) → (∀ i, ¬up (1 - dir) i) →
      ∃ t : State, exec (.ringRoute d id) s = .next t ∧ (t.pkt id).map (·.loc) = some .lost)) ∧
  (∀ (s : State) (w : Src) (d t : Nat) (v : Word), s.sliceTakes w d (0x01A0 + 4 * t) v → s.isManager w = true → t < 8 →
    ((t = d ∨ s.dies ≤ t) → exec (.routeWrite w d t v) s = .next (s.sliceAnswered s w d (0x01A0 + 4 * t) v .ok)) ∧
    (t ≠ d → t < s.dies → ∃ u : State, exec (.routeWrite w d t v) s = .next (s.sliceAnswered u w d (0x01A0 + 4 * t) v .ok) ∧ u.net = s.net ∧
      u.routeDir d t = (if bit v 0 then 1 else 0) ∧
      (u.routeLinks d t).toNat = bits v 4 4 ∧ ∀ e, e ≠ t → u.routeDir d e = s.routeDir d e ∧ u.routeLinks d e = s.routeLinks d e))

/-- A burst from another tile is admitted if every 64 B piece of it finds an open gate of its household that grants its right; it then waits
at the NW port, counted in its gates, or is answered GATE; a misaligned request of an admitted burst is answered ALIGN. A quarantined port
answers WDOG, one whose banks have stopped for a reassignment GATE. Gates: one opens with its rights and household if its range lies in the
banks, and closes at once, or once its admitted bursts have drained; one that has not drained within TL_WDOG paces is closed by force,
and the rest of its bursts is refused. -/
def Obligations.Gates : Prop :=
  (∀ (s : State) (tile id : Nat) (p : Packet), s.hasTile tile = true → s.ready (tileDie tile) = true → s.pkt id = some p →
     p.target = .tile tile → p.loc = .arrived → p.resp = none → (p.kind = .read ∨ p.kind = .write) → s.nwFirst p = true →
     let T := s.tile tile
     let piece (k : Nat) : Nat := viewBank p.view (64 * (p.bstart + k)) * 1024 + viewRow p.view (64 * (p.bstart + k))
     let admits (g k : Nat) : Prop := g < 8 ∧ (T.gate g).isOpen = true ∧ (T.gate g).hh.toNat = p.iss.hh ∧
       (if p.write then (T.gate g).w else (T.gate g).r) = true ∧ (T.gate g).base.toNat ≤ piece k ∧
       piece k < (T.gate g).base.toNat + (T.gate g).size.toNat
     let counts (g : Nat) : Prop := ∃ k, k < p.blen ∧ admits g k ∧ ∀ f, f < g → ¬admits f k
     (T.quarantined .nw = true → ∃ t : State, exec (.nwRequest tile id) s = .next t ∧ (t.pkt id).map (·.resp) = some (some .wdog) ∧
       (t.tile tile).accs = T.accs) ∧
     (T.quarantined .nw = false → T.reassignStopped = true → ∃ t : State, exec (.nwRequest tile id) s = .next t ∧
       (t.pkt id).map (·.resp) = some (some .gate) ∧ (t.tile tile).accs = T.accs) ∧
     (T.quarantined .nw = false → T.reassignStopped = false → (T.burstOf p).isNone = true →
       ((∀ k, k < p.blen → ∃ g, admits g k) → alignOk .nw p.view p.place p.size p.write = true →
         ∃ t : State, ∃ a : Access, exec (.nwRequest tile id) s = .next t ∧
         (t.tile tile).accs = T.accs ++ [a] ∧ a.master = .nw ∧ a.stage = .atPort ∧ a.dest = .packet id ∧ a.off = p.place ∧
         a.write = p.write ∧ a.data = p.data ∧ a.iss = p.iss ∧ (t.pkt id).map (·.loc) = some .served ∧
         ∀ g, g < 8 → (counts g → ((t.tile tile).gate g).bursts = (T.gate g).bursts + 1) ∧
           (¬counts g → (t.tile tile).gate g = T.gate g)) ∧
       ((∀ k, k < p.blen → ∃ g, admits g k) → alignOk .nw p.view p.place p.size p.write = false →
         ∃ t : State, exec (.nwRequest tile id) s = .next t ∧ (t.pkt id).map (·.resp) = some (some .align) ∧ (t.tile tile).accs = T.accs) ∧
       ((∃ k, k < p.blen ∧ ∀ g, ¬admits g k) → ∃ t : State, exec (.nwRequest tile id) s = .next t ∧
         (t.pkt id).map (·.resp) = some (some .gate) ∧ (t.tile tile).accs = T.accs ∧ (t.tile tile).gates = T.gates))) ∧
  (∀ (s : State) (w : Src) (tile g : Nat) (v : Word), s.mayWrite .slgm w tile = true → g < 8 →
    let G := (s.tile tile).gate g
    let off := 0x108 + 0x10 * g
    let same : Prop := bit v 0 = G.r ∧ bit v 1 = G.w ∧ bits v 4 4 = G.hh.toNat
    (s.tileTakes w tile off (withField v 8 1 1) →
      (G.isOpen = false → G.closing = false → G.base.toNat + G.size.toNat ≤ 16384 →
        ∃ t : State, exec (.gateOpen w tile g v) s = .next (s.answered t w tile off (withField v 8 1 1) .ok) ∧ t.net = s.net ∧ t.out = s.out ∧
          ((t.tile tile).gate g).isOpen = true ∧
          ((t.tile tile).gate g).r = bit v 0 ∧ ((t.tile tile).gate g).w = bit v 1 ∧ ((t.tile tile).gate g).hh.toNat = bits v 4 4 ∧
          ((t.tile tile).gate g).base = G.base ∧ ((t.tile tile).gate g).size = G.size ∧ ((t.tile tile).gate g).closedDone = false ∧
          ((t.tile tile).gate g).forced = false ∧ ∀ k, k ≠ g → (t.tile tile).gate k = (s.tile tile).gate k) ∧
      (G.isOpen = false → G.closing = false → 16384 < G.base.toNat + G.size.toNat →
        exec (.gateOpen w tile g v) s = .next (s.answered s w tile off (withField v 8 1 1) .size)) ∧
      ((G.isOpen = true ∨ G.closing = true) → (¬same ∨ G.closing = true) →
        exec (.gateOpen w tile g v) s = .next (s.answered s w tile off (withField v 8 1 1) .rearmBusy)) ∧
      (G.isOpen = true → G.closing = false → same →
        exec (.gateOpen w tile g v) s = .next (s.answered s w tile off (withField v 8 1 1) .ok))) ∧
    (s.tileTakes w tile off (withField v 8 1 0) →
      (G.isOpen = true → G.closing = false → same →
        exec (.gateClose w tile g v) s = .next (s.answered (s.modTile tile (fun T => T.setGate g
          (if G.bursts = 0 then { G with isOpen := false, closedDone := true }
           else { G with isOpen := false, closing := true, since := s.paceNat tile }))) w tile off (withField v 8 1 0) .ok)) ∧
      (G.closing = true → same → exec (.gateClose w tile g v) s = .next (s.answered s w tile off (withField v 8 1 0) .ok)) ∧
      ((G.isOpen = true ∨ G.closing = true) → ¬same →
        exec (.gateClose w tile g v) s = .next (s.answered s w tile off (withField v 8 1 0) .rearmBusy)))) ∧
  (∀ (s : State) (tile g : Nat), s.hasTile tile = true → s.live (tileDie tile) = true → g < 8 → ((s.tile tile).gate g).closing = true →
    let G := (s.tile tile).gate g
    exec (.gateClosedDone tile g) s = .next (if G.bursts = 0 then
      s.modTile tile (fun T => T.setGate g { G with closing := false, closedDone := true }) else s) ∧
    (s.paceOver tile G.since (s.tile tile).wdog.toNat = false → exec (.gateForcedClose tile g) s = .next s) ∧
    (s.paceOver tile G.since (s.tile tile).wdog.toNat = true →
      ∃ t : State, exec (.gateForcedClose tile g) s = .next t ∧ ((t.tile tile).gate g).closing = false ∧
      ((t.tile tile).gate g).closedDone = true ∧ ((t.tile tile).gate g).forced = true ∧
      (t.tile tile).bursts.length = (s.tile tile).bursts.length ∧
      ∀ b : Burst, b ∈ (t.tile tile).bursts → g ∈ b.gates → b.cut = true))
end

