-- ==== Sys2Proof/Laws/Table.lean ====
section
/-!
SUPPORT. Tables and sets of keys: every operation keeps the one canonical form, and reading after writing.
-/

namespace Sys2Proof.Machine

theorem Tbl.set_mem {α : Type} {m : Tbl α} {k : Nat} {a : α} {p : Nat × α} (h : p ∈ m.set k a) : p = (k, a) ∨ p ∈ m := by
  induction m with
  | nil => simp [Tbl.set] at h; exact .inl h
  | cons q r ih => simp only [Tbl.set] at h; grind

theorem Tbl.set_wf {α : Type} {m : Tbl α} (k : Nat) (a : α) (h : m.wf) : (m.set k a).wf := by
  induction m with
  | nil => simp [Tbl.set, Tbl.wf]
  | cons q r ih =>
    obtain ⟨j, b⟩ := q
    simp only [Tbl.wf, List.pairwise_cons] at h
    simp only [Tbl.set, Tbl.wf]
    split
    · simp only [List.pairwise_cons]; grind
    · split
      · simp only [List.pairwise_cons]; grind
      · simp only [List.pairwise_cons]
        refine ⟨fun p hp => ?_, ih h.2⟩
        have := Tbl.set_mem hp; grind

theorem Tbl.cut_wf {α : Type} {m : Tbl α} (lo hi : Nat) (h : m.wf) : (m.cut lo hi).wf := h.filter _

theorem Tbl.del_wf {α : Type} {m : Tbl α} (k : Nat) (h : m.wf) : (m.del k).wf := h.filter _

theorem Keys.mem_add {m : Keys} {k j : Nat} : j ∈ m.add k ↔ j = k ∨ j ∈ m := by
  induction m with
  | nil => simp [Keys.add]
  | cons i r ih => simp only [Keys.add]; grind

theorem Keys.add_wf {m : Keys} (k : Nat) (h : m.wf) : (m.add k).wf := by
  induction m with
  | nil => simp [Keys.add, Keys.wf]
  | cons q r ih =>
    simp only [Keys.wf, List.pairwise_cons] at h
    simp only [Keys.add, Keys.wf]
    split
    · simp only [List.pairwise_cons]; grind
    · split
      · simp only [List.pairwise_cons]; grind
      · simp only [List.pairwise_cons]
        refine ⟨fun p hp => ?_, ih h.2⟩
        have := Keys.mem_add.1 hp; grind

theorem Keys.del_wf {m : Keys} (k : Nat) (h : m.wf) : (m.del k).wf := h.filter _

theorem Keys.cut_wf {m : Keys} (lo hi : Nat) (h : m.wf) : (m.cut lo hi).wf := h.filter _



theorem Tbl.get_set {α : Type} (d : α) (m : Tbl α) (k : Nat) (a : α) (j : Nat) : Tbl.get d (m.set k a) j = if k = j then a else Tbl.get d m j := by
  induction m with
  | nil => simp [Tbl.set, Tbl.get]
  | cons p r ih =>
    obtain ⟨i, b⟩ := p
    simp only [Tbl.set]
    split
    · simp only [Tbl.get]
    · split
      · rename_i h; subst h; simp only [Tbl.get]; split <;> rfl
      · rename_i h; simp only [Tbl.get, ih]; grind

theorem Tbl.find_set {α : Type} (m : Tbl α) (k : Nat) (a : α) (j : Nat) : Tbl.find (m.set k a) j = if k = j then some a else Tbl.find m j := by
  induction m with
  | nil => simp [Tbl.set, Tbl.find]
  | cons p r ih =>
    obtain ⟨i, b⟩ := p
    simp only [Tbl.set]
    split
    · simp only [Tbl.find]
    · split
      · rename_i h; subst h; simp only [Tbl.find]; split <;> rfl
      · rename_i h; simp only [Tbl.find, ih]; grind

end Sys2Proof.Machine
end

