-- ==== Sys2Proof/Laws/State.lean ====
section
/-!
SUPPORT. Reading after an update: one lemma per field and per update of the state, and the objects (slices, tiles, channels) of a
state after one of them has been written.
-/

namespace Sys2Proof.Machine

variable (s : State)

/-! ## Fields of the state -/

@[simp] theorem State.setSlice_pending (d : Nat) (S : Slice) : (s.setSlice d S).pending = s.pending := rfl
@[simp] theorem State.setSlice_pkg (d : Nat) (S : Slice) : (s.setSlice d S).pkg = s.pkg := rfl
@[simp] theorem State.setSlice_ticks (d : Nat) (S : Slice) : (s.setSlice d S).ticks = s.ticks := rfl
@[simp] theorem State.setSlice_fresh (d : Nat) (S : Slice) : (s.setSlice d S).fresh = s.fresh := rfl
@[simp] theorem State.setSlice_nextId (d : Nat) (S : Slice) : (s.setSlice d S).nextId = s.nextId := rfl
@[simp] theorem State.setSlice_mem (d : Nat) (S : Slice) : (s.setSlice d S).mem = s.mem := rfl
@[simp] theorem State.setSlice_poison (d : Nat) (S : Slice) : (s.setSlice d S).poison = s.poison := rfl
@[simp] theorem State.setSlice_valid (d : Nat) (S : Slice) : (s.setSlice d S).valid = s.valid := rfl
@[simp] theorem State.setSlice_net (d : Nat) (S : Slice) : (s.setSlice d S).net = s.net := rfl
@[simp] theorem State.setSlice_notices (d : Nat) (S : Slice) : (s.setSlice d S).notices = s.notices := rfl
@[simp] theorem State.setSlice_book (d : Nat) (S : Slice) : (s.setSlice d S).book = s.book := rfl
@[simp] theorem State.setSlice_out (d : Nat) (S : Slice) : (s.setSlice d S).out = s.out := rfl

@[simp] theorem State.modSlice_pending (d : Nat) (f : Slice → Slice) : (s.modSlice d f).pending = s.pending := rfl
@[simp] theorem State.modSlice_pkg (d : Nat) (f : Slice → Slice) : (s.modSlice d f).pkg = s.pkg := rfl
@[simp] theorem State.modSlice_ticks (d : Nat) (f : Slice → Slice) : (s.modSlice d f).ticks = s.ticks := rfl
@[simp] theorem State.modSlice_fresh (d : Nat) (f : Slice → Slice) : (s.modSlice d f).fresh = s.fresh := rfl
@[simp] theorem State.modSlice_nextId (d : Nat) (f : Slice → Slice) : (s.modSlice d f).nextId = s.nextId := rfl
@[simp] theorem State.modSlice_mem (d : Nat) (f : Slice → Slice) : (s.modSlice d f).mem = s.mem := rfl
@[simp] theorem State.modSlice_poison (d : Nat) (f : Slice → Slice) : (s.modSlice d f).poison = s.poison := rfl
@[simp] theorem State.modSlice_valid (d : Nat) (f : Slice → Slice) : (s.modSlice d f).valid = s.valid := rfl
@[simp] theorem State.modSlice_net (d : Nat) (f : Slice → Slice) : (s.modSlice d f).net = s.net := rfl
@[simp] theorem State.modSlice_notices (d : Nat) (f : Slice → Slice) : (s.modSlice d f).notices = s.notices := rfl
@[simp] theorem State.modSlice_book (d : Nat) (f : Slice → Slice) : (s.modSlice d f).book = s.book := rfl
@[simp] theorem State.modSlice_out (d : Nat) (f : Slice → Slice) : (s.modSlice d f).out = s.out := rfl

@[simp] theorem State.setTile_pending (t : Nat) (T : Tile) : (s.setTile t T).pending = s.pending := rfl
@[simp] theorem State.setTile_pkg (t : Nat) (T : Tile) : (s.setTile t T).pkg = s.pkg := rfl
@[simp] theorem State.setTile_ticks (t : Nat) (T : Tile) : (s.setTile t T).ticks = s.ticks := rfl
@[simp] theorem State.setTile_fresh (t : Nat) (T : Tile) : (s.setTile t T).fresh = s.fresh := rfl
@[simp] theorem State.setTile_nextId (t : Nat) (T : Tile) : (s.setTile t T).nextId = s.nextId := rfl
@[simp] theorem State.setTile_mem (t : Nat) (T : Tile) : (s.setTile t T).mem = s.mem := rfl
@[simp] theorem State.setTile_poison (t : Nat) (T : Tile) : (s.setTile t T).poison = s.poison := rfl
@[simp] theorem State.setTile_valid (t : Nat) (T : Tile) : (s.setTile t T).valid = s.valid := rfl
@[simp] theorem State.setTile_net (t : Nat) (T : Tile) : (s.setTile t T).net = s.net := rfl
@[simp] theorem State.setTile_notices (t : Nat) (T : Tile) : (s.setTile t T).notices = s.notices := rfl
@[simp] theorem State.setTile_book (t : Nat) (T : Tile) : (s.setTile t T).book = s.book := rfl
@[simp] theorem State.setTile_out (t : Nat) (T : Tile) : (s.setTile t T).out = s.out := rfl

@[simp] theorem State.modTile_pending (t : Nat) (f : Tile → Tile) : (s.modTile t f).pending = s.pending := rfl
@[simp] theorem State.modTile_pkg (t : Nat) (f : Tile → Tile) : (s.modTile t f).pkg = s.pkg := rfl
@[simp] theorem State.modTile_ticks (t : Nat) (f : Tile → Tile) : (s.modTile t f).ticks = s.ticks := rfl
@[simp] theorem State.modTile_fresh (t : Nat) (f : Tile → Tile) : (s.modTile t f).fresh = s.fresh := rfl
@[simp] theorem State.modTile_nextId (t : Nat) (f : Tile → Tile) : (s.modTile t f).nextId = s.nextId := rfl
@[simp] theorem State.modTile_mem (t : Nat) (f : Tile → Tile) : (s.modTile t f).mem = s.mem := rfl
@[simp] theorem State.modTile_poison (t : Nat) (f : Tile → Tile) : (s.modTile t f).poison = s.poison := rfl
@[simp] theorem State.modTile_valid (t : Nat) (f : Tile → Tile) : (s.modTile t f).valid = s.valid := rfl
@[simp] theorem State.modTile_net (t : Nat) (f : Tile → Tile) : (s.modTile t f).net = s.net := rfl
@[simp] theorem State.modTile_notices (t : Nat) (f : Tile → Tile) : (s.modTile t f).notices = s.notices := rfl
@[simp] theorem State.modTile_book (t : Nat) (f : Tile → Tile) : (s.modTile t f).book = s.book := rfl
@[simp] theorem State.modTile_out (t : Nat) (f : Tile → Tile) : (s.modTile t f).out = s.out := rfl

@[simp] theorem State.modTiles_pending (d : Nat) (f : Tile → Tile) : (s.modTiles d f).pending = s.pending := rfl
@[simp] theorem State.modTiles_pkg (d : Nat) (f : Tile → Tile) : (s.modTiles d f).pkg = s.pkg := rfl
@[simp] theorem State.modTiles_ticks (d : Nat) (f : Tile → Tile) : (s.modTiles d f).ticks = s.ticks := rfl
@[simp] theorem State.modTiles_fresh (d : Nat) (f : Tile → Tile) : (s.modTiles d f).fresh = s.fresh := rfl
@[simp] theorem State.modTiles_nextId (d : Nat) (f : Tile → Tile) : (s.modTiles d f).nextId = s.nextId := rfl
@[simp] theorem State.modTiles_mem (d : Nat) (f : Tile → Tile) : (s.modTiles d f).mem = s.mem := rfl
@[simp] theorem State.modTiles_poison (d : Nat) (f : Tile → Tile) : (s.modTiles d f).poison = s.poison := rfl
@[simp] theorem State.modTiles_valid (d : Nat) (f : Tile → Tile) : (s.modTiles d f).valid = s.valid := rfl
@[simp] theorem State.modTiles_net (d : Nat) (f : Tile → Tile) : (s.modTiles d f).net = s.net := rfl
@[simp] theorem State.modTiles_notices (d : Nat) (f : Tile → Tile) : (s.modTiles d f).notices = s.notices := rfl
@[simp] theorem State.modTiles_book (d : Nat) (f : Tile → Tile) : (s.modTiles d f).book = s.book := rfl
@[simp] theorem State.modTiles_out (d : Nat) (f : Tile → Tile) : (s.modTiles d f).out = s.out := rfl

@[simp] theorem State.modChan_pending (t n : Nat) (f : Channel → Channel) : (s.modChan t n f).pending = s.pending := rfl
@[simp] theorem State.modChan_pkg (t n : Nat) (f : Channel → Channel) : (s.modChan t n f).pkg = s.pkg := rfl
@[simp] theorem State.modChan_ticks (t n : Nat) (f : Channel → Channel) : (s.modChan t n f).ticks = s.ticks := rfl
@[simp] theorem State.modChan_fresh (t n : Nat) (f : Channel → Channel) : (s.modChan t n f).fresh = s.fresh := rfl
@[simp] theorem State.modChan_nextId (t n : Nat) (f : Channel → Channel) : (s.modChan t n f).nextId = s.nextId := rfl
@[simp] theorem State.modChan_mem (t n : Nat) (f : Channel → Channel) : (s.modChan t n f).mem = s.mem := rfl
@[simp] theorem State.modChan_poison (t n : Nat) (f : Channel → Channel) : (s.modChan t n f).poison = s.poison := rfl
@[simp] theorem State.modChan_valid (t n : Nat) (f : Channel → Channel) : (s.modChan t n f).valid = s.valid := rfl
@[simp] theorem State.modChan_net (t n : Nat) (f : Channel → Channel) : (s.modChan t n f).net = s.net := rfl
@[simp] theorem State.modChan_notices (t n : Nat) (f : Channel → Channel) : (s.modChan t n f).notices = s.notices := rfl
@[simp] theorem State.modChan_book (t n : Nat) (f : Channel → Channel) : (s.modChan t n f).book = s.book := rfl
@[simp] theorem State.modChan_out (t n : Nat) (f : Channel → Channel) : (s.modChan t n f).out = s.out := rfl

@[simp] theorem State.emit_pending (o : Output) : (s.emit o).pending = s.pending := rfl
@[simp] theorem State.emit_pkg (o : Output) : (s.emit o).pkg = s.pkg := rfl
@[simp] theorem State.emit_ticks (o : Output) : (s.emit o).ticks = s.ticks := rfl
@[simp] theorem State.emit_fresh (o : Output) : (s.emit o).fresh = s.fresh := rfl
@[simp] theorem State.emit_nextId (o : Output) : (s.emit o).nextId = s.nextId := rfl
@[simp] theorem State.emit_mem (o : Output) : (s.emit o).mem = s.mem := rfl
@[simp] theorem State.emit_poison (o : Output) : (s.emit o).poison = s.poison := rfl
@[simp] theorem State.emit_valid (o : Output) : (s.emit o).valid = s.valid := rfl
@[simp] theorem State.emit_slices (o : Output) : (s.emit o).slices = s.slices := rfl
@[simp] theorem State.emit_net (o : Output) : (s.emit o).net = s.net := rfl
@[simp] theorem State.emit_notices (o : Output) : (s.emit o).notices = s.notices := rfl
@[simp] theorem State.emit_book (o : Output) : (s.emit o).book = s.book := rfl

@[simp] theorem State.takeId_pending : (s.takeId).pending = s.pending := rfl
@[simp] theorem State.takeId_pkg : (s.takeId).pkg = s.pkg := rfl
@[simp] theorem State.takeId_ticks : (s.takeId).ticks = s.ticks := rfl
@[simp] theorem State.takeId_fresh : (s.takeId).fresh = s.fresh := rfl
@[simp] theorem State.takeId_mem : (s.takeId).mem = s.mem := rfl
@[simp] theorem State.takeId_poison : (s.takeId).poison = s.poison := rfl
@[simp] theorem State.takeId_valid : (s.takeId).valid = s.valid := rfl
@[simp] theorem State.takeId_slices : (s.takeId).slices = s.slices := rfl
@[simp] theorem State.takeId_net : (s.takeId).net = s.net := rfl
@[simp] theorem State.takeId_notices : (s.takeId).notices = s.notices := rfl
@[simp] theorem State.takeId_book : (s.takeId).book = s.book := rfl
@[simp] theorem State.takeId_out : (s.takeId).out = s.out := rfl

@[simp] theorem State.look_pending : (s.look).pending = s.pending := rfl
@[simp] theorem State.look_pkg : (s.look).pkg = s.pkg := rfl
@[simp] theorem State.look_fresh : (s.look).fresh = s.fresh := rfl
@[simp] theorem State.look_nextId : (s.look).nextId = s.nextId := rfl
@[simp] theorem State.look_mem : (s.look).mem = s.mem := rfl
@[simp] theorem State.look_poison : (s.look).poison = s.poison := rfl
@[simp] theorem State.look_valid : (s.look).valid = s.valid := rfl
@[simp] theorem State.look_slices : (s.look).slices = s.slices := rfl
@[simp] theorem State.look_net : (s.look).net = s.net := rfl
@[simp] theorem State.look_notices : (s.look).notices = s.notices := rfl
@[simp] theorem State.look_book : (s.look).book = s.book := rfl
@[simp] theorem State.look_out : (s.look).out = s.out := rfl

@[simp] theorem State.raise_pending (d h v : Nat) : (s.raise d h v).pending = s.pending := rfl
@[simp] theorem State.raise_pkg (d h v : Nat) : (s.raise d h v).pkg = s.pkg := rfl
@[simp] theorem State.raise_ticks (d h v : Nat) : (s.raise d h v).ticks = s.ticks := rfl
@[simp] theorem State.raise_fresh (d h v : Nat) : (s.raise d h v).fresh = s.fresh := rfl
@[simp] theorem State.raise_nextId (d h v : Nat) : (s.raise d h v).nextId = s.nextId := rfl
@[simp] theorem State.raise_mem (d h v : Nat) : (s.raise d h v).mem = s.mem := rfl
@[simp] theorem State.raise_poison (d h v : Nat) : (s.raise d h v).poison = s.poison := rfl
@[simp] theorem State.raise_valid (d h v : Nat) : (s.raise d h v).valid = s.valid := rfl
@[simp] theorem State.raise_net (d h v : Nat) : (s.raise d h v).net = s.net := rfl
@[simp] theorem State.raise_notices (d h v : Nat) : (s.raise d h v).notices = s.notices := rfl
@[simp] theorem State.raise_book (d h v : Nat) : (s.raise d h v).book = s.book := rfl
@[simp] theorem State.raise_out (d h v : Nat) : (s.raise d h v).out = s.out := rfl

@[simp] theorem State.record_pending (d type tile : Nat) (det : BitVec 352) : (s.record d type tile det).pending = s.pending := rfl
@[simp] theorem State.record_pkg (d type tile : Nat) (det : BitVec 352) : (s.record d type tile det).pkg = s.pkg := rfl
@[simp] theorem State.record_fresh (d type tile : Nat) (det : BitVec 352) : (s.record d type tile det).fresh = s.fresh := rfl
@[simp] theorem State.record_nextId (d type tile : Nat) (det : BitVec 352) : (s.record d type tile det).nextId = s.nextId := rfl
@[simp] theorem State.record_mem (d type tile : Nat) (det : BitVec 352) : (s.record d type tile det).mem = s.mem := rfl
@[simp] theorem State.record_poison (d type tile : Nat) (det : BitVec 352) : (s.record d type tile det).poison = s.poison := rfl
@[simp] theorem State.record_valid (d type tile : Nat) (det : BitVec 352) : (s.record d type tile det).valid = s.valid := rfl
@[simp] theorem State.record_net (d type tile : Nat) (det : BitVec 352) : (s.record d type tile det).net = s.net := rfl
@[simp] theorem State.record_notices (d type tile : Nat) (det : BitVec 352) : (s.record d type tile det).notices = s.notices := rfl
@[simp] theorem State.record_book (d type tile : Nat) (det : BitVec 352) : (s.record d type tile det).book = s.book := rfl
@[simp] theorem State.record_out (d type tile : Nat) (det : BitVec 352) : (s.record d type tile det).out = s.out := rfl

@[simp] theorem State.putRow_pending (t b p : Nat) (r : Row) : (s.putRow t b p r).pending = s.pending := rfl
@[simp] theorem State.putRow_pkg (t b p : Nat) (r : Row) : (s.putRow t b p r).pkg = s.pkg := rfl
@[simp] theorem State.putRow_ticks (t b p : Nat) (r : Row) : (s.putRow t b p r).ticks = s.ticks := rfl
@[simp] theorem State.putRow_fresh (t b p : Nat) (r : Row) : (s.putRow t b p r).fresh = s.fresh := rfl
@[simp] theorem State.putRow_nextId (t b p : Nat) (r : Row) : (s.putRow t b p r).nextId = s.nextId := rfl
@[simp] theorem State.putRow_poison (t b p : Nat) (r : Row) : (s.putRow t b p r).poison = s.poison := rfl
@[simp] theorem State.putRow_valid (t b p : Nat) (r : Row) : (s.putRow t b p r).valid = s.valid := rfl
@[simp] theorem State.putRow_slices (t b p : Nat) (r : Row) : (s.putRow t b p r).slices = s.slices := rfl
@[simp] theorem State.putRow_net (t b p : Nat) (r : Row) : (s.putRow t b p r).net = s.net := rfl
@[simp] theorem State.putRow_notices (t b p : Nat) (r : Row) : (s.putRow t b p r).notices = s.notices := rfl
@[simp] theorem State.putRow_book (t b p : Nat) (r : Row) : (s.putRow t b p r).book = s.book := rfl
@[simp] theorem State.putRow_out (t b p : Nat) (r : Row) : (s.putRow t b p r).out = s.out := rfl

@[simp] theorem State.writeRow_pending (t b r : Nat) (x : RowData) : (s.writeRow t b r x).pending = s.pending := rfl
@[simp] theorem State.writeRow_pkg (t b r : Nat) (x : RowData) : (s.writeRow t b r x).pkg = s.pkg := rfl
@[simp] theorem State.writeRow_ticks (t b r : Nat) (x : RowData) : (s.writeRow t b r x).ticks = s.ticks := rfl
@[simp] theorem State.writeRow_fresh (t b r : Nat) (x : RowData) : (s.writeRow t b r x).fresh = s.fresh := rfl
@[simp] theorem State.writeRow_nextId (t b r : Nat) (x : RowData) : (s.writeRow t b r x).nextId = s.nextId := rfl
@[simp] theorem State.writeRow_slices (t b r : Nat) (x : RowData) : (s.writeRow t b r x).slices = s.slices := rfl
@[simp] theorem State.writeRow_net (t b r : Nat) (x : RowData) : (s.writeRow t b r x).net = s.net := rfl
@[simp] theorem State.writeRow_notices (t b r : Nat) (x : RowData) : (s.writeRow t b r x).notices = s.notices := rfl
@[simp] theorem State.writeRow_book (t b r : Nat) (x : RowData) : (s.writeRow t b r x).book = s.book := rfl
@[simp] theorem State.writeRow_out (t b r : Nat) (x : RowData) : (s.writeRow t b r x).out = s.out := rfl

@[simp] theorem State.emit_out (o : Output) : (s.emit o).out = s.out ++ [o] := rfl
@[simp] theorem State.takeId_nextId : s.takeId.nextId = s.nextId + 1 := rfl
@[simp] theorem State.look_ticks : s.look.ticks = s.ticks + 1 := rfl
@[simp] theorem State.putRow_mem (t b p : Nat) (r : Row) : (s.putRow t b p r).mem = s.mem.set (rowKey t b p) r := rfl

/-! ## Slices -/

@[simp] theorem State.setSlice_slice (d e : Nat) (S : Slice) : (s.setSlice d S).slice e = if d = e then S else s.slice e :=
  Tbl.get_set _ _ _ _ _

@[simp] theorem State.modSlice_slice (d e : Nat) (f : Slice → Slice) : (s.modSlice d f).slice e = if d = e then f (s.slice d) else s.slice e :=
  Tbl.get_set _ _ _ _ _

@[simp] theorem State.emit_slice (o : Output) (d : Nat) : (s.emit o).slice d = s.slice d := rfl
@[simp] theorem State.takeId_slice (d : Nat) : s.takeId.slice d = s.slice d := rfl
@[simp] theorem State.look_slice (d : Nat) : s.look.slice d = s.slice d := rfl
@[simp] theorem State.putRow_slice (t b p : Nat) (r : Row) (d : Nat) : (s.putRow t b p r).slice d = s.slice d := rfl
@[simp] theorem State.writeRow_slice (t b r : Nat) (x : RowData) (d : Nat) : (s.writeRow t b r x).slice d = s.slice d := rfl

/-! ## Tiles -/

@[simp] theorem Slice.setTile_tile (S : Slice) (i j : Nat) (T : Tile) : (S.setTile i T).tile j = if i = j then T else S.tile j :=
  Tbl.get_set _ _ _ _ _

@[simp] theorem State.setTile_tile (t u : Nat) (T : Tile) : (s.setTile t T).tile u = if t = u then T else s.tile u := by
  simp only [State.setTile, State.tile, State.modSlice_slice]
  by_cases h : t = u
  · simp [h]
  · rw [if_neg h]
    split
    · rename_i e
      simp only [tileDie] at e
      have : t % 256 ≠ u % 256 := by omega
      simp [this, tileDie, e]
    · rfl

@[simp] theorem State.modTile_tile (t u : Nat) (f : Tile → Tile) : (s.modTile t f).tile u = if t = u then f (s.tile t) else s.tile u :=
  State.setTile_tile s t u _

@[simp] theorem State.emit_tile (o : Output) (t : Nat) : (s.emit o).tile t = s.tile t := rfl
@[simp] theorem State.takeId_tile (t : Nat) : s.takeId.tile t = s.tile t := rfl
@[simp] theorem State.look_tile (t : Nat) : s.look.tile t = s.tile t := rfl
@[simp] theorem State.putRow_tile (t b p : Nat) (r : Row) (u : Nat) : (s.putRow t b p r).tile u = s.tile u := rfl
@[simp] theorem State.writeRow_tile (t b r : Nat) (x : RowData) (u : Nat) : (s.writeRow t b r x).tile u = s.tile u := rfl

/-! ## Channels -/

@[simp] theorem Tile.setChan_chan (T : Tile) (n m : Nat) (c : Channel) : (T.setChan n c).chan m = if n = m then c else T.chan m :=
  Tbl.get_set _ _ _ _ _

@[simp] theorem State.modChan_chan (t n m : Nat) (f : Channel → Channel) :
    (s.modChan t n f).chan t m = if n = m then f (s.chan t n) else s.chan t m := by
  simp [State.modChan, State.chan]

/-! ## Rows -/

/-- A row that has been written reads back; every other row of every bank reads as before. -/
theorem State.putRow_stored (t b p : Nat) (r : Row) (u c q : Nat) :
    (s.putRow t b p r).stored u c q = if rowKey t b p = rowKey u c q then r else s.stored u c q := by
  simp only [State.stored, State.putRow_mem, Tbl.find_set]
  by_cases h : rowKey t b p = rowKey u c q
  · simp [h]
  · simp only [if_neg h, State.putRow_tile, State.putRow_slice]

/-- A whole-row write stores the row with its computed parity, and no other row changes. -/
theorem State.writeRow_stored (t b r : Nat) (x : RowData) (u c q : Nat) :
    (s.writeRow t b r x).stored u c q = if rowKey t b ((s.tile t).physRow b r) = rowKey u c q then mkRow x else s.stored u c q :=
  s.putRow_stored t b ((s.tile t).physRow b r) (mkRow x) u c q

/-- Rows of 16 banks of 1040 physical rows have keys of their own. -/
theorem rowKey_inj {t b p u c q : Nat} (hb : b < 16) (hp : p < 1040) (hc : c < 16) (hq : q < 1040) :
    rowKey t b p = rowKey u c q ↔ t = u ∧ b = c ∧ p = q := by
  simp only [rowKey]; omega

/-! ## Where the machine stands -/

@[simp] theorem State.modTile_live (t d : Nat) (f : Tile → Tile) : (s.modTile t f).live d = s.live d := by
  simp only [State.live, State.modTile, State.setTile, State.modSlice_slice]
  split
  · rename_i e; subst e; rfl
  · rfl

@[simp] theorem State.modTile_ready (t d : Nat) (f : Tile → Tile) : (s.modTile t f).ready d = s.ready d := by
  simp only [State.ready, State.modTile, State.setTile, State.modSlice_slice]
  split
  · rename_i e; subst e; rfl
  · rfl

/-- A slice that is READY is live. -/
theorem State.live_of_ready {s : State} {d : Nat} (h : s.ready d = true) : s.live d = true := by
  simp only [State.ready, State.live, Bool.and_eq_true, beq_iff_eq, decide_eq_true_eq] at h ⊢
  exact ⟨h.1, h.2 ▸ by decide⟩

/-- The outcome of an event at a tile of a live slice. -/
theorem State.atTile_next {s r : State} {t : Nat} (h : s.hasTile t = true) (hl : s.live (tileDie t) = true) : s.atTile t r = .next r := by
  simp [State.atTile, h, hl]

/-- The outcome of an event at a live slice. -/
theorem State.atDie_next {s r : State} {d : Nat} (h : s.hasDie d = true) (hl : s.live d = true) : s.atDie d r = .next r := by
  simp [State.atDie, h, hl]

/-- The outcome of an event that a slice takes in any state. -/
theorem State.atAnyDie_next {s r : State} {d : Nat} (h : s.hasDie d = true) : s.atAnyDie d r = .next r := by
  simp [State.atAnyDie, h]

end Sys2Proof.Machine
end

