-- ==== Sys2Proof/Laws/Regs.lean ====
section
/-!
SUPPORT. A register write that a block takes at once: what it leads to is what performing it leads to, and its answer.
-/

namespace Sys2Proof.Machine

open Host

variable {s : State} {w : Src}

/-- Nothing keeps a command of `w` from being given. -/
theorem State.fromSrc_arrives (h : s.arrives w) (r : Result) : s.fromSrc w r = r := by
  cases w with
  | sc t => simp [State.fromSrc, h.1, h.2]
  | st t n => simp [State.fromSrc, h.1, h.2.1, h.2.2]
  | host d fn =>
    obtain ⟨hd, hr, hk⟩ := h
    have hn : (s.hhOf (.host d fn)).isNone = false := by rw [Option.isNone_eq_false_iff]; exact hk
    simp [State.fromSrc, hd, hr, hn]

/-- An access that has been answered is not being served. -/
theorem State.answerAt_handed (t : State) (d id : Nat) (st : Status) (l : List RowData) :
    (t.answerAt d id st l).handed id = t.answerAt d id st l := by
  simp only [State.handed, State.answerAt, State.move, State.modPkt, State.takeId, updWhere, List.map_map, State.mk.injEq, true_and, and_true]
  apply List.map_congr_left
  intro p _
  by_cases hp : (p.id == id) = true
  · simp [Function.comp, hp]
  · simp [Function.comp, hp]

/-- The packet of a write whose turn has come is at the register bus, whole and of that value. -/
theorem State.turn_some {die a : Nat} {v : Word} {p : Packet} (h : s.turn w die a v = some p) :
    s.busPkt w die (BitVec.ofNat 48 a) true = some p ∧ (p.write && p.size == 4 && (p.data.headD 0).truncate 32 == v) = true :=
  Option.filter_eq_some_iff.1 h

/-- A write whose turn has come at the register bus is performed with its packet. -/
theorem State.byBus_turn {die a : Nat} {v : Word} {p : Packet} (h : s.turn w die a v = some p) (hl : s.live die = true) (f : Nat → State) :
    s.byBus w die (BitVec.ofNat 48 a) v f = (f p.id).handed p.id := by
  obtain ⟨h1, h2⟩ := State.turn_some h
  simp only [State.byBus, h1, hl, Bool.true_and]
  exact if_pos (by simp only [Bool.and_assoc, Bool.and_eq_true] at h2 ⊢; exact h2.2)

/-- A write to a register of a tile block that takes it: performed and answered. -/
theorem State.tileReg_now {tile off : Nat} {v : Word} {t : State} {st : Status} (h : s.tileTakes w tile off v) :
    s.tileReg w tile off v (some (t, some st)) = .next (s.answered t w tile off v st) := by
  rw [State.tileReg, State.fromSrc_arrives h.source]
  by_cases hl : isLocal w tile = true
  · simp [hl, State.acceptTile, State.acceptAcc, h.ready, h.given, h.busy, h.first, State.answerAcc, State.answered, State.tileTurn, tileRegAddr]
  · obtain ⟨p, hp⟩ := Option.isSome_iff_exists.1 (h.path.resolve_left hl)
    rw [if_neg hl, State.byBus_turn hp (State.live_of_ready h.ready)]
    simp [hl, State.acceptTile, State.acceptAcc, h.ready, h.given, h.busy, h.first, State.answerAcc, State.answered, State.tileTurn, hp,
      State.answerAt_handed]

/-- A write to a register of a tile block that completes later: the block is busy with it. -/
theorem State.tileReg_later {tile off : Nat} {v : Word} {t : State} (h : s.tileTakes w tile off v) :
    s.tileReg w tile off v (some (t, none)) =
      .next (s.taken (t.modTile tile (fun T => { T with regBusy := some (s.accOf w tile off v) })) w tile off v) := by
  rw [State.tileReg, State.fromSrc_arrives h.source]
  by_cases hl : isLocal w tile = true
  · simp [hl, State.acceptTile, State.acceptAcc, h.ready, h.given, h.busy, h.first, State.taken, State.tileTurn, State.accOf]
  · obtain ⟨p, hp⟩ := Option.isSome_iff_exists.1 (h.path.resolve_left hl)
    rw [if_neg hl, State.byBus_turn hp (State.live_of_ready h.ready)]
    simp [hl, State.acceptTile, State.acceptAcc, h.ready, h.given, h.busy, h.first, State.taken, State.tileTurn, State.accOf, hp]

/-- A write to a register of a tile block that waits. -/
theorem State.tileReg_waits {tile off : Nat} {v : Word} (h : s.tileTakes w tile off v) :
    s.tileReg w tile off v none =
      .next (s.taken (s.modTile tile (fun T => { T with regWait := T.regWait ++ [s.accOf w tile off v] })) w tile off v) := by
  rw [State.tileReg, State.fromSrc_arrives h.source]
  by_cases hl : isLocal w tile = true
  · simp [hl, State.acceptTile, State.acceptAcc, h.ready, h.given, h.busy, h.first, State.taken, State.tileTurn, State.accOf]
  · obtain ⟨p, hp⟩ := Option.isSome_iff_exists.1 (h.path.resolve_left hl)
    rw [if_neg hl, State.byBus_turn hp (State.live_of_ready h.ready)]
    simp [hl, State.acceptTile, State.acceptAcc, h.ready, h.given, h.busy, h.first, State.taken, State.tileTurn, State.accOf, hp]

/-- A write to a register of a slice block that takes it: performed and answered. -/
theorem State.sliceReg_now {die off : Nat} {v : Word} {t : State} {st : Status} (h : s.sliceTakes w die off v) :
    s.sliceReg w die off v (some (t, some st)) = .next (s.sliceAnswered t w die off v st) := by
  obtain ⟨p, hp⟩ := Option.isSome_iff_exists.1 h.path
  rw [State.sliceReg, State.fromSrc_arrives h.source, State.byBus_turn hp (State.live_of_ready h.ready)]
  simp [State.acceptSlice, State.acceptSliceAcc, h.ready, h.busy, State.answerAcc, State.sliceAnswered, hp, State.answerAt_handed]

end Sys2Proof.Machine
end

