-- ==== Sys2Proof/Laws/Answers.lean ====
section
/-!
SUPPORT. What capture and the answer to a register access leave as they are; and what a writer without rights meets.
-/

namespace Sys2Proof.Machine
variable {s t : State} {w : Src} {v : Word} {st : Status} {a d k : Nat}

/-- A captured event goes into the capture unit of its slice; nothing else of any slice changes. -/
theorem State.capture_slice (s : State) (d h type addr tile : Nat) (data : BitVec 64) (src : Nat) (st : Status) (refused : Bool)
    (payload : List RowData) (e : Nat) :
    ∃ c, (s.capture d h type addr tile data src st refused payload).slice e = { s.slice e with cap := c } := by
  unfold State.capture
  split
  · by_cases he : d = e
    · subst he; exact ⟨_, by simp only [State.modSlice_slice, if_true]; rfl⟩
    · exact ⟨(s.slice e).cap, by simp only [State.modSlice_slice, if_neg he]⟩
  · exact ⟨_, rfl⟩

@[simp] theorem State.capture_tile (s : State) (d h type addr tile : Nat) (data : BitVec 64) (src : Nat) (st : Status) (refused : Bool)
    (payload : List RowData) (g : Nat) : (s.capture d h type addr tile data src st refused payload).tile g = s.tile g := by
  obtain ⟨c, hc⟩ := State.capture_slice s d h type addr tile data src st refused payload (tileDie g)
  simp only [State.tile, hc]; rfl

/-- Capture changes neither the banks, the network, the book nor what the ports have answered. -/
@[simp] theorem State.capture_rest (s : State) (d h type addr tile : Nat) (data : BitVec 64) (src : Nat) (st : Status) (refused : Bool)
    (payload : List RowData) :
    let t := s.capture d h type addr tile data src st refused payload
    t.out = s.out ∧ t.mem = s.mem ∧ t.poison = s.poison ∧ t.valid = s.valid ∧ t.net = s.net ∧ t.book = s.book ∧ t.ticks = s.ticks ∧
      t.nextId = s.nextId ∧ t.pkg = s.pkg := by
  unfold State.capture
  split <;> simp

/-- An answer where a request stands changes the network alone, and takes one identity. -/
@[simp] theorem State.answerAt_rest (s : State) (d id : Nat) (st : Status) (data : List RowData) :
    let t := s.answerAt d id st data
    t.out = s.out ∧ t.slices = s.slices ∧ t.mem = s.mem ∧ t.poison = s.poison ∧ t.valid = s.valid ∧ t.book = s.book ∧ t.ticks = s.ticks ∧
      t.nextId = s.nextId + 1 ∧ t.pkg = s.pkg ∧ t.notices = s.notices ∧ t.pending = s.pending := by
  simp [State.answerAt, State.move, State.modPkt, State.takeId]

@[simp] theorem State.answerAt_slice (s : State) (d id : Nat) (st : Status) (data : List RowData) (e : Nat) :
    (s.answerAt d id st data).slice e = s.slice e := by
  unfold State.slice; rw [(State.answerAt_rest s d id st data).2.1]

@[simp] theorem State.answerAt_tile (s : State) (d id : Nat) (st : Status) (data : List RowData) (g : Nat) :
    (s.answerAt d id st data).tile g = s.tile g := by
  unfold State.tile; rw [State.answerAt_slice]

/-- A register answer goes out; to a stream engine's REGWRITE it is the end of its write. -/
theorem State.answerReg_tile (s : State) (w : Src) (a : Nat) (st : Status) (v : Word) (g : Nat) :
    ∃ cs, (s.answerReg w a st v).tile g = { s.tile g with chans := cs } := by
  unfold State.answerReg
  cases w with
  | st t n =>
    by_cases h : t = g
    · subst h
      exact ⟨((s.tile t).setChan n (((s.tile t).chan n).regAnswer a st)).chans, by
        simp only [State.modChan, State.modTile_tile, State.emit_tile, if_true]; rfl⟩
    · exact ⟨(s.tile g).chans, by simp only [State.modChan, State.modTile_tile, if_neg h, State.emit_tile]⟩
  | _ => exact ⟨(s.tile g).chans, by simp only [State.emit_tile]⟩

/-- A register answer changes no register of a slice. -/
theorem State.answerReg_slice (s : State) (w : Src) (a : Nat) (st : Status) (v : Word) (e : Nat) :
    ∃ ts, (s.answerReg w a st v).slice e = { s.slice e with tiles := ts } := by
  unfold State.answerReg
  cases w with
  | st t n =>
    by_cases h : tileDie t = e
    · subst h
      exact ⟨(((s.slice (tileDie t)).setTile (t % 256) ((s.tile t).setChan n (((s.tile t).chan n).regAnswer a st)))).tiles, by
        simp only [State.modChan, State.modTile, State.setTile, State.modSlice_slice, State.emit_slice, State.emit_tile, if_true]; rfl⟩
    · exact ⟨(s.slice e).tiles, by simp only [State.modChan, State.modTile, State.setTile, State.modSlice_slice, if_neg h, State.emit_slice]⟩
  | _ => exact ⟨(s.slice e).tiles, by simp only [State.emit_slice]⟩

@[simp] theorem State.answerReg_rest (s : State) (w : Src) (a : Nat) (st : Status) (v : Word) :
    let t := s.answerReg w a st v
    t.out = s.out ++ [.reg w a st v] ∧ t.mem = s.mem ∧ t.poison = s.poison ∧ t.valid = s.valid ∧ t.net = s.net ∧ t.book = s.book ∧
      t.ticks = s.ticks ∧ t.nextId = s.nextId ∧ t.pkg = s.pkg := by
  unfold State.answerReg
  cases w <;> simp [State.emit]

/-- A write of a tile register that has been answered: the tiles hold what performing it left there, but for a REGWRITE's channel, which has
its answer. -/
theorem State.answered_tile (s t : State) (w : Src) (tile off : Nat) (v : Word) (st : Status) (g : Nat) :
    ∃ cs, (s.answered t w tile off v st).tile g = { t.tile g with chans := cs } := by
  unfold State.answered
  split
  · exact State.answerReg_tile t w _ st 0 g
  · exact ⟨(t.tile g).chans, State.answerAt_tile t _ _ st [] g⟩

/-- A write of a tile register that has been answered: the registers of a slice are as performing it left them. -/
theorem State.answered_slice (s t : State) (w : Src) (tile off : Nat) (v : Word) (st : Status) (e : Nat) :
    ∃ ts, (s.answered t w tile off v st).slice e = { t.slice e with tiles := ts } := by
  unfold State.answered
  split
  · exact State.answerReg_slice t w _ st 0 e
  · exact ⟨(t.slice e).tiles, State.answerAt_slice t _ _ st [] e⟩

/-- A write of a tile register that has been answered: banks, book and clock are as performing it left them. -/
theorem State.answered_rest (s t : State) (w : Src) (tile off : Nat) (v : Word) (st : Status) :
    let r := s.answered t w tile off v st
    r.mem = t.mem ∧ r.poison = t.poison ∧ r.valid = t.valid ∧ r.book = t.book ∧ r.ticks = t.ticks ∧ r.pkg = t.pkg := by
  unfold State.answered
  split <;> simp

/-- A write that came by the local path is answered with an output, one that came over the register bus with its response. -/
theorem State.answered_out (s t : State) (w : Src) (tile off : Nat) (v : Word) (st : Status) :
    (s.answered t w tile off v st).out =
      if (s.tileTurn w tile off v).isSome then t.out else t.out ++ [.reg w (tileRegAddr tile off) st 0] := by
  unfold State.answered
  cases s.tileTurn w tile off v <;> simp

/-- A write of a slice register that has been answered changes the network alone. -/
@[simp] theorem State.sliceAnswered_slice (s t : State) (w : Src) (die off : Nat) (v : Word) (st : Status) (e : Nat) :
    (s.sliceAnswered t w die off v st).slice e = t.slice e := by
  unfold State.sliceAnswered
  split <;> simp

theorem State.sliceAnswered_rest (s t : State) (w : Src) (die off : Nat) (v : Word) (st : Status) :
    let r := s.sliceAnswered t w die off v st
    r.out = t.out ∧ r.mem = t.mem ∧ r.poison = t.poison ∧ r.valid = t.valid ∧ r.book = t.book ∧ r.ticks = t.ticks ∧ r.pkg = t.pkg := by
  unfold State.sliceAnswered
  split <;> simp

/-- Neither the manager nor the household of a tile: every write of a tile register is answered DEED and changes nothing. -/
theorem State.tileWrite_deny (s : State) (w : Src) (tile : Nat) (h : ∀ k, s.hhOf w = some k → k ≠ 0 ∧ k ≠ (s.tile tile).hh) (off : Nat) (v :
    Word) :
    s.tileWrite w tile off v = some (s, some .deed) := by
  have a (r : Right) : s.mayWrite r w tile = false := by
    unfold State.mayWrite
    cases e : s.hhOf w with
    | none => rfl
    | some k => have := h k e; cases r <;> simp [this.1, this.2]
  have b : s.isManager w = false := by
    unfold State.isManager
    cases e : s.hhOf w with
    | none => rfl
    | some k => have := h k e; simp [this.1]
  have c : s.hhOf w ≠ some (s.tile tile).hh := fun e => (h _ e).2 rfl
  have d : s.mayForce w tile = false := by simp [State.mayForce, b, c]
  have e (x y : State × Status) (hx : x = (s, .deed)) : RegRes.now x = some (s, some .deed) := by rw [hx]; rfl
  have bo (k : Nat) : s.bellOp w tile k v = some (s, some .deed) := by
    unfold State.bellOp
    simp only [State.bellForceOp, State.bellArriveOp, a, d, RegRes.now]
    split <;> simp
  have ch (n k : Nat) : s.chanRegOp w tile n k v = (s, .deed) := by
    unfold State.chanRegOp; simp [a, b, State.roTile, State.mayRead]
  have f (x : RegRes) (p : Prop) [Decidable p] (y : RegRes) (hx : x = some (s, some .deed)) (hy : y = some (s, some .deed)) : (if p then x
      else y) = some (s, some .deed) := by split <;> assumption
  have ta (k : Nat) : s.tallyOp w tile k v = some (s, some .deed) := by simp [State.tallyOp, a, RegRes.now]
  have tm (k : Nat) : s.tallyModeOp w tile k v = some (s, some .deed) := by simp [State.tallyModeOp, a, RegRes.now]
  unfold State.tileWrite
  simp only [ta, tm, bo, ch]
  repeat' apply f
  all_goals first
    | exact bo _
    | (rw [ch]; rfl)
    | (simp [RegRes.now, RegRes.orWait, State.ctrlOp, State.statusOp, State.sweepOp, State.deedWriteOp, State.commonsWriteOp, State.prioOp,
        State.rotateMaskOp, State.rotateGoOp, State.gleanOp, State.mirrorOp, State.retireOp, State.confOp, State.deedFltOp, State.lockOp,
        State.lockAcquireOp, State.lockReleaseOp, State.gateOp, State.lateOp, State.tallyOp, State.tallyModeOp, State.tallyLOp,
        State.syncFaultWriteOp, State.wmOp, State.chCtrlOp, State.chBaseOp, State.chDropOp, State.roTile, State.mayRead, State.mcStallRegOp,
        State.stPrioOp, State.mcLagOp, State.testOp, State.testParOp, State.marchOp, State.marchFailOp, State.remapRowOp, State.wdogOp,
        State.replaysOp, State.poisonsOp, a, b, c]; done)
    | (split <;> simp [RegRes.now, State.chCtrlOp, State.chBaseOp, State.chDropOp, State.roTile, State.mayRead, a])
    | (unfold State.testOp; split <;> simp [RegRes.now, State.writeparOp, State.readrawOp, State.checkOp, State.testRefused, a, b])

end Sys2Proof.Machine
end

