-- ==== Sys2Proof/Laws/Keeps.lean ====
section
/-!
SUPPORT. What every operation keeps: the package, the queue of commands and the canonical form of the banks; and, for an operation
that stores nothing in a bank (`κ` is free in its lemma), every stored row, poison bit and valid bit. One lemma per operation of
the places, the rows, the banks, the arbiters, the checks and the tallies.
-/

namespace Sys2Proof.Machine

set_option Elab.async false

open Host

/-- What an operation that leads from `s` to `t` keeps; with `κ` true, the contents of the banks as well. -/
structure State.Keeps (κ : Bool) (s t : State) : Prop where
  pkg : t.pkg = s.pkg
  pending : t.pending = s.pending
  banks : κ = true → t.mem = s.mem ∧ t.poison = s.poison ∧ t.valid = s.valid
  mem : s.mem.wf → t.mem.wf
  poison : Keys.wf s.poison → Keys.wf t.poison
  valid : Keys.wf s.valid → Keys.wf t.valid

/-- The state an operation answers, if it answers one, keeps these. -/
def State.KeepsO {α : Type} (κ : Bool) (s : State) (o : Option (State × α)) : Prop := ∀ p, o = some p → s.Keeps κ p.1

/-- The next state a command answers, if it answers one, keeps these. -/
def State.KeepsR (κ : Bool) (s : State) (r : Result) : Prop := ∀ u, r = .next u → s.Keeps κ u

variable {s : State} {κ : Bool}

theorem State.keeps_refl : s.Keeps κ s := ⟨rfl, rfl, fun _ => ⟨rfl, rfl, rfl⟩, id, id, id⟩

/-! ## How proofs are put together -/

theorem State.keeps_other {t : State} (a b n sl ne no bo o) (h : s.Keeps κ t) :
    s.Keeps κ (State.mk t.pending t.pkg a b n t.mem t.poison t.valid sl ne no bo o) :=
  ⟨h.pkg, h.pending, h.banks, h.mem, h.poison, h.valid⟩
theorem foldl_keeps {α : Type} {f : State → α → State} {l : List α} {t : State} (hf : ∀ a x, s.Keeps κ a → s.Keeps κ (f a x))
    (h : s.Keeps κ t) : s.Keeps κ (l.foldl f t) := by
  induction l generalizing t with
  | nil => exact h
  | cons x l ih => exact ih (hf _ _ h)
theorem keepsO_none {α : Type} : s.KeepsO κ (none : Option (State × α)) := fun _ e => nomatch e
theorem keepsO_some {α : Type} {p : State × α} (h : s.Keeps κ p.1) : s.KeepsO κ (some p) := by rintro _ ⟨⟩; exact h
theorem keepsO_map {α β : Type} {o : Option (State × α)} {f : State × α → State × β} (h : s.KeepsO κ o) (hf : ∀ p, (f p).1 = p.1) : s.KeepsO κ (o.map f) := by
  intro p e
  obtain ⟨q, hq, rfl⟩ := Option.map_eq_some_iff.1 e
  rw [hf]; exact h q hq
theorem keepsR_next {t : State} (h : s.Keeps κ t) : s.KeepsR κ (.next t) := by rintro _ ⟨⟩; exact h
theorem State.keeps_banks {t : State} (a b n m p v sl ne no bo o) (h : s.Keeps false t) (hm : t.mem.wf → m.wf)
    (hp : Keys.wf t.poison → Keys.wf p) (hv : Keys.wf t.valid → Keys.wf v) :
    s.Keeps false (State.mk t.pending t.pkg a b n m p v sl ne no bo o) :=
  ⟨h.pkg, h.pending, nofun, fun x => hm (h.mem x), fun x => hp (h.poison x), fun x => hv (h.valid x)⟩
theorem foldl_keeps_fst {α β : Type} {f : State × β → α → State × β} {l : List α} {t : State × β} (hf : ∀ a x, s.Keeps κ a.1 → s.Keeps κ (f a x).1) (h : s.Keeps κ t.1) : s.Keeps κ (l.foldl f t).1 := by
  induction l generalizing t with
  | nil => exact h
  | cons x l ih => exact ih (hf _ _ h)
theorem keeps_getD {o : Option State} {t : State} (ho : ∀ u, o = some u → s.Keeps κ u) (h : s.Keeps κ t) : s.Keeps κ (o.getD t) := by
  cases o with
  | none => exact h
  | some u => exact ho u rfl
theorem keeps_pair {α : Type} {a : State} {b : α} (h : s.Keeps κ a) : s.Keeps κ (a, b).1 := h
theorem keepsO_ite {α : Type} {c : Prop} [Decidable c] {a b : Option (State × α)} (h : s.KeepsO κ a) (h' : s.KeepsO κ b) : s.KeepsO κ (if c then a else b) := by
  split <;> assumption

/-! ## Machine/Ops.lean -/

theorem State.setSlice_keeps {σ : State} {d : ℕ} {S : Slice} (h0 : s.Keeps κ σ) :
    s.Keeps κ (State.setSlice σ d S) := by
  grind [State.setSlice, State.keeps_other]

theorem State.modSlice_keeps {σ : State} {d : ℕ} {f : Slice → Slice} (h0 : s.Keeps κ σ) :
    s.Keeps κ (State.modSlice σ d f) := by
  grind [State.modSlice, State.setSlice_keeps, State.keeps_other]

theorem State.setTile_keeps {σ : State} {t : ℕ} {T : Tile} (h0 : s.Keeps κ σ) :
    s.Keeps κ (State.setTile σ t T) := by
  grind [State.setTile, State.modSlice_keeps, State.keeps_other]

theorem State.modTile_keeps {σ : State} {t : ℕ} {f : Tile → Tile} (h0 : s.Keeps κ σ) :
    s.Keeps κ (State.modTile σ t f) := by
  grind [State.modTile, State.setTile_keeps, State.keeps_other]

theorem State.modTiles_keeps {σ : State} {d : ℕ} {f : Tile → Tile} (h0 : s.Keeps κ σ) :
    s.Keeps κ (State.modTiles σ d f) := by
  grind [State.modTiles, State.modSlice_keeps, State.keeps_other]

theorem State.modChan_keeps {σ : State} {t : ℕ} {n : ℕ} {f : Channel → Channel} (h0 : s.Keeps κ σ) :
    s.Keeps κ (State.modChan σ t n f) := by
  grind [State.modChan, State.modTile_keeps, State.keeps_other]

theorem State.atTile_keeps {σ : State} {t : ℕ} {r0 : State} (h0 : s.Keeps κ σ) (h1 : s.Keeps κ r0) :
    s.KeepsR κ (State.atTile σ t r0) := by
  grind [State.atTile, State.keeps_other, keepsR_next]

theorem State.atDie_keeps {σ : State} {d : ℕ} {r0 : State} (h0 : s.Keeps κ σ) (h1 : s.Keeps κ r0) :
    s.KeepsR κ (State.atDie σ d r0) := by
  grind [State.atDie, State.keeps_other, keepsR_next]

theorem State.atAnyDie_keeps {σ : State} {d : ℕ} {r0 : State} (h0 : s.Keeps κ σ) (h1 : s.Keeps κ r0) :
    s.KeepsR κ (State.atAnyDie σ d r0) := by
  grind [State.atAnyDie, State.keeps_other, keepsR_next]

theorem State.emit_keeps {σ : State} {o : Output} (h0 : s.Keeps κ σ) :
    s.Keeps κ (State.emit σ o) := by
  grind [State.emit, State.keeps_other]

theorem State.takeId_keeps {σ : State} (h0 : s.Keeps κ σ) :
    s.Keeps κ (State.takeId σ) := by
  grind [State.takeId, State.keeps_other]

theorem State.look_keeps {σ : State} (h0 : s.Keeps κ σ) :
    s.Keeps κ (State.look σ) := by
  grind [State.look, State.keeps_other]

theorem State.raise_keeps {σ : State} {d : ℕ} {h : ℕ} {v : ℕ} (h0 : s.Keeps κ σ) :
    s.Keeps κ (State.raise σ d h v) := by
  grind [State.raise, State.modSlice_keeps, State.keeps_other]

theorem State.record_keeps {σ : State} {d : ℕ} {type : ℕ} {tile : ℕ} {det : BitVec 352} (h0 : s.Keeps κ σ) :
    s.Keeps κ (State.record σ d type tile det) := by
  grind [State.record, State.modSlice_keeps, State.look_keeps, State.keeps_other]

theorem State.modPkt_keeps {σ : State} {id : ℕ} {f : Packet → Packet} (h0 : s.Keeps κ σ) :
    s.Keeps κ (State.modPkt σ id f) := by
  grind [State.modPkt, State.keeps_other]

theorem State.dropPkt_keeps {σ : State} {id : ℕ} (h0 : s.Keeps κ σ) :
    s.Keeps κ (State.dropPkt σ id) := by
  grind [State.dropPkt, State.keeps_other]

theorem State.move_keeps {σ : State} {id : ℕ} {loc : Loc} (h0 : s.Keeps κ σ) :
    s.Keeps κ (State.move σ id loc) := by
  grind [State.move, State.takeId_keeps, State.modPkt_keeps, State.keeps_other]

theorem State.answerAt_keeps {σ : State} {d : ℕ} {id : ℕ} {st : Status} {data : List RowData} (h0 : s.Keeps κ σ) :
    s.Keeps κ (State.answerAt σ d id st data) := by
  grind [State.answerAt, State.move_keeps, State.modPkt_keeps, State.keeps_other]

theorem State.answerReg_keeps {σ : State} {w : Src} {addr : ℕ} {st : Status} {v : Word} (h0 : s.Keeps κ σ) :
    s.Keeps κ (State.answerReg σ w addr st v) := by
  unfold State.answerReg
  grind [State.emit_keeps, State.modChan_keeps, State.keeps_other]

theorem RegRes.now_keeps {p0 : State × Status} (h0 : s.Keeps κ p0.1) :
    s.KeepsO κ (RegRes.now p0) := by
  grind [RegRes.now, State.keeps_other, keepsO_some, keepsO_none]

theorem RegRes.orWait_keeps {p0 : Option (State × Status)} (h0 : s.KeepsO κ p0) : s.KeepsO κ (RegRes.orWait p0) := keepsO_map h0 fun _ => rfl

theorem State.answerAcc_keeps {σ : State} {die : ℕ} {base : ℕ} {a : RegAcc} {st : Status} {v : Word} (h0 : s.Keeps κ σ) :
    s.Keeps κ (State.answerAcc σ die base a st v) := by
  grind [State.answerAcc, State.answerReg_keeps, State.answerAt_keeps, State.modSlice_keeps, State.keeps_other]

theorem State.acceptAcc_keeps {σ : State} {tile : ℕ} {a : RegAcc} {r0 : RegRes} {v : Word} (h0 : s.Keeps κ σ) (h1 : s.KeepsO κ r0) :
    s.Keeps κ (State.acceptAcc σ tile a r0 v) := by
  unfold State.acceptAcc
  grind [State.KeepsO, State.answerAcc_keeps, State.modTile_keeps]

theorem State.acceptTile_keeps {σ : State} {w : Src} {tile : ℕ} {off : ℕ} {v : Word} {r0 : RegRes} {pkt : Option ℕ} (h0 : s.Keeps κ σ) (h1 : s.KeepsO κ r0) :
    s.Keeps κ (State.acceptTile σ w tile off v r0 pkt) := by
  grind [State.acceptTile, State.acceptAcc_keeps, State.keeps_other]

theorem State.acceptSliceAcc_keeps {σ : State} {tile : ℕ} {a : RegAcc} {r0 : RegRes} {v : Word} (h0 : s.Keeps κ σ) (h1 : s.KeepsO κ r0) :
    s.Keeps κ (State.acceptSliceAcc σ tile a r0 v) := by
  unfold State.acceptSliceAcc
  grind [State.KeepsO, State.answerAcc_keeps, State.modSlice_keeps]

theorem State.acceptSlice_keeps {σ : State} {w : Src} {die : ℕ} {off : ℕ} {v : Word} {r0 : RegRes} {pkt : Option ℕ} (h0 : s.Keeps κ σ) (h1 : s.KeepsO κ r0) :
    s.Keeps κ (State.acceptSlice σ w die off v r0 pkt) := by
  grind [State.acceptSlice, State.acceptSliceAcc_keeps, State.keeps_other]

theorem State.putRow_keeps {σ : State} {tile bank phys : ℕ} {r : Row} (h0 : s.Keeps false σ) :
    s.Keeps false (σ.putRow tile bank phys r) :=
  State.keeps_banks _ _ _ _ _ _ _ _ _ _ _ h0 (Tbl.set_wf _ _) id id

theorem State.writeRow_keeps {σ : State} {tile bank row : ℕ} {d : RowData} (h0 : s.Keeps false σ) :
    s.Keeps false (σ.writeRow tile bank row d) :=
  State.keeps_banks _ _ _ _ _ _ _ _ _ _ _ h0 (Tbl.set_wf _ _) (Keys.del_wf _) (by split; exacts [Keys.add_wf _, id])

theorem State.corrected_keeps {σ : State} {tile : ℕ} {bank : ℕ} {row : ℕ} {phys : ℕ} {master : ℕ} {m : ByteMask} (h0 : s.Keeps κ σ) :
    s.Keeps κ (State.corrected σ tile bank row phys master m) := by
  grind [State.corrected, State.modTile_keeps, State.look_keeps, State.record_keeps, State.keeps_other]

theorem State.uncorrected_keeps {σ : State} {tile : ℕ} {bank : ℕ} {row : ℕ} {phys : ℕ} {master : ℕ} {m : ByteMask} {iss : Option Issuer} (h0 : s.Keeps false σ) :
    s.Keeps false (State.uncorrected σ tile bank row phys master m iss) :=
  State.raise_keeps (State.record_keeps (State.modTile_keeps (State.keeps_banks _ _ _ _ _ _ _ _ _ _ _ h0 id (Keys.add_wf _) id)))

theorem State.checkRow_keeps {σ : State} {tile : ℕ} {bank : ℕ} {row : ℕ} {phys : ℕ} {master : ℕ} {iss : Option Issuer} {u1 : ByteMask} {u2 : ByteMask} (h0 : s.Keeps false σ) :
    s.Keeps false (State.checkRow σ tile bank row phys master iss u1 u2).1 := by
  grind [State.checkRow, State.corrected_keeps, State.uncorrected_keeps, State.keeps_other]

theorem State.readRow_keeps {σ : State} {tile : ℕ} {bank : ℕ} {row : ℕ} {master : ℕ} {iss : Option Issuer} {u1 : ByteMask} {u2 : ByteMask} (h0 : s.Keeps false σ) :
    s.Keeps false (State.readRow σ tile bank row master iss u1 u2).1 := by
  grind [State.readRow, State.checkRow_keeps, State.keeps_other]

theorem State.clearBank_keeps {σ : State} {tile : ℕ} {bank : ℕ} {b : Option Bool} (h0 : s.Keeps false σ) :
    s.Keeps false (State.clearBank σ tile bank b) := by
  unfold State.clearBank
  exact State.modTile_keeps (State.keeps_banks _ _ _ _ _ _ _ _ _ _ _ h0 (Tbl.cut_wf _ _) (Keys.cut_wf _ _) id)

/-! ## Machine/BankOps.lean -/

theorem State.capture_keeps {σ : State} {d : ℕ} {h : ℕ} {type : ℕ} {addr : ℕ} {tile : ℕ} {data : BitVec 64} {src : ℕ} {st : Status} {refused : Bool} {payload : List RowData} (h0 : s.Keeps κ σ) :
    s.Keeps κ (State.capture σ d h type addr tile data src st refused payload) := by
  grind [State.capture, State.modSlice_keeps, State.keeps_other]

theorem State.captureTake_keeps {σ : State} {d : ℕ} {k : ℕ} (h0 : s.Keeps κ σ) :
    s.Keeps κ (State.captureTake σ d k) := by
  grind [State.captureTake, State.modSlice_keeps, State.look_keeps, State.keeps_other]

theorem State.pieceEnd_keeps {σ : State} {p0 : Packet} {k : ℕ} {st : Status} {demoted : Bool} (h0 : s.Keeps κ σ) :
    s.Keeps κ (State.pieceEnd σ p0 k st demoted) := by
  grind [State.pieceEnd, State.modSlice_keeps, State.keeps_other]

theorem State.deliver_keeps {σ : State} {tile : ℕ} {a : Access} {st : Status} (h0 : s.Keeps κ σ) :
    s.Keeps κ (State.deliver σ tile a st) := by
  unfold State.deliver
  simp only []
  repeat' split
  all_goals grind [State.emit_keeps, State.modChan_keeps, State.modTile_keeps, State.dropPkt_keeps, State.pieceEnd_keeps, State.modPkt_keeps, State.keeps_other]

theorem State.promote_keeps {σ : State} {tile : ℕ} (h0 : s.Keeps κ σ) :
    s.Keeps κ (State.promote σ tile) := by
  grind [State.promote, State.modTile_keeps, State.keeps_other]

theorem State.refuseDeed_keeps {σ : State} {tile : ℕ} {a : Access} (h0 : s.Keeps κ σ) :
    s.Keeps κ (State.refuseDeed σ tile a) := by
  grind [State.refuseDeed, State.deliver_keeps, State.modTile_keeps, State.keeps_other]

theorem State.offer_keeps {σ : State} {tile : ℕ} {a : Access} (h0 : s.Keeps κ σ) :
    s.Keeps κ (State.offer σ tile a) := by
  grind [State.offer, State.modTile_keeps, State.refuseDeed_keeps, State.keeps_other]

theorem State.beatDone_keeps {σ : State} {tile : ℕ} {a : Access} (h0 : s.Keeps κ σ) :
    s.Keeps κ (State.beatDone σ tile a) := by
  grind [State.beatDone, State.refuseDeed_keeps, State.deliver_keeps, State.modTile_keeps, State.keeps_other]

theorem readCells_keeps {tile : ℕ} {a : Access} {l : List (Nat × Nat)} {u1 u2 : List ByteMask} {σ : State} (h0 : s.Keeps false σ) :
    s.Keeps false (readCells tile a l u1 u2 σ).1 := by
  induction l generalizing u1 u2 σ with
  | nil => exact h0
  | cons p l ih => exact ih (State.readRow_keeps h0)

theorem writeCells_keeps {tile : ℕ} {l : List (Nat × Nat)} {d : List RowData} {σ : State} (h0 : s.Keeps false σ) :
    s.Keeps false (writeCells tile l d σ) := by
  induction l generalizing d σ with
  | nil => exact h0
  | cons p l ih => exact ih (State.writeRow_keeps h0)

theorem State.startFlush_keeps {σ : State} {tile : ℕ} {bank : ℕ} {row : ℕ} {evict : Bool} (h0 : s.Keeps κ σ) :
    s.Keeps κ (State.startFlush σ tile bank row evict) := by
  grind [State.startFlush, State.modTile_keeps, State.takeId_keeps, State.keeps_other]

theorem State.flushBanks_keeps {σ : State} {tile : ℕ} {banks : List ℕ} (h0 : s.Keeps κ σ) :
    s.Keeps κ (State.flushBanks σ tile banks) := by
  grind [State.flushBanks, State.startFlush_keeps, State.keeps_other, foldl_keeps]

theorem State.narrowAnswer_keeps {σ : State} {tile : ℕ} {st : Status} (h0 : s.Keeps κ σ) :
    s.Keeps κ (State.narrowAnswer σ tile st) := by
  grind [State.narrowAnswer, State.emit_keeps, State.keeps_other]

theorem State.narrowMerge_keeps {σ : State} {tile : ℕ} {n : NarrowWrite} (h0 : s.Keeps κ σ) :
    s.Keeps κ (State.narrowMerge σ tile n) := by
  grind [State.narrowMerge, State.modTile_keeps, State.narrowAnswer_keeps, State.startFlush_keeps, State.keeps_other]

theorem State.narrowWrite_keeps {σ : State} {tile : ℕ} {n : NarrowWrite} (h0 : s.Keeps κ σ) :
    s.Keeps κ (State.narrowWrite σ tile n) := by
  grind [State.narrowWrite, State.narrowAnswer_keeps, State.modTile_keeps, State.narrowMerge_keeps, State.keeps_other]

theorem State.drainNarrow_keeps {σ : State} {tile : ℕ} (h0 : s.Keeps κ σ) :
    s.Keeps κ (State.drainNarrow σ tile) := by
  grind [State.drainNarrow, State.narrowMerge_keeps, State.narrowWrite_keeps, State.modTile_keeps, State.keeps_other, foldl_keeps]

theorem State.flushFails_keeps {σ : State} {tile : ℕ} {bank : ℕ} {row : ℕ} (h0 : s.Keeps κ σ) :
    s.Keeps κ (State.flushFails σ tile bank row) := by
  grind [State.flushFails, State.emit_keeps, State.modTile_keeps, State.keeps_other]

theorem State.flushEnd_keeps {σ : State} {tile : ℕ} {bank : ℕ} {row : ℕ} {u1 : ByteMask} {u2 : ByteMask} (h0 : s.Keeps false σ) :
    s.Keeps false (State.flushEnd σ tile bank row u1 u2) := by
  grind [State.flushEnd, State.modTile_keeps, State.writeRow_keeps, State.readRow_keeps, State.flushFails_keeps, State.keeps_other]

theorem State.acceptDeed_keeps {σ : State} {tile : ℕ} {op : DeedOp} (h0 : s.Keeps κ σ) :
    s.Keeps κ (State.acceptDeed σ tile op) := by
  grind [State.acceptDeed, State.modTile_keeps, State.keeps_other, foldl_keeps]

theorem State.deedWriteOp_keeps {σ : State} {w : Src} {tile : ℕ} {b : ℕ} {v : Word} (h0 : s.Keeps κ σ) :
    s.KeepsO κ (State.deedWriteOp σ w tile b v) := by
  grind [State.deedWriteOp, State.capture_keeps, State.acceptDeed_keeps, State.keeps_other, keepsO_some, keepsO_none]

theorem State.commonsWriteOp_keeps {σ : State} {w : Src} {tile : ℕ} {v : Word} (h0 : s.Keeps κ σ) :
    s.KeepsO κ (State.commonsWriteOp σ w tile v) := by
  grind [State.commonsWriteOp, State.capture_keeps, State.modTile_keeps, State.acceptDeed_keeps, State.keeps_other, keepsO_some, keepsO_none]

theorem State.rotateAccept_keeps {σ : State} {tile src : ℕ} {v : Word} {bySlice : Bool} (h0 : s.Keeps κ σ) :
    s.Keeps κ (State.rotateAccept σ tile src v bySlice) := by
  grind [State.rotateAccept, State.capture_keeps, State.modTile_keeps, State.acceptDeed_keeps, State.keeps_other]

theorem State.rotateGoOp_keeps {σ : State} {w : Src} {tile : ℕ} {v : Word} (h0 : s.Keeps κ σ) :
    s.KeepsO κ (State.rotateGoOp σ w tile v) := by
  grind [State.rotateGoOp, State.rotateAccept_keeps, State.keeps_other, keepsO_some, keepsO_none]

theorem State.retireOp_keeps {σ : State} {w : Src} {tile : ℕ} {v : Word} (h0 : s.Keeps κ σ) :
    s.KeepsO κ (State.retireOp σ w tile v) := by
  grind [State.retireOp, State.modTile_keeps, State.acceptDeed_keeps, State.keeps_other, keepsO_some, keepsO_none, foldl_keeps]

theorem State.sweepOp_keeps {σ : State} {w : Src} {tile : ℕ} {v : Word} (h0 : s.Keeps κ σ) :
    s.KeepsO κ (State.sweepOp σ w tile v) := by
  grind [State.sweepOp, State.modTile_keeps, State.keeps_other, keepsO_some, keepsO_none]

theorem State.stopCommons_keeps {σ : State} {tile : ℕ} {banks : List ℕ} (h0 : s.Keeps κ σ) :
    s.Keeps κ (State.stopCommons σ tile banks) := by
  grind [State.stopCommons, State.modTile_keeps, State.refuseDeed_keeps, State.offer_keeps, State.keeps_other, foldl_keeps]

theorem State.deedStopOp_keeps {σ : State} {tile : ℕ} (h0 : s.Keeps κ σ) :
    s.Keeps κ (State.deedStopOp σ tile) := by
  grind [State.deedStopOp, State.flushBanks_keeps, State.stopCommons_keeps, State.modTile_keeps, State.keeps_other]

theorem State.deedEffectOp_keeps {σ : State} {tile : ℕ} {op : DeedOp} (h0 : s.Keeps κ σ) :
    s.Keeps κ (State.deedEffectOp σ tile op) := by
  unfold State.deedEffectOp
  grind [State.promote_keeps, State.modTile_keeps, State.modSlice_keeps, State.drainNarrow_keeps, State.keeps_other]

/-! ## Machine/ArbOps.lean -/

theorem State.breakLock_keeps {σ : State} {tile : ℕ} {bank : ℕ} {cause : ℕ} (h0 : s.Keeps κ σ) :
    s.Keeps κ (State.breakLock σ tile bank cause) := by
  grind [State.breakLock, State.modTile_keeps, State.record_keeps, State.keeps_other]

theorem State.breakLocks_keeps {σ : State} {tile : ℕ} {cause : ℕ} {p0 : Holder → Bool} (h0 : s.Keeps κ σ) :
    s.Keeps κ (State.breakLocks σ tile cause p0) := by
  grind [State.breakLocks, State.breakLock_keeps, State.keeps_other, foldl_keeps]

theorem State.lockAcquireOp_keeps {σ : State} {w : Src} {tile : ℕ} {v : Word} (h0 : s.Keeps κ σ) :
    s.Keeps κ (State.lockAcquireOp σ w tile v).1 := by
  grind [State.lockAcquireOp, State.modTile_keeps, State.keeps_other]

theorem State.lockReleaseOp_keeps {σ : State} {w : Src} {tile : ℕ} {v : Word} (h0 : s.Keeps κ σ) :
    s.Keeps κ (State.lockReleaseOp σ w tile v).1 := by
  grind [State.lockReleaseOp, State.modTile_keeps, State.keeps_other]

theorem State.lockOp_keeps {σ : State} {w : Src} {tile : ℕ} {v : Word} (h0 : s.Keeps κ σ) :
    s.Keeps κ (State.lockOp σ w tile v).1 := by
  grind [State.lockOp, State.lockAcquireOp_keeps, State.lockReleaseOp_keeps, State.keeps_other]

theorem State.refuseFlush_keeps {σ : State} {tile : ℕ} {bank : ℕ} {row : ℕ} {st : Status} (h0 : s.Keeps κ σ) :
    s.Keeps κ (State.refuseFlush σ tile bank row st) := by
  grind [State.refuseFlush, State.emit_keeps, State.modTile_keeps, State.keeps_other]

theorem State.refuseAcc_keeps {σ : State} {tile : ℕ} {st : Status} {a : Access} (h0 : s.Keeps κ σ) :
    s.Keeps κ (State.refuseAcc σ tile st a) := by
  grind [State.refuseAcc, State.refuseFlush_keeps, State.deliver_keeps, State.modTile_keeps, State.keeps_other]

theorem State.refuseNarrow_keeps {σ : State} {tile : ℕ} {st : Status} {p0 : NarrowWrite → Bool} (h0 : s.Keeps κ σ) :
    s.Keeps κ (State.refuseNarrow σ tile st p0) := by
  grind [State.refuseNarrow, State.narrowAnswer_keeps, State.modTile_keeps, State.keeps_other, foldl_keeps]

theorem State.quarantine_keeps {σ : State} {tile : ℕ} {m : ℕ} (h0 : s.Keeps κ σ) :
    s.Keeps κ (State.quarantine σ tile m) := by
  grind [State.quarantine, State.modTile_keeps, State.refuseAcc_keeps, State.refuseNarrow_keeps, State.breakLocks_keeps, State.keeps_other, foldl_keeps]

theorem State.bite_keeps {σ : State} {tile : ℕ} {res : ℕ} {a : Access} (h0 : s.Keeps κ σ) :
    s.Keeps κ (State.bite σ tile res a) := by
  unfold State.bite
  grind [State.refuseAcc_keeps, State.refuseNarrow_keeps, State.promote_keeps, State.quarantine_keeps, State.modTile_keeps, State.raise_keeps, State.record_keeps, State.keeps_other, foldl_keeps]

theorem State.lockBite_keeps {σ : State} {tile : ℕ} {bank : ℕ} {h : Holder} (h0 : s.Keeps κ σ) :
    s.Keeps κ (State.lockBite σ tile bank h) := by
  unfold State.lockBite
  grind [State.breakLock_keeps, State.quarantine_keeps, State.modTile_keeps, State.raise_keeps, State.record_keeps, State.keeps_other]

theorem State.statusOp_keeps {σ : State} {w : Src} {tile : ℕ} {v : Word} (h0 : s.Keeps κ σ) :
    s.Keeps κ (State.statusOp σ w tile v).1 := by
  grind [State.statusOp, State.modTile_keeps, State.keeps_other]

theorem State.wdogOp_keeps {σ : State} {w : Src} {tile : ℕ} {v : Word} (h0 : s.Keeps κ σ) :
    s.Keeps κ (State.wdogOp σ w tile v).1 := by
  grind [State.wdogOp, State.modTile_keeps, State.keeps_other]

theorem State.ctrlOp_keeps {σ : State} {w : Src} {tile : ℕ} {v : Word} (h0 : s.Keeps κ σ) :
    s.Keeps κ (State.ctrlOp σ w tile v).1 := by
  grind [State.ctrlOp, State.modTile_keeps, State.keeps_other]

/-! ## Machine/IntegrityOps.lean -/

theorem State.gleanOp_keeps {σ : State} {w : Src} {tile : ℕ} {v : Word} (h0 : s.Keeps κ σ) :
    s.Keeps κ (State.gleanOp σ w tile v).1 := by
  grind [State.gleanOp, State.modTile_keeps, State.keeps_other, foldl_keeps]

theorem State.gleanBeat_keeps {σ : State} {tile : ℕ} {b : ℕ} {u1 : ByteMask} {u2 : ByteMask} (h0 : s.Keeps false σ) :
    s.Keeps false (State.gleanBeat σ tile b u1 u2) := by
  grind [State.gleanBeat, State.modTile_keeps, State.checkRow_keeps, State.keeps_other]

theorem State.mirrorOp_keeps {σ : State} {w : Src} {tile : ℕ} {v : Word} (h0 : s.Keeps κ σ) :
    s.Keeps κ (State.mirrorOp σ w tile v).1 := by
  grind [State.mirrorOp, State.modTile_keeps, State.keeps_other]

theorem State.replaysOp_keeps {σ : State} {w : Src} {tile : ℕ} {v : Word} (h0 : s.Keeps κ σ) :
    s.Keeps κ (State.replaysOp σ w tile v).1 := by
  grind [State.replaysOp, State.modTile_keeps, State.keeps_other]

theorem State.poisonsOp_keeps {σ : State} {w : Src} {tile : ℕ} {v : Word} (h0 : s.Keeps κ σ) :
    s.Keeps κ (State.poisonsOp σ w tile v).1 := by
  grind [State.poisonsOp, State.modTile_keeps, State.keeps_other]

theorem State.writeparOp_keeps {σ : State} {w : Src} {tile : ℕ} {v : Word} (h0 : s.Keeps false σ) :
    s.Keeps false (State.writeparOp σ w tile v).1 := by
  grind [State.writeparOp, State.putRow_keeps, State.modTile_keeps, State.keeps_other]

theorem State.readrawOp_keeps {σ : State} {w : Src} {tile : ℕ} {v : Word} (h0 : s.Keeps κ σ) :
    s.Keeps κ (State.readrawOp σ w tile v).1 := by
  grind [State.readrawOp, State.modTile_keeps, State.keeps_other]

theorem State.checkOp_keeps {σ : State} {w : Src} {tile : ℕ} {v : Word} {u1 : ByteMask} {u2 : ByteMask} (h0 : s.Keeps false σ) :
    s.Keeps false (State.checkOp σ w tile v u1 u2).1 := by
  grind [State.checkOp, State.modTile_keeps, State.checkRow_keeps, State.keeps_other]

theorem State.testOp_keeps {σ : State} {w : Src} {tile : ℕ} {v : Word} (h0 : s.Keeps false σ) :
    s.Keeps false (State.testOp σ w tile v).1 := by
  grind [State.testOp, State.modTile_keeps, State.writeparOp_keeps, State.readrawOp_keeps, State.checkOp_keeps, State.keeps_other]

theorem State.testParOp_keeps {σ : State} {w : Src} {tile : ℕ} {k : ℕ} {v : Word} (h0 : s.Keeps κ σ) :
    s.Keeps κ (State.testParOp σ w tile k v).1 := by
  grind [State.testParOp, State.modTile_keeps, State.keeps_other]

theorem State.marchOp_keeps {σ : State} {w : Src} {tile : ℕ} {v : Word} (h0 : s.Keeps κ σ) :
    s.Keeps κ (State.marchOp σ w tile v).1 := by
  grind [State.marchOp, State.modTile_keeps, State.keeps_other]

theorem State.marchFailOp_keeps {σ : State} {w : Src} {tile : ℕ} {v : Word} (h0 : s.Keeps κ σ) :
    s.Keeps κ (State.marchFailOp σ w tile v).1 := by
  grind [State.marchFailOp, State.modTile_keeps, State.keeps_other]

theorem State.marchReads_keeps {σ : State} {tile : ℕ} {b : ℕ} (h0 : s.Keeps false σ) :
    s.Keeps false (State.marchReads σ tile b) := by
  grind [State.marchReads, State.checkRow_keeps, State.keeps_other, foldl_keeps]

theorem State.marchEndOp_keeps {σ : State} {tile : ℕ} {r0 : MarchRun} {fails : List MarchFail} (h0 : s.Keeps false σ) :
    s.Keeps false (State.marchEndOp σ tile r0 fails) := by
  grind [State.marchEndOp, State.marchReads_keeps, State.clearBank_keeps, State.record_keeps, State.modTile_keeps, State.modSlice_keeps, State.keeps_other, foldl_keeps]

theorem State.remapRowOp_keeps {σ : State} {w : Src} {tile : ℕ} {i : ℕ} {v : Word} (h0 : s.Keeps κ σ) :
    s.Keeps κ (State.remapRowOp σ w tile i v).1 := by
  grind [State.remapRowOp, State.setTile_keeps, State.keeps_other]

/-! ## Machine/SyncOps.lean -/

theorem State.watch_keeps {σ : State} {tile : ℕ} (h0 : s.Keeps κ σ) :
    s.Keeps κ (State.watch σ tile) := by
  grind [State.watch, State.modTile_keeps, State.keeps_other]

theorem State.atCore_keeps {σ : State} {tile : ℕ} {r0 : State} (h0 : s.Keeps κ σ) (h1 : s.Keeps κ r0) :
    s.KeepsR κ (State.atCore σ tile r0) := by
  grind [State.atCore, State.atTile_keeps, State.watch_keeps, State.keeps_other, keepsR_next]

theorem State.endOp_keeps {σ : State} {tile : ℕ} {e0 : Engine} {st : Status} {l : Bool} {v : ℕ} (h0 : s.Keeps κ σ) :
    s.Keeps κ (State.endOp σ tile e0 st l v) := by
  grind [State.endOp, State.emit_keeps, State.modTile_keeps, State.keeps_other]

theorem State.stillOp_keeps {σ : State} {tile : ℕ} (h0 : s.Keeps κ σ) :
    s.Keeps κ (State.stillOp σ tile) := by
  grind [State.stillOp, State.look_keeps, State.modTile_keeps, State.record_keeps, State.raise_keeps, State.keeps_other]

theorem State.wmOp_keeps {σ : State} {w : Src} {tile : ℕ} {v : Word} (h0 : s.Keeps κ σ) :
    s.Keeps κ (State.wmOp σ w tile v).1 := by
  grind [State.wmOp, State.watch_keeps, State.modTile_keeps, State.keeps_other]

theorem State.syncFaultOp_keeps {σ : State} {tile : ℕ} {cause : ℕ} {obj : ℕ} {eng : ℕ} {chan : ℕ} (h0 : s.Keeps κ σ) :
    s.Keeps κ (State.syncFaultOp σ tile cause obj eng chan) := by
  grind [State.syncFaultOp, State.modTile_keeps, State.raise_keeps, State.keeps_other]

theorem State.engFault_keeps {σ : State} {tile : ℕ} {cause : ℕ} {obj : ℕ} {e0 : Engine} (h0 : s.Keeps κ σ) :
    s.Keeps κ (State.engFault σ tile cause obj e0) := by
  grind [State.engFault, State.endOp_keeps, State.syncFaultOp_keeps, State.keeps_other]

theorem State.opFault_keeps {σ : State} {tile : ℕ} {cause : ℕ} {obj : ℕ} {e0 : Engine} (h0 : s.Keeps κ σ) :
    s.Keeps κ (State.opFault σ tile cause obj e0) := by
  grind [State.opFault, State.emit_keeps, State.syncFaultOp_keeps, State.keeps_other]

theorem State.issue_keeps {σ : State} {tile : ℕ} {e0 : Engine} {r0 : State} (h0 : s.Keeps κ σ) (h1 : s.Keeps κ r0) :
    s.Keeps κ (State.issue σ tile e0 r0) := by
  grind [State.issue, State.emit_keeps, State.keeps_other]

theorem State.enqueue_keeps {σ : State} {tile : ℕ} {o : TOp} (h0 : s.Keeps κ σ) :
    s.Keeps κ (State.enqueue σ tile o) := by
  grind [State.enqueue, State.modTile_keeps, State.keeps_other]

theorem tallyArrive_keeps {tile : ℕ} {p0 : State × Status} {a2 : TOp} (h0 : s.Keeps κ p0.1) :
    s.Keeps κ (tallyArrive tile p0 a2).1 := by
  unfold tallyArrive
  grind [State.engFault_keeps, State.opFault_keeps, State.modTile_keeps, State.emit_keeps, State.syncFaultOp_keeps, State.keeps_other]

theorem tallyDec_keeps {tile : ℕ} {e0 : Engine} {σ : State} {a3 : TOp} (h0 : s.Keeps κ σ) :
    s.Keeps κ (tallyDec tile e0 σ a3) := by
  unfold tallyDec
  grind [State.opFault_keeps, State.emit_keeps, State.modTile_keeps, State.keeps_other]

theorem State.engineWait_keeps {σ : State} {tile : ℕ} {flipped : BitVec 48} {e0 : Engine} (h0 : s.Keeps κ σ) :
    s.Keeps κ (State.engineWait σ tile flipped e0) := by
  grind [State.engineWait, State.engFault_keeps, State.endOp_keeps, State.modTile_keeps, State.keeps_other]

theorem State.chanWait_keeps {σ : State} {tile : ℕ} {flipped : BitVec 48} {n : ℕ} (h0 : s.Keeps κ σ) :
    s.Keeps κ (State.chanWait σ tile flipped n) := by
  grind [State.chanWait, State.modTile_keeps, State.syncFaultOp_keeps, State.keeps_other]

theorem State.boundary_keeps {σ : State} {tile : ℕ} (h0 : s.Keeps κ σ) : s.Keeps κ (σ.boundary tile).1 := by
  unfold State.boundary
  try dsimp only
  with_reducible
    refine State.engineWait_keeps ?_
    refine foldl_keeps (fun _ _ h => State.chanWait_keeps h) ?_
    refine State.engineWait_keeps (State.engineWait_keeps ?_)
    refine foldl_keeps (fun _ _ h => foldl_keeps (fun _ _ h => tallyDec_keeps h) h) ?_
    refine State.modTile_keeps ?_
    exact foldl_keeps_fst (fun _ _ h => tallyArrive_keeps h) (State.setTile_keeps h0)

theorem State.tallyOp_keeps {σ : State} {w : Src} {tile : ℕ} {t : ℕ} {v : Word} (h0 : s.Keeps κ σ) :
    s.KeepsO κ (State.tallyOp σ w tile t v) := by
  grind [State.tallyOp, RegRes.now_keeps, State.enqueue_keeps, State.keeps_other, keepsO_some, keepsO_none]

theorem State.tallyModeOp_keeps {σ : State} {w : Src} {tile : ℕ} {k : ℕ} {v : Word} (h0 : s.Keeps κ σ) :
    s.KeepsO κ (State.tallyModeOp σ w tile k v) := by
  grind [State.tallyModeOp, RegRes.now_keeps, State.enqueue_keeps, State.keeps_other, keepsO_some, keepsO_none]

theorem State.tallyLOp_keeps {σ : State} {w : Src} {tile : ℕ} {k : ℕ} {v : Word} (h0 : s.Keeps κ σ) :
    s.Keeps κ (State.tallyLOp σ w tile k v).1 := by
  grind [State.tallyLOp, State.modTile_keeps, State.keeps_other]

theorem State.syncFaultWriteOp_keeps {σ : State} {w : Src} {tile : ℕ} {v : Word} (h0 : s.Keeps κ σ) :
    s.Keeps κ (State.syncFaultWriteOp σ w tile v).1 := by
  grind [State.syncFaultWriteOp, State.modTile_keeps, State.keeps_other]

theorem State.bellArriveOp_keeps {σ : State} {w : Src} {tile : ℕ} {b : ℕ} (h0 : s.Keeps κ σ) :
    s.KeepsO κ (State.bellArriveOp σ w tile b) := by
  unfold State.bellArriveOp
  grind [RegRes.now_keeps, State.enqueue_keeps, State.keeps_other, keepsO_some, keepsO_none]

theorem State.bellForceOp_keeps {σ : State} {w : Src} {tile : ℕ} {b : ℕ} (h0 : s.Keeps κ σ) :
    s.KeepsO κ (State.bellForceOp σ w tile b) := by
  grind [State.bellForceOp, RegRes.now_keeps, State.enqueue_keeps, State.keeps_other, keepsO_some, keepsO_none]

theorem State.bellOp_keeps {σ : State} {w : Src} {tile : ℕ} {b : ℕ} {v : Word} (h0 : s.Keeps κ σ) :
    s.KeepsO κ (State.bellOp σ w tile b v) := by
  unfold State.bellOp
  grind [RegRes.now_keeps, State.enqueue_keeps, State.bellForceOp_keeps, State.bellArriveOp_keeps, State.modTile_keeps, State.keeps_other, keepsO_some, keepsO_none]

theorem State.fenceOp_keeps {σ : State} {tile : ℕ} {e0 : Engine} (h0 : s.Keeps κ σ) :
    s.Keeps κ (State.fenceOp σ tile e0) := by
  grind [State.fenceOp, State.modTile_keeps, State.flushBanks_keeps, State.keeps_other]

end Sys2Proof.Machine
end

