-- ==== Sys2Proof/Laws/KeepsNet.lean ====
section
/-!
SUPPORT. What the operations of the network, the endpoints, the gates, the stream engine and the external ports keep (Laws/Keeps.lean says what that is).
-/

namespace Sys2Proof.Machine

set_option Elab.async false

open Host

variable {s : State} {κ : Bool}

/-! ## Machine/NetOps.lean -/

theorem State.landed_keeps {σ : State} {p0 : Packet} (h0 : s.Keeps κ σ) :
    s.Keeps κ (State.landed σ p0) := by
  grind [State.landed, State.move_keeps, State.dropPkt_keeps, State.modPkt_keeps, State.keeps_other]

theorem State.fork_keeps {σ : State} {id : ℕ} {x : ℕ} {y : ℕ} (h0 : s.Keeps κ σ) :
    s.Keeps κ (State.fork σ id x y) := by
  unfold State.fork
  split <;> grind [State.takeId_keeps, State.modPkt_keeps, State.keeps_other, foldl_keeps]

theorem State.laneHop_keeps {σ : State} {p0 : Packet} {d : ℕ} {x : ℕ} {y : ℕ} (h0 : s.Keeps κ σ) :
    s.Keeps κ (State.laneHop σ p0 d x y) := by
  grind [State.laneHop, State.modSlice_keeps, State.landed_keeps, State.move_keeps, State.modPkt_keeps, State.fork_keeps, State.keeps_other]

theorem State.matrixPass_keeps {σ : State} {d : ℕ} {target : ℕ} {p0 : Packet} (h0 : s.Keeps κ σ) :
    s.Keeps κ (State.matrixPass σ d target p0) := by
  grind [State.matrixPass, State.modSlice_keeps, State.modPkt_keeps, State.move_keeps, State.landed_keeps, State.keeps_other]

theorem State.holdBackAll_keeps {σ : State} {d : ℕ} (h0 : s.Keeps κ σ) :
    s.Keeps κ (State.holdBackAll σ d) := by
  grind [State.holdBackAll, State.keeps_other]

theorem State.release_keeps {σ : State} {d : ℕ} {p0 : Packet} (h0 : s.Keeps κ σ) :
    s.Keeps κ (State.release σ d p0) := by
  grind [State.release, State.move_keeps, State.keeps_other]

theorem State.latchDecerr_keeps {σ : State} {d : ℕ} {a : Addr} {i : Issuer} (h0 : s.Keeps κ σ) :
    s.Keeps κ (State.latchDecerr σ d a i) := by
  grind [State.latchDecerr, State.modSlice_keeps, State.keeps_other]

theorem State.ringRouteOp_keeps {σ : State} {d : ℕ} {p0 : Packet} (h0 : s.Keeps κ σ) :
    s.Keeps κ (State.ringRouteOp σ d p0) := by
  grind [State.ringRouteOp, State.modPkt_keeps, State.move_keeps, State.dropPkt_keeps, State.latchDecerr_keeps, State.answerAt_keeps, State.keeps_other]

theorem State.modBridge_keeps {σ : State} {d : ℕ} {p0 : ℕ} {f : Bridge → Bridge} (h0 : s.Keeps κ σ) :
    s.Keeps κ (State.modBridge σ d p0 f) := by
  grind [State.modBridge, State.modSlice_keeps, State.keeps_other]

theorem State.slotAdmit_keeps {σ : State} {d : ℕ} {port : ℕ} (h0 : s.Keeps κ σ) :
    s.Keeps κ (State.slotAdmit σ d port) := by
  grind [State.slotAdmit, State.modSlice_keeps, State.modBridge_keeps, State.move_keeps, State.keeps_other]

theorem State.stripeSendOp_keeps {σ : State} {d : ℕ} {port : ℕ} (h0 : s.Keeps κ σ) :
    s.Keeps κ (State.stripeSendOp σ d port) := by
  grind [State.stripeSendOp, State.modBridge_keeps, State.modPkt_keeps, State.keeps_other, foldl_keeps]

theorem State.crossed_keeps {σ : State} {d : ℕ} {port : ℕ} {id : ℕ} (h0 : s.Keeps κ σ) :
    s.Keeps κ (State.crossed σ d port id) := by
  grind [State.crossed, State.dropPkt_keeps, State.modSlice_keeps, State.move_keeps, State.modPkt_keeps, State.keeps_other]

theorem State.acceptStripe_keeps {σ : State} {d : ℕ} {port : ℕ} {x : Stripe} (h0 : s.Keeps κ σ) :
    s.Keeps κ (State.acceptStripe σ d port x) := by
  grind [State.acceptStripe, State.crossed_keeps, State.dropPkt_keeps, State.answerAt_keeps, State.modPkt_keeps, State.keeps_other, foldl_keeps]

theorem State.stripeReceivedOp_keeps {σ : State} {d : ℕ} {port : ℕ} {noise : List Byte} (h0 : s.Keeps κ σ) :
    s.Keeps κ (State.stripeReceivedOp σ d port noise) := by
  grind [State.stripeReceivedOp, State.modBridge_keeps, State.acceptStripe_keeps, State.keeps_other]

theorem State.crcRecord_keeps {σ : State} {d : ℕ} {port : ℕ} {kind : ℕ} {sup : ℕ} {where_ : ℕ} (h0 : s.Keeps κ σ) :
    s.Keeps κ (State.crcRecord σ d port kind sup where_) := by
  grind [State.crcRecord, State.record_keeps, State.keeps_other]

theorem State.retransmitRecord_keeps {σ : State} {d : ℕ} {port : ℕ} {seq : ℕ} (h0 : s.Keeps κ σ) :
    s.Keeps κ (State.retransmitRecord σ d port seq) := by
  grind [State.retransmitRecord, State.look_keeps, State.crcRecord_keeps, State.modBridge_keeps, State.keeps_other]

theorem State.stripeNakOp_keeps {σ : State} {d : ℕ} {port : ℕ} {ack : ℕ} (h0 : s.Keeps κ σ) :
    s.Keeps κ (State.stripeNakOp σ d port ack) := by
  grind [State.stripeNakOp, State.modBridge_keeps, State.modSlice_keeps, State.crcRecord_keeps, State.retransmitRecord_keeps, State.keeps_other]

theorem State.stripeAckOp_keeps {σ : State} {d : ℕ} {port : ℕ} {ack : ℕ} (h0 : s.Keeps κ σ) :
    s.Keeps κ (State.stripeAckOp σ d port ack) := by
  grind [State.stripeAckOp, State.modBridge_keeps, State.keeps_other]

theorem State.endRing_keeps {σ : State} {d : ℕ} (h0 : s.Keeps κ σ) :
    s.Keeps κ (State.endRing σ d) := by
  grind [State.endRing, State.takeId_keeps, State.keeps_other, foldl_keeps]

theorem State.loseLink_keeps {σ : State} {d : ℕ} {port : ℕ} (h0 : s.Keeps κ σ) :
    s.Keeps κ (State.loseLink σ d port) := by
  grind [State.loseLink, State.modBridge_keeps, State.keeps_other]

theorem State.linkState_keeps {σ : State} {d : ℕ} {port : ℕ} {up : Bool} {event : ℕ} (h0 : s.Keeps κ σ) :
    s.Keeps κ (State.linkState σ d port up event) := by
  grind [State.linkState, State.modSlice_keeps, State.record_keeps, State.keeps_other]

theorem State.linkDownOp_keeps {σ : State} {d : ℕ} {port : ℕ} (h0 : s.Keeps κ σ) :
    s.Keeps κ (State.linkDownOp σ d port) := by
  grind [State.linkDownOp, State.crcRecord_keeps, State.loseLink_keeps, State.linkState_keeps, State.modSlice_keeps, State.endRing_keeps, State.keeps_other, foldl_keeps]

theorem State.launch_keeps {σ : State} {p0 : Packet} (h0 : s.Keeps κ σ) :
    s.Keeps κ (State.launch σ p0) := by
  grind [State.launch, State.takeId_keeps, State.keeps_other]

/-! ## Machine/ChannelOps.lean -/

theorem State.recvMeets_keeps {σ : State} {tile : ℕ} {e0 : ℕ} {g : Engine} (h0 : s.Keeps κ σ) :
    s.Keeps κ (State.recvMeets σ tile e0 g) := by
  grind [State.recvMeets, State.endOp_keeps, State.keeps_other]

theorem State.closeEp_keeps {σ : State} {tile : ℕ} {e0 : ℕ} (h0 : s.Keeps κ σ) :
    s.Keeps κ (State.closeEp σ tile e0) := by
  grind [State.closeEp, State.modTile_keeps, State.endOp_keeps, State.keeps_other, foldl_keeps]

theorem State.closeEps_keeps {σ : State} {tile : ℕ} {p0 : Endpoint → Bool} (h0 : s.Keeps κ σ) :
    s.Keeps κ (State.closeEps σ tile p0) := by
  grind [State.closeEps, State.closeEp_keeps, State.keeps_other, foldl_keeps]

theorem State.chCtrlOp_keeps {σ : State} {w : Src} {tile : ℕ} {e0 : ℕ} {v : Word} (h0 : s.Keeps κ σ) :
    s.Keeps κ (State.chCtrlOp σ w tile e0 v).1 := by
  grind [State.chCtrlOp, State.closeEp_keeps, State.modTile_keeps, State.keeps_other]

theorem State.chBaseOp_keeps {σ : State} {w : Src} {tile : ℕ} {e0 : ℕ} {v : Word} (h0 : s.Keeps κ σ) :
    s.Keeps κ (State.chBaseOp σ w tile e0 v).1 := by
  grind [State.chBaseOp, State.modTile_keeps, State.keeps_other]

theorem State.chDropOp_keeps {σ : State} {w : Src} {tile : ℕ} {e0 : ℕ} {v : Word} (h0 : s.Keeps κ σ) :
    s.Keeps κ (State.chDropOp σ w tile e0 v).1 := by
  grind [State.chDropOp, State.modTile_keeps, State.keeps_other]

theorem State.reach_keeps {σ : State} {tile : ℕ} {a : Access} (h0 : s.Keeps κ σ) :
    s.Keeps κ (State.reach σ tile a) := by
  grind [State.reach, State.deliver_keeps, State.offer_keeps, State.keeps_other]

theorem State.stRead_keeps {σ : State} {tile : ℕ} {off : ℕ} {n : ℕ} {qos : ℕ} {iss : Issuer} {dest : Dest} (h0 : s.Keeps κ σ) :
    s.Keeps κ (State.stRead σ tile off n qos iss dest) := by
  grind [State.stRead, State.reach_keeps, State.takeId_keeps, State.keeps_other]

theorem State.readBack_keeps {σ : State} {tile : ℕ} (h0 : s.Keeps κ σ) :
    s.Keeps κ (State.readBack σ tile) := by
  grind [State.readBack, State.modTile_keeps, State.launch_keeps, State.keeps_other, foldl_keeps]

theorem State.sendOp_keeps {σ : State} {tile : ℕ} {e0 : Engine} {src : ℕ} {u0 : ℕ} {target : ℕ} {ep : ℕ} {qos : ℕ} (h0 : s.Keeps κ σ) :
    s.Keeps κ (State.sendOp σ tile e0 src u0 target ep qos) := by
  grind [State.sendOp, State.endOp_keeps, State.modTile_keeps, State.keeps_other]

theorem State.askSend_keeps {σ : State} {tile : ℕ} {q : SendState} (h0 : s.Keeps κ σ) :
    s.Keeps κ (State.askSend σ tile q) := by
  grind [State.askSend, State.stRead_keeps, State.modTile_keeps, State.keeps_other, foldl_keeps]

theorem State.launchSend_keeps {σ : State} {tile : ℕ} {q : SendState} (h0 : s.Keeps κ σ) :
    s.Keeps κ (State.launchSend σ tile q) := by
  grind [State.launchSend, State.launch_keeps, State.keeps_other, foldl_keeps]

theorem State.issueSends_keeps {σ : State} {tile : ℕ} (h0 : s.Keeps κ σ) :
    s.Keeps κ (State.issueSends σ tile) := by
  grind [State.issueSends, State.modTile_keeps, State.launchSend_keeps, State.keeps_other, foldl_keeps]

theorem State.sendStatusOp_keeps {σ : State} {tile : ℕ} {e0 : Engine} (h0 : s.Keeps κ σ) :
    s.Keeps κ (State.sendStatusOp σ tile e0) := by
  grind [State.sendStatusOp, State.endOp_keeps, State.modTile_keeps, State.keeps_other]

theorem State.sendRetryOp_keeps {σ : State} {tile : ℕ} {e0 : Engine} (h0 : s.Keeps κ σ) :
    s.Keeps κ (State.sendRetryOp σ tile e0) := by
  grind [State.sendRetryOp, State.launchSend_keeps, State.keeps_other]

theorem State.respondAt_keeps {σ : State} {tile : ℕ} {id : ℕ} {st : Status} {data : List RowData} (h0 : s.Keeps κ σ) :
    s.Keeps κ (State.respondAt σ tile id st data) := by
  grind [State.respondAt, State.modPkt_keeps, State.keeps_other]

theorem State.pieceWrite_keeps {σ : State} {tile : ℕ} {p0 : Packet} {m : MsgIn} {k : ℕ} (h0 : s.Keeps κ σ) :
    s.Keeps κ (State.pieceWrite σ tile p0 m k) := by
  grind [State.pieceWrite, State.modPkt_keeps, State.modTile_keeps, State.takeId_keeps, State.keeps_other]

theorem State.pieceRefused_keeps {σ : State} {tile : ℕ} {p0 : Packet} {m : MsgIn} {st : Status} (h0 : s.Keeps κ σ) :
    s.Keeps κ (State.pieceRefused σ tile p0 m st) := by
  grind [State.pieceRefused, State.modPkt_keeps, State.respondAt_keeps, State.modTile_keeps, State.keeps_other]

theorem State.messageOp_keeps {σ : State} {tile : ℕ} {p0 : Packet} {e0 : ℕ} {u0 : ℕ} {k : ℕ} (h0 : s.Keeps κ σ) :
    s.Keeps κ (State.messageOp σ tile p0 e0 u0 k) := by
  grind [State.messageOp, State.modTile_keeps, State.pieceRefused_keeps, State.pieceWrite_keeps, State.respondAt_keeps, State.keeps_other]

/-! ## Machine/GateOps.lean -/

theorem State.lateWrite_keeps {σ : State} {tile : ℕ} {p0 : Packet} (h0 : s.Keeps κ σ) :
    s.Keeps κ (State.lateWrite σ tile p0) := by
  grind [State.lateWrite, State.modTile_keeps, State.look_keeps, State.record_keeps, State.keeps_other]

theorem State.gateCheck_keeps {σ : State} {tile : ℕ} {p0 : Packet} {bad : Bool} (h0 : s.Keeps κ σ) :
    s.Keeps κ (State.gateCheck σ tile p0 bad).1 := by
  grind [State.gateCheck, State.modTile_keeps, State.lateWrite_keeps, State.keeps_other]

theorem State.refusePkt_keeps {σ : State} {tile : ℕ} {p0 : Packet} {st : Status} (h0 : s.Keeps κ σ) :
    s.Keeps κ (State.refusePkt σ tile p0 st) := by
  grind [State.refusePkt, State.dropPkt_keeps, State.pieceEnd_keeps, State.respondAt_keeps, State.keeps_other]

theorem State.burstRefused_keeps {σ : State} {tile : ℕ} {p0 : Packet} (h0 : s.Keeps κ σ) :
    s.Keeps κ (State.burstRefused σ tile p0) := by
  grind [State.burstRefused, State.modTile_keeps, State.keeps_other]

theorem State.nwAccess_keeps {σ : State} {tile : ℕ} {p0 : Packet} (h0 : s.Keeps κ σ) :
    s.Keeps κ (State.nwAccess σ tile p0) := by
  grind [State.nwAccess, State.modPkt_keeps, State.modTile_keeps, State.takeId_keeps, State.keeps_other]

theorem State.nwRequestOp_keeps {σ : State} {tile : ℕ} {p0 : Packet} (h0 : s.Keeps κ σ) :
    s.Keeps κ (State.nwRequestOp σ tile p0) := by
  grind [State.nwRequestOp, State.modTile_keeps, State.refusePkt_keeps, State.burstRefused_keeps, State.gateCheck_keeps, State.nwAccess_keeps, State.keeps_other]

theorem State.gateOp_keeps {σ : State} {w : Src} {tile : ℕ} {g : ℕ} {k : ℕ} {v : Word} (h0 : s.Keeps κ σ) :
    s.Keeps κ (State.gateOp σ w tile g k v).1 := by
  unfold State.gateOp
  grind [State.modTile_keeps, State.keeps_other]

theorem State.gateDrained_keeps {σ : State} {tile : ℕ} {g : ℕ} (h0 : s.Keeps κ σ) :
    s.Keeps κ (State.gateDrained σ tile g) := by
  grind [State.gateDrained, State.modTile_keeps, State.keeps_other]

theorem State.gateForced_keeps {σ : State} {tile : ℕ} {g : ℕ} (h0 : s.Keeps κ σ) :
    s.Keeps κ (State.gateForced σ tile g) := by
  grind [State.gateForced, State.modTile_keeps, State.keeps_other]

theorem State.lateOp_keeps {σ : State} {w : Src} {tile : ℕ} {v : Word} (h0 : s.Keeps κ σ) :
    s.Keeps κ (State.lateOp σ w tile v).1 := by
  grind [State.lateOp, State.modTile_keeps, State.keeps_other]

/-! ## Machine/StreamOps.lean -/

theorem State.latchOff_keeps {σ : State} {die : ℕ} {e0 : ℕ} {a : Addr} {i : Issuer} (h0 : s.Keeps κ σ) :
    s.Keeps κ (State.latchOff σ die e0 a i) := by
  grind [State.latchOff, State.latchDecerr_keeps, State.keeps_other]

theorem State.failNow_keeps {σ : State} {tile : ℕ} {n : ℕ} {a : Addr} {dir : ℕ} {st : Status} {unit : ℕ} (h0 : s.Keeps κ σ) :
    s.Keeps κ (State.failNow σ tile n a dir st unit) := by
  grind [State.failNow, State.modChan_keeps, State.keeps_other]

theorem State.failSpread_keeps {σ : State} {tile : ℕ} {n : ℕ} {a : Addr} {unit : ℕ} (h0 : s.Keeps κ σ) :
    s.Keeps κ (State.failSpread σ tile n a unit) := by
  grind [State.failSpread, State.modChan_keeps, State.keeps_other]

theorem State.failDefault_keeps {σ : State} {tile : ℕ} {n : ℕ} {a : Addr} {dir : ℕ} {unit : ℕ} (h0 : s.Keeps κ σ) :
    s.Keeps κ (State.failDefault σ tile n a dir unit) := by
  grind [State.failDefault, State.failNow_keeps, State.latchDecerr_keeps, State.keeps_other]

theorem State.lookup_keeps {σ : State} {tile : ℕ} {n : ℕ} {dir : ℕ} {a : Addr} {qos : ℕ} {tag : ℕ} (h0 : s.Keeps κ σ) (e : State.lookup σ tile n dir a qos tag = some p) :
    s.Keeps κ p := by
  unfold State.lookup at e
  grind [Option.map_eq_some_iff, Option.bind_eq_some_iff, State.launch_keeps, State.keeps_other]

theorem State.fetch_keeps {σ : State} {tile n : ℕ} (h0 : s.Keeps κ σ) : s.Keeps κ (σ.fetch tile n) := by
  unfold State.fetch
  try dsimp only
  split
  · exact State.stRead_keeps (State.modChan_keeps h0)
  · split
    · rename_i e; exact State.lookup_keeps (State.modChan_keeps h0) e
    · exact State.modChan_keeps (State.modChan_keeps h0)

theorem State.fetchNext_keeps {σ : State} {tile : ℕ} {n : ℕ} {st : ChState} (h0 : s.Keeps κ σ) :
    s.Keeps κ (State.fetchNext σ tile n st) := by
  grind [State.fetchNext, State.fetch_keeps, State.modTile_keeps, State.keeps_other]

theorem State.toIdle_keeps {σ : State} {tile : ℕ} {n : ℕ} (h0 : s.Keeps κ σ) :
    s.Keeps κ (State.toIdle σ tile n) := by
  unfold State.toIdle
  simp only []
  repeat' split
  all_goals grind [State.modChan_keeps, State.fetchNext_keeps, State.keeps_other]

theorem State.proceed_keeps {σ : State} {tile : ℕ} {n : ℕ} {k : Cont} (h0 : s.Keeps κ σ) :
    s.Keeps κ (State.proceed σ tile n k) := by
  unfold State.proceed
  simp only []
  repeat' split
  all_goals grind [State.modTile_keeps, State.modChan_keeps, State.toIdle_keeps, State.fetchNext_keeps, State.keeps_other]

theorem State.goOn_keeps {σ : State} {tile : ℕ} {n : ℕ} {k : Cont} (h0 : s.Keeps κ σ) :
    s.Keeps κ (State.goOn σ tile n k) := by
  grind [State.goOn, State.modChan_keeps, State.proceed_keeps, State.keeps_other]

theorem State.finish_keeps {σ : State} {tile : ℕ} {n : ℕ} {r0 : Option CRec} {complete : Bool} {k : Cont} (h0 : s.Keeps κ σ) :
    s.Keeps κ (State.finish σ tile n r0 complete k) := by
  unfold State.finish
  grind [State.goOn_keeps, State.raise_keeps, State.modSlice_keeps, State.look_keeps, State.modChan_keeps, State.keeps_other]

theorem State.admitRecs_keeps {σ : State} {die : ℕ} {h : ℕ} (h0 : s.Keeps κ σ) :
    s.Keeps κ (State.admitRecs σ die h) := by
  grind [State.admitRecs, State.finish_keeps, State.modChan_keeps, State.keeps_other, foldl_keeps]

theorem State.startDesc_keeps {σ : State} {tile : ℕ} {n : ℕ} (h0 : s.Keeps κ σ) :
    s.Keeps κ (State.startDesc σ tile n) := by
  grind [State.startDesc, State.modTile_keeps, State.keeps_other]

theorem State.indexPackets_keeps {σ : State} {tile : ℕ} {n : ℕ} {d : RowData} {id : ℕ} {g : ℕ} {a : Addr} {l : List (ℕ × ℕ)} (h0 : s.Keeps κ σ) :
    s.Keeps κ (State.indexPackets σ tile n d id g a l) := by
  grind [State.indexPackets, State.launch_keeps, State.keeps_other, foldl_keeps]

theorem State.allocBlock_keeps {σ : State} {tile n : ℕ} {d : RowData} {k : ℕ} (h0 : s.Keeps κ σ) : s.Keeps κ (σ.allocBlock tile n d k) := by
  have hon : ∀ f, s.Keeps κ (σ.takeId.modTile tile f) := fun f => State.modTile_keeps (State.takeId_keeps h0)
  unfold State.allocBlock
  try dsimp only
  split
  · exact State.stRead_keeps (hon _)
  · exact State.indexPackets_keeps (hon _)
  · split
    · rename_i e; exact State.lookup_keeps (hon _) e
    · exact State.failNow_keeps h0
  · exact State.failDefault_keeps h0

theorem State.serveWants_keeps {σ : State} {tile n : ℕ} (h0 : s.Keeps κ σ) : s.Keeps κ (σ.serveWants tile n) := by
  induction n generalizing σ with
  | zero => exact h0
  | succ n ih =>
    unfold State.serveWants
    try dsimp only
    split
    · exact h0
    · split
      · exact ih (State.modTile_keeps h0)
      · split
        · exact ih (State.allocBlock_keeps (State.modTile_keeps h0))
        · exact h0

theorem State.prefetch_keeps {σ : State} {tile : ℕ} {n : ℕ} {k : ℕ} (h0 : s.Keeps κ σ) :
    s.Keeps κ (State.prefetch σ tile n k) := by
  grind [State.prefetch, State.modTile_keeps, State.serveWants_keeps, State.keeps_other]

theorem State.fetchedOp_keeps {σ : State} {tile : ℕ} {n : ℕ} (h0 : s.Keeps κ σ) :
    s.Keeps κ (State.fetchedOp σ tile n) := by
  unfold State.fetchedOp
  grind [State.modChan_keeps, State.failNow_keeps, State.startDesc_keeps, State.prefetch_keeps, State.keeps_other]

theorem State.issueBurst_keeps {σ : State} {tile : ℕ} {n : ℕ} {d : RowData} {write : Bool} {target : Target} {a : Addr} {place : ℕ} {unit : ℕ} {len : ℕ} {data : List RowData} (h0 : s.Keeps κ σ) :
    s.Keeps κ (State.issueBurst σ tile n d write target a place unit len data) := by
  grind [State.issueBurst, State.launch_keeps, State.modChan_keeps, State.keeps_other, foldl_keeps]

theorem State.issueLocal_keeps {σ : State} {tile : ℕ} {n : ℕ} {d : RowData} {write : Bool} {off : ℕ} {unit : ℕ} {len : ℕ} {data : List RowData} (h0 : s.Keeps κ σ) :
    s.Keeps κ (State.issueLocal σ tile n d write off unit len data) := by
  grind [State.issueLocal, State.modChan_keeps, State.modTile_keeps, State.takeId_keeps, State.reach_keeps, State.keeps_other]

theorem State.slotStart_keeps {σ : State} {tile : ℕ} {n : ℕ} {d : RowData} (h0 : s.Keeps κ σ) :
    s.Keeps κ (State.slotStart σ tile n d).1 := by
  grind [State.slotStart, State.failSpread_keeps, State.modChan_keeps, State.keeps_other]

theorem State.ringRequest_keeps {σ : State} {tile : ℕ} {n : ℕ} {d : RowData} {kind : PKind} {unit : ℕ} {first : ℕ} {units : ℕ} (h0 : s.Keeps κ σ) :
    s.Keeps κ (State.ringRequest σ tile n d kind unit first units) := by
  grind [State.ringRequest, State.failDefault_keeps, State.modChan_keeps, State.launch_keeps, State.keeps_other]

theorem State.probeRing_keeps {σ : State} {tile : ℕ} {n : ℕ} {d : RowData} (h0 : s.Keeps κ σ) :
    s.Keeps κ (State.probeRing σ tile n d) := by
  grind [State.probeRing, State.ringRequest_keeps, State.keeps_other]

theorem State.slotFilledOp_keeps {σ : State} {tile : ℕ} {n : ℕ} {d : RowData} (h0 : s.Keeps κ σ) :
    s.Keeps κ (State.slotFilledOp σ tile n d) := by
  grind [State.slotFilledOp, State.modChan_keeps, State.enqueue_keeps, State.keeps_other]

theorem State.fillTaken_keeps {σ : State} {tile : ℕ} {n : ℕ} (h0 : s.Keeps κ σ) :
    s.Keeps κ (State.fillTaken σ tile n) := by
  grind [State.fillTaken, State.modChan_keeps, State.failSpread_keeps, State.keeps_other]

theorem State.resampleOp_keeps {σ : State} {tile : ℕ} {n : ℕ} {d : RowData} (h0 : s.Keeps κ σ) :
    s.Keeps κ (State.resampleOp σ tile n d) := by
  grind [State.resampleOp, State.failSpread_keeps, State.modChan_keeps, State.keeps_other]

theorem State.readbacks_keeps {σ : State} {tile : ℕ} {n : ℕ} {d : RowData} (h0 : s.Keeps κ σ) :
    s.Keeps κ (State.readbacks σ tile n d) := by
  grind [State.readbacks, State.modChan_keeps, State.launch_keeps, State.keeps_other, foldl_keeps]

theorem State.half_keeps {σ : State} {tile : ℕ} {n : ℕ} {d : RowData} {u0 : ℕ} {len : ℕ} (h0 : s.Keeps κ σ) :
    s.Keeps κ (State.half σ tile n d u0 len) := by
  grind [State.half, State.raise_keeps, State.modChan_keeps, State.keeps_other]

theorem State.advance_keeps {σ : State} {tile : ℕ} {n : ℕ} {d : RowData} {len : ℕ} (h0 : s.Keeps κ σ) :
    s.Keeps κ (State.advance σ tile n d len) := by
  grind [State.advance, State.half_keeps, State.modChan_keeps, State.modTile_keeps, State.prefetch_keeps, State.serveWants_keeps, State.keeps_other]

theorem State.readRemote_keeps {σ : State} {tile : ℕ} {n : ℕ} {d : RowData} {v : ℕ} {target : Target} {place : ℕ} (h0 : s.Keeps κ σ) :
    s.Keeps κ (State.readRemote σ tile n d v target place) := by
  grind [State.readRemote, State.modChan_keeps, State.issueBurst_keeps, State.keeps_other]

theorem State.readStep_keeps {σ : State} {tile : ℕ} {n : ℕ} {d : RowData} {v : ℕ} (h0 : s.Keeps κ σ) :
    s.Keeps κ (State.readStep σ tile n d v) := by
  grind [State.readStep, State.failDefault_keeps, State.lookup_keeps, State.modChan_keeps, State.failNow_keeps, State.issueLocal_keeps, State.readRemote_keeps, State.keeps_other]

theorem State.writeRemote_keeps {σ : State} {tile : ℕ} {n : ℕ} {d : RowData} {v : ℕ} {target : Target} {place : ℕ} (h0 : s.Keeps κ σ) :
    s.Keeps κ (State.writeRemote σ tile n d v target place) := by
  grind [State.writeRemote, State.readbacks_keeps, State.modChan_keeps, State.issueBurst_keeps, State.advance_keeps, State.keeps_other]

theorem State.writeStep_keeps {σ : State} {tile : ℕ} {n : ℕ} {d : RowData} {v : ℕ} (h0 : s.Keeps κ σ) :
    s.Keeps κ (State.writeStep σ tile n d v) := by
  grind [State.writeStep, State.writeRemote_keeps, State.failDefault_keeps, State.lookup_keeps, State.modChan_keeps, State.failNow_keeps, State.advance_keeps, State.issueLocal_keeps, State.keeps_other]

theorem State.burstIssueOp_keeps {σ : State} {tile : ℕ} {n : ℕ} (h0 : s.Keeps κ σ) :
    s.Keeps κ (State.burstIssueOp σ tile n) := by
  grind [State.burstIssueOp, State.ringRequest_keeps, State.probeRing_keeps, State.readbacks_keeps, State.slotStart_keeps, State.writeStep_keeps, State.prefetch_keeps, State.readStep_keeps, State.keeps_other]

theorem State.burstSelectOp_keeps {σ : State} {tile : ℕ} (h0 : s.Keeps κ σ) :
    s.Keeps κ (State.burstSelectOp σ tile) := by
  grind [State.burstSelectOp, State.askSend_keeps, State.modTile_keeps, State.keeps_other]

theorem State.dataOp_keeps {σ : State} {tile : ℕ} {n : ℕ} {code : ℕ} {f : RowData → ℕ → Channel → State} (h0 : s.Keeps κ σ) (h1 : ∀ x0 x1 x2, s.Keeps κ (f x0 x1 x2)) :
    s.Keeps κ (State.dataOp σ tile n code f) := by
  grind [State.dataOp, State.keeps_other]

theorem State.copyOp_keeps {σ : State} {tile : ℕ} {n : ℕ} (h0 : s.Keeps κ σ) :
    s.Keeps κ (State.copyOp σ tile n) := by
  grind [State.copyOp, State.dataOp_keeps, State.modChan_keeps, State.keeps_other]

theorem State.gatherOp_keeps {σ : State} {tile : ℕ} {n : ℕ} (h0 : s.Keeps κ σ) :
    s.Keeps κ (State.gatherOp σ tile n) := by
  grind [State.gatherOp, State.dataOp_keeps, State.modChan_keeps, State.keeps_other]

theorem State.scatterOp_keeps {σ : State} {tile : ℕ} {n : ℕ} (h0 : s.Keeps κ σ) :
    s.Keeps κ (State.scatterOp σ tile n) := by
  grind [State.scatterOp, State.dataOp_keeps, State.advance_keeps, State.modChan_keeps, State.keeps_other]

theorem State.convertOp_keeps {σ : State} {tile : ℕ} {n : ℕ} (h0 : s.Keeps κ σ) :
    s.Keeps κ (State.convertOp σ tile n) := by
  grind [State.convertOp, State.dataOp_keeps, State.modChan_keeps, State.modTile_keeps, State.keeps_other]

theorem State.fillOp_keeps {σ : State} {tile : ℕ} {n : ℕ} (h0 : s.Keeps κ σ) :
    s.Keeps κ (State.fillOp σ tile n) := by
  grind [State.fillOp, State.dataOp_keeps, State.modChan_keeps, State.keeps_other]

theorem State.flitDone_keeps {σ : State} {tile : ℕ} {n : ℕ} {d : RowData} (h0 : s.Keeps κ σ) :
    s.Keeps κ (State.flitDone σ tile n d) := by
  grind [State.flitDone, State.advance_keeps, State.modChan_keeps, State.keeps_other]

theorem State.multicastOp_keeps {σ : State} {tile : ℕ} {n : ℕ} (h0 : s.Keeps κ σ) :
    s.Keeps κ (State.multicastOp σ tile n) := by
  grind [State.multicastOp, State.dataOp_keeps, State.modChan_keeps, State.half_keeps, State.flitDone_keeps, State.launch_keeps, State.keeps_other, foldl_keeps]

theorem State.creditOp_keeps {σ : State} {tile : ℕ} {n : ℕ} {i : ℕ} (h0 : s.Keeps κ σ) :
    s.Keeps κ (State.creditOp σ tile n i) := by
  grind [State.creditOp, State.modChan_keeps, State.flitDone_keeps, State.keeps_other]

theorem State.mcStallOp_keeps {σ : State} {tile : ℕ} {n : ℕ} (h0 : s.Keeps κ σ) :
    s.Keeps κ (State.mcStallOp σ tile n) := by
  unfold State.mcStallOp
  grind [State.modTile_keeps, State.failNow_keeps, State.modChan_keeps, State.keeps_other]

theorem State.ringProbeOp_keeps {σ : State} {g : ℕ} {p0 : Packet} {fill : ℕ} {free : ℕ} (h0 : s.Keeps κ σ) :
    s.Keeps κ (State.ringProbeOp σ g p0 fill free) := by
  grind [State.ringProbeOp, State.respondAt_keeps, State.keeps_other]

theorem State.homeAdd_keeps {σ : State} {g : ℕ} {p0 : Packet} {t : ℕ} (h0 : s.Keeps κ σ) :
    s.Keeps κ (State.homeAdd σ g p0 t) := by
  grind [State.homeAdd, State.modPkt_keeps, State.enqueue_keeps, State.keeps_other]

theorem State.slotReadbackOp_keeps {σ : State} {g : ℕ} {p0 : Packet} {fill : ℕ} {free : ℕ} (h0 : s.Keeps κ σ) :
    s.Keeps κ (State.slotReadbackOp σ g p0 fill free) := by
  grind [State.slotReadbackOp, State.respondAt_keeps, State.homeAdd_keeps, State.keeps_other]

theorem State.mcReadbackOp_keeps {σ : State} {g : ℕ} {p0 : Packet} {t : ℕ} (h0 : s.Keeps κ σ) :
    s.Keeps κ (State.mcReadbackOp σ g p0 t) := by
  grind [State.mcReadbackOp, State.respondAt_keeps, State.homeAdd_keeps, State.keeps_other]

theorem State.homeAdded_keeps {σ : State} {g : ℕ} {pkt : ℕ} (h0 : s.Keeps κ σ) :
    s.Keeps κ (State.homeAdded σ g pkt) := by
  grind [State.homeAdded, State.respondAt_keeps, State.keeps_other]

theorem State.remoteResponseOp_keeps {σ : State} {tile : ℕ} {p0 : Packet} {st : Status} {data : List RowData} (h0 : s.Keeps κ σ) :
    s.Keeps κ (State.remoteResponseOp σ tile p0 st data) := by
  grind [State.remoteResponseOp, State.modChan_keeps, State.dropPkt_keeps, State.modTile_keeps, State.modPkt_keeps, State.answerReg_keeps, State.keeps_other]

theorem State.readbackReturnOp_keeps {σ : State} {tile : ℕ} {p0 : Packet} {st : Status} {data : List RowData} (h0 : s.Keeps κ σ) :
    s.Keeps κ (State.readbackReturnOp σ tile p0 st data) := by
  grind [State.readbackReturnOp, State.modChan_keeps, State.dropPkt_keeps, State.keeps_other]

theorem State.lookupReturnOp_keeps {σ : State} {tile : ℕ} {p0 : Packet} {dir : ℕ} {st : Status} {data : List RowData} (h0 : s.Keeps κ σ) :
    s.Keeps κ (State.lookupReturnOp σ tile p0 dir st data) := by
  unfold State.lookupReturnOp
  simp only []
  repeat' split
  all_goals grind [State.dropPkt_keeps, State.latchOff_keeps, State.modChan_keeps, State.launch_keeps, State.readRemote_keeps, State.writeRemote_keeps, State.modTile_keeps, State.keeps_other]

theorem State.allStop_keeps {σ : State} {tile : ℕ} {cause : ℕ} {code : ℕ} {a : ℕ} (h0 : s.Keeps κ σ) :
    s.Keeps κ (State.allStop σ tile cause code a) := by
  grind [State.allStop, State.modTile_keeps, State.record_keeps, State.raise_keeps, State.keeps_other, foldl_keeps]

theorem State.indexReturnOp_keeps {σ : State} {tile : ℕ} {b : IndexBlock} {how : IndexReturn} (h0 : s.Keeps κ σ) :
    s.Keeps κ (State.indexReturnOp σ tile b how) := by
  grind [State.indexReturnOp, State.modTile_keeps, State.allStop_keeps, State.modChan_keeps, State.keeps_other]

theorem State.completeEnd_keeps {σ : State} {tile : ℕ} {n : ℕ} {d : RowData} (h0 : s.Keeps κ σ) :
    s.Keeps κ (State.completeEnd σ tile n d) := by
  grind [State.completeEnd, State.modChan_keeps, State.finish_keeps, State.keeps_other]

theorem State.completeOp_keeps {σ : State} {tile : ℕ} {n : ℕ} {d : RowData} (h0 : s.Keeps κ σ) :
    s.Keeps κ (State.completeOp σ tile n d) := by
  grind [State.completeOp, State.completeEnd_keeps, State.modChan_keeps, State.enqueue_keeps, State.keeps_other]

theorem State.doneTaken_keeps {σ : State} {tile : ℕ} {n : ℕ} (h0 : s.Keeps κ σ) :
    s.Keeps κ (State.doneTaken σ tile n) := by
  grind [State.doneTaken, State.completeEnd_keeps, State.keeps_other]

theorem State.abortEnd_keeps {σ : State} {tile : ℕ} {n : ℕ} {bytes : ℕ} {faddr : Addr} {fdir : ℕ} (h0 : s.Keeps κ σ) :
    s.Keeps κ (State.abortEnd σ tile n bytes faddr fdir) := by
  grind [State.abortEnd, State.finish_keeps, State.modChan_keeps, State.keeps_other]

theorem State.haltOp_keeps {σ : State} {tile : ℕ} {n : ℕ} (h0 : s.Keeps κ σ) :
    s.Keeps κ (State.haltOp σ tile n) := by
  grind [State.haltOp, State.abortEnd_keeps, State.modChan_keeps, State.raise_keeps, State.keeps_other]

theorem State.armOp_keeps {σ : State} {tile : ℕ} {n : ℕ} (h0 : s.Keeps κ σ) :
    s.Keeps κ (State.armOp σ tile n).1 := by
  unfold State.armOp
  simp only []
  repeat' split
  all_goals grind [State.fetchNext_keeps, State.modChan_keeps, State.modTile_keeps, State.keeps_other]

theorem State.goOp_keeps {σ : State} {tile n : ℕ} (h0 : s.Keeps κ σ) : s.Keeps κ (σ.goOp tile n).1 := by
  generalize e : σ.goOp tile n = p
  unfold State.goOp at e
  dsimp only at e
  split at e
  · subst e; exact h0
  · split at e <;> subst e <;> refine keeps_pair ?_
    · exact State.startDesc_keeps h0
    · exact State.modChan_keeps h0
    · exact State.modChan_keeps h0
    · exact State.modChan_keeps h0
    · exact State.modChan_keeps h0

theorem State.refetch_keeps {σ : State} {tile : ℕ} {n : ℕ} {st : ChState} (h0 : s.Keeps κ σ) :
    s.Keeps κ (State.refetch σ tile n st) := by
  grind [State.refetch, State.fetch_keeps, State.modChan_keeps, State.keeps_other]

theorem State.resumeDesc_keeps {σ : State} {tile : ℕ} {n : ℕ} (h0 : s.Keeps κ σ) :
    s.Keeps κ (State.resumeDesc σ tile n) := by
  grind [State.resumeDesc, State.refetch_keeps, State.startDesc_keeps, State.modChan_keeps, State.keeps_other]

theorem State.resumeOp_keeps {σ : State} {tile : ℕ} {n : ℕ} (h0 : s.Keeps κ σ) :
    s.Keeps κ (State.resumeOp σ tile n).1 := by
  grind [State.resumeOp, State.modChan_keeps, State.proceed_keeps, State.toIdle_keeps, State.resumeDesc_keeps, State.keeps_other]

theorem State.skipOp_keeps {σ : State} {tile : ℕ} {n : ℕ} (h0 : s.Keeps κ σ) :
    s.Keeps κ (State.skipOp σ tile n).1 := by
  grind [State.skipOp, State.modChan_keeps, State.proceed_keeps, State.toIdle_keeps, State.finish_keeps, State.keeps_other]

theorem State.abortOp_keeps {σ : State} {tile : ℕ} {n : ℕ} (h0 : s.Keeps κ σ) :
    s.Keeps κ (State.abortOp σ tile n).1 := by
  grind [State.abortOp, State.modChan_keeps, State.proceed_keeps, State.abortEnd_keeps, State.haltOp_keeps, State.keeps_other]

theorem awakeAt_keeps {tile : ℕ} {p0 : State × Status} (h0 : s.Keeps κ p0.1) :
    s.Keeps κ (awakeAt tile p0).1 := by
  grind [awakeAt, State.watch_keeps, State.keeps_other]

theorem State.cmdOp_keeps {σ : State} {tile : ℕ} {n : ℕ} {cmd : ℕ} (h0 : s.Keeps κ σ) :
    s.Keeps κ (State.cmdOp σ tile n cmd).1 := by
  unfold State.cmdOp
  grind [awakeAt_keeps, State.armOp_keeps, State.goOp_keeps, State.resumeOp_keeps, State.skipOp_keeps, State.abortOp_keeps, State.keeps_other]

theorem State.enOp_keeps {σ : State} {tile : ℕ} {n : ℕ} {en : Bool} (h0 : s.Keeps κ σ) :
    s.Keeps κ (State.enOp σ tile n en).1 := by
  unfold State.enOp
  simp only []
  repeat' split
  all_goals grind [State.modChan_keeps, awakeAt_keeps, State.fetchNext_keeps, State.modTile_keeps, State.keeps_other]

theorem State.chanCtrlOp_keeps {σ : State} {w : Src} {tile : ℕ} {n : ℕ} {v : Word} (h0 : s.Keeps κ σ) :
    s.Keeps κ (State.chanCtrlOp σ w tile n v).1 := by
  grind [State.chanCtrlOp, State.modChan_keeps, State.enOp_keeps, State.cmdOp_keeps, State.keeps_other]

theorem State.chanCmdOp_keeps {σ : State} {w : Src} {tile : ℕ} {n : ℕ} {cmd : ℕ} (h0 : s.Keeps κ σ) :
    s.Keeps κ (State.chanCmdOp σ w tile n cmd).1 := by
  grind [State.chanCmdOp, State.cmdOp_keeps, State.keeps_other]

theorem State.tailOp_keeps {σ : State} {tile : ℕ} {n : ℕ} {t : BitVec 16} (h0 : s.Keeps κ σ) :
    s.Keeps κ (State.tailOp σ tile n t).1 := by
  grind [State.tailOp, State.modChan_keeps, awakeAt_keeps, State.fetchNext_keeps, State.keeps_other]

theorem State.chanTailOp_keeps {σ : State} {w : Src} {tile : ℕ} {n : ℕ} {v : Word} (h0 : s.Keeps κ σ) :
    s.Keeps κ (State.chanTailOp σ w tile n v).1 := by
  grind [State.chanTailOp, State.tailOp_keeps, State.keeps_other]

theorem State.chanRegOp_keeps {σ : State} {w : Src} {tile : ℕ} {n : ℕ} {off : ℕ} {v : Word} (h0 : s.Keeps κ σ) :
    s.Keeps κ (State.chanRegOp σ w tile n off v).1 := by
  unfold State.chanRegOp
  grind [State.chanCtrlOp_keeps, State.modChan_keeps, State.chanTailOp_keeps, State.keeps_other]

theorem State.mcStallRegOp_keeps {σ : State} {w : Src} {tile : ℕ} {v : Word} (h0 : s.Keeps κ σ) :
    s.Keeps κ (State.mcStallRegOp σ w tile v).1 := by
  grind [State.mcStallRegOp, State.modTile_keeps, State.keeps_other]

theorem State.stPrioOp_keeps {σ : State} {w : Src} {tile : ℕ} {v : Word} (h0 : s.Keeps κ σ) :
    s.Keeps κ (State.stPrioOp σ w tile v).1 := by
  grind [State.stPrioOp, State.modTile_keeps, State.keeps_other]

theorem State.mcLagOp_keeps {σ : State} {w : Src} {tile : ℕ} {n : ℕ} {v : Word} (h0 : s.Keeps κ σ) :
    s.Keeps κ (State.mcLagOp σ w tile n v).1 := by
  grind [State.mcLagOp, State.modTile_keeps, State.keeps_other]

theorem State.nopOp_keeps {σ : State} {tile : ℕ} {n : ℕ} (h0 : s.Keeps κ σ) :
    s.Keeps κ (State.nopOp σ tile n) := by
  grind [State.nopOp, State.modChan_keeps, State.keeps_other]

theorem State.waittOp_keeps {σ : State} {tile : ℕ} {n : ℕ} (h0 : s.Keeps κ σ) :
    s.Keeps κ (State.waittOp σ tile n) := by
  grind [State.waittOp, State.modChan_keeps, State.keeps_other]

theorem State.signalOp_keeps {σ : State} {tile : ℕ} {n : ℕ} (h0 : s.Keeps κ σ) :
    s.Keeps κ (State.signalOp σ tile n) := by
  grind [State.signalOp, State.enqueue_keeps, State.modChan_keeps, State.keeps_other]

/-! ## Machine/ExtOps.lean -/

theorem State.modExt_keeps {σ : State} {d : ℕ} {p0 : ℕ} {f : ExtPort → ExtPort} (h0 : s.Keeps κ σ) :
    s.Keeps κ (State.modExt σ d p0 f) := by
  grind [State.modExt, State.modSlice_keeps, State.keeps_other]

theorem State.titheOp_keeps {σ : State} {w : Src} {d : ℕ} {h : ℕ} {v : Word} (h0 : s.Keeps κ σ) :
    s.Keeps κ (State.titheOp σ w d h v).1 := by
  grind [State.titheOp, State.modSlice_keeps, State.keeps_other, foldl_keeps]

theorem State.tokenOp_keeps {σ : State} {d : ℕ} {p0 : ℕ} {h : ℕ} {paces : ℕ} (h0 : s.Keeps κ σ) :
    s.Keeps κ (State.tokenOp σ d p0 h paces) := by
  grind [State.tokenOp, State.modSlice_keeps, State.keeps_other]

theorem State.toController_keeps {σ : State} {d : ℕ} {p0 : ℕ} {k : Packet} {w : ExtWork} (h0 : s.Keeps κ σ) :
    s.Keeps κ (State.toController σ d p0 k w) := by
  grind [State.toController, State.emit_keeps, State.modExt_keeps, State.keeps_other]

theorem State.extRequestOp_keeps {σ : State} {d : ℕ} {p0 : ℕ} {k : Packet} (h0 : s.Keeps κ σ) :
    s.Keeps κ (State.extRequestOp σ d p0 k) := by
  grind [State.extRequestOp, State.answerAt_keeps, State.modSlice_keeps, State.modPkt_keeps, State.toController_keeps, State.keeps_other]

theorem State.extCrc_keeps {σ : State} {d : ℕ} {p0 : ℕ} {kind : ℕ} {sup : ℕ} {addr : ℕ} (h0 : s.Keeps κ σ) :
    s.Keeps κ (State.extCrc σ d p0 kind sup addr) := by
  grind [State.extCrc, State.record_keeps, State.keeps_other]

theorem State.extRefetch_keeps {σ : State} {d : ℕ} {p0 : ℕ} {addr : ℕ} (h0 : s.Keeps κ σ) :
    s.Keeps κ (State.extRefetch σ d p0 addr) := by
  grind [State.extRefetch, State.look_keeps, State.extCrc_keeps, State.modExt_keeps, State.keeps_other]

theorem State.extEnd_keeps {σ : State} {d : ℕ} {p0 : ℕ} {k : Packet} {st : Status} {data : List RowData} (h0 : s.Keeps κ σ) :
    s.Keeps κ (State.extEnd σ d p0 k st data) := by
  grind [State.extEnd, State.answerAt_keeps, State.modExt_keeps, State.keeps_other]

theorem State.extFails_keeps {σ : State} {d : ℕ} {p0 : ℕ} {k : Packet} (h0 : s.Keeps κ σ) :
    s.Keeps κ (State.extFails σ d p0 k) := by
  grind [State.extFails, State.extEnd_keeps, State.extCrc_keeps, State.modExt_keeps, State.keeps_other]

theorem State.extUncorr_keeps {σ : State} {d : ℕ} {p0 : ℕ} {k : Packet} (h0 : s.Keeps κ σ) :
    s.Keeps κ (State.extUncorr σ d p0 k) := by
  grind [State.extUncorr, State.modExt_keeps, State.record_keeps, State.raise_keeps, State.extEnd_keeps, State.keeps_other]

theorem State.extResponseOp_keeps {σ : State} {d : ℕ} {p0 : ℕ} {k : Packet} {w : ExtWork} {crc : Option (BitVec 32)} {uncorr : Bool} {data : List RowData} (h0 : s.Keeps κ σ) :
    s.Keeps κ (State.extResponseOp σ d p0 k w crc uncorr data) := by
  grind [State.extResponseOp, State.extFails_keeps, State.toController_keeps, State.modExt_keeps, State.extRefetch_keeps, State.extUncorr_keeps, State.extEnd_keeps, State.keeps_other]

theorem State.extReadyOp_keeps {σ : State} {d : ℕ} {p0 : ℕ} {ready : Bool} (h0 : s.Keeps κ σ) :
    s.Keeps κ (State.extReadyOp σ d p0 ready) := by
  grind [State.extReadyOp, State.modExt_keeps, State.extFails_keeps, State.keeps_other, foldl_keeps]

theorem State.routeOp_keeps {σ : State} {w : Src} {d : ℕ} {t : ℕ} {v : Word} (h0 : s.Keeps κ σ) :
    s.Keeps κ (State.routeOp σ w d t v).1 := by
  grind [State.routeOp, State.modSlice_keeps, State.keeps_other]

end Sys2Proof.Machine
end

