-- ==== Sys2Proof/Laws/KeepsHouse.lean ====
section
/-!
SUPPORT. What the operations of the households, the book, start-up and the register blocks keep (Laws/Keeps.lean says what that is).
-/

namespace Sys2Proof.Machine

set_option Elab.async false

open Host

variable {s : State} {κ : Bool}

/-! ## Machine/HouseOps.lean -/

theorem State.modSlices_keeps {σ : State} {f : Slice → Slice} (h0 : s.Keeps κ σ) :
    s.Keeps κ (State.modSlices σ f) := by
  grind [State.modSlices, State.modSlice_keeps, State.keeps_other, foldl_keeps]

theorem State.forgetRecords_keeps {σ : State} {d : ℕ} {h : ℕ} (h0 : s.Keeps κ σ) :
    s.Keeps κ (State.forgetRecords σ d h) := by
  grind [State.forgetRecords, State.keeps_other]

theorem State.writeBinds_keeps {σ : State} {h : ℕ} {b0 : HhBind} (h0 : s.Keeps κ σ) :
    s.Keeps κ (State.writeBinds σ h b0) := by
  grind [State.writeBinds, State.modSlice_keeps, State.forgetRecords_keeps, State.keeps_other, foldl_keeps]

theorem State.bindOp_keeps {σ : State} {fn : BitVec 8} {home : BitVec 3} (h0 : s.Keeps κ σ) :
    s.Keeps κ (State.bindOp σ fn home) := by
  grind [State.bindOp, State.modSlice_keeps, State.writeBinds_keeps, State.keeps_other, foldl_keeps]

theorem State.unbindOp_keeps {σ : State} {h : ℕ} (h0 : s.Keeps κ σ) :
    s.Keeps κ (State.unbindOp σ h) := by
  grind [State.unbindOp, State.modSlice_keeps, State.closeEps_keeps, State.modTile_keeps, State.keeps_other, foldl_keeps]

theorem State.bindReqOp_keeps {σ : State} {w : Src} {v : Word} (h0 : s.Keeps κ σ) :
    s.Keeps κ (State.bindReqOp σ w v).1 := by
  grind [State.bindReqOp, State.bindOp_keeps, State.unbindOp_keeps, State.keeps_other]

theorem State.unbindFinishOp_keeps {σ : State} (h0 : s.Keeps κ σ) :
    s.Keeps κ (State.unbindFinishOp σ) := by
  grind [State.unbindFinishOp, State.writeBinds_keeps, State.modSlices_keeps, State.modSlice_keeps, State.keeps_other, foldl_keeps]

theorem State.unboundOp_keeps {σ : State} {w : Src} {d : ℕ} {v : Word} (h0 : s.Keeps κ σ) :
    s.Keeps κ (State.unboundOp σ w d v).1 := by
  grind [State.unboundOp, State.modSlice_keeps, State.keeps_other]

theorem State.hhBindOp_keeps {σ : State} {w : Src} {d : ℕ} {h : ℕ} {v : Word} (h0 : s.Keeps κ σ) :
    s.Keeps κ (State.hhBindOp σ w d h v).1 := by
  grind [State.hhBindOp, State.modSlice_keeps, State.keeps_other]

theorem State.hostRefuse_keeps {σ : State} {d : ℕ} {fn : ℕ} (h0 : s.Keeps κ σ) :
    s.Keeps κ (State.hostRefuse σ d fn) := by
  grind [State.hostRefuse, State.emit_keeps, State.modSlice_keeps, State.keeps_other]

theorem State.fromHost_keeps {σ : State} {d : ℕ} {fn : ℕ} {write : Bool} {f : ℕ → State} (h0 : s.Keeps κ σ) (h1 : ∀ x0, s.Keeps κ (f x0)) :
    s.Keeps κ (State.fromHost σ d fn write f) := by
  grind [State.fromHost, State.emit_keeps, State.hostRefuse_keeps, State.keeps_other]

theorem State.doorbellOp_keeps {σ : State} {d : ℕ} {h : ℕ} {offset : ℕ} {size : ℕ} {word : BitVec 64} (h0 : s.Keeps κ σ) :
    s.Keeps κ (State.doorbellOp σ d h offset size word) := by
  grind [State.doorbellOp, State.capture_keeps, State.modSlice_keeps, State.keeps_other]

theorem State.bellReleaseOp_keeps {σ : State} {d : ℕ} {h : ℕ} (h0 : s.Keeps κ σ) :
    s.Keeps κ (State.bellReleaseOp σ d h) := by
  grind [State.bellReleaseOp, State.modSlice_keeps, State.launch_keeps, State.keeps_other]

theorem State.bellAtTile_keeps {σ : State} {tile : ℕ} {p0 : Packet} {f : State × Status} (h0 : s.Keeps κ σ) (h1 : s.Keeps κ f.1) :
    s.Keeps κ (State.bellAtTile σ tile p0 f) := by
  grind [State.bellAtTile, State.respondAt_keeps, State.keeps_other]

theorem State.stepPiece_keeps {σ : State} {d : ℕ} {h : ℕ} {a : ℕ} {size : ℕ} {data : List RowData} (h0 : s.Keeps κ σ) :
    s.Keeps κ (State.stepPiece σ d h a size data) := by
  grind [State.stepPiece, State.modSlice_keeps, State.launch_keeps, State.keeps_other]

theorem State.doorstepOp_keeps {σ : State} {d : ℕ} {h : ℕ} {offset : ℕ} {length : ℕ} {allEnables : Bool} {data : List RowData} (h0 : s.Keeps κ σ) :
    s.Keeps κ (State.doorstepOp σ d h offset length allEnables data) := by
  grind [State.doorstepOp, State.capture_keeps, State.modSlice_keeps, State.stepPiece_keeps, State.keeps_other, foldl_keeps]

theorem State.hostPass_keeps {σ : State} {d : ℕ} {h : ℕ} {fn : ℕ} {a : Addr} {size : ℕ} {write : Bool} {data : List RowData} (h0 : s.Keeps κ σ) :
    s.Keeps κ (State.hostPass σ d h fn a size write data) := by
  grind [State.hostPass, State.launch_keeps, State.emit_keeps, State.latchDecerr_keeps, State.keeps_other]

theorem State.hostRequestOp_keeps {σ : State} {d : ℕ} {fn : ℕ} {a : Addr} {size : ℕ} {write : Bool} {data : List RowData} (h0 : s.Keeps κ σ) :
    s.Keeps κ (State.hostRequestOp σ d fn a size write data) := by
  grind [State.hostRequestOp, State.hostPass_keeps, State.fromHost_keeps, State.capture_keeps, State.keeps_other]

theorem State.recordDone_keeps {σ : State} {d : ℕ} {h : ℕ} (h0 : s.Keeps κ σ) :
    s.Keeps κ (State.recordDone σ d h) := by
  grind [State.recordDone, State.modSlice_keeps, State.keeps_other]

theorem State.sliceLookup_keeps {σ : State} {d : ℕ} {h : ℕ} {tag : ℕ} {a : Addr} (h0 : s.Keeps κ σ) (e : State.sliceLookup σ d h tag a = some p) :
    s.Keeps κ p := by
  unfold State.sliceLookup at e
  grind [Option.map_eq_some_iff, Option.bind_eq_some_iff, State.launch_keeps, State.keeps_other]

theorem State.recordFails_keeps {σ : State} {d : ℕ} {h : ℕ} {r0 : CRec} {st : Status} (h0 : s.Keeps κ σ) :
    s.Keeps κ (State.recordFails σ d h r0 st) := by
  grind [State.recordFails, State.raise_keeps, State.modSlice_keeps, State.keeps_other]

theorem State.writeRecord_keeps {σ : State} {d h : ℕ} {r0 : CRec} (h0 : s.Keeps κ σ) : s.Keeps κ (σ.writeRecord d h r0) := by
  unfold State.writeRecord
  try dsimp only
  split
  · exact State.recordFails_keeps (State.modSlice_keeps h0)
  · rename_i e; exact State.sliceLookup_keeps (State.modSlice_keeps h0) e

theorem State.recordLooked_keeps {σ : State} {d : ℕ} {h : ℕ} {st : Status} {row : RowData} (h0 : s.Keeps κ σ) :
    s.Keeps κ (State.recordLooked σ d h st row) := by
  grind [State.recordLooked, State.recordFails_keeps, State.latchOff_keeps, State.launch_keeps, State.keeps_other]

theorem State.recordWriteOp_keeps {σ : State} {d : ℕ} {h : ℕ} (h0 : s.Keeps κ σ) :
    s.Keeps κ (State.recordWriteOp σ d h) := by
  grind [State.recordWriteOp, State.modSlice_keeps, State.writeRecord_keeps, State.admitRecs_keeps, State.keeps_other]

theorem State.recordFailOp_keeps {σ : State} {d : ℕ} {h : ℕ} (h0 : s.Keeps κ σ) :
    s.Keeps κ (State.recordFailOp σ d h) := by
  grind [State.recordFailOp, State.recordFails_keeps, State.dropPkt_keeps, State.keeps_other]

theorem State.cringOp_keeps {σ : State} {w : Src} {d : ℕ} {h : ℕ} {k : ℕ} {v : Word} (h0 : s.Keeps κ σ) :
    s.Keeps κ (State.cringOp σ w d h k v).1 := by
  unfold State.cringOp
  grind [State.modSlice_keeps, State.admitRecs_keeps, State.forgetRecords_keeps, State.keeps_other]

theorem State.retryOp_keeps {σ : State} {w : Src} {d : ℕ} {h : ℕ} (h0 : s.Keeps κ σ) :
    s.Keeps κ (State.retryOp σ w d h).1 := by
  grind [State.retryOp, State.modSlice_keeps, State.keeps_other]

theorem State.irqOp_keeps {σ : State} {w : Src} {d : ℕ} {h : ℕ} {k : ℕ} {v : Word} (h0 : s.Keeps κ σ) :
    s.Keeps κ (State.irqOp σ w d h k v).1 := by
  unfold State.irqOp
  grind [State.modSlice_keeps, State.keeps_other]

theorem State.interruptOp_keeps {σ : State} {d : ℕ} {h : ℕ} {vec : ℕ} (h0 : s.Keeps κ σ) :
    s.Keeps κ (State.interruptOp σ d h vec) := by
  grind [State.interruptOp, State.emit_keeps, State.modSlice_keeps, State.keeps_other]

theorem State.captureFails_keeps {σ : State} {d : ℕ} {st : Status} (h0 : s.Keeps κ σ) :
    s.Keeps κ (State.captureFails σ d st) := by
  grind [State.captureFails, State.raise_keeps, State.modSlice_keeps, State.keeps_other]

theorem State.captureUnit_keeps {σ : State} {d : ℕ} (h0 : s.Keeps κ σ) : s.Keeps κ (σ.captureUnit d) := by
  unfold State.captureUnit
  try dsimp only
  split
  · exact h0
  · split
    · exact h0
    · split
      · exact State.captureFails_keeps h0
      · rename_i e; exact State.sliceLookup_keeps (State.modSlice_keeps h0) e

theorem State.captureLooked_keeps {σ : State} {d : ℕ} {st : Status} {row : RowData} (h0 : s.Keeps κ σ) :
    s.Keeps κ (State.captureLooked σ d st row) := by
  grind [State.captureLooked, State.captureFails_keeps, State.latchOff_keeps, State.modSlice_keeps, State.captureUnit_keeps, State.launch_keeps, State.keeps_other]

theorem State.captureWriteOp_keeps {σ : State} {d : ℕ} {st : Status} (h0 : s.Keeps κ σ) :
    s.Keeps κ (State.captureWriteOp σ d st) := by
  grind [State.captureWriteOp, State.captureUnit_keeps, State.modSlice_keeps, State.captureFails_keeps, State.keeps_other]

theorem State.captureOp_keeps {σ : State} {w : Src} {d : ℕ} {off : ℕ} {v : Word} (h0 : s.Keeps κ σ) :
    s.Keeps κ (State.captureOp σ w d off v).1 := by
  unfold State.captureOp
  grind [State.modSlice_keeps, State.keeps_other]

theorem State.rerunFails_keeps {σ : State} {d : ℕ} {e0 : Status} (h0 : s.Keeps κ σ) :
    s.Keeps κ (State.rerunFails σ d e0) := by
  grind [State.rerunFails, State.raise_keeps, State.modSlice_keeps, State.keeps_other]

theorem State.rerunLooked_keeps {σ : State} {d : ℕ} {st : Status} {row : RowData} (h0 : s.Keeps κ σ) :
    s.Keeps κ (State.rerunLooked σ d st row) := by
  grind [State.rerunLooked, State.rerunFails_keeps, State.latchOff_keeps, State.modSlice_keeps, State.keeps_other]

theorem State.rerunOp_keeps {σ : State} {d : ℕ} {st : Status} {units : List RowData} (h0 : s.Keeps κ σ) :
    s.Keeps κ (State.rerunOp σ d st units) := by
  grind [State.rerunOp, State.modSlice_keeps, State.sliceLookup_keeps, State.rerunFails_keeps, State.doorbellOp_keeps, State.doorstepOp_keeps, State.hostPass_keeps, State.keeps_other]

theorem State.sliceLooked_keeps {σ : State} {d : ℕ} {tag : ℕ} {st : Status} {row : RowData} (h0 : s.Keeps κ σ) :
    s.Keeps κ (State.sliceLooked σ d tag st row) := by
  grind [State.sliceLooked, State.recordLooked_keeps, State.captureLooked_keeps, State.rerunLooked_keeps, State.keeps_other]

theorem State.hostHome_keeps {σ : State} {p0 : Packet} (h0 : s.Keeps κ σ) : s.Keeps κ (σ.hostHome p0) := by
  have h1 : s.Keeps κ (σ.dropPkt p0.id) := State.dropPkt_keeps h0
  unfold State.hostHome
  cases p0.kind <;> dsimp only
  case doorbell =>
    split
    · exact h1
    · exact State.modSlice_keeps h1
  case doorstep => exact State.dropPkt_keeps (State.pieceEnd_keeps h0)
  case record =>
    split
    · exact State.recordDone_keeps h1
    · exact h0
  case capture =>
    split
    · exact h1
    · exact State.raise_keeps (State.modSlice_keeps h1)
  case sliceLookup =>
    split
    · exact h1
    · exact State.sliceLooked_keeps h1
  case reg => split <;> exact State.emit_keeps h1
  all_goals exact State.emit_keeps h1

theorem State.noRtally_keeps {σ : State} {p0 : Packet} (h0 : s.Keeps κ σ) :
    s.Keeps κ (State.noRtally σ p0) := by
  grind [State.noRtally, State.respondAt_keeps, State.modTile_keeps, State.keeps_other]

theorem State.dropChannels_keeps {σ : State} {tile : ℕ} (h0 : s.Keeps κ σ) :
    s.Keeps κ (State.dropChannels σ tile) := by
  grind [State.dropChannels, State.noRtally_keeps, State.modTile_keeps, State.keeps_other, foldl_keeps]

theorem State.reassignBegin_keeps {σ : State} {tile : ℕ} {h : ℕ} (h0 : s.Keeps κ σ) :
    s.Keeps κ (State.reassignBegin σ tile h) := by
  unfold State.reassignBegin
  grind [State.modTile_keeps, State.answerAcc_keeps, State.closeEps_keeps, State.flushBanks_keeps, State.breakLocks_keeps, State.keeps_other, foldl_keeps]

theorem State.reassignStop_keeps {σ : State} {tile : ℕ} (h0 : s.Keeps κ σ) :
    s.Keeps κ (State.reassignStop σ tile) := by
  grind [State.reassignStop, State.modTile_keeps, State.refuseNarrow_keeps, State.dropChannels_keeps, State.refuseAcc_keeps, State.endOp_keeps, State.emit_keeps, State.respondAt_keeps, State.keeps_other, foldl_keeps]

theorem State.reassignStep3_keeps {σ : State} {tile : ℕ} (h0 : s.Keeps κ σ) :
    s.Keeps κ (State.reassignStep3 σ tile) := by
  grind [State.reassignStep3, State.reassignStop_keeps, State.keeps_other]

theorem State.reassignOp_keeps {σ : State} {tile : ℕ} {h : ℕ} (h0 : s.Keeps κ σ) :
    s.Keeps κ (State.reassignOp σ tile h) := by
  grind [State.reassignOp, State.reassignStep3_keeps, State.reassignBegin_keeps, State.keeps_other]

theorem State.reassignEndOp_keeps {σ : State} {tile : ℕ} {h : ℕ} (h0 : s.Keeps κ σ) :
    s.Keeps κ (State.reassignEndOp σ tile h) := by
  grind [State.reassignEndOp, State.modSlice_keeps, State.modTile_keeps, State.keeps_other]

theorem State.tileHhOp_keeps {σ : State} {w : Src} {d : ℕ} {i : ℕ} {v : Word} (h0 : s.Keeps κ σ) :
    s.KeepsO κ (State.tileHhOp σ w d i v) := by
  grind [State.tileHhOp, RegRes.now_keeps, State.modSlice_keeps, State.reassignOp_keeps, State.keeps_other, keepsO_some, keepsO_none, foldl_keeps]

/-! ## Machine/BookOps.lean -/

theorem State.dropped_keeps {σ : State} {d : ℕ} (h0 : s.Keeps κ σ) :
    s.Keeps κ (State.dropped σ d) := by
  grind [State.dropped, State.modSlice_keeps, State.record_keeps, State.keeps_other]

theorem State.appendOp_keeps {σ : State} {d : ℕ} {ring : ℕ} (h0 : s.Keeps κ σ) :
    s.Keeps κ (State.appendOp σ d ring) := by
  grind [State.appendOp, State.modSlice_keeps, State.dropped_keeps, State.raise_keeps, State.keeps_other]

theorem State.recordDropOp_keeps {σ : State} {d : ℕ} {ring : ℕ} (h0 : s.Keeps κ σ) :
    s.Keeps κ (State.recordDropOp σ d ring) := by
  grind [State.recordDropOp, State.dropped_keeps, State.modSlice_keeps, State.keeps_other]

theorem State.bookStart_keeps {σ : State} {d : ℕ} {cmd : ℕ} {v : Word} (h0 : s.Keeps κ σ) :
    s.Keeps κ (State.bookStart σ d cmd v) := by
  grind [State.bookStart, State.modSlice_keeps, State.keeps_other]

theorem State.bookCtrlOp_keeps {σ : State} {w : Src} {d : ℕ} {cmd : ℕ} {v : Word} (h0 : s.Keeps κ σ) :
    s.Keeps κ (State.bookCtrlOp σ w d cmd v).1 := by
  grind [State.bookCtrlOp, State.bookStart_keeps, State.modSlice_keeps, State.keeps_other]

theorem State.bookRead_keeps {σ : State} {d : ℕ} {ring : Bool} (h0 : s.Keeps κ σ) :
    s.Keeps κ (State.bookRead σ d ring).1 := by
  grind [State.bookRead, State.modSlice_keeps, State.keeps_other]

theorem State.bookMapAdd_keeps {σ : State} {d : ℕ} (h0 : s.Keeps κ σ) :
    s.Keeps κ (State.bookMapAdd σ d).1 := by
  grind [State.bookMapAdd, State.keeps_other]

theorem State.bookMapClear_keeps {σ : State} (h0 : s.Keeps κ σ) :
    s.Keeps κ (State.bookMapClear σ).1 := by
  grind [State.bookMapClear, State.keeps_other]

theorem State.bookInit_keeps {σ : State} {d : ℕ} {keepmap : Bool} (h0 : s.Keeps κ σ) :
    s.Keeps κ (State.bookInit σ d keepmap).1 := by
  grind [State.bookInit, State.dropped_keeps, State.modSlice_keeps, State.keeps_other, foldl_keeps]

theorem State.bookEffect_keeps {σ : State} {d : ℕ} {c : BookCmd} (h0 : s.Keeps κ σ) :
    s.Keeps κ (State.bookEffect σ d c).1 := by
  grind [State.bookEffect, State.bookRead_keeps, State.bookMapAdd_keeps, State.bookMapClear_keeps, State.bookInit_keeps, State.keeps_other]

theorem State.bookEndOp_keeps {σ : State} {d : ℕ} (h0 : s.Keeps κ σ) :
    s.Keeps κ (State.bookEndOp σ d) := by
  grind [State.bookEndOp, State.bookEffect_keeps, State.modSlice_keeps, State.keeps_other]

theorem State.bookAckOp_keeps {σ : State} {w : Src} {_d : ℕ} {v : Word} (h0 : s.Keeps κ σ) :
    s.Keeps κ (State.bookAckOp σ w _d v).1 := by
  grind [State.bookAckOp, State.keeps_other]

theorem State.bookRegOp_keeps {σ : State} {w : Src} {d : ℕ} {off : ℕ} {v : Word} (h0 : s.Keeps κ σ) :
    s.Keeps κ (State.bookRegOp σ w d off v).1 := by
  grind [State.bookRegOp, State.bookCtrlOp_keeps, State.bookAckOp_keeps, State.modSlice_keeps, State.keeps_other]

theorem State.startWordOp_keeps {σ : State} {w : Src} {d : ℕ} {v : Word} (h0 : s.Keeps κ σ) :
    s.Keeps κ (State.startWordOp σ w d v).1 := by
  grind [State.startWordOp, State.keeps_other]

theorem State.bookSpaceOp_keeps {σ : State} {w : Src} {d : ℕ} {a : Addr} {size : ℕ} {write : Bool} (h0 : s.Keeps κ σ) :
    s.Keeps κ (State.bookSpaceOp σ w d a size write) := by
  grind [State.bookSpaceOp, State.emit_keeps, State.answerAt_keeps, State.latchDecerr_keeps, State.keeps_other]

/-! ## Machine/StartOps.lean -/

theorem State.lapseRecord_keeps {σ : State} {d : ℕ} {r0 : BookRec} (h0 : s.Keeps κ σ) :
    s.Keeps κ (State.lapseRecord σ d r0) := by
  grind [State.lapseRecord, State.modSlice_keeps, State.keeps_other]

theorem State.lapseEntry_keeps {σ : State} {d : ℕ} (h0 : s.Keeps κ σ) :
    s.Keeps κ (State.lapseEntry σ d) := by
  grind [State.lapseEntry, State.look_keeps, State.modSlice_keeps, State.lapseRecord_keeps, State.keeps_other]

theorem State.lapseCheck_keeps {σ : State} {d : ℕ} (h0 : s.Keeps κ σ) :
    s.Keeps κ (State.lapseCheck σ d) := by
  grind [State.lapseCheck, State.modSlice_keeps, State.lapseEntry_keeps, State.keeps_other]

theorem State.lapseLevel_keeps {σ : State} {d : ℕ} (h0 : s.Keeps κ σ) :
    s.Keeps κ (State.lapseLevel σ d) := by
  grind [State.lapseLevel, State.modSlice_keeps, State.lapseCheck_keeps, State.keeps_other]

theorem State.lapseEndOp_keeps {σ : State} {d : ℕ} (h0 : s.Keeps κ σ) :
    s.Keeps κ (State.lapseEndOp σ d) := by
  grind [State.lapseEndOp, State.look_keeps, State.modSlice_keeps, State.lapseRecord_keeps, State.keeps_other]

theorem State.forceOp_keeps {σ : State} {w : Src} {d : ℕ} {v : Word} (h0 : s.Keeps κ σ) :
    s.Keeps κ (State.forceOp σ w d v).1 := by
  grind [State.forceOp, State.lapseLevel_keeps, State.modSlice_keeps, State.keeps_other]

theorem State.lapseStatusOp_keeps {σ : State} {w : Src} {d : ℕ} {v : Word} (h0 : s.Keeps κ σ) :
    s.Keeps κ (State.lapseStatusOp σ w d v).1 := by
  grind [State.lapseStatusOp, State.modSlice_keeps, State.keeps_other]

theorem State.latchCause_keeps {σ : State} {d : ℕ} {cause : ℕ} (h0 : s.Keeps κ σ) :
    s.Keeps κ (State.latchCause σ d cause) := by
  grind [State.latchCause, State.keeps_other]

theorem State.dropLinks_keeps {σ : State} {d : ℕ} (h0 : s.Keeps κ σ) : s.Keeps κ (σ.dropLinks d) := by
  unfold State.dropLinks
  try dsimp only
  have h1 := foldl_keeps (l := bitsOf (σ.slice d).linkUp) (f := fun s p => s.linkState (peer s.dies d p).1 (peer s.dies d p).2 false 2)
    (fun _ _ h => State.linkState_keeps h) (foldl_keeps (l := List.range 8) (f := fun s p => s.loseLink d p) (fun _ _ h => State.loseLink_keeps h) h0)
  refine foldl_keeps (fun _ _ h => State.endRing_keeps h) ?_
  split
  · exact h1
  · refine foldl_keeps (fun a e h => ?_) h1
    split
    · exact h
    · exact State.modSlice_keeps h

theorem State.slicesDown_keeps {σ : State} {d : ℕ} (h0 : s.Keeps false σ) : s.Keeps false (σ.slicesDown d) := by
  unfold State.slicesDown
  try dsimp only
  exact State.modSlice_keeps (foldl_keeps (fun _ _ h => State.breakLocks_keeps h) (State.keeps_banks _ _ _ _ _ _ _ _ _ _ _
    (State.dropLinks_keeps h0) (Tbl.cut_wf _ _) (Keys.cut_wf _ _) (Keys.cut_wf _ _)))

theorem State.resetSlice_keeps {σ : State} {d : ℕ} {cause : ℕ} (h0 : s.Keeps false σ) :
    s.Keeps false (State.resetSlice σ d cause) := by
  grind [State.resetSlice, State.modSlice_keeps, State.slicesDown_keeps, State.latchCause_keeps, State.keeps_other]

theorem State.sliceResetOp_keeps {σ : State} {d : ℕ} {cause : ℕ} (h0 : s.Keeps false σ) :
    s.Keeps false (State.sliceResetOp σ d cause) := by
  grind [State.sliceResetOp, State.resetSlice_keeps, State.keeps_other, foldl_keeps]

theorem State.srstOp_keeps {σ : State} {w : Src} {d : ℕ} {v : Word} (h0 : s.Keeps κ σ) :
    s.Keeps κ (State.srstOp σ w d v).1 := by
  grind [State.srstOp, State.modSlice_keeps, State.keeps_other]

theorem State.powerOffOp_keeps {σ : State} {d : ℕ} (h0 : s.Keeps false σ) :
    s.Keeps false (State.powerOffOp σ d) := by
  grind [State.powerOffOp, State.modSlice_keeps, State.slicesDown_keeps, State.keeps_other]

theorem State.supplyResetOp_keeps {σ : State} {d : ℕ} (h0 : s.Keeps false σ) :
    s.Keeps false (State.supplyResetOp σ d) := by
  grind [State.supplyResetOp, State.resetSlice_keeps, State.modSlice_keeps, State.keeps_other]

theorem State.monitorOp_keeps {σ : State} {d : ℕ} {mv : ℕ} {degC : ℤ} (h0 : s.Keeps false σ) :
    s.Keeps false (State.monitorOp σ d mv degC) := by
  grind [State.monitorOp, State.modSlice_keeps, State.resetSlice_keeps, State.lapseLevel_keeps, State.keeps_other]

theorem State.supplyGoodOp_keeps {σ : State} {d : ℕ} (h0 : s.Keeps κ σ) :
    s.Keeps κ (State.supplyGoodOp σ d) := by
  grind [State.supplyGoodOp, State.latchCause_keeps, State.modSlice_keeps, State.keeps_other]

theorem State.settledOp_keeps {σ : State} {d : ℕ} (h0 : s.Keeps κ σ) :
    s.Keeps κ (State.settledOp σ d) := by
  grind [State.settledOp, State.lapseLevel_keeps, State.modSlice_keeps, State.keeps_other]

theorem State.startMarch_keeps {σ : State} {d : ℕ} (h0 : s.Keeps κ σ) :
    s.Keeps κ (State.startMarch σ d) := by
  grind [State.startMarch, State.modSlice_keeps, State.modTiles_keeps, State.keeps_other]

theorem State.owedRecords_keeps {σ : State} {d : ℕ} (h0 : s.Keeps κ σ) :
    s.Keeps κ (State.owedRecords σ d) := by
  grind [State.owedRecords, State.modSlice_keeps, State.keeps_other, foldl_keeps]

theorem State.bookCheckOp_keeps {σ : State} {d : ℕ} (h0 : s.Keeps κ σ) :
    s.Keeps κ (State.bookCheckOp σ d) := by
  grind [State.bookCheckOp, State.startMarch_keeps, State.owedRecords_keeps, State.modSlice_keeps, State.record_keeps, State.keeps_other]

theorem State.repairRecord_keeps {σ : State} {d : ℕ} {e0 : BitVec 64} {k : ℕ} {reason : ℕ} (h0 : s.Keeps κ σ) :
    s.Keeps κ (State.repairRecord σ d e0 k reason) := by
  grind [State.repairRecord, State.record_keeps, State.keeps_other]

theorem State.applyEntry_keeps {σ : State} {d : ℕ} {k : ℕ} (h0 : s.Keeps κ σ) :
    s.Keeps κ (State.applyEntry σ d k) := by
  grind [State.applyEntry, State.modTile_keeps, State.repairRecord_keeps, State.setTile_keeps, State.keeps_other]

theorem State.mapLoadOp_keeps {σ : State} {d : ℕ} (h0 : s.Keeps κ σ) :
    s.Keeps κ (State.mapLoadOp σ d) := by
  grind [State.mapLoadOp, State.repairRecord_keeps, State.modSlice_keeps, State.applyEntry_keeps, State.startMarch_keeps, State.keeps_other, foldl_keeps]

theorem State.copyBinds_keeps {σ : State} {e0 : ℕ} {d : ℕ} (h0 : s.Keeps κ σ) :
    s.Keeps κ (State.copyBinds σ e0 d) := by
  grind [State.copyBinds, State.modSlice_keeps, State.keeps_other]

theorem State.readyOp_keeps {σ : State} {d : ℕ} (h0 : s.Keeps false σ) : s.Keeps false (σ.readyOp d) := by
  unfold State.readyOp
  try dsimp only
  split
  · exact h0
  · refine State.modSlice_keeps ?_
    have h1 := State.modTiles_keeps (d := d) (f := fun T => T.started (bit (σ.slice d).start 2))
      (State.keeps_banks σ.ticks σ.fresh σ.nextId _ _ _ σ.slices σ.net σ.notices σ.book σ.out h0 id id
        (Keys.cut_wf (validKey (256 * d) 14 0) (validKey (256 * d + 256) 14 0)))
    split
    · exact h1
    · split
      · exact foldl_keeps (fun _ _ h => State.copyBinds_keeps h) (State.copyBinds_keeps h1)
      · exact State.copyBinds_keeps h1

theorem State.trainedOp_keeps {σ : State} {d : ℕ} {port : ℕ} {up : Bool} (h0 : s.Keeps κ σ) :
    s.Keeps κ (State.trainedOp σ d port up) := by
  grind [State.trainedOp, State.linkState_keeps, State.keeps_other]

theorem State.coreResetOp_keeps {σ : State} {core : ℕ} (h0 : s.Keeps κ σ) :
    s.Keeps κ (State.coreResetOp σ core) := by
  grind [State.coreResetOp, State.modSlices_keeps, State.modSlice_keeps, State.launch_keeps, State.keeps_other, foldl_keeps]

theorem State.noticeOp_keeps {σ : State} {tile : ℕ} {core : ℕ} (h0 : s.Keeps κ σ) :
    s.Keeps κ (State.noticeOp σ tile core) := by
  grind [State.noticeOp, State.breakLocks_keeps, State.closeEps_keeps, State.keeps_other]

/-! ## Machine/Regs.lean -/

theorem State.roTile_keeps {σ : State} {w : Src} {tile : ℕ} (h0 : s.Keeps κ σ) :
    s.Keeps κ (State.roTile σ w tile).1 := by
  grind [State.roTile, State.keeps_other]

theorem State.prioOp_keeps {σ : State} {w : Src} {tile : ℕ} {v : Word} (h0 : s.Keeps κ σ) :
    s.Keeps κ (State.prioOp σ w tile v).1 := by
  grind [State.prioOp, State.modTile_keeps, State.keeps_other]

theorem State.rotateMaskOp_keeps {σ : State} {w : Src} {tile : ℕ} {b : Bool} {v : Word} (h0 : s.Keeps κ σ) :
    s.Keeps κ (State.rotateMaskOp σ w tile b v).1 := by
  grind [State.rotateMaskOp, State.modTile_keeps, State.keeps_other]

theorem State.confOp_keeps {σ : State} {w : Src} {tile : ℕ} {i : ℕ} {v : Word} (h0 : s.Keeps κ σ) :
    s.Keeps κ (State.confOp σ w tile i v).1 := by
  grind [State.confOp, State.modTile_keeps, State.keeps_other]

theorem State.deedFltOp_keeps {σ : State} {w : Src} {tile : ℕ} {v : Word} (h0 : s.Keeps κ σ) :
    s.Keeps κ (State.deedFltOp σ w tile v).1 := by
  grind [State.deedFltOp, State.modTile_keeps, State.keeps_other]

theorem State.tileWrite_keeps {σ : State} {w : Src} {tile : ℕ} {off : ℕ} {v : Word} (h0 : s.Keeps false σ) :
    s.KeepsO false (State.tileWrite σ w tile off v) := by
  unfold State.tileWrite
  with_reducible repeat' refine keepsO_ite ?_ ?_
  all_goals grind [RegRes.now_keeps, State.ctrlOp_keeps, State.statusOp_keeps, RegRes.orWait_keeps, State.sweepOp_keeps, State.deedWriteOp_keeps, State.commonsWriteOp_keeps, State.prioOp_keeps, State.rotateMaskOp_keeps, State.rotateGoOp_keeps, State.gleanOp_keeps, State.mirrorOp_keeps, State.retireOp_keeps, State.confOp_keeps, State.deedFltOp_keeps, State.lockOp_keeps, State.gateOp_keeps, State.lateOp_keeps, State.tallyOp_keeps, State.tallyModeOp_keeps, State.tallyLOp_keeps, State.syncFaultWriteOp_keeps, State.bellOp_keeps, State.wmOp_keeps, State.chCtrlOp_keeps, State.chBaseOp_keeps, State.chDropOp_keeps, State.roTile_keeps, State.chanRegOp_keeps, State.mcStallRegOp_keeps, State.stPrioOp_keeps, State.mcLagOp_keeps, State.testOp_keeps, State.testParOp_keeps, State.marchOp_keeps, State.marchFailOp_keeps, State.remapRowOp_keeps, State.wdogOp_keeps, State.replaysOp_keeps, State.poisonsOp_keeps, State.keeps_other, keepsO_some, keepsO_none]

theorem State.readLook_keeps {σ : State} {off : ℕ} (h0 : s.Keeps κ σ) :
    s.Keeps κ (State.readLook σ off) := by
  grind [State.readLook, State.look_keeps, State.keeps_other]

theorem State.tileAcc_keeps {σ : State} {tile : ℕ} {a : RegAcc} (h0 : s.Keeps false σ) :
    s.KeepsO false (State.tileAcc σ tile a).1 := by
  grind [State.tileAcc, State.tileWrite_keeps, RegRes.now_keeps, State.readLook_keeps, State.keeps_other, keepsO_some, keepsO_none]

theorem State.roSlice_keeps {σ : State} {w : Src} {off : ℕ} (h0 : s.Keeps κ σ) :
    s.Keeps κ (State.roSlice σ w off).1 := by
  grind [State.roSlice, State.keeps_other]

theorem State.sliceM_keeps {σ : State} {w : Src} {d : ℕ} {f : Slice → Slice} (h0 : s.Keeps κ σ) :
    s.Keeps κ (State.sliceM σ w d f).1 := by
  grind [State.sliceM, State.modSlice_keeps, State.keeps_other]

theorem State.rearmOp_keeps {σ : State} {w : Src} {d : ℕ} {v : Word} (h0 : s.Keeps κ σ) :
    s.Keeps κ (State.rearmOp σ w d v).1 := by
  grind [State.rearmOp, State.sliceM_keeps, State.keeps_other]

theorem State.sliceRotateOp_keeps {σ : State} {w : Src} {d : ℕ} {v : Word} (h0 : s.Keeps κ σ) :
    s.Keeps κ (State.sliceRotateOp σ w d v).1 := by
  grind [State.sliceRotateOp, State.modSlice_keeps, State.modTile_keeps, State.keeps_other, foldl_keeps]

theorem State.tileRotateOp_keeps {σ : State} {tile : ℕ} (h0 : s.Keeps κ σ) :
    s.Keeps κ (State.tileRotateOp σ tile) := by
  grind [State.tileRotateOp, State.rotateAccept_keeps, State.modTile_keeps, State.modSlice_keeps, State.keeps_other]

theorem State.sliceRotateDoneOp_keeps {σ : State} {d : ℕ} (h0 : s.Keeps κ σ) :
    s.Keeps κ (State.sliceRotateDoneOp σ d) := by
  grind [State.sliceRotateDoneOp, State.modSlice_keeps, State.keeps_other]

theorem State.tileMaskOp_keeps {σ : State} {w : Src} {d : ℕ} {k : ℕ} {v : Word} (h0 : s.Keeps κ σ) :
    s.Keeps κ (State.tileMaskOp σ w d k v).1 := by
  grind [State.tileMaskOp, State.sliceM_keeps, State.keeps_other]

theorem State.sliceWrite_keeps {σ : State} {w : Src} {d : ℕ} {off : ℕ} {v : Word} (h0 : s.Keeps κ σ) :
    s.KeepsO κ (State.sliceWrite σ w d off v) := by
  unfold State.sliceWrite
  with_reducible repeat' refine keepsO_ite ?_ ?_
  all_goals grind [RegRes.now_keeps, State.srstOp_keeps, State.startWordOp_keeps, State.lapseStatusOp_keeps, State.sliceM_keeps, State.forceOp_keeps, State.hhBindOp_keeps, State.titheOp_keeps, State.unboundOp_keeps, State.bindReqOp_keeps, State.routeOp_keeps, State.rearmOp_keeps, State.sliceRotateOp_keeps, State.tileMaskOp_keeps, State.bookRegOp_keeps, State.roSlice_keeps, State.captureOp_keeps, State.cringOp_keeps, State.irqOp_keeps, State.tileHhOp_keeps, State.keeps_other, keepsO_some, keepsO_none]

theorem State.sliceAcc_keeps {σ : State} {d : ℕ} {a : RegAcc} (h0 : s.Keeps κ σ) :
    s.KeepsO κ (State.sliceAcc σ d a).1 := by
  grind [State.sliceAcc, State.sliceWrite_keeps, RegRes.now_keeps, State.keeps_other, keepsO_some, keepsO_none]

theorem State.holeAcc_keeps {σ : State} {d : ℕ} {base : ℕ} {a : RegAcc} (h0 : s.Keeps κ σ) :
    s.Keeps κ (State.holeAcc σ d base a) := by
  grind [State.holeAcc, State.answerAcc_keeps, State.latchDecerr_keeps, State.keeps_other]

theorem State.atTileBlock_keeps {σ : State} {tile : ℕ} {a : RegAcc} (h0 : s.Keeps false σ) :
    s.Keeps false (State.atTileBlock σ tile a) := by
  grind [State.atTileBlock, State.answerAcc_keeps, State.holeAcc_keeps, State.acceptAcc_keeps, State.tileAcc_keeps, State.keeps_other]

theorem State.atSliceBlock_keeps {σ : State} {d : ℕ} {a : RegAcc} (h0 : s.Keeps κ σ) :
    s.Keeps κ (State.atSliceBlock σ d a) := by
  grind [State.atSliceBlock, State.answerAcc_keeps, State.holeAcc_keeps, State.acceptSliceAcc_keeps, State.sliceAcc_keeps, State.keeps_other]

theorem State.regOne_keeps {σ : State} {w : Src} {addr : Addr} {write : Bool} {v : Word} {half : ℕ} {pkt : Option ℕ} (h0 : s.Keeps false σ) :
    s.Keeps false (State.regOne σ w addr write v half pkt) := by
  grind [State.regOne, State.atTileBlock_keeps, State.atSliceBlock_keeps, State.keeps_other]

theorem State.issueReg_keeps {σ : State} {w : Src} {addr : Addr} {size : ℕ} {write : Bool} {data : BitVec 64} (h0 : s.Keeps κ σ) :
    s.Keeps κ (State.issueReg σ w addr size write data) := by
  unfold State.issueReg
  grind [State.hostRequestOp_keeps, State.modTile_keeps, State.launch_keeps, State.answerReg_keeps, State.latchDecerr_keeps, State.keeps_other]

theorem State.handed_keeps {σ : State} {id : ℕ} (h0 : s.Keeps κ σ) :
    s.Keeps κ (State.handed σ id) := by
  grind [State.handed, State.modPkt_keeps, State.keeps_other]

theorem State.busPerform_keeps {σ : State} {w : Src} {p0 : Packet} (h0 : s.Keeps false σ) :
    s.Keeps false (State.busPerform σ w p0) := by
  grind [State.busPerform, State.handed_keeps, State.regOne_keeps, State.keeps_other]

theorem State.busAccess_keeps {σ : State} {w : Src} {addr : Addr} {size : ℕ} {write : Bool} {data : BitVec 64} (h0 : s.Keeps false σ) :
    s.Keeps false (State.busAccess σ w addr size write data) := by
  unfold State.busAccess
  grind [State.regOne_keeps, State.issueReg_keeps, State.busPerform_keeps, State.keeps_other]

theorem State.drainTile_keeps {σ : State} {tile n : ℕ} (h0 : s.Keeps false σ) : s.Keeps false (σ.drainTile tile n) := by
  induction n generalizing σ with
  | zero => exact h0
  | succ n ih =>
    unfold State.drainTile
    try dsimp only
    split
    · exact h0
    · split
      · exact h0
      · split
        · exact h0
        · exact ih (State.modTile_keeps (State.atTileBlock_keeps (State.modTile_keeps h0)))

theorem State.drainSlice_keeps {σ : State} {d n : ℕ} (h0 : s.Keeps false σ) : s.Keeps false (σ.drainSlice d n) := by
  induction n generalizing σ with
  | zero => exact h0
  | succ n ih =>
    unfold State.drainSlice
    try dsimp only
    split
    · exact h0
    · split
      · exact h0
      · exact ih (State.modSlice_keeps (State.atSliceBlock_keeps (State.modSlice_keeps h0)))

theorem State.freed_keeps {σ : State} {tile : ℕ} (h0 : s.Keeps false σ) :
    s.Keeps false (State.freed σ tile) := by
  grind [State.freed, State.drainTile_keeps, State.keeps_other]

theorem State.channelOps_keeps {σ : State} {tile : ℕ} {ops : List TOp} (h0 : s.Keeps κ σ) :
    s.Keeps κ (State.channelOps σ tile ops) := by
  grind [State.channelOps, State.modTile_keeps, State.sendOp_keeps, State.fillTaken_keeps, State.homeAdded_keeps, State.doneTaken_keeps, State.recvMeets_keeps, State.keeps_other, foldl_keeps]

theorem State.boundaryOp_keeps {σ : State} {tile : ℕ} (h0 : s.Keeps false σ) :
    s.Keeps false (State.boundaryOp σ tile) := by
  unfold State.boundaryOp
  split <;> grind [State.boundary_keeps, State.channelOps_keeps, State.freed_keeps, State.answerAcc_keeps, State.modTile_keeps, State.keeps_other]

theorem State.reassignDoneOp_keeps {σ : State} {tile : ℕ} (h0 : s.Keeps false σ) :
    s.Keeps false (State.reassignDoneOp σ tile) := by
  unfold State.reassignDoneOp
  split <;> grind [State.freed_keeps, State.reassignEndOp_keeps, State.answerAcc_keeps, State.modSlice_keeps, State.drainSlice_keeps, State.keeps_other]

theorem State.regwriteOp_keeps {σ : State} {tile : ℕ} {n : ℕ} (h0 : s.Keeps false σ) :
    s.Keeps false (State.regwriteOp σ tile n) := by
  grind [State.regwriteOp, State.failNow_keeps, State.failDefault_keeps, State.modChan_keeps, State.atTileBlock_keeps, State.launch_keeps, State.keeps_other]

theorem State.fromSrc_keeps {σ : State} {w : Src} {r0 : Result} (h0 : s.Keeps κ σ) (h1 : s.KeepsR κ r0) :
    s.KeepsR κ (State.fromSrc σ w r0) := by
  unfold State.fromSrc
  grind [State.fromHost_keeps, State.keeps_other, keepsR_next]

theorem State.named_keeps {σ : State} {b : Bool} {r0 : Result} (h0 : s.Keeps κ σ) (h1 : s.KeepsR κ r0) :
    s.KeepsR κ (State.named σ b r0) := by
  grind [State.named, State.keeps_other, keepsR_next]

theorem State.byBus_keeps {σ : State} {w : Src} {d : ℕ} {addr : Addr} {v : Word} {f : ℕ → State} (h0 : s.Keeps κ σ) (h1 : ∀ x0, s.Keeps κ (f x0)) :
    s.Keeps κ (State.byBus σ w d addr v f) := by
  grind [State.byBus, State.handed_keeps, State.issueReg_keeps, State.keeps_other]

theorem State.tileReg_keeps {σ : State} {w : Src} {tile : ℕ} {off : ℕ} {v : Word} {r0 : RegRes} (h0 : s.Keeps κ σ) (h1 : s.KeepsO κ r0) :
    s.KeepsR κ (State.tileReg σ w tile off v r0) := by
  grind [State.tileReg, State.fromSrc_keeps, State.acceptTile_keeps, State.byBus_keeps, State.keeps_other, keepsR_next]

theorem State.sliceReg_keeps {σ : State} {w : Src} {d : ℕ} {off : ℕ} {v : Word} {r0 : RegRes} (h0 : s.Keeps κ σ) (h1 : s.KeepsO κ r0) :
    s.KeepsR κ (State.sliceReg σ w d off v r0) := by
  grind [State.sliceReg, State.fromSrc_keeps, State.byBus_keeps, State.acceptSlice_keeps, State.keeps_other, keepsR_next]

end Sys2Proof.Machine
end

