-- ==== Sys2Proof/Laws/KeepsExec.lean ====
section
/-!
SUPPORT. What the operations of the meaning of each command keep (Laws/Keeps.lean says what that is).
-/

namespace Sys2Proof.Machine

set_option Elab.async false

open Host

variable {s : State} {κ : Bool}

/-! ## Machine/Start.lean -/

theorem execSupplyGood_keeps {die : ℕ} {σ : State} (h0 : s.Keeps κ σ) :
    s.KeepsR κ (execSupplyGood die σ) := by
  grind [execSupplyGood, State.atAnyDie_keeps, State.supplyGoodOp_keeps, State.keeps_other, keepsR_next]

theorem execSettlingDelayExpiry_keeps {die : ℕ} {σ : State} (h0 : s.Keeps κ σ) :
    s.KeepsR κ (execSettlingDelayExpiry die σ) := by
  grind [execSettlingDelayExpiry, State.atAnyDie_keeps, State.settledOp_keeps, State.keeps_other, keepsR_next]

theorem execBookCheck_keeps {die : ℕ} {σ : State} (h0 : s.Keeps κ σ) :
    s.KeepsR κ (execBookCheck die σ) := by
  grind [execBookCheck, State.atDie_keeps, State.bookCheckOp_keeps, State.keeps_other, keepsR_next]

theorem execRepairMapLoad_keeps {die : ℕ} {σ : State} (h0 : s.Keeps κ σ) :
    s.KeepsR κ (execRepairMapLoad die σ) := by
  grind [execRepairMapLoad, State.atDie_keeps, State.mapLoadOp_keeps, State.keeps_other, keepsR_next]

theorem execStartupInitialState_keeps {die : ℕ} {σ : State} (h0 : s.Keeps false σ) :
    s.KeepsR false (execStartupInitialState die σ) := by
  grind [execStartupInitialState, State.atDie_keeps, State.readyOp_keeps, State.keeps_other, keepsR_next]

theorem execSliceReset_keeps {die : ℕ} {cause : ℕ} {σ : State} (h0 : s.Keeps false σ) :
    s.KeepsR false (execSliceReset die cause σ) := by
  grind [execSliceReset, State.atAnyDie_keeps, State.sliceResetOp_keeps, State.keeps_other, keepsR_next]

theorem execSupplyReset_keeps {die : ℕ} {σ : State} (h0 : s.Keeps false σ) :
    s.KeepsR false (execSupplyReset die σ) := by
  grind [execSupplyReset, State.atAnyDie_keeps, State.supplyResetOp_keeps, State.keeps_other, keepsR_next]

theorem execSrst_keeps {w : Src} {die : ℕ} {value : Word} {σ : State} (h0 : s.Keeps κ σ) :
    s.KeepsR κ (execSrst w die value σ) := by
  grind [execSrst, State.sliceReg_keeps, RegRes.now_keeps, State.srstOp_keeps, State.keeps_other, keepsR_next]

theorem execDiePowerOff_keeps {die : ℕ} {σ : State} (h0 : s.Keeps false σ) :
    s.KeepsR false (execDiePowerOff die σ) := by
  grind [execDiePowerOff, State.atAnyDie_keeps, State.powerOffOp_keeps, State.keeps_other, keepsR_next]

theorem execLinkTraining_keeps {die : ℕ} {port : ℕ} {up : Bool} {σ : State} (h0 : s.Keeps κ σ) :
    s.KeepsR κ (execLinkTraining die port up σ) := by
  grind [execLinkTraining, State.atAnyDie_keeps, State.trainedOp_keeps, State.keeps_other, keepsR_next]

theorem execMonitorCrossing_keeps {die : ℕ} {mv : ℕ} {degC : ℤ} {σ : State} (h0 : s.Keeps false σ) :
    s.KeepsR false (execMonitorCrossing die mv degC σ) := by
  grind [execMonitorCrossing, State.atAnyDie_keeps, State.monitorOp_keeps, State.keeps_other, keepsR_next]

theorem execForceLapse_keeps {w : Src} {die : ℕ} {value : Word} {σ : State} (h0 : s.Keeps κ σ) :
    s.KeepsR κ (execForceLapse w die value σ) := by
  grind [execForceLapse, State.sliceReg_keeps, RegRes.now_keeps, State.forceOp_keeps, State.keeps_other, keepsR_next]

theorem execLapseEnd_keeps {die : ℕ} {σ : State} (h0 : s.Keeps κ σ) :
    s.KeepsR κ (execLapseEnd die σ) := by
  grind [execLapseEnd, State.atDie_keeps, State.lapseEndOp_keeps, State.keeps_other, keepsR_next]

/-! ## Machine/Banks.lean -/

theorem State.coreRequest_keeps {σ : State} {tile : ℕ} {a : Access} (h0 : s.Keeps κ σ) :
    s.Keeps κ (State.coreRequest σ tile a) := by
  grind [State.coreRequest, State.takeId_keeps, State.deliver_keeps, State.modTile_keeps, State.offer_keeps, State.keeps_other]

theorem State.portRequest_keeps {σ : State} {tile : ℕ} {id : ℕ} (h0 : s.Keeps κ σ) :
    s.Keeps κ (State.portRequest σ tile id) := by
  grind [State.portRequest, State.reach_keeps, State.keeps_other]

theorem execBankRequest_keeps {tile : ℕ} {rq : BankReq} {σ : State} (h0 : s.Keeps κ σ) :
    s.KeepsR κ (execBankRequest tile rq σ) := by
  unfold execBankRequest
  grind [State.atTile_keeps, State.portRequest_keeps, State.emit_keeps, State.coreRequest_keeps, State.keeps_other, keepsR_next]

theorem State.startBeat_keeps {σ : State} {tile : ℕ} {bank : ℕ} (h0 : s.Keeps κ σ) :
    s.Keeps κ (State.startBeat σ tile bank) := by
  grind [State.startBeat, State.promote_keeps, State.modTile_keeps, State.keeps_other]

theorem execBankBeat_keeps {tile : ℕ} {bank : ℕ} {σ : State} (h0 : s.Keeps κ σ) :
    s.KeepsR κ (execBankBeat tile bank σ) := by
  grind [execBankBeat, State.atTile_keeps, State.startBeat_keeps, State.keeps_other, keepsR_next]

theorem State.readBeat_keeps {σ : State} {tile : ℕ} {a : Access} {u1 : List ByteMask} {u2 : List ByteMask} (h0 : s.Keeps false σ) :
    s.Keeps false (State.readBeat σ tile a u1 u2) := by
  grind [State.readBeat, readCells_keeps, State.issueSends_keeps, State.beatDone_keeps, State.keeps_other]

theorem State.romRead_keeps {σ : State} {tile : ℕ} {a : Access} {u1 : ByteMask} {u2 : ByteMask} (h0 : s.Keeps κ σ) :
    s.Keeps κ (State.romRead σ tile a u1 u2) := by
  grind [State.romRead, State.beatDone_keeps, State.keeps_other]

theorem State.flushRead_keeps {σ : State} {tile : ℕ} {a : Access} {u1 : ByteMask} {u2 : ByteMask} (h0 : s.Keeps false σ) :
    s.Keeps false (State.flushRead σ tile a u1 u2) := by
  grind [State.flushRead, State.readRow_keeps, State.modTile_keeps, State.drainNarrow_keeps, State.flushFails_keeps, State.keeps_other]

theorem State.readComplete_keeps {σ : State} {tile : ℕ} {acc : ℕ} {u1 : List ByteMask} {u2 : List ByteMask} (h0 : s.Keeps false σ) :
    s.Keeps false (State.readComplete σ tile acc u1 u2) := by
  grind [State.readComplete, State.flushRead_keeps, State.romRead_keeps, State.readBeat_keeps, State.keeps_other]

theorem execBankReadComplete_keeps {tile : ℕ} {acc : ℕ} {upset : List ByteMask} {replayUpset : List ByteMask} {σ : State} (h0 : s.Keeps false σ) :
    s.KeepsR false (execBankReadComplete tile acc upset replayUpset σ) := by
  grind [execBankReadComplete, State.atTile_keeps, State.readComplete_keeps, State.keeps_other, keepsR_next]

theorem State.writeCommit_keeps {σ : State} {tile : ℕ} {acc : ℕ} (h0 : s.Keeps false σ) :
    s.Keeps false (State.writeCommit σ tile acc) := by
  grind [State.writeCommit, writeCells_keeps, State.beatDone_keeps, State.keeps_other]

theorem execBankWriteCommit_keeps {tile : ℕ} {acc : ℕ} {σ : State} (h0 : s.Keeps false σ) :
    s.KeepsR false (execBankWriteCommit tile acc σ) := by
  grind [execBankWriteCommit, State.atTile_keeps, State.writeCommit_keeps, State.keeps_other, keepsR_next]

theorem execNarrowWrite_keeps {tile : ℕ} {off : ℕ} {size : ℕ} {data : BitVec 64} {qos : ℕ} {σ : State} (h0 : s.Keeps κ σ) :
    s.KeepsR κ (execNarrowWrite tile off size data qos σ) := by
  grind [execNarrowWrite, State.emit_keeps, State.takeId_keeps, State.narrowWrite_keeps, State.keeps_other, keepsR_next]

theorem State.idleFlush_keeps {σ : State} {tile : ℕ} {bank : ℕ} {row : ℕ} (h0 : s.Keeps κ σ) :
    s.Keeps κ (State.idleFlush σ tile bank row) := by
  grind [State.idleFlush, State.startFlush_keeps, State.keeps_other]

theorem execMergeIdleFlush_keeps {tile : ℕ} {bank : ℕ} {row : ℕ} {σ : State} (h0 : s.Keeps κ σ) :
    s.KeepsR κ (execMergeIdleFlush tile bank row σ) := by
  grind [execMergeIdleFlush, State.atTile_keeps, State.idleFlush_keeps, State.keeps_other, keepsR_next]

theorem State.flushCommit_keeps {σ : State} {tile : ℕ} {bank : ℕ} {row : ℕ} {u1 : ByteMask} {u2 : ByteMask} (h0 : s.Keeps false σ) :
    s.Keeps false (State.flushCommit σ tile bank row u1 u2) := by
  grind [State.flushCommit, State.reassignStep3_keeps, State.drainNarrow_keeps, State.flushEnd_keeps, State.keeps_other]

theorem execMergeFlushCommit_keeps {tile : ℕ} {bank : ℕ} {row : ℕ} {upset : ByteMask} {replayUpset : ByteMask} {σ : State} (h0 : s.Keeps false σ) :
    s.KeepsR false (execMergeFlushCommit tile bank row upset replayUpset σ) := by
  grind [execMergeFlushCommit, State.atTile_keeps, State.flushCommit_keeps, State.keeps_other, keepsR_next]

theorem execDeedWrite_keeps {w : Src} {tile : ℕ} {bank : ℕ} {value : Word} {σ : State} (h0 : s.Keeps κ σ) :
    s.KeepsR κ (execDeedWrite w tile bank value σ) := by
  grind [execDeedWrite, State.named_keeps, State.tileReg_keeps, RegRes.orWait_keeps, State.deedWriteOp_keeps, State.keeps_other, keepsR_next]

theorem execCommonsWrite_keeps {w : Src} {tile : ℕ} {value : Word} {σ : State} (h0 : s.Keeps κ σ) :
    s.KeepsR κ (execCommonsWrite w tile value σ) := by
  grind [execCommonsWrite, State.tileReg_keeps, RegRes.orWait_keeps, State.commonsWriteOp_keeps, State.keeps_other, keepsR_next]

theorem execDeedAdmissionStop_keeps {tile : ℕ} {σ : State} (h0 : s.Keeps κ σ) :
    s.KeepsR κ (execDeedAdmissionStop tile σ) := by
  grind [execDeedAdmissionStop, State.atTile_keeps, State.deedStopOp_keeps, State.keeps_other, keepsR_next]

theorem State.effectPoint_keeps {σ : State} {tile : ℕ} {rotate : Bool} (h0 : s.Keeps false σ) :
    s.Keeps false (State.effectPoint σ tile rotate) := by
  grind [State.effectPoint, State.freed_keeps, State.deedEffectOp_keeps, State.keeps_other]

theorem execDeedEffectPoint_keeps {tile : ℕ} {σ : State} (h0 : s.Keeps false σ) :
    s.KeepsR false (execDeedEffectPoint tile σ) := by
  grind [execDeedEffectPoint, State.atTile_keeps, State.effectPoint_keeps, State.keeps_other, keepsR_next]

theorem execRotateGo_keeps {w : Src} {tile : ℕ} {value : Word} {σ : State} (h0 : s.Keeps κ σ) :
    s.KeepsR κ (execRotateGo w tile value σ) := by
  grind [execRotateGo, State.tileReg_keeps, RegRes.orWait_keeps, State.rotateGoOp_keeps, State.keeps_other, keepsR_next]

theorem execRotationEffectPoint_keeps {tile : ℕ} {σ : State} (h0 : s.Keeps false σ) :
    s.KeepsR false (execRotationEffectPoint tile σ) := by
  grind [execRotationEffectPoint, State.atTile_keeps, State.effectPoint_keeps, State.keeps_other, keepsR_next]

theorem execSliceRotateGo_keeps {w : Src} {die : ℕ} {value : Word} {σ : State} (h0 : s.Keeps κ σ) :
    s.KeepsR κ (execSliceRotateGo w die value σ) := by
  grind [execSliceRotateGo, State.sliceReg_keeps, RegRes.now_keeps, State.sliceRotateOp_keeps, State.keeps_other, keepsR_next]

theorem execTileRotateRequest_keeps {tile : ℕ} {σ : State} (h0 : s.Keeps κ σ) :
    s.KeepsR κ (execTileRotateRequest tile σ) := by
  grind [execTileRotateRequest, State.atTile_keeps, State.tileRotateOp_keeps, State.keeps_other, keepsR_next]

theorem execSliceRotateDone_keeps {die : ℕ} {σ : State} (h0 : s.Keeps κ σ) :
    s.KeepsR κ (execSliceRotateDone die σ) := by
  grind [execSliceRotateDone, State.atDie_keeps, State.sliceRotateDoneOp_keeps, State.keeps_other, keepsR_next]

theorem execRetireBank_keeps {w : Src} {tile : ℕ} {value : Word} {σ : State} (h0 : s.Keeps κ σ) :
    s.KeepsR κ (execRetireBank w tile value σ) := by
  grind [execRetireBank, State.tileReg_keeps, RegRes.orWait_keeps, State.retireOp_keeps, State.keeps_other, keepsR_next]

theorem execSweep_keeps {w : Src} {tile : ℕ} {value : Word} {σ : State} (h0 : s.Keeps κ σ) :
    s.KeepsR κ (execSweep w tile value σ) := by
  grind [execSweep, State.tileReg_keeps, RegRes.orWait_keeps, State.sweepOp_keeps, State.keeps_other, keepsR_next]

theorem State.sweepEnd_keeps {σ : State} {tile bank : ℕ} (h0 : s.Keeps false σ) : s.Keeps false (σ.sweepEnd tile bank) := by
  unfold State.sweepEnd
  try dsimp only
  split
  · exact State.freed_keeps (State.modTile_keeps (State.keeps_banks _ _ _ _ _ _ _ _ _ _ _ h0 id id (Keys.cut_wf _ _)))
  · exact h0

theorem execSweepEnd_keeps {tile : ℕ} {bank : ℕ} {σ : State} (h0 : s.Keeps false σ) :
    s.KeepsR false (execSweepEnd tile bank σ) := by
  grind [execSweepEnd, State.atTile_keeps, State.sweepEnd_keeps, State.keeps_other, keepsR_next]

theorem execRemapWrite_keeps {w : Src} {tile : ℕ} {value : Word} {σ : State} (h0 : s.Keeps κ σ) :
    s.KeepsR κ (execRemapWrite w tile value σ) := by
  grind [execRemapWrite, State.tileReg_keeps, RegRes.now_keeps, State.ctrlOp_keeps, State.keeps_other, keepsR_next]

/-! ## Machine/Fabric.lean -/

theorem State.flitMove_keeps {σ : State} {pkt : ℕ} (h0 : s.Keeps κ σ) :
    s.Keeps κ (State.flitMove σ pkt) := by
  grind [State.flitMove, State.laneHop_keeps, State.keeps_other]

theorem execLaneFlit_keeps {pkt : ℕ} {σ : State} (h0 : s.Keeps κ σ) :
    s.KeepsR κ (execLaneFlit pkt σ) := by
  grind [execLaneFlit, State.flitMove_keeps, State.keeps_other, keepsR_next]

theorem State.hostSide_keeps {σ : State} {die : ℕ} {id : ℕ} (h0 : s.Keeps κ σ) :
    s.Keeps κ (State.hostSide σ die id) := by
  grind [State.hostSide, State.emit_keeps, State.recordDone_keeps, State.dropPkt_keeps, State.hostHome_keeps, State.keeps_other]

theorem State.matrixGrant_keeps {σ : State} {die : ℕ} {target : ℕ} (h0 : s.Keeps κ σ) :
    s.Keeps κ (State.matrixGrant σ die target) := by
  grind [State.matrixGrant, State.holdBackAll_keeps, State.modSlice_keeps, State.matrixPass_keeps, State.hostSide_keeps, State.keeps_other]

theorem execSliceMatrixGrant_keeps {die : ℕ} {target : ℕ} {σ : State} (h0 : s.Keeps κ σ) :
    s.KeepsR κ (execSliceMatrixGrant die target σ) := by
  grind [execSliceMatrixGrant, State.atDie_keeps, State.matrixGrant_keeps, State.keeps_other, keepsR_next]

theorem State.holdRelease_keeps {σ : State} {die : ℕ} {pkt : ℕ} (h0 : s.Keeps κ σ) :
    s.Keeps κ (State.holdRelease σ die pkt) := by
  grind [State.holdRelease, State.release_keeps, State.keeps_other]

theorem execHoldbackRelease_keeps {die : ℕ} {pkt : ℕ} {σ : State} (h0 : s.Keeps κ σ) :
    s.KeepsR κ (execHoldbackRelease die pkt σ) := by
  grind [execHoldbackRelease, State.atDie_keeps, State.holdRelease_keeps, State.keeps_other, keepsR_next]

theorem execBridgeSlotAdmit_keeps {die : ℕ} {port : ℕ} {σ : State} (h0 : s.Keeps κ σ) :
    s.KeepsR κ (execBridgeSlotAdmit die port σ) := by
  grind [execBridgeSlotAdmit, State.named_keeps, State.atDie_keeps, State.slotAdmit_keeps, State.keeps_other, keepsR_next]

theorem State.defaultOp_keeps {σ : State} {w : Src} {die : ℕ} {a : Addr} (h0 : s.Keeps κ σ) :
    s.Keeps κ (State.defaultOp σ w die a) := by
  grind [State.defaultOp, State.latchDecerr_keeps, State.emit_keeps, State.answerReg_keeps, State.keeps_other]

theorem execDefaultTarget_keeps {w : Src} {die : ℕ} {addr : Addr} {σ : State} (h0 : s.Keeps κ σ) :
    s.KeepsR κ (execDefaultTarget w die addr σ) := by
  grind [execDefaultTarget, State.fromSrc_keeps, State.atDie_keeps, State.defaultOp_keeps, State.keeps_other, keepsR_next]

theorem execDecerrRearm_keeps {w : Src} {die : ℕ} {value : Word} {σ : State} (h0 : s.Keeps κ σ) :
    s.KeepsR κ (execDecerrRearm w die value σ) := by
  grind [execDecerrRearm, State.sliceReg_keeps, RegRes.now_keeps, State.rearmOp_keeps, State.keeps_other, keepsR_next]

theorem execRegisterBusAccess_keeps {w : Src} {addr : Addr} {size : ℕ} {write : Bool} {data : BitVec 64} {σ : State} (h0 : s.Keeps false σ) :
    s.KeepsR false (execRegisterBusAccess w addr size write data σ) := by
  grind [execRegisterBusAccess, State.fromSrc_keeps, State.busAccess_keeps, State.keeps_other, keepsR_next]

theorem State.decideAt_keeps {σ : State} {tile : ℕ} {arb : ℕ} (h0 : s.Keeps κ σ) :
    s.Keeps κ (State.decideAt σ tile arb) := by
  grind [State.decideAt, State.modTile_keeps, State.keeps_other]

theorem execArbiterDecision_keeps {tile : ℕ} {arb : ℕ} {σ : State} (h0 : s.Keeps κ σ) :
    s.KeepsR κ (execArbiterDecision tile arb σ) := by
  grind [execArbiterDecision, State.atTile_keeps, State.decideAt_keeps, State.keeps_other, keepsR_next]

theorem State.admittedPkt_keeps {σ : State} {tile : ℕ} {acc : ℕ} (h0 : s.Keeps κ σ) :
    s.Keeps κ (State.admittedPkt σ tile acc) := by
  grind [State.admittedPkt, State.modPkt_keeps, State.keeps_other]

theorem State.askDeadline_keeps {σ : State} {tile : ℕ} {acc : ℕ} (h0 : s.Keeps κ σ) :
    s.Keeps κ (State.askDeadline σ tile acc) := by
  grind [State.askDeadline, State.admittedPkt_keeps, State.modTile_keeps, State.keeps_other]

theorem execDeadlineAdmission_keeps {tile : ℕ} {acc : ℕ} {σ : State} (h0 : s.Keeps κ σ) :
    s.KeepsR κ (execDeadlineAdmission tile acc σ) := by
  grind [execDeadlineAdmission, State.atTile_keeps, State.askDeadline_keeps, State.keeps_other, keepsR_next]

theorem execLockAcquire_keeps {w : Src} {tile : ℕ} {value : Word} {σ : State} (h0 : s.Keeps κ σ) :
    s.KeepsR κ (execLockAcquire w tile value σ) := by
  grind [execLockAcquire, State.tileReg_keeps, RegRes.now_keeps, State.lockAcquireOp_keeps, State.keeps_other, keepsR_next]

theorem execLockRelease_keeps {w : Src} {tile : ℕ} {value : Word} {σ : State} (h0 : s.Keeps κ σ) :
    s.KeepsR κ (execLockRelease w tile value σ) := by
  grind [execLockRelease, State.tileReg_keeps, RegRes.now_keeps, State.lockReleaseOp_keeps, State.keeps_other, keepsR_next]

theorem execCoreReset_keeps {tile : ℕ} {σ : State} (h0 : s.Keeps κ σ) :
    s.KeepsR κ (execCoreReset tile σ) := by
  grind [execCoreReset, State.atTile_keeps, State.coreResetOp_keeps, State.keeps_other, keepsR_next]

theorem execCoreResetNotice_keeps {tile : ℕ} {core : ℕ} {σ : State} (h0 : s.Keeps κ σ) :
    s.KeepsR κ (execCoreResetNotice tile core σ) := by
  grind [execCoreResetNotice, State.atTile_keeps, State.noticeOp_keeps, State.keeps_other, keepsR_next]

theorem State.biteAt_keeps {σ : State} {tile : ℕ} {res : ℕ} (h0 : s.Keeps κ σ) :
    s.Keeps κ (State.biteAt σ tile res) := by
  grind [State.biteAt, State.bite_keeps, State.keeps_other]

theorem execWatchdogBite_keeps {tile : ℕ} {res : ℕ} {σ : State} (h0 : s.Keeps κ σ) :
    s.KeepsR κ (execWatchdogBite tile res σ) := by
  grind [execWatchdogBite, State.named_keeps, State.atTile_keeps, State.biteAt_keeps, State.keeps_other, keepsR_next]

theorem State.lockBiteAt_keeps {σ : State} {tile : ℕ} {bank : ℕ} (h0 : s.Keeps κ σ) :
    s.Keeps κ (State.lockBiteAt σ tile bank) := by
  grind [State.lockBiteAt, State.lockBite_keeps, State.keeps_other]

theorem execWatchdogLockBite_keeps {tile : ℕ} {bank : ℕ} {σ : State} (h0 : s.Keeps κ σ) :
    s.KeepsR κ (execWatchdogLockBite tile bank σ) := by
  grind [execWatchdogLockBite, State.named_keeps, State.atTile_keeps, State.lockBiteAt_keeps, State.keeps_other, keepsR_next]

theorem execQuarRelease_keeps {w : Src} {tile : ℕ} {value : Word} {σ : State} (h0 : s.Keeps κ σ) :
    s.KeepsR κ (execQuarRelease w tile value σ) := by
  grind [execQuarRelease, State.tileReg_keeps, RegRes.now_keeps, State.statusOp_keeps, State.keeps_other, keepsR_next]

theorem execWdogIntervalWrite_keeps {w : Src} {tile : ℕ} {value : Word} {σ : State} (h0 : s.Keeps κ σ) :
    s.KeepsR κ (execWdogIntervalWrite w tile value σ) := by
  grind [execWdogIntervalWrite, State.tileReg_keeps, RegRes.now_keeps, State.wdogOp_keeps, State.keeps_other, keepsR_next]

/-! ## Machine/Stream.lean -/

theorem State.chanCmd_keeps {σ : State} {w : Src} {tile : ℕ} {chan : ℕ} {cmd : ℕ} (h0 : s.Keeps κ σ) :
    s.KeepsR κ (State.chanCmd σ w tile chan cmd) := by
  grind [State.chanCmd, State.named_keeps, State.tileReg_keeps, RegRes.now_keeps, State.chanCmdOp_keeps, State.keeps_other, keepsR_next]

theorem execEn_keeps {w : Src} {tile : ℕ} {chan : ℕ} {value : Word} {σ : State} (h0 : s.Keeps κ σ) :
    s.KeepsR κ (execEn w tile chan value σ) := by
  grind [execEn, State.named_keeps, State.tileReg_keeps, RegRes.now_keeps, State.chanCtrlOp_keeps, State.keeps_other, keepsR_next]

theorem execArm_keeps {w : Src} {tile : ℕ} {chan : ℕ} {σ : State} (h0 : s.Keeps κ σ) :
    s.KeepsR κ (execArm w tile chan σ) := by
  grind [execArm, State.chanCmd_keeps, State.keeps_other, keepsR_next]

theorem execGo_keeps {w : Src} {tile : ℕ} {chan : ℕ} {σ : State} (h0 : s.Keeps κ σ) :
    s.KeepsR κ (execGo w tile chan σ) := by
  grind [execGo, State.chanCmd_keeps, State.keeps_other, keepsR_next]

theorem execResume_keeps {w : Src} {tile : ℕ} {chan : ℕ} {σ : State} (h0 : s.Keeps κ σ) :
    s.KeepsR κ (execResume w tile chan σ) := by
  grind [execResume, State.chanCmd_keeps, State.keeps_other, keepsR_next]

theorem execSkip_keeps {w : Src} {tile : ℕ} {chan : ℕ} {σ : State} (h0 : s.Keeps κ σ) :
    s.KeepsR κ (execSkip w tile chan σ) := by
  grind [execSkip, State.chanCmd_keeps, State.keeps_other, keepsR_next]

theorem execAbort_keeps {w : Src} {tile : ℕ} {chan : ℕ} {σ : State} (h0 : s.Keeps κ σ) :
    s.KeepsR κ (execAbort w tile chan σ) := by
  grind [execAbort, State.chanCmd_keeps, State.keeps_other, keepsR_next]

theorem execDringTailWrite_keeps {w : Src} {tile : ℕ} {chan : ℕ} {value : Word} {σ : State} (h0 : s.Keeps κ σ) :
    s.KeepsR κ (execDringTailWrite w tile chan value σ) := by
  grind [execDringTailWrite, State.named_keeps, State.tileReg_keeps, RegRes.now_keeps, State.chanTailOp_keeps, State.keeps_other, keepsR_next]

theorem State.onChan_keeps {σ : State} {tile : ℕ} {chan : ℕ} {r0 : State} (h0 : s.Keeps κ σ) (h1 : s.Keeps κ r0) :
    s.KeepsR κ (State.onChan σ tile chan r0) := by
  grind [State.onChan, State.named_keeps, State.atCore_keeps, State.keeps_other, keepsR_next]

theorem execDescriptorFetched_keeps {tile : ℕ} {chan : ℕ} {σ : State} (h0 : s.Keeps κ σ) :
    s.KeepsR κ (execDescriptorFetched tile chan σ) := by
  grind [execDescriptorFetched, State.onChan_keeps, State.fetchedOp_keeps, State.keeps_other, keepsR_next]

theorem execBurstSelect_keeps {tile : ℕ} {σ : State} (h0 : s.Keeps κ σ) :
    s.KeepsR κ (execBurstSelect tile σ) := by
  grind [execBurstSelect, State.atCore_keeps, State.burstSelectOp_keeps, State.keeps_other, keepsR_next]

theorem execBurstIssue_keeps {tile : ℕ} {chan : ℕ} {σ : State} (h0 : s.Keeps κ σ) :
    s.KeepsR κ (execBurstIssue tile chan σ) := by
  grind [execBurstIssue, State.onChan_keeps, State.burstIssueOp_keeps, State.keeps_other, keepsR_next]

theorem State.lookupBack_keeps {σ : State} {tile : ℕ} {pkt : ℕ} (h0 : s.Keeps κ σ) :
    s.Keeps κ (State.lookupBack σ tile pkt) := by
  grind [State.lookupBack, State.lookupReturnOp_keeps, State.keeps_other]

theorem execWindowLookupReturn_keeps {tile : ℕ} {pkt : ℕ} {σ : State} (h0 : s.Keeps κ σ) :
    s.KeepsR κ (execWindowLookupReturn tile pkt σ) := by
  grind [execWindowLookupReturn, State.atCore_keeps, State.lookupBack_keeps, State.keeps_other, keepsR_next]

theorem State.coreAnswer_keeps {σ : State} {tile : ℕ} {p0 : Packet} (h0 : s.Keeps κ σ) :
    s.Keeps κ (State.coreAnswer σ tile p0) := by
  grind [State.coreAnswer, State.answerReg_keeps, State.dropPkt_keeps, State.keeps_other]

theorem State.responseBack_keeps {σ : State} {tile : ℕ} {pkt : ℕ} {outside : Status} {data : List RowData} (h0 : s.Keeps κ σ) :
    s.Keeps κ (State.responseBack σ tile pkt outside data) := by
  grind [State.responseBack, State.coreAnswer_keeps, State.issueSends_keeps, State.remoteResponseOp_keeps, State.keeps_other]

theorem execRemoteResponse_keeps {tile : ℕ} {pkt : ℕ} {outside : Status} {data : List RowData} {σ : State} (h0 : s.Keeps κ σ) :
    s.KeepsR κ (execRemoteResponse tile pkt outside data σ) := by
  grind [execRemoteResponse, State.atCore_keeps, State.responseBack_keeps, State.keeps_other, keepsR_next]

theorem State.readbackBack_keeps {σ : State} {tile : ℕ} {pkt : ℕ} {outside : Status} (h0 : s.Keeps κ σ) :
    s.Keeps κ (State.readbackBack σ tile pkt outside) := by
  grind [State.readbackBack, State.issueSends_keeps, State.readbackReturnOp_keeps, State.keeps_other]

theorem execReadbackReturn_keeps {tile : ℕ} {pkt : ℕ} {outside : Status} {σ : State} (h0 : s.Keeps κ σ) :
    s.KeepsR κ (execReadbackReturn tile pkt outside σ) := by
  grind [execReadbackReturn, State.atCore_keeps, State.readbackBack_keeps, State.keeps_other, keepsR_next]

theorem State.descDone_keeps {σ : State} {tile : ℕ} {chan : ℕ} (h0 : s.Keeps κ σ) :
    s.Keeps κ (State.descDone σ tile chan) := by
  grind [State.descDone, State.completeOp_keeps, State.keeps_other]

theorem execDescriptorComplete_keeps {tile : ℕ} {chan : ℕ} {σ : State} (h0 : s.Keeps κ σ) :
    s.KeepsR κ (execDescriptorComplete tile chan σ) := by
  grind [execDescriptorComplete, State.onChan_keeps, State.descDone_keeps, State.keeps_other, keepsR_next]

theorem execChannelHalt_keeps {tile : ℕ} {chan : ℕ} {σ : State} (h0 : s.Keeps κ σ) :
    s.KeepsR κ (execChannelHalt tile chan σ) := by
  grind [execChannelHalt, State.onChan_keeps, State.haltOp_keeps, State.keeps_other, keepsR_next]

theorem execNop_keeps {tile : ℕ} {chan : ℕ} {σ : State} (h0 : s.Keeps κ σ) :
    s.KeepsR κ (execNop tile chan σ) := by
  grind [execNop, State.onChan_keeps, State.nopOp_keeps, State.keeps_other, keepsR_next]

theorem execCopy_keeps {tile : ℕ} {chan : ℕ} {σ : State} (h0 : s.Keeps κ σ) :
    s.KeepsR κ (execCopy tile chan σ) := by
  grind [execCopy, State.onChan_keeps, State.copyOp_keeps, State.keeps_other, keepsR_next]

theorem execGather_keeps {tile : ℕ} {chan : ℕ} {σ : State} (h0 : s.Keeps κ σ) :
    s.KeepsR κ (execGather tile chan σ) := by
  grind [execGather, State.onChan_keeps, State.gatherOp_keeps, State.keeps_other, keepsR_next]

theorem execScatter_keeps {tile : ℕ} {chan : ℕ} {σ : State} (h0 : s.Keeps κ σ) :
    s.KeepsR κ (execScatter tile chan σ) := by
  grind [execScatter, State.onChan_keeps, State.scatterOp_keeps, State.keeps_other, keepsR_next]

theorem execMulticast_keeps {tile : ℕ} {chan : ℕ} {σ : State} (h0 : s.Keeps κ σ) :
    s.KeepsR κ (execMulticast tile chan σ) := by
  grind [execMulticast, State.onChan_keeps, State.multicastOp_keeps, State.keeps_other, keepsR_next]

theorem execConvert_keeps {tile : ℕ} {chan : ℕ} {σ : State} (h0 : s.Keeps κ σ) :
    s.KeepsR κ (execConvert tile chan σ) := by
  grind [execConvert, State.onChan_keeps, State.convertOp_keeps, State.keeps_other, keepsR_next]

theorem execFill_keeps {tile : ℕ} {chan : ℕ} {σ : State} (h0 : s.Keeps κ σ) :
    s.KeepsR κ (execFill tile chan σ) := by
  grind [execFill, State.onChan_keeps, State.fillOp_keeps, State.keeps_other, keepsR_next]

theorem execRegwrite_keeps {tile : ℕ} {chan : ℕ} {σ : State} (h0 : s.Keeps false σ) :
    s.KeepsR false (execRegwrite tile chan σ) := by
  grind [execRegwrite, State.onChan_keeps, State.regwriteOp_keeps, State.keeps_other, keepsR_next]

theorem execWaitt_keeps {tile : ℕ} {chan : ℕ} {σ : State} (h0 : s.Keeps κ σ) :
    s.KeepsR κ (execWaitt tile chan σ) := by
  grind [execWaitt, State.onChan_keeps, State.waittOp_keeps, State.keeps_other, keepsR_next]

theorem execSignal_keeps {tile : ℕ} {chan : ℕ} {σ : State} (h0 : s.Keeps κ σ) :
    s.KeepsR κ (execSignal tile chan σ) := by
  grind [execSignal, State.onChan_keeps, State.signalOp_keeps, State.keeps_other, keepsR_next]

theorem State.indexTake_keeps {σ : State} {tile : ℕ} {block : ℕ} {p0 : Packet} (h0 : s.Keeps κ σ) :
    s.Keeps κ (State.indexTake σ tile block p0) := by
  grind [State.indexTake, State.modTile_keeps, State.dropPkt_keeps, State.modChan_keeps, State.keeps_other]

theorem State.indexBack_keeps {σ : State} {tile : ℕ} {block : ℕ} {how : IndexReturn} (h0 : s.Keeps κ σ) :
    s.Keeps κ (State.indexBack σ tile block how) := by
  grind [State.indexBack, State.indexTake_keeps, State.indexReturnOp_keeps, State.serveWants_keeps, State.keeps_other]

theorem execIndexReadReturn_keeps {tile : ℕ} {block : ℕ} {how : IndexReturn} {σ : State} (h0 : s.Keeps κ σ) :
    s.KeepsR κ (execIndexReadReturn tile block how σ) := by
  grind [execIndexReadReturn, State.atCore_keeps, State.indexBack_keeps, State.keeps_other, keepsR_next]

theorem State.slotDone_keeps {σ : State} {tile : ℕ} {chan : ℕ} (h0 : s.Keeps κ σ) :
    s.Keeps κ (State.slotDone σ tile chan) := by
  grind [State.slotDone, State.slotFilledOp_keeps, State.keeps_other]

theorem execSlotFilled_keeps {tile : ℕ} {chan : ℕ} {σ : State} (h0 : s.Keeps κ σ) :
    s.KeepsR κ (execSlotFilled tile chan σ) := by
  grind [execSlotFilled, State.onChan_keeps, State.slotDone_keeps, State.keeps_other, keepsR_next]

theorem State.resample_keeps {σ : State} {tile : ℕ} {chan : ℕ} (h0 : s.Keeps κ σ) :
    s.Keeps κ (State.resample σ tile chan) := by
  grind [State.resample, State.resampleOp_keeps, State.keeps_other]

theorem execSlotRingResample_keeps {tile : ℕ} {chan : ℕ} {σ : State} (h0 : s.Keeps κ σ) :
    s.KeepsR κ (execSlotRingResample tile chan σ) := by
  grind [execSlotRingResample, State.onChan_keeps, State.resample_keeps, State.keeps_other, keepsR_next]

theorem State.probeAtHome_keeps {σ : State} {tile : ℕ} {pkt : ℕ} (h0 : s.Keeps κ σ) :
    s.Keeps κ (State.probeAtHome σ tile pkt) := by
  grind [State.probeAtHome, State.ringProbeOp_keeps, State.keeps_other]

theorem execRingProbe_keeps {tile : ℕ} {pkt : ℕ} {σ : State} (h0 : s.Keeps κ σ) :
    s.KeepsR κ (execRingProbe tile pkt σ) := by
  grind [execRingProbe, State.atTile_keeps, State.probeAtHome_keeps, State.keeps_other, keepsR_next]

theorem State.probeAgain_keeps {σ : State} {tile : ℕ} {chan : ℕ} (h0 : s.Keeps κ σ) :
    s.Keeps κ (State.probeAgain σ tile chan) := by
  grind [State.probeAgain, State.probeRing_keeps, State.keeps_other]

theorem execRingProbeRetry_keeps {tile : ℕ} {chan : ℕ} {σ : State} (h0 : s.Keeps κ σ) :
    s.KeepsR κ (execRingProbeRetry tile chan σ) := by
  grind [execRingProbeRetry, State.onChan_keeps, State.probeAgain_keeps, State.keeps_other, keepsR_next]

theorem State.slotAtHome_keeps {σ : State} {tile : ℕ} {pkt : ℕ} (h0 : s.Keeps κ σ) :
    s.Keeps κ (State.slotAtHome σ tile pkt) := by
  grind [State.slotAtHome, State.slotReadbackOp_keeps, State.keeps_other]

theorem execSlotReadback_keeps {tile : ℕ} {pkt : ℕ} {σ : State} (h0 : s.Keeps κ σ) :
    s.KeepsR κ (execSlotReadback tile pkt σ) := by
  grind [execSlotReadback, State.atTile_keeps, State.slotAtHome_keeps, State.keeps_other, keepsR_next]

theorem execMcCredit_keeps {tile : ℕ} {chan : ℕ} {receiver : ℕ} {σ : State} (h0 : s.Keeps κ σ) :
    s.KeepsR κ (execMcCredit tile chan receiver σ) := by
  grind [execMcCredit, State.onChan_keeps, State.creditOp_keeps, State.keeps_other, keepsR_next]

theorem State.mcAtHome_keeps {σ : State} {tile : ℕ} {pkt : ℕ} (h0 : s.Keeps κ σ) :
    s.Keeps κ (State.mcAtHome σ tile pkt) := by
  grind [State.mcAtHome, State.mcReadbackOp_keeps, State.keeps_other]

theorem execMcReadback_keeps {tile : ℕ} {pkt : ℕ} {σ : State} (h0 : s.Keeps κ σ) :
    s.KeepsR κ (execMcReadback tile pkt σ) := by
  grind [execMcReadback, State.atTile_keeps, State.mcAtHome_keeps, State.keeps_other, keepsR_next]

theorem execMcStall_keeps {tile : ℕ} {chan : ℕ} {σ : State} (h0 : s.Keeps κ σ) :
    s.KeepsR κ (execMcStall tile chan σ) := by
  grind [execMcStall, State.onChan_keeps, State.mcStallOp_keeps, State.keeps_other, keepsR_next]

/-! ## Machine/External.lean -/

theorem State.extArrive_keeps {σ : State} {die : ℕ} {port : ℕ} {pkt : ℕ} (h0 : s.Keeps κ σ) :
    s.Keeps κ (State.extArrive σ die port pkt) := by
  grind [State.extArrive, State.extRequestOp_keeps, State.keeps_other]

theorem execExtRequest_keeps {die : ℕ} {port : ℕ} {pkt : ℕ} {σ : State} (h0 : s.Keeps κ σ) :
    s.KeepsR κ (execExtRequest die port pkt σ) := by
  grind [execExtRequest, State.atDie_keeps, State.extArrive_keeps, State.keeps_other, keepsR_next]

theorem State.extAnswer_keeps {σ : State} {die : ℕ} {port : ℕ} {pkt : ℕ} {crc : Option (BitVec 32)} {uncorr : Bool} {data : List RowData} (h0 : s.Keeps κ σ) :
    s.Keeps κ (State.extAnswer σ die port pkt crc uncorr data) := by
  grind [State.extAnswer, State.extResponseOp_keeps, State.keeps_other]

theorem execExtResponse_keeps {die : ℕ} {port : ℕ} {pkt : ℕ} {crc : Option (BitVec 32)} {uncorr : Bool} {data : List RowData} {σ : State} (h0 : s.Keeps κ σ) :
    s.KeepsR κ (execExtResponse die port pkt crc uncorr data σ) := by
  grind [execExtResponse, State.atDie_keeps, State.extAnswer_keeps, State.keeps_other, keepsR_next]

theorem execTitheTokenAdd_keeps {die : ℕ} {port : ℕ} {hh : ℕ} {paces : ℕ} {σ : State} (h0 : s.Keeps κ σ) :
    s.KeepsR κ (execTitheTokenAdd die port hh paces σ) := by
  grind [execTitheTokenAdd, State.named_keeps, State.atDie_keeps, State.tokenOp_keeps, State.keeps_other, keepsR_next]

theorem execTitheWrite_keeps {w : Src} {die : ℕ} {hh : ℕ} {value : Word} {σ : State} (h0 : s.Keeps κ σ) :
    s.KeepsR κ (execTitheWrite w die hh value σ) := by
  grind [execTitheWrite, State.named_keeps, State.sliceReg_keeps, RegRes.now_keeps, State.titheOp_keeps, State.keeps_other, keepsR_next]

theorem execExtControllerReadyChange_keeps {die : ℕ} {port : ℕ} {ready : Bool} {σ : State} (h0 : s.Keeps κ σ) :
    s.KeepsR κ (execExtControllerReadyChange die port ready σ) := by
  grind [execExtControllerReadyChange, State.named_keeps, State.atDie_keeps, State.extReadyOp_keeps, State.keeps_other, keepsR_next]

theorem execStripeSend_keeps {die : ℕ} {port : ℕ} {σ : State} (h0 : s.Keeps κ σ) :
    s.KeepsR κ (execStripeSend die port σ) := by
  grind [execStripeSend, State.named_keeps, State.atDie_keeps, State.stripeSendOp_keeps, State.keeps_other, keepsR_next]

theorem execStripeReceived_keeps {die : ℕ} {port : ℕ} {noise : List Byte} {σ : State} (h0 : s.Keeps κ σ) :
    s.KeepsR κ (execStripeReceived die port noise σ) := by
  grind [execStripeReceived, State.named_keeps, State.atDie_keeps, State.stripeReceivedOp_keeps, State.keeps_other, keepsR_next]

theorem execStripeNak_keeps {die : ℕ} {port : ℕ} {ack : ℕ} {σ : State} (h0 : s.Keeps κ σ) :
    s.KeepsR κ (execStripeNak die port ack σ) := by
  grind [execStripeNak, State.named_keeps, State.atDie_keeps, State.stripeNakOp_keeps, State.keeps_other, keepsR_next]

theorem execStripeAck_keeps {die : ℕ} {port : ℕ} {ack : ℕ} {σ : State} (h0 : s.Keeps κ σ) :
    s.KeepsR κ (execStripeAck die port ack σ) := by
  grind [execStripeAck, State.named_keeps, State.atDie_keeps, State.stripeAckOp_keeps, State.keeps_other, keepsR_next]

theorem State.linkFails_keeps {σ : State} {die : ℕ} {port : ℕ} (h0 : s.Keeps κ σ) :
    s.Keeps κ (State.linkFails σ die port) := by
  grind [State.linkFails, State.linkDownOp_keeps, State.keeps_other]

theorem execLinkDown_keeps {die : ℕ} {port : ℕ} {σ : State} (h0 : s.Keeps κ σ) :
    s.KeepsR κ (execLinkDown die port σ) := by
  grind [execLinkDown, State.named_keeps, State.atDie_keeps, State.linkFails_keeps, State.keeps_other, keepsR_next]

theorem State.linkTold_keeps {σ : State} {die : ℕ} (h0 : s.Keeps κ σ) :
    s.Keeps κ (State.linkTold σ die) := by
  grind [State.linkTold, State.endRing_keeps, State.modSlice_keeps, State.keeps_other]

theorem execLinkDownNotice_keeps {die : ℕ} {σ : State} (h0 : s.Keeps κ σ) :
    s.KeepsR κ (execLinkDownNotice die σ) := by
  grind [execLinkDownNotice, State.atDie_keeps, State.linkTold_keeps, State.keeps_other, keepsR_next]

theorem State.ringRoute_keeps {σ : State} {die : ℕ} {pkt : ℕ} (h0 : s.Keeps κ σ) :
    s.Keeps κ (State.ringRoute σ die pkt) := by
  grind [State.ringRoute, State.ringRouteOp_keeps, State.keeps_other]

theorem execRingRoute_keeps {die : ℕ} {pkt : ℕ} {σ : State} (h0 : s.Keeps κ σ) :
    s.KeepsR κ (execRingRoute die pkt σ) := by
  grind [execRingRoute, State.atDie_keeps, State.ringRoute_keeps, State.keeps_other, keepsR_next]

theorem execRouteWrite_keeps {w : Src} {die : ℕ} {t : ℕ} {value : Word} {σ : State} (h0 : s.Keeps κ σ) :
    s.KeepsR κ (execRouteWrite w die t value σ) := by
  grind [execRouteWrite, State.named_keeps, State.sliceReg_keeps, RegRes.now_keeps, State.routeOp_keeps, State.keeps_other, keepsR_next]

theorem State.nwArrive_keeps {σ : State} {tile : ℕ} {pkt : ℕ} (h0 : s.Keeps κ σ) :
    s.Keeps κ (State.nwArrive σ tile pkt) := by
  grind [State.nwArrive, State.nwRequestOp_keeps, State.keeps_other]

theorem execNwRequest_keeps {tile : ℕ} {pkt : ℕ} {σ : State} (h0 : s.Keeps κ σ) :
    s.KeepsR κ (execNwRequest tile pkt σ) := by
  grind [execNwRequest, State.atTile_keeps, State.nwArrive_keeps, State.keeps_other, keepsR_next]

theorem execGateOpen_keeps {w : Src} {tile : ℕ} {gate : ℕ} {value : Word} {σ : State} (h0 : s.Keeps κ σ) :
    s.KeepsR κ (execGateOpen w tile gate value σ) := by
  grind [execGateOpen, State.named_keeps, State.tileReg_keeps, RegRes.now_keeps, State.gateOp_keeps, State.keeps_other, keepsR_next]

theorem execGateClose_keeps {w : Src} {tile : ℕ} {gate : ℕ} {value : Word} {σ : State} (h0 : s.Keeps κ σ) :
    s.KeepsR κ (execGateClose w tile gate value σ) := by
  grind [execGateClose, State.named_keeps, State.tileReg_keeps, RegRes.now_keeps, State.gateOp_keeps, State.keeps_other, keepsR_next]

theorem execGateClosedDone_keeps {tile : ℕ} {gate : ℕ} {σ : State} (h0 : s.Keeps κ σ) :
    s.KeepsR κ (execGateClosedDone tile gate σ) := by
  grind [execGateClosedDone, State.named_keeps, State.atTile_keeps, State.gateDrained_keeps, State.keeps_other, keepsR_next]

theorem execGateForcedClose_keeps {tile : ℕ} {gate : ℕ} {σ : State} (h0 : s.Keeps κ σ) :
    s.KeepsR κ (execGateForcedClose tile gate σ) := by
  grind [execGateForcedClose, State.named_keeps, State.atTile_keeps, State.gateForced_keeps, State.keeps_other, keepsR_next]

/-! ## Machine/Sync.lean -/

theorem State.startWait_keeps {σ : State} {tile : ℕ} {e0 : Engine} {q : EngState} (h0 : s.Keeps κ σ) :
    s.Keeps κ (State.startWait σ tile e0 q) := by
  grind [State.startWait, State.modTile_keeps, State.keeps_other]

theorem State.byEngine_keeps {σ : State} {tile : ℕ} {e0 : Engine} {r0 : State} (h0 : s.Keeps κ σ) (h1 : s.Keeps κ r0) :
    s.KeepsR κ (State.byEngine σ tile e0 r0) := by
  grind [State.byEngine, State.atCore_keeps, State.issue_keeps, State.keeps_other, keepsR_next]

theorem execAdd_keeps {tile : ℕ} {e0 : Engine} {t : ℕ} {amount : Word} {σ : State} (h0 : s.Keeps κ σ) :
    s.KeepsR κ (execAdd tile e0 t amount σ) := by
  grind [execAdd, State.named_keeps, State.byEngine_keeps, State.enqueue_keeps, State.keeps_other, keepsR_next]

theorem execWaitGe_keeps {tile : ℕ} {e0 : Engine} {t : ℕ} {value : Word} {σ : State} (h0 : s.Keeps κ σ) :
    s.KeepsR κ (execWaitGe tile e0 t value σ) := by
  grind [execWaitGe, State.named_keeps, State.byEngine_keeps, State.startWait_keeps, State.keeps_other, keepsR_next]

theorem execWaitDec_keeps {tile : ℕ} {e0 : Engine} {t : ℕ} {σ : State} (h0 : s.Keeps κ σ) :
    s.KeepsR κ (execWaitDec tile e0 t σ) := by
  grind [execWaitDec, State.named_keeps, State.byEngine_keeps, State.startWait_keeps, State.keeps_other, keepsR_next]

theorem execDec_keeps {tile : ℕ} {e0 : Engine} {t : ℕ} {σ : State} (h0 : s.Keeps κ σ) :
    s.KeepsR κ (execDec tile e0 t σ) := by
  grind [execDec, State.named_keeps, State.byEngine_keeps, State.enqueue_keeps, State.keeps_other, keepsR_next]

theorem execFence_keeps {tile : ℕ} {e0 : Engine} {σ : State} (h0 : s.Keeps κ σ) :
    s.KeepsR κ (execFence tile e0 σ) := by
  grind [execFence, State.byEngine_keeps, State.readBack_keeps, State.fenceOp_keeps, State.keeps_other, keepsR_next]

theorem State.fenceEnd_keeps {σ : State} {tile : ℕ} {e0 : Engine} (h0 : s.Keeps κ σ) :
    s.Keeps κ (State.fenceEnd σ tile e0) := by
  grind [State.fenceEnd, State.endOp_keeps, State.keeps_other]

theorem execFenceEnd_keeps {tile : ℕ} {e0 : Engine} {σ : State} (h0 : s.Keeps κ σ) :
    s.KeepsR κ (execFenceEnd tile e0 σ) := by
  grind [execFenceEnd, State.atCore_keeps, State.fenceEnd_keeps, State.keeps_other, keepsR_next]

theorem execArrive_keeps {tile : ℕ} {e0 : Engine} {bell : ℕ} {σ : State} (h0 : s.Keeps κ σ) :
    s.KeepsR κ (execArrive tile e0 bell σ) := by
  grind [execArrive, State.named_keeps, State.byEngine_keeps, State.enqueue_keeps, State.keeps_other, keepsR_next]

theorem execWaitBell_keeps {tile : ℕ} {e0 : Engine} {bell : ℕ} {gen : ℕ} {σ : State} (h0 : s.Keeps κ σ) :
    s.KeepsR κ (execWaitBell tile e0 bell gen σ) := by
  grind [execWaitBell, State.named_keeps, State.byEngine_keeps, State.startWait_keeps, State.keeps_other, keepsR_next]

theorem execArriveWait_keeps {tile : ℕ} {e0 : Engine} {bell : ℕ} {σ : State} (h0 : s.Keeps κ σ) :
    s.KeepsR κ (execArriveWait tile e0 bell σ) := by
  grind [execArriveWait, State.named_keeps, State.byEngine_keeps, State.enqueue_keeps, State.startWait_keeps, State.keeps_other, keepsR_next]

theorem execTallyBoundary_keeps {tile : ℕ} {σ : State} (h0 : s.Keeps false σ) :
    s.KeepsR false (execTallyBoundary tile σ) := by
  grind [execTallyBoundary, State.atCore_keeps, State.boundaryOp_keeps, State.keeps_other, keepsR_next]

theorem execTallyWrite_keeps {w : Src} {tile : ℕ} {t : ℕ} {value : Word} {σ : State} (h0 : s.Keeps κ σ) :
    s.KeepsR κ (execTallyWrite w tile t value σ) := by
  grind [execTallyWrite, State.named_keeps, State.tileReg_keeps, State.tallyOp_keeps, State.keeps_other, keepsR_next]

theorem execTallyModeWrite_keeps {w : Src} {tile : ℕ} {word : ℕ} {value : Word} {σ : State} (h0 : s.Keeps κ σ) :
    s.KeepsR κ (execTallyModeWrite w tile word value σ) := by
  grind [execTallyModeWrite, State.named_keeps, State.tileReg_keeps, State.tallyModeOp_keeps, State.keeps_other, keepsR_next]

theorem execBellArriveWrite_keeps {w : Src} {tile : ℕ} {bell : ℕ} {σ : State} (h0 : s.Keeps κ σ) :
    s.KeepsR κ (execBellArriveWrite w tile bell σ) := by
  grind [execBellArriveWrite, State.named_keeps, State.tileReg_keeps, State.bellArriveOp_keeps, State.keeps_other, keepsR_next]

theorem execBellForce_keeps {w : Src} {tile : ℕ} {bell : ℕ} {σ : State} (h0 : s.Keeps κ σ) :
    s.KeepsR κ (execBellForce w tile bell σ) := by
  grind [execBellForce, State.named_keeps, State.tileReg_keeps, State.bellForceOp_keeps, State.keeps_other, keepsR_next]

theorem execStill_keeps {tile : ℕ} {σ : State} (h0 : s.Keeps κ σ) :
    s.KeepsR κ (execStill tile σ) := by
  grind [execStill, State.atCore_keeps, State.stillOp_keeps, State.keeps_other, keepsR_next]

theorem State.stopEngine_keeps {σ : State} {tile : ℕ} {e0 : Engine} {stopped : Bool} (h0 : s.Keeps κ σ) :
    s.Keeps κ (State.stopEngine σ tile e0 stopped) := by
  unfold State.stopEngine
  grind [State.startWait_keeps, State.keeps_other]

theorem execEngineStopped_keeps {tile : ℕ} {e0 : Engine} {stopped : Bool} {σ : State} (h0 : s.Keeps κ σ) :
    s.KeepsR κ (execEngineStopped tile e0 stopped σ) := by
  grind [execEngineStopped, State.atCore_keeps, State.stopEngine_keeps, State.keeps_other, keepsR_next]

theorem execSend_keeps {tile : ℕ} {e0 : Engine} {src : ℕ} {units : ℕ} {target : ℕ} {endpoint : ℕ} {qos : ℕ} {σ : State} (h0 : s.Keeps κ σ) :
    s.KeepsR κ (execSend tile e0 src units target endpoint qos σ) := by
  grind [execSend, State.named_keeps, State.byEngine_keeps, State.enqueue_keeps, State.startWait_keeps, State.keeps_other, keepsR_next]

theorem State.messageIn_keeps {σ : State} {tile : ℕ} {pkt : ℕ} (h0 : s.Keeps κ σ) :
    s.Keeps κ (State.messageIn σ tile pkt) := by
  grind [State.messageIn, State.messageOp_keeps, State.keeps_other]

theorem execMessageArrival_keeps {tile : ℕ} {pkt : ℕ} {σ : State} (h0 : s.Keeps κ σ) :
    s.KeepsR κ (execMessageArrival tile pkt σ) := by
  grind [execMessageArrival, State.atCore_keeps, State.messageIn_keeps, State.keeps_other, keepsR_next]

theorem execSendRetry_keeps {tile : ℕ} {e0 : Engine} {σ : State} (h0 : s.Keeps κ σ) :
    s.KeepsR κ (execSendRetry tile e0 σ) := by
  grind [execSendRetry, State.atCore_keeps, State.sendRetryOp_keeps, State.keeps_other, keepsR_next]

theorem execSendStatus_keeps {tile : ℕ} {e0 : Engine} {σ : State} (h0 : s.Keeps κ σ) :
    s.KeepsR κ (execSendStatus tile e0 σ) := by
  grind [execSendStatus, State.atCore_keeps, State.sendStatusOp_keeps, State.keeps_other, keepsR_next]

theorem execRecv_keeps {tile : ℕ} {e0 : Engine} {endpoint : ℕ} {σ : State} (h0 : s.Keeps κ σ) :
    s.KeepsR κ (execRecv tile e0 endpoint σ) := by
  grind [execRecv, State.named_keeps, State.byEngine_keeps, State.startWait_keeps, State.keeps_other, keepsR_next]

theorem execPop_keeps {tile : ℕ} {e0 : Engine} {endpoint : ℕ} {σ : State} (h0 : s.Keeps κ σ) :
    s.KeepsR κ (execPop tile e0 endpoint σ) := by
  grind [execPop, State.named_keeps, State.byEngine_keeps, State.enqueue_keeps, State.keeps_other, keepsR_next]

theorem execEndpointOpen_keeps {w : Src} {tile : ℕ} {endpoint : ℕ} {value : Word} {σ : State} (h0 : s.Keeps κ σ) :
    s.KeepsR κ (execEndpointOpen w tile endpoint value σ) := by
  grind [execEndpointOpen, State.named_keeps, State.tileReg_keeps, RegRes.now_keeps, State.chCtrlOp_keeps, State.keeps_other, keepsR_next]

theorem execEndpointClose_keeps {w : Src} {tile : ℕ} {endpoint : ℕ} {value : Word} {σ : State} (h0 : s.Keeps κ σ) :
    s.KeepsR κ (execEndpointClose w tile endpoint value σ) := by
  grind [execEndpointClose, State.named_keeps, State.tileReg_keeps, RegRes.now_keeps, State.chCtrlOp_keeps, State.keeps_other, keepsR_next]

theorem execReassignment_keeps {w : Src} {die : ℕ} {index : ℕ} {value : Word} {σ : State} (h0 : s.Keeps κ σ) :
    s.KeepsR κ (execReassignment w die index value σ) := by
  grind [execReassignment, State.named_keeps, State.sliceReg_keeps, State.tileHhOp_keeps, State.keeps_other, keepsR_next]

theorem execReassignmentComplete_keeps {tile : ℕ} {σ : State} (h0 : s.Keeps false σ) :
    s.KeepsR false (execReassignmentComplete tile σ) := by
  grind [execReassignmentComplete, State.atCore_keeps, State.reassignDoneOp_keeps, State.keeps_other, keepsR_next]

/-! ## Machine/House.lean -/

theorem execBind_keeps {w : Src} {value : Word} {σ : State} (h0 : s.Keeps κ σ) :
    s.KeepsR κ (execBind w value σ) := by
  grind [execBind, State.sliceReg_keeps, RegRes.now_keeps, State.bindReqOp_keeps, State.keeps_other, keepsR_next]

theorem execUnbind_keeps {w : Src} {value : Word} {σ : State} (h0 : s.Keeps κ σ) :
    s.KeepsR κ (execUnbind w value σ) := by
  grind [execUnbind, State.sliceReg_keeps, RegRes.now_keeps, State.bindReqOp_keeps, State.keeps_other, keepsR_next]

theorem execUnbindFinish_keeps {σ : State} (h0 : s.Keeps κ σ) :
    s.KeepsR κ (execUnbindFinish σ) := by
  grind [execUnbindFinish, State.atDie_keeps, State.unbindFinishOp_keeps, State.keeps_other, keepsR_next]

theorem execUnboundClr_keeps {w : Src} {die : ℕ} {value : Word} {σ : State} (h0 : s.Keeps κ σ) :
    s.KeepsR κ (execUnboundClr w die value σ) := by
  grind [execUnboundClr, State.sliceReg_keeps, RegRes.now_keeps, State.unboundOp_keeps, State.keeps_other, keepsR_next]

theorem execHostRequest_keeps {die : ℕ} {fn : ℕ} {addr : Addr} {size : ℕ} {write : Bool} {data : List RowData} {σ : State} (h0 : s.Keeps κ σ) :
    s.KeepsR κ (execHostRequest die fn addr size write data σ) := by
  grind [execHostRequest, State.named_keeps, State.atDie_keeps, State.hostRequestOp_keeps, State.keeps_other, keepsR_next]

theorem execDoorbellArrival_keeps {die : ℕ} {fn : ℕ} {offset : ℕ} {size : ℕ} {word : BitVec 64} {σ : State} (h0 : s.Keeps κ σ) :
    s.KeepsR κ (execDoorbellArrival die fn offset size word σ) := by
  grind [execDoorbellArrival, State.named_keeps, State.atDie_keeps, State.fromHost_keeps, State.doorbellOp_keeps, State.keeps_other, keepsR_next]

theorem execDoorbellRelease_keeps {die : ℕ} {hh : ℕ} {σ : State} (h0 : s.Keeps κ σ) :
    s.KeepsR κ (execDoorbellRelease die hh σ) := by
  grind [execDoorbellRelease, State.named_keeps, State.atDie_keeps, State.bellReleaseOp_keeps, State.keeps_other, keepsR_next]

theorem State.bellTailAt_keeps {σ : State} {tile : ℕ} {pkt : ℕ} (h0 : s.Keeps κ σ) :
    s.Keeps κ (State.bellTailAt σ tile pkt) := by
  grind [State.bellTailAt, State.bellAtTile_keeps, State.tailOp_keeps, State.keeps_other]

theorem execDoorbellTail_keeps {tile : ℕ} {pkt : ℕ} {σ : State} (h0 : s.Keeps κ σ) :
    s.KeepsR κ (execDoorbellTail tile pkt σ) := by
  grind [execDoorbellTail, State.atTile_keeps, State.bellTailAt_keeps, State.keeps_other, keepsR_next]

theorem State.bellGoAt_keeps {σ : State} {tile : ℕ} {pkt : ℕ} (h0 : s.Keeps κ σ) :
    s.Keeps κ (State.bellGoAt σ tile pkt) := by
  grind [State.bellGoAt, State.bellAtTile_keeps, State.cmdOp_keeps, State.keeps_other]

theorem execDoorbellGo_keeps {tile : ℕ} {pkt : ℕ} {σ : State} (h0 : s.Keeps κ σ) :
    s.KeepsR κ (execDoorbellGo tile pkt σ) := by
  grind [execDoorbellGo, State.atTile_keeps, State.bellGoAt_keeps, State.keeps_other, keepsR_next]

theorem execDoorstepWrite_keeps {die : ℕ} {fn : ℕ} {offset : ℕ} {length : ℕ} {allEnables : Bool} {data : List RowData} {σ : State} (h0 : s.Keeps κ σ) :
    s.KeepsR κ (execDoorstepWrite die fn offset length allEnables data σ) := by
  grind [execDoorstepWrite, State.named_keeps, State.atDie_keeps, State.fromHost_keeps, State.doorstepOp_keeps, State.keeps_other, keepsR_next]

theorem execCompletionRecordWrite_keeps {die : ℕ} {hh : ℕ} {σ : State} (h0 : s.Keeps κ σ) :
    s.KeepsR κ (execCompletionRecordWrite die hh σ) := by
  grind [execCompletionRecordWrite, State.named_keeps, State.atDie_keeps, State.recordWriteOp_keeps, State.keeps_other, keepsR_next]

theorem execCompletionRecordFail_keeps {die : ℕ} {hh : ℕ} {σ : State} (h0 : s.Keeps κ σ) :
    s.KeepsR κ (execCompletionRecordFail die hh σ) := by
  grind [execCompletionRecordFail, State.named_keeps, State.atDie_keeps, State.recordFailOp_keeps, State.keeps_other, keepsR_next]

theorem execCringEnWrite_keeps {w : Src} {die : ℕ} {hh : ℕ} {value : Word} {σ : State} (h0 : s.Keeps κ σ) :
    s.KeepsR κ (execCringEnWrite w die hh value σ) := by
  grind [execCringEnWrite, State.named_keeps, State.sliceReg_keeps, RegRes.now_keeps, State.cringOp_keeps, State.keeps_other, keepsR_next]

theorem execRetry_keeps {w : Src} {die : ℕ} {hh : ℕ} {σ : State} (h0 : s.Keeps κ σ) :
    s.KeepsR κ (execRetry w die hh σ) := by
  grind [execRetry, State.named_keeps, State.sliceReg_keeps, RegRes.now_keeps, State.retryOp_keeps, State.keeps_other, keepsR_next]

theorem execCringHeadWrite_keeps {w : Src} {die : ℕ} {hh : ℕ} {value : Word} {σ : State} (h0 : s.Keeps κ σ) :
    s.KeepsR κ (execCringHeadWrite w die hh value σ) := by
  grind [execCringHeadWrite, State.named_keeps, State.sliceReg_keeps, RegRes.now_keeps, State.cringOp_keeps, State.keeps_other, keepsR_next]

theorem execInterruptMessage_keeps {die : ℕ} {hh : ℕ} {vector : ℕ} {σ : State} (h0 : s.Keeps κ σ) :
    s.KeepsR κ (execInterruptMessage die hh vector σ) := by
  grind [execInterruptMessage, State.atDie_keeps, State.interruptOp_keeps, State.keeps_other, keepsR_next]

theorem execIrqEnableWrite_keeps {w : Src} {die : ℕ} {hh : ℕ} {value : Word} {σ : State} (h0 : s.Keeps κ σ) :
    s.KeepsR κ (execIrqEnableWrite w die hh value σ) := by
  grind [execIrqEnableWrite, State.named_keeps, State.sliceReg_keeps, RegRes.now_keeps, State.irqOp_keeps, State.keeps_other, keepsR_next]

theorem execCaptureRecord_keeps {die : ℕ} {k : ℕ} {σ : State} (h0 : s.Keeps κ σ) :
    s.KeepsR κ (execCaptureRecord die k σ) := by
  grind [execCaptureRecord, State.atDie_keeps, State.captureTake_keeps, State.keeps_other, keepsR_next]

theorem execCaptureRecordWrite_keeps {die : ℕ} {status : Status} {σ : State} (h0 : s.Keeps κ σ) :
    s.KeepsR κ (execCaptureRecordWrite die status σ) := by
  grind [execCaptureRecordWrite, State.atDie_keeps, State.captureWriteOp_keeps, State.keeps_other, keepsR_next]

theorem execCaptureEnWrite_keeps {w : Src} {die : ℕ} {value : Word} {σ : State} (h0 : s.Keeps κ σ) :
    s.KeepsR κ (execCaptureEnWrite w die value σ) := by
  grind [execCaptureEnWrite, State.sliceReg_keeps, RegRes.now_keeps, State.captureOp_keeps, State.keeps_other, keepsR_next]

theorem execRerunPresent_keeps {die : ℕ} {status : Status} {units : List RowData} {σ : State} (h0 : s.Keeps κ σ) :
    s.KeepsR κ (execRerunPresent die status units σ) := by
  grind [execRerunPresent, State.atDie_keeps, State.rerunOp_keeps, State.keeps_other, keepsR_next]

/-! ## Machine/Integrity.lean -/

theorem State.gleanAt_keeps {σ : State} {tile : ℕ} {bank : ℕ} {u1 : ByteMask} {u2 : ByteMask} (h0 : s.Keeps false σ) :
    s.Keeps false (State.gleanAt σ tile bank u1 u2) := by
  grind [State.gleanAt, State.gleanBeat_keeps, State.keeps_other]

theorem execGleanerBeat_keeps {tile : ℕ} {bank : ℕ} {upset : ByteMask} {replayUpset : ByteMask} {σ : State} (h0 : s.Keeps false σ) :
    s.KeepsR false (execGleanerBeat tile bank upset replayUpset σ) := by
  grind [execGleanerBeat, State.atTile_keeps, State.gleanAt_keeps, State.keeps_other, keepsR_next]

theorem execWritepar_keeps {w : Src} {tile : ℕ} {value : Word} {σ : State} (h0 : s.Keeps false σ) :
    s.KeepsR false (execWritepar w tile value σ) := by
  grind [execWritepar, State.tileReg_keeps, RegRes.now_keeps, State.writeparOp_keeps, State.keeps_other, keepsR_next]

theorem execReadraw_keeps {w : Src} {tile : ℕ} {value : Word} {σ : State} (h0 : s.Keeps κ σ) :
    s.KeepsR κ (execReadraw w tile value σ) := by
  grind [execReadraw, State.tileReg_keeps, RegRes.now_keeps, State.readrawOp_keeps, State.keeps_other, keepsR_next]

theorem execCheck_keeps {w : Src} {tile : ℕ} {value : Word} {upset : ByteMask} {replayUpset : ByteMask} {σ : State} (h0 : s.Keeps false σ) :
    s.KeepsR false (execCheck w tile value upset replayUpset σ) := by
  grind [execCheck, State.tileReg_keeps, RegRes.now_keeps, State.checkOp_keeps, State.keeps_other, keepsR_next]

theorem execMarchCMinus_keeps {w : Src} {tile : ℕ} {value : Word} {σ : State} (h0 : s.Keeps κ σ) :
    s.KeepsR κ (execMarchCMinus w tile value σ) := by
  grind [execMarchCMinus, State.tileReg_keeps, RegRes.now_keeps, State.marchOp_keeps, State.keeps_other, keepsR_next]

theorem execTransparentMarch_keeps {w : Src} {tile : ℕ} {value : Word} {σ : State} (h0 : s.Keeps κ σ) :
    s.KeepsR κ (execTransparentMarch w tile value σ) := by
  grind [execTransparentMarch, State.tileReg_keeps, RegRes.now_keeps, State.marchOp_keeps, State.keeps_other, keepsR_next]

theorem State.marchEnd_keeps {σ : State} {tile : ℕ} {fails : List MarchFail} (h0 : s.Keeps false σ) :
    s.Keeps false (State.marchEnd σ tile fails) := by
  grind [State.marchEnd, State.freed_keeps, State.marchEndOp_keeps, State.keeps_other]

theorem execMarchEnd_keeps {tile : ℕ} {fails : List MarchFail} {σ : State} (h0 : s.Keeps false σ) :
    s.KeepsR false (execMarchEnd tile fails σ) := by
  grind [execMarchEnd, State.atTile_keeps, State.marchEnd_keeps, State.keeps_other, keepsR_next]

theorem execRemapRowWrite_keeps {w : Src} {tile : ℕ} {index : ℕ} {value : Word} {σ : State} (h0 : s.Keeps κ σ) :
    s.KeepsR κ (execRemapRowWrite w tile index value σ) := by
  grind [execRemapRowWrite, State.named_keeps, State.tileReg_keeps, RegRes.now_keeps, State.remapRowOp_keeps, State.keeps_other, keepsR_next]

/-! ## Machine/Book.lean -/

theorem execBookAppend_keeps {die : ℕ} {ring : ℕ} {σ : State} (h0 : s.Keeps κ σ) :
    s.KeepsR κ (execBookAppend die ring σ) := by
  grind [execBookAppend, State.named_keeps, State.atDie_keeps, State.appendOp_keeps, State.keeps_other, keepsR_next]

theorem execBookRecordDrop_keeps {die : ℕ} {ring : ℕ} {σ : State} (h0 : s.Keeps κ σ) :
    s.KeepsR κ (execBookRecordDrop die ring σ) := by
  grind [execBookRecordDrop, State.named_keeps, State.atDie_keeps, State.recordDropOp_keeps, State.keeps_other, keepsR_next]

theorem State.bookCmd_keeps {σ : State} {w : Src} {die : ℕ} {cmd : ℕ} {value : Word} (h0 : s.Keeps κ σ) :
    s.KeepsR κ (State.bookCmd σ w die cmd value) := by
  grind [State.bookCmd, State.sliceReg_keeps, RegRes.now_keeps, State.bookCtrlOp_keeps, State.keeps_other, keepsR_next]

theorem execRead_keeps {w : Src} {die : ℕ} {value : Word} {σ : State} (h0 : s.Keeps κ σ) :
    s.KeepsR κ (execRead w die value σ) := by
  grind [execRead, State.bookCmd_keeps, State.keeps_other, keepsR_next]

theorem execMapadd_keeps {w : Src} {die : ℕ} {value : Word} {σ : State} (h0 : s.Keeps κ σ) :
    s.KeepsR κ (execMapadd w die value σ) := by
  grind [execMapadd, State.bookCmd_keeps, State.keeps_other, keepsR_next]

theorem execMapclear_keeps {w : Src} {die : ℕ} {value : Word} {σ : State} (h0 : s.Keeps κ σ) :
    s.KeepsR κ (execMapclear w die value σ) := by
  grind [execMapclear, State.bookCmd_keeps, State.keeps_other, keepsR_next]

theorem execInit_keeps {w : Src} {die : ℕ} {value : Word} {σ : State} (h0 : s.Keeps κ σ) :
    s.KeepsR κ (execInit w die value σ) := by
  grind [execInit, State.bookCmd_keeps, State.keeps_other, keepsR_next]

theorem execBookCommandEnd_keeps {die : ℕ} {σ : State} (h0 : s.Keeps κ σ) :
    s.KeepsR κ (execBookCommandEnd die σ) := by
  grind [execBookCommandEnd, State.atDie_keeps, State.bookEndOp_keeps, State.keeps_other, keepsR_next]

theorem execBookAck_keeps {w : Src} {die : ℕ} {value : Word} {σ : State} (h0 : s.Keeps κ σ) :
    s.KeepsR κ (execBookAck w die value σ) := by
  grind [execBookAck, State.sliceReg_keeps, RegRes.now_keeps, State.bookAckOp_keeps, State.keeps_other, keepsR_next]

theorem execBookSpace4Read_keeps {w : Src} {die : ℕ} {addr : Addr} {size : ℕ} {write : Bool} {σ : State} (h0 : s.Keeps κ σ) :
    s.KeepsR κ (execBookSpace4Read w die addr size write σ) := by
  grind [execBookSpace4Read, State.fromSrc_keeps, State.named_keeps, State.atDie_keeps, State.bookSpaceOp_keeps, State.keeps_other, keepsR_next]

theorem execStartWordWrite_keeps {w : Src} {die : ℕ} {value : Word} {σ : State} (h0 : s.Keeps κ σ) :
    s.KeepsR κ (execStartWordWrite w die value σ) := by
  grind [execStartWordWrite, State.sliceReg_keeps, RegRes.now_keeps, State.startWordOp_keeps, State.keeps_other, keepsR_next]

theorem execRegisterWrite_keeps {w : Src} {addr : Addr} {value : Word} {σ : State} (h0 : s.Keeps false σ) :
    s.KeepsR false (execRegisterWrite w addr value σ) := by
  grind [execRegisterWrite, State.fromSrc_keeps, State.busAccess_keeps, State.keeps_other, keepsR_next]

end Sys2Proof.Machine
end

