-- ==== Sys2Proof/Laws/Slice.lean ====
section
/-!
SUPPORT. What a record, an interrupt cause and a hit of every household leave of a slice: one lemma per field.
-/

namespace Sys2Proof.Machine

variable (S : Slice)

@[simp] theorem Slice.raise_power (now h v : Nat) : (S.raise now h v).power = S.power := by unfold Slice.raise; dsimp only; split <;> rfl
@[simp] theorem Slice.raise_step (now h v : Nat) : (S.raise now h v).step = S.step := by unfold Slice.raise; dsimp only; split <;> rfl
@[simp] theorem Slice.raise_epoch (now h v : Nat) : (S.raise now h v).epoch = S.epoch := by unfold Slice.raise; dsimp only; split <;> rfl
@[simp] theorem Slice.raise_prevReady (now h v : Nat) : (S.raise now h v).prevReady = S.prevReady := by unfold Slice.raise; dsimp only; split <;> rfl
@[simp] theorem Slice.raise_paceFrom (now h v : Nat) : (S.raise now h v).paceFrom = S.paceFrom := by unfold Slice.raise; dsimp only; split <;> rfl
@[simp] theorem Slice.raise_bookErr (now h v : Nat) : (S.raise now h v).bookErr = S.bookErr := by unfold Slice.raise; dsimp only; split <;> rfl
@[simp] theorem Slice.raise_mapErr (now h v : Nat) : (S.raise now h v).mapErr = S.mapErr := by unfold Slice.raise; dsimp only; split <;> rfl
@[simp] theorem Slice.raise_linkUp (now h v : Nat) : (S.raise now h v).linkUp = S.linkUp := by unfold Slice.raise; dsimp only; split <;> rfl
@[simp] theorem Slice.raise_linkTrain (now h v : Nat) : (S.raise now h v).linkTrain = S.linkTrain := by unfold Slice.raise; dsimp only; split <;> rfl
@[simp] theorem Slice.raise_linkNotice (now h v : Nat) : (S.raise now h v).linkNotice = S.linkNotice := by unfold Slice.raise; dsimp only; split <;> rfl
@[simp] theorem Slice.raise_start (now h v : Nat) : (S.raise now h v).start = S.start := by unfold Slice.raise; dsimp only; split <;> rfl
@[simp] theorem Slice.raise_lpSticky (now h v : Nat) : (S.raise now h v).lpSticky = S.lpSticky := by unfold Slice.raise; dsimp only; split <;> rfl
@[simp] theorem Slice.raise_lpActive (now h v : Nat) : (S.raise now h v).lpActive = S.lpActive := by unfold Slice.raise; dsimp only; split <;> rfl
@[simp] theorem Slice.raise_lpCS (now h v : Nat) : (S.raise now h v).lpCS = S.lpCS := by unfold Slice.raise; dsimp only; split <;> rfl
@[simp] theorem Slice.raise_lpCT (now h v : Nat) : (S.raise now h v).lpCT = S.lpCT := by unfold Slice.raise; dsimp only; split <;> rfl
@[simp] theorem Slice.raise_lpCF (now h v : Nat) : (S.raise now h v).lpCF = S.lpCF := by unfold Slice.raise; dsimp only; split <;> rfl
@[simp] theorem Slice.raise_lpCount (now h v : Nat) : (S.raise now h v).lpCount = S.lpCount := by unfold Slice.raise; dsimp only; split <;> rfl
@[simp] theorem Slice.raise_lpLongest (now h v : Nat) : (S.raise now h v).lpLongest = S.lpLongest := by unfold Slice.raise; dsimp only; split <;> rfl
@[simp] theorem Slice.raise_lpForce (now h v : Nat) : (S.raise now h v).lpForce = S.lpForce := by unfold Slice.raise; dsimp only; split <;> rfl
@[simp] theorem Slice.raise_lpEntryPace (now h v : Nat) : (S.raise now h v).lpEntryPace = S.lpEntryPace := by unfold Slice.raise; dsimp only; split <;> rfl
@[simp] theorem Slice.raise_srst (now h v : Nat) : (S.raise now h v).srst = S.srst := by unfold Slice.raise; dsimp only; split <;> rfl
@[simp] theorem Slice.raise_mv (now h v : Nat) : (S.raise now h v).mv = S.mv := by unfold Slice.raise; dsimp only; split <;> rfl
@[simp] theorem Slice.raise_degC (now h v : Nat) : (S.raise now h v).degC = S.degC := by unfold Slice.raise; dsimp only; split <;> rfl
@[simp] theorem Slice.raise_hh (now h v : Nat) : (S.raise now h v).hh = S.hh := by unfold Slice.raise; dsimp only; split <;> rfl
@[simp] theorem Slice.raise_tithe (now h v : Nat) : (S.raise now h v).tithe = S.tithe := by unfold Slice.raise; dsimp only; split <;> rfl
@[simp] theorem Slice.raise_buckets (now h v : Nat) : (S.raise now h v).buckets = S.buckets := by unfold Slice.raise; dsimp only; split <;> rfl
@[simp] theorem Slice.raise_winLo (now h v : Nat) : (S.raise now h v).winLo = S.winLo := by unfold Slice.raise; dsimp only; split <;> rfl
@[simp] theorem Slice.raise_winHi (now h v : Nat) : (S.raise now h v).winHi = S.winHi := by unfold Slice.raise; dsimp only; split <;> rfl
@[simp] theorem Slice.raise_unbCount (now h v : Nat) : (S.raise now h v).unbCount = S.unbCount := by unfold Slice.raise; dsimp only; split <;> rfl
@[simp] theorem Slice.raise_unbFn (now h v : Nat) : (S.raise now h v).unbFn = S.unbFn := by unfold Slice.raise; dsimp only; split <;> rfl
@[simp] theorem Slice.raise_bindStat (now h v : Nat) : (S.raise now h v).bindStat = S.bindStat := by unfold Slice.raise; dsimp only; split <;> rfl
@[simp] theorem Slice.raise_routeDir (now h v : Nat) : (S.raise now h v).routeDir = S.routeDir := by unfold Slice.raise; dsimp only; split <;> rfl
@[simp] theorem Slice.raise_routeLinks (now h v : Nat) : (S.raise now h v).routeLinks = S.routeLinks := by unfold Slice.raise; dsimp only; split <;> rfl
@[simp] theorem Slice.raise_decAddr (now h v : Nat) : (S.raise now h v).decAddr = S.decAddr := by unfold Slice.raise; dsimp only; split <;> rfl
@[simp] theorem Slice.raise_decSrc (now h v : Nat) : (S.raise now h v).decSrc = S.decSrc := by unfold Slice.raise; dsimp only; split <;> rfl
@[simp] theorem Slice.raise_rotBusy (now h v : Nat) : (S.raise now h v).rotBusy = S.rotBusy := by unfold Slice.raise; dsimp only; split <;> rfl
@[simp] theorem Slice.raise_rotDone (now h v : Nat) : (S.raise now h v).rotDone = S.rotDone := by unfold Slice.raise; dsimp only; split <;> rfl
@[simp] theorem Slice.raise_rotErr (now h v : Nat) : (S.raise now h v).rotErr = S.rotErr := by unfold Slice.raise; dsimp only; split <;> rfl
@[simp] theorem Slice.raise_rotMask (now h v : Nat) : (S.raise now h v).rotMask = S.rotMask := by unfold Slice.raise; dsimp only; split <;> rfl
@[simp] theorem Slice.raise_rotLeft (now h v : Nat) : (S.raise now h v).rotLeft = S.rotLeft := by unfold Slice.raise; dsimp only; split <;> rfl
@[simp] theorem Slice.raise_rotRefused (now h v : Nat) : (S.raise now h v).rotRefused = S.rotRefused := by unfold Slice.raise; dsimp only; split <;> rfl
@[simp] theorem Slice.raise_rotLapse (now h v : Nat) : (S.raise now h v).rotLapse = S.rotLapse := by unfold Slice.raise; dsimp only; split <;> rfl
@[simp] theorem Slice.raise_bkRing (now h v : Nat) : (S.raise now h v).bkRing = S.bkRing := by unfold Slice.raise; dsimp only; split <;> rfl
@[simp] theorem Slice.raise_bkBusy (now h v : Nat) : (S.raise now h v).bkBusy = S.bkBusy := by unfold Slice.raise; dsimp only; split <;> rfl
@[simp] theorem Slice.raise_bkErr (now h v : Nat) : (S.raise now h v).bkErr = S.bkErr := by unfold Slice.raise; dsimp only; split <;> rfl
@[simp] theorem Slice.raise_bkStatus (now h v : Nat) : (S.raise now h v).bkStatus = S.bkStatus := by unfold Slice.raise; dsimp only; split <;> rfl
@[simp] theorem Slice.raise_bkIndex (now h v : Nat) : (S.raise now h v).bkIndex = S.bkIndex := by unfold Slice.raise; dsimp only; split <;> rfl
@[simp] theorem Slice.raise_bkData (now h v : Nat) : (S.raise now h v).bkData = S.bkData := by unfold Slice.raise; dsimp only; split <;> rfl
@[simp] theorem Slice.raise_bkCmd (now h v : Nat) : (S.raise now h v).bkCmd = S.bkCmd := by unfold Slice.raise; dsimp only; split <;> rfl
@[simp] theorem Slice.raise_cap (now h v : Nat) : (S.raise now h v).cap = S.cap := by unfold Slice.raise; dsimp only; split <;> rfl
@[simp] theorem Slice.raise_crings (now h v : Nat) : (S.raise now h v).crings = S.crings := by unfold Slice.raise; dsimp only; split <;> rfl
@[simp] theorem Slice.raise_linkRetx (now h v : Nat) : (S.raise now h v).linkRetx = S.linkRetx := by unfold Slice.raise; dsimp only; split <;> rfl
@[simp] theorem Slice.raise_linkFail (now h v : Nat) : (S.raise now h v).linkFail = S.linkFail := by unfold Slice.raise; dsimp only; split <;> rfl
@[simp] theorem Slice.raise_doorsteps (now h v : Nat) : (S.raise now h v).doorsteps = S.doorsteps := by unfold Slice.raise; dsimp only; split <;> rfl
@[simp] theorem Slice.raise_bells (now h v : Nat) : (S.raise now h v).bells = S.bells := by unfold Slice.raise; dsimp only; split <;> rfl
@[simp] theorem Slice.raise_bellTurn (now h v : Nat) : (S.raise now h v).bellTurn = S.bellTurn := by unfold Slice.raise; dsimp only; split <;> rfl
@[simp] theorem Slice.raise_ext (now h v : Nat) : (S.raise now h v).ext = S.ext := by unfold Slice.raise; dsimp only; split <;> rfl
@[simp] theorem Slice.raise_bridges (now h v : Nat) : (S.raise now h v).bridges = S.bridges := by unfold Slice.raise; dsimp only; split <;> rfl
@[simp] theorem Slice.raise_regWait (now h v : Nat) : (S.raise now h v).regWait = S.regWait := by unfold Slice.raise; dsimp only; split <;> rfl
@[simp] theorem Slice.raise_hhBusy (now h v : Nat) : (S.raise now h v).hhBusy = S.hhBusy := by unfold Slice.raise; dsimp only; split <;> rfl
@[simp] theorem Slice.raise_hhTiles (now h v : Nat) : (S.raise now h v).hhTiles = S.hhTiles := by unfold Slice.raise; dsimp only; split <;> rfl
@[simp] theorem Slice.raise_regHalves (now h v : Nat) : (S.raise now h v).regHalves = S.regHalves := by unfold Slice.raise; dsimp only; split <;> rfl
@[simp] theorem Slice.raise_unparked (now h v : Nat) : (S.raise now h v).unparked = S.unparked := by unfold Slice.raise; dsimp only; split <;> rfl
@[simp] theorem Slice.raise_routers (now h v : Nat) : (S.raise now h v).routers = S.routers := by unfold Slice.raise; dsimp only; split <;> rfl
@[simp] theorem Slice.raise_noticeIn (now h v : Nat) : (S.raise now h v).noticeIn = S.noticeIn := by unfold Slice.raise; dsimp only; split <;> rfl
@[simp] theorem Slice.raise_lpClear (now h v : Nat) : (S.raise now h v).lpClear = S.lpClear := by unfold Slice.raise; dsimp only; split <;> rfl
@[simp] theorem Slice.raise_base (now h v : Nat) : (S.raise now h v).base = S.base := by unfold Slice.raise; dsimp only; split <;> rfl
@[simp] theorem Slice.raise_tiles (now h v : Nat) : (S.raise now h v).tiles = S.tiles := by unfold Slice.raise; dsimp only; split <;> rfl

@[simp] theorem Slice.holdRecord_power (r : BookRec) : (S.holdRecord r).power = S.power := by unfold Slice.holdRecord; split_ifs <;> rfl
@[simp] theorem Slice.holdRecord_step (r : BookRec) : (S.holdRecord r).step = S.step := by unfold Slice.holdRecord; split_ifs <;> rfl
@[simp] theorem Slice.holdRecord_epoch (r : BookRec) : (S.holdRecord r).epoch = S.epoch := by unfold Slice.holdRecord; split_ifs <;> rfl
@[simp] theorem Slice.holdRecord_prevReady (r : BookRec) : (S.holdRecord r).prevReady = S.prevReady := by unfold Slice.holdRecord; split_ifs <;> rfl
@[simp] theorem Slice.holdRecord_paceFrom (r : BookRec) : (S.holdRecord r).paceFrom = S.paceFrom := by unfold Slice.holdRecord; split_ifs <;> rfl
@[simp] theorem Slice.holdRecord_bookErr (r : BookRec) : (S.holdRecord r).bookErr = S.bookErr := by unfold Slice.holdRecord; split_ifs <;> rfl
@[simp] theorem Slice.holdRecord_mapErr (r : BookRec) : (S.holdRecord r).mapErr = S.mapErr := by unfold Slice.holdRecord; split_ifs <;> rfl
@[simp] theorem Slice.holdRecord_linkUp (r : BookRec) : (S.holdRecord r).linkUp = S.linkUp := by unfold Slice.holdRecord; split_ifs <;> rfl
@[simp] theorem Slice.holdRecord_linkTrain (r : BookRec) : (S.holdRecord r).linkTrain = S.linkTrain := by unfold Slice.holdRecord; split_ifs <;> rfl
@[simp] theorem Slice.holdRecord_linkNotice (r : BookRec) : (S.holdRecord r).linkNotice = S.linkNotice := by unfold Slice.holdRecord; split_ifs <;> rfl
@[simp] theorem Slice.holdRecord_start (r : BookRec) : (S.holdRecord r).start = S.start := by unfold Slice.holdRecord; split_ifs <;> rfl
@[simp] theorem Slice.holdRecord_lpSticky (r : BookRec) : (S.holdRecord r).lpSticky = S.lpSticky := by unfold Slice.holdRecord; split_ifs <;> rfl
@[simp] theorem Slice.holdRecord_lpActive (r : BookRec) : (S.holdRecord r).lpActive = S.lpActive := by unfold Slice.holdRecord; split_ifs <;> rfl
@[simp] theorem Slice.holdRecord_lpCS (r : BookRec) : (S.holdRecord r).lpCS = S.lpCS := by unfold Slice.holdRecord; split_ifs <;> rfl
@[simp] theorem Slice.holdRecord_lpCT (r : BookRec) : (S.holdRecord r).lpCT = S.lpCT := by unfold Slice.holdRecord; split_ifs <;> rfl
@[simp] theorem Slice.holdRecord_lpCF (r : BookRec) : (S.holdRecord r).lpCF = S.lpCF := by unfold Slice.holdRecord; split_ifs <;> rfl
@[simp] theorem Slice.holdRecord_lpCount (r : BookRec) : (S.holdRecord r).lpCount = S.lpCount := by unfold Slice.holdRecord; split_ifs <;> rfl
@[simp] theorem Slice.holdRecord_lpLongest (r : BookRec) : (S.holdRecord r).lpLongest = S.lpLongest := by unfold Slice.holdRecord; split_ifs <;> rfl
@[simp] theorem Slice.holdRecord_lpForce (r : BookRec) : (S.holdRecord r).lpForce = S.lpForce := by unfold Slice.holdRecord; split_ifs <;> rfl
@[simp] theorem Slice.holdRecord_lpEntryPace (r : BookRec) : (S.holdRecord r).lpEntryPace = S.lpEntryPace := by unfold Slice.holdRecord; split_ifs <;> rfl
@[simp] theorem Slice.holdRecord_srst (r : BookRec) : (S.holdRecord r).srst = S.srst := by unfold Slice.holdRecord; split_ifs <;> rfl
@[simp] theorem Slice.holdRecord_mv (r : BookRec) : (S.holdRecord r).mv = S.mv := by unfold Slice.holdRecord; split_ifs <;> rfl
@[simp] theorem Slice.holdRecord_degC (r : BookRec) : (S.holdRecord r).degC = S.degC := by unfold Slice.holdRecord; split_ifs <;> rfl
@[simp] theorem Slice.holdRecord_hh (r : BookRec) : (S.holdRecord r).hh = S.hh := by unfold Slice.holdRecord; split_ifs <;> rfl
@[simp] theorem Slice.holdRecord_tithe (r : BookRec) : (S.holdRecord r).tithe = S.tithe := by unfold Slice.holdRecord; split_ifs <;> rfl
@[simp] theorem Slice.holdRecord_buckets (r : BookRec) : (S.holdRecord r).buckets = S.buckets := by unfold Slice.holdRecord; split_ifs <;> rfl
@[simp] theorem Slice.holdRecord_winLo (r : BookRec) : (S.holdRecord r).winLo = S.winLo := by unfold Slice.holdRecord; split_ifs <;> rfl
@[simp] theorem Slice.holdRecord_winHi (r : BookRec) : (S.holdRecord r).winHi = S.winHi := by unfold Slice.holdRecord; split_ifs <;> rfl
@[simp] theorem Slice.holdRecord_unbCount (r : BookRec) : (S.holdRecord r).unbCount = S.unbCount := by unfold Slice.holdRecord; split_ifs <;> rfl
@[simp] theorem Slice.holdRecord_unbFn (r : BookRec) : (S.holdRecord r).unbFn = S.unbFn := by unfold Slice.holdRecord; split_ifs <;> rfl
@[simp] theorem Slice.holdRecord_bindStat (r : BookRec) : (S.holdRecord r).bindStat = S.bindStat := by unfold Slice.holdRecord; split_ifs <;> rfl
@[simp] theorem Slice.holdRecord_routeDir (r : BookRec) : (S.holdRecord r).routeDir = S.routeDir := by unfold Slice.holdRecord; split_ifs <;> rfl
@[simp] theorem Slice.holdRecord_routeLinks (r : BookRec) : (S.holdRecord r).routeLinks = S.routeLinks := by unfold Slice.holdRecord; split_ifs <;> rfl
@[simp] theorem Slice.holdRecord_decAddr (r : BookRec) : (S.holdRecord r).decAddr = S.decAddr := by unfold Slice.holdRecord; split_ifs <;> rfl
@[simp] theorem Slice.holdRecord_decSrc (r : BookRec) : (S.holdRecord r).decSrc = S.decSrc := by unfold Slice.holdRecord; split_ifs <;> rfl
@[simp] theorem Slice.holdRecord_rotBusy (r : BookRec) : (S.holdRecord r).rotBusy = S.rotBusy := by unfold Slice.holdRecord; split_ifs <;> rfl
@[simp] theorem Slice.holdRecord_rotDone (r : BookRec) : (S.holdRecord r).rotDone = S.rotDone := by unfold Slice.holdRecord; split_ifs <;> rfl
@[simp] theorem Slice.holdRecord_rotErr (r : BookRec) : (S.holdRecord r).rotErr = S.rotErr := by unfold Slice.holdRecord; split_ifs <;> rfl
@[simp] theorem Slice.holdRecord_rotMask (r : BookRec) : (S.holdRecord r).rotMask = S.rotMask := by unfold Slice.holdRecord; split_ifs <;> rfl
@[simp] theorem Slice.holdRecord_rotLeft (r : BookRec) : (S.holdRecord r).rotLeft = S.rotLeft := by unfold Slice.holdRecord; split_ifs <;> rfl
@[simp] theorem Slice.holdRecord_rotRefused (r : BookRec) : (S.holdRecord r).rotRefused = S.rotRefused := by unfold Slice.holdRecord; split_ifs <;> rfl
@[simp] theorem Slice.holdRecord_rotLapse (r : BookRec) : (S.holdRecord r).rotLapse = S.rotLapse := by unfold Slice.holdRecord; split_ifs <;> rfl
@[simp] theorem Slice.holdRecord_bkRing (r : BookRec) : (S.holdRecord r).bkRing = S.bkRing := by unfold Slice.holdRecord; split_ifs <;> rfl
@[simp] theorem Slice.holdRecord_bkBusy (r : BookRec) : (S.holdRecord r).bkBusy = S.bkBusy := by unfold Slice.holdRecord; split_ifs <;> rfl
@[simp] theorem Slice.holdRecord_bkErr (r : BookRec) : (S.holdRecord r).bkErr = S.bkErr := by unfold Slice.holdRecord; split_ifs <;> rfl
@[simp] theorem Slice.holdRecord_bkStatus (r : BookRec) : (S.holdRecord r).bkStatus = S.bkStatus := by unfold Slice.holdRecord; split_ifs <;> rfl
@[simp] theorem Slice.holdRecord_bkIndex (r : BookRec) : (S.holdRecord r).bkIndex = S.bkIndex := by unfold Slice.holdRecord; split_ifs <;> rfl
@[simp] theorem Slice.holdRecord_bkData (r : BookRec) : (S.holdRecord r).bkData = S.bkData := by unfold Slice.holdRecord; split_ifs <;> rfl
@[simp] theorem Slice.holdRecord_bkCmd (r : BookRec) : (S.holdRecord r).bkCmd = S.bkCmd := by unfold Slice.holdRecord; split_ifs <;> rfl
@[simp] theorem Slice.holdRecord_cap (r : BookRec) : (S.holdRecord r).cap = S.cap := by unfold Slice.holdRecord; split_ifs <;> rfl
@[simp] theorem Slice.holdRecord_crings (r : BookRec) : (S.holdRecord r).crings = S.crings := by unfold Slice.holdRecord; split_ifs <;> rfl
@[simp] theorem Slice.holdRecord_linkRetx (r : BookRec) : (S.holdRecord r).linkRetx = S.linkRetx := by unfold Slice.holdRecord; split_ifs <;> rfl
@[simp] theorem Slice.holdRecord_linkFail (r : BookRec) : (S.holdRecord r).linkFail = S.linkFail := by unfold Slice.holdRecord; split_ifs <;> rfl
@[simp] theorem Slice.holdRecord_doorsteps (r : BookRec) : (S.holdRecord r).doorsteps = S.doorsteps := by unfold Slice.holdRecord; split_ifs <;> rfl
@[simp] theorem Slice.holdRecord_bells (r : BookRec) : (S.holdRecord r).bells = S.bells := by unfold Slice.holdRecord; split_ifs <;> rfl
@[simp] theorem Slice.holdRecord_bellTurn (r : BookRec) : (S.holdRecord r).bellTurn = S.bellTurn := by unfold Slice.holdRecord; split_ifs <;> rfl
@[simp] theorem Slice.holdRecord_ext (r : BookRec) : (S.holdRecord r).ext = S.ext := by unfold Slice.holdRecord; split_ifs <;> rfl
@[simp] theorem Slice.holdRecord_bridges (r : BookRec) : (S.holdRecord r).bridges = S.bridges := by unfold Slice.holdRecord; split_ifs <;> rfl
@[simp] theorem Slice.holdRecord_regWait (r : BookRec) : (S.holdRecord r).regWait = S.regWait := by unfold Slice.holdRecord; split_ifs <;> rfl
@[simp] theorem Slice.holdRecord_hhBusy (r : BookRec) : (S.holdRecord r).hhBusy = S.hhBusy := by unfold Slice.holdRecord; split_ifs <;> rfl
@[simp] theorem Slice.holdRecord_hhTiles (r : BookRec) : (S.holdRecord r).hhTiles = S.hhTiles := by unfold Slice.holdRecord; split_ifs <;> rfl
@[simp] theorem Slice.holdRecord_regHalves (r : BookRec) : (S.holdRecord r).regHalves = S.regHalves := by unfold Slice.holdRecord; split_ifs <;> rfl
@[simp] theorem Slice.holdRecord_unparked (r : BookRec) : (S.holdRecord r).unparked = S.unparked := by unfold Slice.holdRecord; split_ifs <;> rfl
@[simp] theorem Slice.holdRecord_routers (r : BookRec) : (S.holdRecord r).routers = S.routers := by unfold Slice.holdRecord; split_ifs <;> rfl
@[simp] theorem Slice.holdRecord_noticeIn (r : BookRec) : (S.holdRecord r).noticeIn = S.noticeIn := by unfold Slice.holdRecord; split_ifs <;> rfl
@[simp] theorem Slice.holdRecord_lpClear (r : BookRec) : (S.holdRecord r).lpClear = S.lpClear := by unfold Slice.holdRecord; split_ifs <;> rfl
@[simp] theorem Slice.holdRecord_base (r : BookRec) : (S.holdRecord r).base = S.base := by unfold Slice.holdRecord; split_ifs <;> rfl
@[simp] theorem Slice.holdRecord_tiles (r : BookRec) : (S.holdRecord r).tiles = S.tiles := by unfold Slice.holdRecord; split_ifs <;> rfl
@[simp] theorem Slice.holdRecord_irqs (r : BookRec) : (S.holdRecord r).irqs = S.irqs := by unfold Slice.holdRecord; split_ifs <;> rfl
@[simp] theorem Slice.holdRecord_irqDue (r : BookRec) : (S.holdRecord r).irqDue = S.irqDue := by unfold Slice.holdRecord; split_ifs <;> rfl

/-- What every single cause keeps, a cause to every household keeps. -/
theorem Slice.raiseAll_keeps {α : Type} (f : Slice → α) (hf : ∀ (A : Slice) (now h v : Nat), f (A.raise now h v) = f A) (now v : Nat) :
    f (S.raiseAll now v) = f S := by
  unfold Slice.raiseAll
  generalize (List.range 16).filter (fun h => (S.bind h).bound) = l
  suffices h : ∀ A : Slice, f (l.foldl (fun A h => A.raise now h v) A) = f A from h S
  intro A
  induction l generalizing A with
  | nil => rfl
  | cons x l ih => exact (ih _).trans (hf A now x v)

@[simp] theorem Slice.raiseAll_power (now v : Nat) : (S.raiseAll now v).power = S.power := S.raiseAll_keeps (·.power) (fun _ _ _ _ => Slice.raise_power _ _ _ _) now v
@[simp] theorem Slice.raiseAll_step (now v : Nat) : (S.raiseAll now v).step = S.step := S.raiseAll_keeps (·.step) (fun _ _ _ _ => Slice.raise_step _ _ _ _) now v
@[simp] theorem Slice.raiseAll_lpSticky (now v : Nat) : (S.raiseAll now v).lpSticky = S.lpSticky := S.raiseAll_keeps (·.lpSticky) (fun _ _ _ _ => Slice.raise_lpSticky _ _ _ _) now v
@[simp] theorem Slice.raiseAll_lpActive (now v : Nat) : (S.raiseAll now v).lpActive = S.lpActive := S.raiseAll_keeps (·.lpActive) (fun _ _ _ _ => Slice.raise_lpActive _ _ _ _) now v
@[simp] theorem Slice.raiseAll_lpCS (now v : Nat) : (S.raiseAll now v).lpCS = S.lpCS := S.raiseAll_keeps (·.lpCS) (fun _ _ _ _ => Slice.raise_lpCS _ _ _ _) now v
@[simp] theorem Slice.raiseAll_lpCT (now v : Nat) : (S.raiseAll now v).lpCT = S.lpCT := S.raiseAll_keeps (·.lpCT) (fun _ _ _ _ => Slice.raise_lpCT _ _ _ _) now v
@[simp] theorem Slice.raiseAll_lpCF (now v : Nat) : (S.raiseAll now v).lpCF = S.lpCF := S.raiseAll_keeps (·.lpCF) (fun _ _ _ _ => Slice.raise_lpCF _ _ _ _) now v
@[simp] theorem Slice.raiseAll_lpCount (now v : Nat) : (S.raiseAll now v).lpCount = S.lpCount := S.raiseAll_keeps (·.lpCount) (fun _ _ _ _ => Slice.raise_lpCount _ _ _ _) now v
@[simp] theorem Slice.raiseAll_lpForce (now v : Nat) : (S.raiseAll now v).lpForce = S.lpForce := S.raiseAll_keeps (·.lpForce) (fun _ _ _ _ => Slice.raise_lpForce _ _ _ _) now v
@[simp] theorem Slice.raiseAll_lpEntryPace (now v : Nat) : (S.raiseAll now v).lpEntryPace = S.lpEntryPace := S.raiseAll_keeps (·.lpEntryPace) (fun _ _ _ _ => Slice.raise_lpEntryPace _ _ _ _) now v
@[simp] theorem Slice.raiseAll_lpClear (now v : Nat) : (S.raiseAll now v).lpClear = S.lpClear := S.raiseAll_keeps (·.lpClear) (fun _ _ _ _ => Slice.raise_lpClear _ _ _ _) now v
@[simp] theorem Slice.raiseAll_mv (now v : Nat) : (S.raiseAll now v).mv = S.mv := S.raiseAll_keeps (·.mv) (fun _ _ _ _ => Slice.raise_mv _ _ _ _) now v
@[simp] theorem Slice.raiseAll_degC (now v : Nat) : (S.raiseAll now v).degC = S.degC := S.raiseAll_keeps (·.degC) (fun _ _ _ _ => Slice.raise_degC _ _ _ _) now v
@[simp] theorem Slice.raiseAll_start (now v : Nat) : (S.raiseAll now v).start = S.start := S.raiseAll_keeps (·.start) (fun _ _ _ _ => Slice.raise_start _ _ _ _) now v
@[simp] theorem Slice.raiseAll_epoch (now v : Nat) : (S.raiseAll now v).epoch = S.epoch := S.raiseAll_keeps (·.epoch) (fun _ _ _ _ => Slice.raise_epoch _ _ _ _) now v
@[simp] theorem Slice.raiseAll_paceFrom (now v : Nat) : (S.raiseAll now v).paceFrom = S.paceFrom := S.raiseAll_keeps (·.paceFrom) (fun _ _ _ _ => Slice.raise_paceFrom _ _ _ _) now v
@[simp] theorem Slice.raiseAll_base (now v : Nat) : (S.raiseAll now v).base = S.base := S.raiseAll_keeps (·.base) (fun _ _ _ _ => Slice.raise_base _ _ _ _) now v
@[simp] theorem Slice.raiseAll_tiles (now v : Nat) : (S.raiseAll now v).tiles = S.tiles := S.raiseAll_keeps (·.tiles) (fun _ _ _ _ => Slice.raise_tiles _ _ _ _) now v
@[simp] theorem Slice.raiseAll_mapErr (now v : Nat) : (S.raiseAll now v).mapErr = S.mapErr := S.raiseAll_keeps (·.mapErr) (fun _ _ _ _ => Slice.raise_mapErr _ _ _ _) now v

/-! ## Records and causes of a slice -/

variable (s : State)

theorem State.raise_slice (d h v e : Nat) : (s.raise d h v).slice e = if d = e then (s.slice d).raise s.nextId h v else s.slice e :=
  s.modSlice_slice d e _

theorem State.record_slice (d type tile : Nat) (det : BitVec 352) (e : Nat) :
    (s.record d type tile det).slice e = if d = e then (s.slice d).holdRecord (s.look.mkRecord d type tile det) else s.slice e :=
  s.look.modSlice_slice d e _

end Sys2Proof.Machine
end

