-- ==== Sys2Proof/Laws/Start.lean ====
section
/-!
SUPPORT. What the shared operations of start-up leave as it is: the lapse check, the records owed to the book, and the book's new copy of
its control area.
-/

namespace Sys2Proof.Machine

/-- A lapse check changes the lapse registers, the interrupts and the records on their way to the book alone. -/
theorem State.lapseCheck_keep {α : Type} (f : Slice → α) (s : State) (d : Nat) 
   (h1 : ∀ S a b c, f { S with lpCS := a, lpCT := b, lpCF := c } = f S)
   (h2 : ∀ S a b c e g n x, f (({ S with lpActive := true, lpSticky := true, lpCS := a, lpCT := b, lpCF := c, lpCount := e, lpEntryPace := g, lpClear := none } : Slice).raiseAll n x) = f S)
   (h3 : ∀ S r, f (Slice.holdRecord S r) = f S) (h4 : ∀ S o, f ({ S with lpOwed := o } : Slice) = f S) :
   f ((s.lapseCheck d).slice d) = f (s.slice d) := by
  unfold State.lapseCheck
  dsimp only
  split
  · rfl
  · split
    · rw [State.modSlice_slice, if_pos rfl]; exact h1 _ _ _ _
    · unfold State.lapseEntry State.lapseRecord
      dsimp only
      rw [State.modSlice_slice, if_pos rfl]
      split
      · rw [h4, State.modSlice_slice, if_pos rfl]; exact h2 _ _ _ _ _ _ _ _
      · rw [h3, State.modSlice_slice, if_pos rfl]; exact h2 _ _ _ _ _ _ _ _

/-- The lapse level adds to a lapse check what the clear count does. -/
theorem State.lapseLevel_keep {α : Type} (f : Slice → α) (s : State) (d : Nat)
   (h1 : ∀ S a b c, f { S with lpCS := a, lpCT := b, lpCF := c } = f S)
   (h2 : ∀ S a b c e g n x, f (({ S with lpActive := true, lpSticky := true, lpCS := a, lpCT := b, lpCF := c, lpCount := e, lpEntryPace := g, lpClear := none } : Slice).raiseAll n x) = f S)
   (h3 : ∀ S r, f (Slice.holdRecord S r) = f S) (h4 : ∀ S o, f ({ S with lpOwed := o } : Slice) = f S)
   (h5 : ∀ S c, f ({ S with lpClear := c } : Slice) = f S) :
   f ((s.lapseLevel d).slice d) = f (s.slice d) := by
  unfold State.lapseLevel Slice.countClear
  rw [State.modSlice_slice, if_pos rfl, h5]
  exact State.lapseCheck_keep f s d h1 h2 h3 h4

/-- The book takes a change of its control area into the copy that is not in use, and that copy is the one in use. -/
theorem Book.update_cur (b : Book) (f : Control → Control) (h : b.a.good = true ∨ b.b.good = true) (hg : b.cur.gen.toNat + 1 < 2 ^ 32) :
    (b.update f).cur = { f b.cur with gen := b.cur.gen + 1, good := true } := by
  unfold Book.update
  have e : b.cur = if b.a.good && (!b.b.good || b.b.gen < b.a.gen) then b.a else b.b := rfl
  by_cases hc : (b.a.good && (!b.b.good || decide (b.b.gen < b.a.gen))) = true
  · rw [if_pos hc] at e ⊢
    have hl : ¬ (b.a.gen + 1 < b.a.gen) := by rw [e] at hg; bv_omega
    rw [e]
    simp [Book.cur]; intro _ h; exact absurd h hl
  · rw [if_neg hc] at e ⊢
    have hb : b.b.good = true := by
      rcases h with h | h
      · by_contra hb; simp [h, hb] at hc
      · exact h
    have hl : b.b.gen < b.b.gen + 1 := by rw [e] at hg; bv_omega
    rw [e]
    have hl' : ¬ (b.b.gen + 1 ≤ b.b.gen) := by bv_omega
    simp [Book.cur, hb]; intro h; exact absurd h hl'

/-- Records that a slice holds change nothing but the holds. -/
theorem Slice.foldl_holdRecord {α : Type} (f : Slice → α) (h3 : ∀ S r, f (Slice.holdRecord S r) = f S) (l : List BookRec) (g : BookRec → BookRec) (S : Slice) :
    f (l.foldl (fun S r => S.holdRecord (g r)) S) = f S := by
  induction l generalizing S with
  | nil => rfl
  | cons a l ih => rw [List.foldl_cons, ih, h3]

/-- The records owed to the book change nothing but the holds. -/
theorem State.owedRecords_keep {α : Type} (f : Slice → α) (s : State) (d : Nat) (h3 : ∀ S r, f (Slice.holdRecord S r) = f S) (h4 : ∀ S o, f ({ S with lpOwed := o } : Slice) = f S) :
    f ((s.owedRecords d).slice d) = f (s.slice d) := by
  unfold State.owedRecords
  simp only [State.modSlice_slice, if_true]
  rw [Slice.foldl_holdRecord f h3, h4]

end Sys2Proof.Machine
end

