-- ==== Sys2Proof/Tests/Slice0.lean ====
section
/-!
SUPPORT. Tests: one step each on a small state. Every expected value is worked out by hand from the rules of spec/ that the command's
meaning cites; none is taken from a run. They also show, for each statement with hypotheses, a state and operands that meet them.
-/

open Sys2Proof Sys2Proof.Machine Host

set_option Elab.async false

namespace Sys2Proof.Tests

/-! ## Small states -/

/-- Both dies of the package READY; the first slice holds `S`. -/
def up (S : Slice) : State := { slices := [(0, { S with step := 9 }), (1, { step := 9 })] }

/-- Both dies READY, tile 0 as given. -/
def onTile (T : Tile) : State := up { tiles := [(0, T)] }

/-- The manager's function at the host port of die 0. -/
def mgr : Src := .host 0 0

/-- The scalar core of tile 0, which reaches its own register block by the local path; the manager's, where household 0 has the tile. -/
def own : Src := .sc 0

/-- What an outcome leads to; a machine without a die where it stops. -/
def led (r : Result) : State :=
  match r with
  | .next t => t
  | _ => {}

/-- What a command leads to. -/
def after (c : Instr) (s : State) : State := led (exec c s)

/-- The command goes on. -/
def goes (c : Instr) (s : State) : Bool := match exec c s with | .next _ => true | _ => false

/-- The command leads to the state `t`. -/
def leads (c : Instr) (s t : State) : Bool := goes c s && after c s == t

/-- `s` with an access of `w` to the register at `a` of die `d` whose turn has come at the register bus: a write of `v`, or a read. -/
def atBus (w : Src) (d a : Nat) (v : Option Word) (s : State) : State :=
  { s with net := { s.newPacket (s.issuer w) (.reg v.isSome) 6 (.regs d) (BitVec.ofNat 48 a) 0 4 v.isSome
      (match v with | some v => [v.zeroExtend 512] | none => []) with id := 4096, came := 0, loc := .arrived } :: s.net }

/-- The manager's write to a register of slice 0, at the bus. -/
def sl (off : Nat) (v : Word) (s : State) : State := atBus mgr 0 (sliceRegAddr 0 off) (some v) s

/-- The manager's write to a register of tile 0, at the bus. -/
def tl (off : Nat) (v : Word) (s : State) : State := atBus mgr 0 (tileRegAddr 0 off) (some v) s

/-- What the access at the bus has been answered. -/
def said (s : State) : Option Status := (s.pkt 4096).bind (·.resp)

/-- `s.arrives w`, decided. -/
def arrivesB (s : State) : Src → Bool
  | .sc t => s.hasTile t && s.live (tileDie t)
  | .st t n => s.hasTile t && s.live (tileDie t) && n < 8
  | .host d fn => s.hasDie d && s.live d && (s.hhOf (.host d fn)).isSome

/-- `s.tileTakes w tile off v`, decided. -/
def takesT (s : State) (w : Src) (tile off : Nat) (v : Word) : Bool :=
  arrivesB s w && (isLocal w tile || (s.turn w (tileDie tile) (tileRegAddr tile off) v).isSome) && s.ready (tileDie tile) &&
    (s.tile tile).reassign.isNone && (s.tile tile).regBusy.isNone && (s.tile tile).regWait.isEmpty

/-- `s.sliceTakes w die off v`, decided. -/
def takesS (s : State) (w : Src) (die off : Nat) (v : Word) : Bool :=
  arrivesB s w && (s.turn w die (sliceRegAddr die off) v).isSome && s.ready die && (s.slice die).hhBusy.isNone

theorem arrives_of {s : State} {w : Src} (h : arrivesB s w = true) : s.arrives w := by
  cases w <;> simpa [arrivesB, State.arrives, and_assoc] using h

theorem takesT_of {s : State} {w : Src} {tile off : Nat} {v : Word} (h : takesT s w tile off v = true) : s.tileTakes w tile off v := by
  simp only [takesT, Bool.and_eq_true, Bool.or_eq_true, Option.isNone_iff_eq_none, List.isEmpty_iff] at h
  obtain ⟨⟨⟨⟨⟨h1, h2⟩, h3⟩, h4⟩, h5⟩, h6⟩ := h
  exact ⟨arrives_of h1, h2, h3, h4, h5, h6⟩

theorem takesS_of {s : State} {w : Src} {die off : Nat} {v : Word} (h : takesS s w die off v = true) : s.sliceTakes w die off v := by
  simp only [takesS, Bool.and_eq_true, Option.isNone_iff_eq_none] at h
  obtain ⟨⟨⟨h1, h2⟩, h3⟩, h4⟩ := h
  exact ⟨arrives_of h1, h2, h3, h4⟩

/-! ## The whole machine -/

theorem test_step_runs_front :
    led (step { up {} with pending := [.coreReset 0, .still 1] }) = after (.coreReset 0) { up {} with pending := [.still 1] } := by decide +kernel

theorem test_empty_queue : (up {}).pending = [] ∧ (led (step (up {}))).ticks = 1 := by decide +kernel

theorem test_frames : reachesBanks (.coreReset 0) = false ∧ goes (.coreReset 0) (up {}) = true ∧ goes (.remapWrite own 0 1) (up {}) = true ∧
    ((after (.remapWrite own 0 1) (up {})).tile 0).remap = true ∧ ((after (.remapWrite own 0 1) (up {})).tile 1).remap = false ∧
    goes (.routeWrite mgr 0 1 1) (up {}) = true := by decide +kernel

theorem test_reset_registers : State.reset.tileRead mgr 2047 0x108 = 0x00020000 ∧ State.reset.tileRead mgr 2047 0xFFC = 0 ∧
    State.reset.tileRead mgr 5 0 = 5 ∧ State.reset.sliceRead 1 0x01A0 = 0xF0 ∧ State.reset.sliceRead 1 0x01A4 = 0 := by decide +kernel

theorem test_absent_places : leads (.still 512) (up {}) (up {}) = true ∧ leads (.lapseEnd 2) (up {}) (up {}) = true ∧
    leads (.coreResetNotice 512 0) (up {}) (up {}) = true ∧ (up {}).hasTile 511 = true ∧ (up {}).hasTile 512 = false ∧ (up {}).hasDie 2 = false := by
  decide +kernel

/-! ## Start-up, resets, lapse -/

theorem test_start_up :
    let s1 := after (.supplyGood 0) State.reset
    let s4 := after (.settlingDelayExpiry 0) s1
    let s5 := after (.bookCheck 0) s4
    let s6 := after (.repairMapLoad 0) s5
    let s9 := after (.startupInitialState 0) s6
    (State.reset.slice 0).step = 0 ∧ (s1.slice 0).step = 1 ∧ (s1.slice 0).linkTrain = 0xFF ∧ Tbl.get 0 s1.book.cause 0 = 1 ∧
    (s4.slice 0).step = 4 ∧ (s4.slice 0).epoch = 1 ∧ s4.live 0 = true ∧ s4.book.a.good = true ∧ (s5.slice 0).step = 5 ∧
    s5.book.cur.bootOf 0 = 1 ∧ s5.live 0 = true ∧ (s6.slice 0).step = 6 ∧ (s6.slice 0).mapErr = false ∧ s9.ready 0 = true ∧
    s9.unswept 255 15 1023 = true := by decide +kernel

theorem test_resets :
    let s := up { srst := true, crings := [(1, {})] }
    (after (.sliceReset 0 1) s).slice 0 = { power := true, prevReady := true, mv := (after (.sliceReset 0 1) s).slice 0 |>.mv } ∧ Tbl.get 0 (after (.sliceReset 0 3) s).book.cause 0 = 3 ∧
    ((after (.sliceReset 0 4) s).slice 1).step = 0 ∧ ((after (.supplyReset 0) s).slice 0).mv ≤ 639 ∧ s.ready 0 = true ∧
    (after (.diePowerOff 0) s).live 0 = false ∧ takesS (sl 0x10 0xA501 (up {})) mgr 0 0x10 0xA501 = true ∧
    ((after (.srst mgr 0 0xA501) (sl 0x10 0xA501 (up {}))).slice 0).srst = true ∧ said (after (.srst mgr 0 1) (sl 0x10 1 (up {}))) = some .deed := by
  decide +kernel

theorem test_lapse :
    let s := up {}
    let l := after (.monitorCrossing 0 699 50) s
    s.live 0 = true ∧ (l.slice 0).lpActive = true ∧ (l.slice 0).lpSticky = true ∧ (l.slice 0).lpCS = true ∧ (l.slice 0).lpCT = false ∧
    (l.slice 0).lpClear = none ∧
    ((after (.monitorCrossing 0 700 105) s).slice 0).lpActive = false ∧ ((after (.monitorCrossing 0 800 (-1)) s).slice 0).lpCT = true ∧
    ((after (.monitorCrossing 0 639 50) s).slice 0).step = 0 ∧ ((after (.forceLapse mgr 0 1) (sl 0x28 1 s)).slice 0).lpCF = true ∧
    takesS (sl 0x28 1 s) mgr 0 0x28 1 = true ∧
    (let e := after (.monitorCrossing 0 750 50) l
     let f (k : Nat) : State := e.modTile 0 (fun T => { T with meter := k })
     (e.slice 0).lpActive = true ∧ (e.slice 0).clear = true ∧ e.lapseDrained 0 = true ∧ (e.slice 0).lpClear = some 0 ∧
     ((after (.lapseEnd 0) (f 4095)).slice 0).lpActive = true ∧ (f 4096).paceNat 0 = 4096 ∧ (f 4096).lapseDrained 0 = true ∧
     ((after (.lapseEnd 0) (f 4096)).slice 0).lpActive = false) := by
  decide +kernel

/-! ## Banks, the merge buffer and deeds -/

/-- A vector engine's access of one row, in its beat. -/
def acc0 : Access :=
  { id := 0, master := .vx, view := .bank, write := false, off := 0x10040, size := 64, beats := 1, done := 0, qos := 0, data := [],
    stage := .beat, inSet := false, demoted := false, l := false, lapse := false, badAt := none, iss := default, dest := .port }

/-- Bank 1 of tile 0 belongs to VX (code 2), and its row 1 holds 7. -/
def rowUp (T : Tile) : State := { onTile { T with owner := [(1, 2)] } with mem := [(rowKey 0 1 1, mkRow 7)] }

theorem test_bank_requests :
    let s := rowUp {}
    let rq : BankReq := .core .vx .bank 0x10040 64 false 1 0 []
    coreShape .vx 0x10040 64 false 1 [] = true ∧ alignOk .vx .bank 0x10040 64 false = true ∧ (s.tile 0).deedCheck .vx [1] = .allow ∧
    (s.tile 0).deedCheck .mx [1] = .refuse ∧ ((after (.bankRequest 0 rq) s).tile 0).accs.map (fun a => (a.id, a.stage)) = [(0, .waiting)] ∧
    leads (.bankRequest 0 (.core .vx .bank 0 64 false 1 0 [])) s
      (((s.takeId.modTile 0 Tile.countDeed).modTile 0 (fun T => T.dropAcc 0)).emit (.access 0 .vx 0 .deed [] false false)) = true ∧
    (let t := rowUp { accs := [{ acc0 with stage := .waiting }] }
     (t.tile 0).nextBeat 1 = some { acc0 with stage := .waiting } ∧ (t.tile 0).beatBusy acc0 = false ∧
     ((after (.bankBeat 0 1) t).tile 0).accs = [acc0]) ∧
    (let t := rowUp { accs := [{ acc0 with master := .nw, stage := .portGranted }] }
     (t.tile 0).acc 0 = some { acc0 with master := .nw, stage := .portGranted } ∧ goes (.bankRequest 0 (.nw 0)) t = true) := by decide +kernel

theorem test_write_commit :
    let a : Access := { acc0 with write := true, data := [5], off := 0xE0000 }
    let s := { onTile { accs := [a] } with poison := [rowKey 0 14 0] }
    let t := after (.bankWriteCommit 0 0) s
    (s.tile 0).acc 0 = some a ∧ t.stored 0 14 0 = mkRow 5 ∧ t.poisoned 0 14 0 = false ∧ t.unswept 0 14 0 = false ∧
    t.out = [.access 0 .vx 0 .ok [] false false] ∧ (t.tile 0).accs = [] := by decide +kernel

theorem test_row_reads :
    let s := rowUp {}
    s.readRow 0 1 1 2 none 0 0 = (s, .ok, 7) ∧ (s.readRow 0 1 1 2 none 1 0).2 = (.ok, 7) ∧ ((s.readRow 0 1 1 2 none 1 0).1.tile 0).replays = 1 ∧
    (s.readRow 0 1 1 2 none 1 2).2.1 = .uncorr ∧ (s.readRow 0 1 1 2 none 1 2).1.poisoned 0 1 1 = true ∧
    ((s.readRow 0 1 1 2 none 1 2).1.tile 0).poisons = 1 ∧ s.unswept 0 15 1023 = true ∧ s.readRow 0 15 1023 2 none 1 1 = (s, .ok, 0) ∧
    ({ s with poison := [rowKey 0 1 1] }).readRow 0 1 1 2 none 0 0 = ({ s with poison := [rowKey 0 1 1] }, .uncorr, 0) := by decide +kernel

theorem test_read_complete :
    let s := rowUp { accs := [acc0] }
    (s.tile 0).acc 0 = some acc0 ∧ s.unswept 0 1 1 = false ∧ s.poisoned 0 1 1 = false ∧ missMask (s.stored 0 1 1) = 0 ∧
    leads (.bankReadComplete 0 0 [] []) s ((s.modTile 0 (fun T => T.dropAcc 0)).emit (.access 0 .vx 0 .ok [7] false false)) = true := by
  decide +kernel

theorem test_merge_buffer :
    let s := onTile { owner := [(1, 3)] }
    let e : MergeEntry := { bank := 1, row := 1, image := 0xAB00, mask := 2, qos := 0, flushing := false }
    let full : MergeEntry := { e with mask := BitVec.allOnes 64, flushing := true, image := 9 }
    (s.tile 0).deedCheck .sc [1] = .allow ∧ leads (.narrowWrite 0 0x10041 1 0xAB 0) s
      ((s.modTile 0 (fun T => { T with merge := [e] })).emit (.access 0 .sc 0 .ok [] false false)).takeId = true ∧
    (let i := onTile { owner := [(1, 3)], merge := [e], meter := 63 }
     let c (o : BitVec 3) := after (.mergeIdleFlush 0 1 1) (onTile { owner := [(1, o)], commons := 8, merge := [e], meter := 64 })
     leads (.mergeIdleFlush 0 1 1) i i = true ∧ ((c 3).tile 0).merge.map (·.flushing) = [true] ∧ ((c 3).tile 0).accs = [] ∧
     ((c 6).tile 0).accs.map (fun a => (a.dest, a.master, a.beats, a.stage)) = [(.flush 1 1, .sc, 2, .waiting)]) ∧
    (let part : MergeEntry := { e with flushing := true }
     let k (l : List Access) (d : RowData) : RowData :=
       ((after (.mergeFlushCommit 0 1 1 0 0) { onTile { owner := [(1, if l.isEmpty then 3 else 6)], merge := [part], accs := l } with mem := [(rowKey 0 1 1, mkRow d)] }).stored 0 1 1).data
     let f : Access := { acc0 with master := .sc, write := true, beats := 2, done := 1, data := [7], dest := .flush 1 1 }
     k [] 0x7733 = 0xAB33 ∧ k [f] 0x7733 = 0xAB07 ∧
     ((onTile { owner := [(1, 6)], merge := [part], accs := [f] }).tile 0).flushReady 1 1 = true ∧
     ((onTile { owner := [(1, 3)], merge := [part] }).tile 0).flushReady 1 1 = true) ∧
    (s.tile 0).room 1 ≠ .wait ∧
    (s.tile 0).ownerOf 1 ≠ 6 ∧ leads (.mergeFlushCommit 0 1 1 0 0) (onTile { owner := [(1, 3)], merge := [full] })
      { onTile { owner := [(1, 3)] } with mem := [(rowKey 0 1 1, mkRow 9)] } = true := by decide +kernel

theorem test_deed_writes :
    let s := onTile { owner := [(0, 1), (3, 2), (4, 6)], commons := 4 }
    let t := after (.deedWrite own 0 3 5) s
    let c := after (.commonsWrite own 0 0xFF) s
    let r := after (.retireBank own 0 0x8009) s
    let q := after (.deedWrite mgr 0 3 5) (tl 0x4C 5 s)
    takesT (tl 0x4C 5 s) mgr 0 0x4C 5 = true ∧ said q = some .ok ∧ q.out = [] ∧ (q.tile 0).deedOp = some (.deed 3 5) ∧
    said (after (.deedWrite mgr 0 3 6) (tl 0x4C 5 s)) = none ∧
    takesT s own 0 0x4C 5 = true ∧ s.mayWrite .slgm own 0 = true ∧ (s.tile 0).underTest 3 = false ∧
    t.out = [.reg own (tileRegAddr 0 0x4C) .ok 0] ∧ (t.tile 0).deedOp = some (.deed 3 5) ∧ (t.tile 0).pend = 8 ∧ (t.tile 0).ownerOf 3 = 2 ∧
    ((after (.deedWrite own 0 3 2) s).tile 0).deedOp = none ∧ (c.tile 0).deedOp = some (.commons 0x3E) ∧ (c.tile 0).pend = 16 ∧
    (c.tile 0).commons = 4 ∧ ((after (.commonsWrite own 0 4) s).tile 0).deedOp = none ∧
    ((after (.commonsWrite own 0 2) (onTile {})).tile 0).commons = 2 ∧ (r.tile 0).retired = 0x8009 ∧ (r.tile 0).pend = 0x0009 ∧
    ((after (.deedWrite own 0 15 1) (onTile { deedOp := some (.deed 3 5) })).tile 0).regWait = [{ src := own, off := 0x7C, value := 1 }] := by
  decide +kernel

theorem test_rotations :
    let T : Tile := { owner := [(0, 1), (1, 2)], rotA := 1, rotB := 2 }
    let s := onTile T
    let t := after (.rotateGo own 0 1) s
    let u := up { tiles := [(0, { T with rotWait := true })], rotBusy := true, rotLeft := 1 }
    (s.tile 0).rotateCause = 0 ∧ (s.tile 0).rotateWaits = false ∧ (t.tile 0).rotBusy = true ∧
    (t.tile 0).deedOp = some (.rotate 1 2 false) ∧ (t.tile 0).pend = 3 ∧
    ((onTile {}).tile 0).rotateCause ≠ 0 ∧ ((after (.rotateGo own 0 1) (onTile {})).tile 0).rotErr = true ∧
    ((after (.sliceRotateGo mgr 0 1) (sl 0x200 1 (up { rotMask := 2 ^ 255 }))).tile 255).rotWait = true ∧
    ((after (.sliceRotateGo mgr 0 1) (sl 0x200 1 (up {}))).slice 0).rotDone = true ∧
    takesS (sl 0x200 1 (up {})) mgr 0 0x200 1 = true ∧
    ((after (.tileRotateRequest 0) u).tile 0).deedOp = some (.rotate 1 2 true) ∧
    bit ((after (.tileRotateRequest 0) (up { tiles := [(0, { rotWait := true })], rotBusy := true, rotLeft := 1 })).slice 0).rotLeft 0 = false ∧
    ((after (.sliceRotateDone 0) (up { rotBusy := true })).slice 0).rotDone = true := by decide +kernel

theorem test_deed_steps :
    let m : MergeEntry := { bank := 1, row := 0, image := 0, mask := 1, qos := 0, flushing := false }
    let s := onTile { deedOp := some (.deed 1 5), owner := [(1, 3)], pend := 2, merge := [m] }
    let f (op : DeedOp) := after (.deedEffectPoint 0) (onTile { deedOp := some op, deedStop := true, owner := [(1, 3)], pend := 2 })
    ((after (.deedAdmissionStop 0) s).tile 0).merge = [{ m with flushing := true }] ∧
    ((after (.deedAdmissionStop 0) s).tile 0).deedStop = true ∧
    ((onTile { deedOp := some (.deed 1 5), deedStop := true }).tile 0).deedReady (.deed 1 5) = true ∧
    ((f (.deed 1 5)).tile 0).ownerOf 1 = 5 ∧ ((f (.deed 1 5)).tile 0).pend = 0 ∧ ((f (.commons 4)).tile 0).commons = 4 ∧
    ((f (.retire 2)).tile 0).ownerOf 1 = 0 := by decide +kernel

theorem test_rotation_swaps :
    let s := onTile { deedOp := some (.rotate 1 0x8000 true), deedStop := true, owner := [(0, 1), (15, 4)], pend := 0x8001, rotBusy := true }
    let t := after (.rotationEffectPoint 0) s
    (s.tile 0).deedReady (.rotate 1 0x8000 true) = true ∧ (t.tile 0).ownerOf 0 = 4 ∧ (t.tile 0).ownerOf 15 = 1 ∧ (t.tile 0).rotBusy = false ∧
    (t.tile 0).pend = 0 ∧ bit (t.slice 0).rotLeft 0 = false := by decide +kernel

theorem test_sweeps :
    let s := { onTile { sweep15 := true } with valid := [validKey 0 14 1023, validKey 0 15 0, validKey 0 15 1023, validKey 1 14 0] }
    let t := after (.sweepEnd 0 15) s
    leads (.sweep own 0 3) (onTile {}) { onTile { sweep14 := true, sweep15 := true } with out := [.reg own (tileRegAddr 0 0x0C) .ok 0] } = true ∧
    ((after (.sweep own 0 3) (onTile { deedOp := some (.deed 3 5) })).tile 0).regWait = [{ src := own, off := 0x0C, value := 3 }] ∧
    t.unswept 0 15 1023 = true ∧ t.unswept 0 14 1023 = false ∧ t.unswept 1 14 0 = false ∧ (t.tile 0).sweep15 = false := by decide +kernel

/-! ## Lanes, the slice matrix, registers, arbiters, locks, the watchdog -/

/-- A read of tile 1 by channel 0 of tile 0, at its issuer. -/
def pk0 : Packet := ({} : State).newPacket { die := 0, tile := 0, master := 4, chan := 0, hh := 0, port := 127 } .read 1 (.tile 1) (BitVec.ofNat 48 (tileMemAddr 1 0)) 0 64 false []

/-- Both dies READY, one packet in transit. -/
def onNet (p : Packet) : State := { up {} with net := [p] }

theorem test_lane_flits :
    let p : Packet := { pk0 with target := .tile 255 }
    let q : Packet := { pk0 with target := .tile 256 }
    let at' (p : Packet) (x y : Nat) := ((after (.laneFlit 0) (onNet { p with loc := .lane 0 x y })).net.map (fun p => (p.loc, p.port)))
    at' p 15 15 = [(.arrived, 0)] ∧ at' p 14 15 = [(.lane 0 15 15, 0)] ∧ at' p 15 14 = [(.lane 0 15 15, 0)] ∧ at' q 15 0 = [(.matrix 0, 15)] ∧
    at' q 1 14 = [(.lane 0 0 14, 0)] ∧ q.destDie = 1 ∧ p.destTile = some 255 ∧ p.goal 0 = some 255 ∧ q.goal 0 = none ∧
    (let s (l : List Packet) : State := { up { routers := [(routerKey 14 15 2 1, 3)] } with net := l.map (fun p => { p with loc := .lane 0 14 15 }) }
     let a : Packet := { p with side := 3 }
     let b : Packet := { p with id := 1, ord := 1, side := 5, iss := { p.iss with tile := 238 } }
     routeOut 14 15 (some 255) = 2 ∧ p.lane = 1 ∧ ((s [a, b]).laneGrant 0 14 15 2 1).map (·.id) = some 1 ∧
     (after (.laneFlit 0) (s [a, b])).net = (s [a, b]).net ∧ ((after (.laneFlit 1) (s [a, b])).pkt 1).map (·.loc) = some (.lane 0 15 15) ∧
     Tbl.get 5 ((after (.laneFlit 1) (s [a, b])).slice 0).routers (routerKey 14 15 2 1) = 5 ∧
     ((s [{ a with qos := 2 }, b]).laneGrant 0 14 15 2 1).map (·.id) = some 0) := by
  decide +kernel

theorem test_slice_matrix :
    let p : Packet := { pk0 with loc := .matrix 0 }
    let h : Packet := { pk0 with loc := .matrix 0, target := .host 0 }
    let e : Packet := { pk0 with loc := .matrix 0, target := .ext 0 2 }
    let r : Packet := { pk0 with loc := .ring 0 7, target := .tile 256 }
    let g (s : State) (t : Nat) := ((s.slice 0).portGrant t (s.atPort 0 t)).1
    turnPick 127 [p] = some p ∧ g ((onNet p).holdBackAll 0) 17 = some p ∧ p.port? = 17 ∧
    (after (.sliceMatrixGrant 0 17) (onNet p)).net.map (·.loc) = [.lane 0 1 0] ∧
    Tbl.get 127 ((after (.sliceMatrixGrant 0 17) (onNet p)).slice 0).turn 17 = 0 ∧
    (after (.sliceMatrixGrant 0 3) (onNet e)).net.map (·.loc) = [.arrived] ∧
    (after (.sliceMatrixGrant 0 0) (onNet h)).out = [.hostRequest 0 0 0 64 false []] ∧
    g ((onNet p).holdBackAll 0) 18 = none ∧ (after (.sliceMatrixGrant 0 18) (onNet p)).net = (onNet p).net ∧
    (after (.holdbackRelease 0 0) (onNet { p with loc := .held 0 })).net.map (·.loc) = [.matrix 0] ∧
    (after (.holdbackRelease 0 1) { up {} with net := [{ h with entered := true, loc := .served }, { e with id := 1, ord := 1, loc := .held 0 }] }).net.map (·.loc) =
      [.served, .held 0] ∧
    (onNet r).ringReady 0 7 = [r] ∧ (((onNet r).slice 0).portGrant 87 [r]).1 = some r ∧
    (after (.bridgeSlotAdmit 0 7) (onNet r)).net.map (·.loc) = [.bridge 0 7] ∧ ((after (.bridgeSlotAdmit 0 7) (onNet r)).bridge 0 7).queue = [0] ∧
    leads (.bridgeSlotAdmit 0 7) (up {}) (up {}) = true := by decide +kernel

theorem test_parking :
    let S : Slice := { park := [(2, 0x103)] }
    let e (c : Nat) : Packet := { pk0 with loc := .matrix 0, target := .ext 0 1, port := c }
    let s (S : Slice) (c : Nat) : State := { up S with net := [e c] }
    S.parkedOn 2 = some 3 ∧ ({} : Slice).parkedOn 2 = none ∧ (S.portGrant 2 [e 3]).1 = some (e 3) ∧ S.portGrant 2 [e 4] = (none, [2]) ∧
    (after (.sliceMatrixGrant 0 2) (s S 4)).net = [e 4] ∧ ((after (.sliceMatrixGrant 0 2) (s S 4)).slice 0).unparked = [2] ∧
    (after (.sliceMatrixGrant 0 2) (s { S with unparked := [2] } 4)).net.map (·.loc) = [.arrived] ∧
    (after (.sliceMatrixGrant 0 2) (s S 3)).net.map (·.loc) = [.arrived] := by decide +kernel

theorem test_default_target :
    let s := up {}
    let a : Addr := BitVec.ofNat 48 (2 ^ 45 + 2 ^ 44)
    let t := after (.defaultTarget mgr 0 a) s
    arrivesB s mgr = true ∧ arrivesB s (.sc 0) = true ∧ s.decodes mgr a = false ∧ t.out = [.hostAnswer 0 0 .decerr []] ∧ (t.slice 0).decAddr = a ∧
    (t.slice 0).decSrc = 0x80000040 ∧ ((after (.defaultTarget (.sc 0) 0 a) t).slice 0).decSrc = 0xC0000040 ∧
    (after (.defaultTarget (.sc 0) 0 a) t).out.length = 2 ∧ ((after (.decerrRearm mgr 0 0x80000000) (sl 0x1C8 0x80000000 t)).slice 0).decSrc = 0x40 := by decide +kernel

theorem test_register_accesses :
    let s := onTile { hh := 5, commons := 9 }
    let b (w : Src) (a : Nat) := atBus w 0 a none s
    let rd (w : Src) (a : Nat) (s : State) := after (.registerBusAccess w (BitVec.ofNat 48 a) 4 false 0) s
    let got (t : State) : Option (Option Status × List RowData) := (t.pkt 4096).map (fun p => (p.resp, p.data))
    (s.tile 0).regWait = [] ∧ s.mayRead mgr 0 = true ∧ tileMapped 0x080 = true ∧ sliceMapped 0 0x2FFC = true ∧
    ((b mgr (tileRegAddr 0 0x080)).readTurn mgr 0 (tileRegAddr 0 0x080)).map (·.id) = some 4096 ∧
    got (rd mgr (tileRegAddr 0 0x080) (b mgr (tileRegAddr 0 0x080))) = some (some .ok, [9]) ∧
    (rd (.sc 0) (tileRegAddr 0 0x080) s).out = [.reg (.sc 0) (tileRegAddr 0 0x080) .ok 9] ∧
    got (rd (.sc 0) (sliceRegAddr 0 0x2FFC) (b (.sc 0) (sliceRegAddr 0 0x2FFC))) = some (some .deed, [0]) ∧
    got (rd (.sc 0) (sliceRegAddr 0 0) (b (.sc 0) (sliceRegAddr 0 0))) = some (some .ok, [0x16A3]) := by decide +kernel

theorem test_register_access_travels :
    let s := up {}
    let a : Addr := BitVec.ofNat 48 (sliceRegAddr 1 0x10)
    let t := after (.registerBusAccess (.sc 3) a 4 true 7) s
    let h := after (.registerBusAccess mgr a 8 true 7) s
    let bad : Addr := BitVec.ofNat 48 (sliceRegAddr 2 0x10)
    arrivesB s (.sc 3) = true ∧ s.regPlace a = some 1 ∧ s.busPkt (.sc 3) 1 a true = none ∧ s.busPkt mgr 1 a true = none ∧ (s.slice 0).hhOfFn 0 = some 0 ∧
    t.net.map (fun p => (p.kind, p.qos, p.target, p.data)) = [(.reg true, 6, .regs 1, [7])] ∧ t.out = [] ∧
    h.net.map (fun p => (p.kind, p.qos, p.target, p.size)) = [(.reg true, 6, .regs 1, 8)] ∧ s.regPlace bad = none ∧
    (after (.registerBusAccess (.sc 3) bad 4 true 7) s).out = [.reg (.sc 3) bad.toNat .decerr 0] ∧
    ((after (.registerBusAccess (.sc 3) bad 4 true 7) s).slice 0).decAddr = bad := by decide +kernel

theorem test_foreign_access :
    let s := atBus (.sc 1) 0 (tileRegAddr 0 0x084) (some 0xFF) (up { tiles := [(0, { hh := 5, commons := 9 }), (1, { hh := 6 })] })
    let t := after (.registerBusAccess (.sc 1) (BitVec.ofNat 48 (tileRegAddr 0 0x084)) 4 true 0xFF) s
    takesT s (.sc 1) 0 0x084 0xFF = true ∧ s.hhOf (.sc 1) = some 6 ∧ (s.tile 0).hh = 5 ∧ said t = some .deed ∧ t.out = [] ∧
    t.tile 0 = s.tile 0 := by decide +kernel

theorem test_register_writes :
    let s := up {}
    let wr (off : Nat) (v : Word) := (after (.registerWrite mgr (BitVec.ofNat 48 (tileRegAddr 0 off)) v) (tl off v s)).tile 0
    let ws (off : Nat) (v : Word) := (after (.registerWrite mgr (BitVec.ofNat 48 (sliceRegAddr 0 off)) v) (sl off v s)).slice 0
    takesT (tl 0x088 7 s) mgr 0 0x088 7 = true ∧ takesS (sl 0x19C 1 s) mgr 0 0x19C 1 = true ∧ s.mayWrite .slgm mgr 0 = true ∧ s.mayWrite .hm mgr 0 = true ∧ (wr 0x084 0xFFFFFFFF).prio = 0x3FFF8 ∧
    (wr 0x088 7).rotA = 7 ∧ (wr 0x08C 9).rotB = 9 ∧ Tbl.get 0 (wr 0x0D4 3).conf 5 = 3 ∧ (wr 0x0E0 4).deedFlt = 4 ∧
    Tbl.get 0 (ws 0x019C 0xFFFFFFFF).park 7 = 0x17F ∧ Tbl.get 0 (ws 0x0138 0xFFFFFFFF).winLo 15 = 0x7FFFFFC0 ∧
    Tbl.get 0 (ws 0x2FFC 0xFFFFFFFF).doorsteps 1023 = 0x8000FFFF ∧ ((after (.remapWrite own 0 3) s).tile 0).logLate = true := by decide +kernel

theorem test_arbiter :
    let a : Access := { acc0 with master := .nw, qos := 7, stage := .waiting, off := 0x10040, inSet := true }
    let s (n : Option Nat) : State := onTile { owner := [(1, 6)], commons := 0x20, accs := [a], arbs := [(1, { next := n })] }
    ((s none).tile 0).hasArb 1 = true ∧ ((s none).tile 0).arbBusy 1 = false ∧ a.raised 1 = true ∧ ((s none).tile 0).lockAdmits a = true ∧
    (((after (.arbiterDecision 0 1) (s none)).tile 0).arb 1).next = some 0 ∧
    ((after (.arbiterDecision 0 1) (s (some 0))).tile 0).accs.map (·.stage) = [.granted] ∧
    (let t := onTile { owner := [(1, 6)], accs := [{ a with inSet := false }] }
     (t.tile 0).arbOf { a with inSet := false } = some 1 ∧ ((after (.deadlineAdmission 0 0) t).tile 0).accs.map (·.inSet) = [true]) := by decide +kernel

theorem test_locks :
    let s := onTile { owner := [(1, 6)] }
    let h : Holder := .core 1 0
    let b (v : Word) (s : State) : State := atBus (.sc 1) 0 (tileRegAddr 0 0xF8) (some v) s
    let c (w : Src) (s : State) : State := after (.lockRelease w 0 1) (atBus w 0 (tileRegAddr 0 0xF8) (some 0x21) s)
    let l : State := { after (.lockAcquire (.sc 1) 0 1) (b 0x11 s) with net := [] }
    takesT (b 0x11 s) (.sc 1) 0 0xF8 0x11 = true ∧ s.hhOf (.sc 1) = some 0 ∧ lockHolder (.sc 1) 0 0 1 = some h ∧ ((l.tile 0).lock 1).holder = some h ∧
    (l.tile 0).locks.wf ∧
    ((c (.sc 1) l).tile 0).lock 1 = {} ∧ said (c (.sc 1) l) = some .ok ∧ said (c (.sc 2) l) = some .deed ∧
    (((c (.sc 2) l).tile 0).lock 1).holder = some h ∧
    (let n := after (.coreReset 1) l
     n.notices.find 1 = some [] ∧ n.net.map (fun p => (p.kind, p.target)) = [(.notice, .slice 1)] ∧ (n.slice 0).noticeIn = [1] ∧ (n.slice 1).noticeIn = [] ∧ ((after (.coreResetNotice 0 1) n).tile 0).lock 1 = { holder := none, suspect := true } ∧
     ((after (.coreResetNotice 0 2) { n with notices := [(2, [])] }).tile 0).lock 1 = (l.tile 0).lock 1) ∧
    (((after (.coreResetNotice 0 0) { up { noticeIn := [0], tiles := [(0, { eps := [(15, { isOpen := true })] })] } with notices := [(0, [])] }).tile 0).ep 15).isOpen = false := by
  decide +kernel

theorem test_watchdog :
    let s (k : Nat) := rowUp { accs := [acc0], meter := k, wdog := 1024 }
    let t := after (.watchdogBite 0 1) (s 1024)
    ((s 0).tile 0).hung 1 = some acc0 ∧ leads (.watchdogBite 0 1) (s 1023) (s 1023) = true ∧
    (t.tile 0).accs = [] ∧ (t.tile 0).quar = 4 ∧ (t.tile 0).bite = true ∧ (t.tile 0).biteMaster = 2 ∧
    bit ((t.slice 0).irq 0).cause 7 = true ∧ t.out = [.access 0 .vx 0 .wdog [] false false] ∧
    (let u (k : Nat) := onTile { owner := [(1, 6)], commons := 0x3E, locks := [(1, { holder := some (.core 1 0) })], accs := [{ acc0 with stage := .waiting }], meter := k, wdog := 1024 }
     ((u 0).tile 0).lockWaitFrom 1 = some 0 ∧ leads (.watchdogLockBite 0 1) (u 1023) (u 1023) = true ∧
     ((after (.watchdogLockBite 0 1) (u 1024)).tile 0).lock 1 = { holder := none, suspect := true }) ∧
    ((after (.quarRelease own 0 0x10004) (onTile { quar := 4, bite := true })).tile 0).quar = 0 ∧
    ((after (.wdogIntervalWrite own 0 5) (up {})).tile 0).wdog = 1024 := by decide +kernel

/-! ## Tallies, bells, fences, the watchman, channels, reassignment -/

/-- `s.issues`, decided. -/
def issuesB (s : State) (e : Engine) : Bool :=
  s.hasTile 0 && s.ready (tileDie 0) && (s.tile 0).engine e == .running && (s.tile 0).reassign.isNone

theorem issues_of {s : State} {e : Engine} (h : issuesB s e = true) : s.issues 0 e := by
  simp only [issuesB, Bool.and_eq_true, beq_iff_eq, Option.isNone_iff_eq_none] at h
  exact ⟨h.1.1.1, h.1.1.2, h.1.2, h.2⟩

/-- Nothing waits for the next tally boundary but what the tile queues, and where named an engine. -/
theorem calm_of {T : Tile} {e : Option Engine}
    (h : (∀ f ∈ [Engine.mx, .vx, .sc], some f = e ∨ T.engine f = .running ∨ T.engine f = .stopped) ∧
      (∀ n, n < 8 → (T.chan n).waitTally = false) ∧ (∀ b, b < 8 → (T.bell b).mask = 0 ∨ (T.bell b).arrived ≠ (T.bell b).mask) ∧
      T.bellAdds = [] ∧ T.regBusy = none ∧ T.regWait = []) : T.calm e := by
  obtain ⟨h1, h2, h3, h4, h5, h6⟩ := h
  refine ⟨fun f hf => ?_, h2, h3, h4, h5, h6⟩
  have := h1 f (by cases f <;> simp)
  tauto

theorem test_sync_operations :
    let s := onTile {}
    let ops (c : Instr) := ((after c s).tile 0).tops
    let eng (c : Instr) := ((after c s).tile 0).engine .vx
    issuesB s .vx = true ∧ ops (.add 0 .vx 47 9) = [.add 47 9 false] ∧ ops (.dec 0 .vx 0) = [.dec .vx 0] ∧ ops (.arrive 0 .vx 7) = [.arrive .vx 7 false] ∧
    eng (.waitGe 0 .vx 47 9) = .waitGe 47 9 ∧ eng (.waitDec 0 .vx 47) = .waitDec 47 ∧ eng (.waitBell 0 .vx 7 4095) = .waitBell 7 4095 ∧
    eng (.arriveWait 0 .vx 7) = .arriving 7 ∧ ops (.arriveWait 0 .vx 7) = [.arrive .vx 7 true] := by decide +kernel

theorem test_boundary_adds :
    let s := onTile { tally := [(3, 0xFFFFFFFF)], tops := [.add 3 2 false, .add 47 5 false, .add 3 1 false] }
    let t := after (.tallyBoundary 0) s
    (s.tile 0).calm none ∧ (t.tile 0).tallyOf 3 = 2 ∧ (t.tile 0).tallyOf 47 = 5 ∧ (t.tile 0).tops = [] ∧ t.out = [] := by
  refine ⟨calm_of (by decide +kernel), ?_⟩; decide +kernel

theorem test_boundary_waits :
    let w (v : Word) (x : EngState) : State := onTile { tally := [(3, v)], tallyMode := 2, engines := [(1, x)] }
    let b (v : Word) (x : EngState) := ((after (.tallyBoundary 0) (w v x)).tile 0)
    let d (v : Word) (m : BitVec 48) := after (.tallyBoundary 0) (onTile { tally := [(1, v)], tallyMode := m, tops := [.dec .vx 1] })
    ((w 5 (.waitGe 3 5)).tile 0).calm (some .vx) ∧
    (b 5 (.waitGe 3 5)).engine .vx = .running ∧ (b 4 (.waitGe 3 5)).engine .vx = .waitGe 3 5 ∧
    ((after (.tallyBoundary 0) (onTile { tallyMode := 2, engines := [(1, .waitDec 1)] })).tile 0).engine .vx = .waitDec 1 ∧
    ((after (.tallyBoundary 0) (onTile { tallyMode := 2, tally := [(1, 9)], engines := [(1, .waitDec 1)] })).tile 0).tallyOf 1 = 8 ∧
    ((d 9 2).tile 0).tallyOf 1 = 8 ∧ (d 9 2).out = [.op 0 .vx .ok false 0] ∧ (d 0 2).out = [.op 0 .vx .decerr false 0] ∧
    bits ((d 0 2).tile 0).syncFault 0 4 = 1 ∧ bits ((d 9 0).tile 0).syncFault 0 4 = 2 ∧ ((d 9 0).tile 0).tallyOf 1 = 9 := by
  refine ⟨calm_of (by decide +kernel), ?_⟩; decide +kernel

theorem test_bells :
    let B : Bell := { mask := 3, tally := 5 }
    let s (a : BitVec 4) (l : List TOp) : State := onTile { bells := [(7, { B with arrived := a })], tops := l }
    let t := after (.tallyBoundary 0) (s 3 [])
    let u (a : BitVec 4) (e : Engine) := after (.tallyBoundary 0) (s a [.arrive e 7 false])
    ((s 0 [.arrive .mx 7 false]).tile 0).calm none ∧ ((t.tile 0).bell 7).gen = 1 ∧ ((t.tile 0).bell 7).arrived = 0 ∧ (t.tile 0).bellAdds = [(5, false)] ∧
    (u 0 .sc).out = [.op 0 .sc .decerr false 0] ∧ bits ((u 0 .sc).tile 0).syncFault 0 4 = 4 ∧ bits ((u 1 .mx).tile 0).syncFault 0 4 = 3 ∧
    (u 0 .mx).out = [.op 0 .mx .ok false 0] ∧ (((u 0 .mx).tile 0).bell 7).arrived = 1 ∧ (((u 1 .vx).tile 0).bell 7).gen = 1 := by
  refine ⟨calm_of (by decide +kernel), ?_⟩; decide +kernel

theorem test_tally_writes :
    let s := onTile {}
    let t := after (.tallyWrite own 0 47 9) s
    let u := after (.tallyBoundary 0) t
    takesT s own 0 0x2BC 9 = true ∧ takesT s own 0 0x2C4 9 = true ∧ takesT s own 0 0x31C 0x20000 = true ∧ takesT s (.st 0 7) 0 0x31C 0x10000 = true ∧ s.mayWrite .slmd own 0 = true ∧ s.mayWrite .hm own 0 = true ∧ s.mayForce own 0 = true ∧
    (let b := after (.tallyWrite mgr 0 47 9) (tl 0x2BC 9 s)
     (b.tile 0).regBusy.map (·.pkt) = some (some 4096) ∧ said b = none ∧ (b.pkt 4096).map (·.loc) = some .served ∧ said (after (.tallyBoundary 0) b) = some .ok) ∧
    (t.tile 0).tops = [.write own 47 9] ∧ (t.tile 0).regBusy = some { src := own, off := 0x2BC, value := 9 } ∧ t.out = [] ∧
    (u.tile 0).tallyOf 47 = 9 ∧ u.out = [.reg own (tileRegAddr 0 0x2BC) .ok 0] ∧ (u.tile 0).regBusy = none ∧
    ((after (.tallyModeWrite own 0 1 9) s).tile 0).tops = [.mode own 1 9] ∧ ((after (.bellForce own 0 7) s).tile 0).tops = [.force own 7] ∧
    ((after (.bellArriveWrite (.st 0 7) 0 7) s).tile 0).tops = [.stArrive (.st 0 7) 7 7] ∧
    (after (.bellArriveWrite own 0 7) s).out = [.reg own (tileRegAddr 0 0x31C) .ok 0] := by decide +kernel

theorem test_fences :
    let a : Access := { acc0 with master := .sc, write := true, data := [0] }
    let m : MergeEntry := { bank := 1, row := 0, image := 0, mask := 1, qos := 0, flushing := false }
    let s := onTile { accs := [a], merge := [m], owner := [(1, 3)], regSent := [BitVec.ofNat 48 (sliceRegAddr 0 0x10)] }
    let t := after (.fence 0 .sc) s
    issuesB s .sc = true ∧ (t.tile 0).engine .sc = .fence [0] false ∧ (t.tile 0).merge.map (·.flushing) = [true] ∧ (t.tile 0).regSent = [] ∧
    t.net.map (fun p => (p.kind, p.target, p.addr)) = [(.regBack, .regs 0, BitVec.ofNat 48 (sliceRegAddr 0 0x10))] ∧ t.regPending 0 = true ∧
    ((after (.fenceEnd 0 .sc) t).tile 0).engine .sc = .fence [0] false ∧
    leads (.fenceEnd 0 .sc) (onTile { engines := [(2, .fence [0] true)], wmNow := false })
      { onTile { engines := [(2, .running)] } with out := [.op 0 .sc .uncorr false 0] } = true ∧ (onTile {}).regPending 0 = false := by decide +kernel

theorem test_watchman :
    let s := up { tiles := [(0, { hh := 5, engines := [(0, .stopped), (1, .waitBell 0 0), (2, .stopped)], wmRaises := 0xFFFF, wmFrom := some 0, meter := 4096 })] }
    let t := after (.still 0) s
    (s.tile 0).quiet = true ∧ (s.tile 0).wmEn = true ∧ s.paceNat 0 = 4096 ∧
    ((after (.still 0) (s.modTile 0 (fun T => { T with meter := 4095 }))).tile 0).wmNow = false ∧ (t.tile 0).wmNow = true ∧ (t.tile 0).wmRaises = 0xFFFF ∧ bit ((t.slice 0).irq 5).cause 4 = true ∧
    ((after (.engineStopped 0 .mx true) (up {})).tile 0).engine .mx = .stopped ∧ ((after (.engineStopped 0 .mx false) s).tile 0).engine .mx = .running := by
  decide +kernel

theorem test_sends :
    let snd (a u : Nat) : State := onTile { tops := [.send .vx a u 1 15 7], engines := [(1, .sending)] }
    let b (a u : Nat) := after (.tallyBoundary 0) (snd a u)
    let q : SendState := { e := .vx, src := 0, units := 5, target := 1, endpoint := 15, qos := 7, rows := [(0, 3), (4, 9)], asked := true, issued := true, full := false, status := none }
    let w (q : SendState) (k : Nat) : State := onTile { engines := [(1, .sending)], sends := [q], meter := k }
    let p : Packet := { pk0 with iss := ({} : State).sender 0 .vx, kind := .message 15 5 0, loc := .home, resp := some .closed }
    let r : Packet := { p with id := 1, ord := 1, kind := .message 15 5 1 }
    let e (q : SendState) (l : List Packet) := after (.sendStatus 0 .vx) { w q 7 with net := l }
    ((snd 0 64).tile 0).calm (some .vx) ∧
    ((after (.send 0 .vx 1 0 1 15 7) (up {})).tile 0).tops = [.send .vx 1 0 1 15 7] ∧ ((after (.send 0 .vx 1 0 1 15 7) (up {})).tile 0).engine .vx = .sending ∧
    (b 1 0).out = [.op 0 .vx .align false 0] ∧ (b 0 65).out = [.op 0 .vx .size false 0] ∧ (b 0 64).out = [] ∧
    (((b 0 64).tile 0).send? .vx).map (fun x => (x.units, x.qos, x.asked)) = some (64, 7, false) ∧
    (((after (.burstSelect 0) (w { q with asked := false, units := 64 } 0)).tile 0).send? .vx).map (·.asked) = some true ∧
    (e { q with status := some .deed } []).out = [.op 0 .vx .deed false 0] ∧
    p.isPieceOf 0 .vx = true ∧ (e q [p, { r with resp := some .ok }]).out = [.op 0 .vx .closed false 0] ∧ (e q [p, r]).net = [] ∧
    (e q [p, { r with resp := none, loc := .arrived }]).out = [] ∧
    ((e q [{ p with full := true, resp := some .ok }, { r with resp := some .ok }]).tile 0).engine .vx = .sendFull 15 1 ∧
    leads (.sendRetry 0 .vx) (w { q with full := true } 63) (w { q with full := true } 63) = true ∧
    (after (.sendRetry 0 .vx) (w { q with full := true } 64)).net.map (fun p => (p.kind, p.size)) = [(.message 15 5 0, 256), (.message 15 5 1, 64)] ∧
    ((after (.sendRetry 0 .vx) (w { q with full := true } 64)).net.map (·.data)).getLast? = some [9] := by
  refine ⟨calm_of (by decide +kernel), ?_⟩; decide +kernel

theorem test_messages :
    let p : Packet := { pk0 with kind := .message 15 2 0, target := .tile 0, loc := .arrived, data := [3, 4], size := 128, write := true, iss := { pk0.iss with tile := 9, hh := 5 } }
    let E : Endpoint := { isOpen := true, hh := 5, off := 0x3810, size := 1 }
    let s (E : Endpoint) : State := { onTile { eps := [(15, E)], owner := [(14, 6)], commons := 0x20 } with net := [p] }
    let t (E : Endpoint) := after (.messageArrival 0 0) (s E)
    (s E).atHome 0 0 = some p ∧ 2 ≤ E.units ∧ E.place 2 = some (none, 0) ∧ ((s E).tile 0).quarantined .nw = false ∧ ((s E).tile 0).msgOf p.iss = none ∧
    ((t E).pkt 0).map (fun r => (r.loc, r.resp)) = some (.served, none) ∧ (t E).mem = [] ∧
    ((t E).tile 0).accs.map (fun a => (a.off, a.data, a.stage)) = [(64 * 0x3810, [3, 4], .atPort)] ∧
    ((((t E).tile 0).ep 15).recs.map (fun r => (r.units, r.tile, r.whole))) = [(2, 9, false)] ∧
    ((t { E with isOpen := false }).pkt 0).map (·.resp) = some (some .closed) ∧ (((t { E with isOpen := false }).tile 0).ep 15).drop = 1 ∧
    ((t { E with hh := 6 }).pkt 0).map (·.resp) = some (some .gate) ∧
    (let F : Endpoint := { E with recs := [{ pad := false, pos := 0, units := E.units, tile := 1, master := 1, l := false }] }
     F.place 2 = none ∧ ((t F).pkt 0).map (fun r => (r.resp, r.full)) = some (some .ok, true)) := by decide +kernel

theorem test_message_whole :
    let p : Packet := { pk0 with kind := .message 15 2 0, target := .tile 0, loc := .served, data := [3, 4], size := 128, write := true, iss := { pk0.iss with tile := 9, hh := 5 } }
    let a : Access := { acc0 with master := .nw, write := true, beats := 2, done := 1, off := 0xE0400, data := [3, 4], iss := p.iss, dest := .packet 0 }
    let m : MsgIn := { iss := p.iss, endpoint := 15, pos := 0, left := 1, status := .ok, full := false, l := false }
    let E : Endpoint := { isOpen := true, hh := 5, off := 0x3810, size := 1, tail := 2, recs := [{ pad := false, pos := 0, units := 2, tile := 9, master := 4, l := false, whole := false }] }
    let s : State := { onTile { eps := [(15, E)], owner := [(14, 6)], commons := 0x20, accs := [a], msgs := [m] } with net := [p] }
    let t := after (.bankWriteCommit 0 0) s
    (s.tile 0).acc 0 = some a ∧ (s.tile 0).msgOf p.iss = some m ∧ E.head? = none ∧ (t.pkt 0).map (fun r => (r.resp, r.full)) = some (some .ok, false) ∧
    (t.tile 0).msgs = [] ∧ (((t.tile 0).ep 15).recs.map (·.whole)) = [true] ∧ t.stored 0 14 0x11 = mkRow 4 := by decide +kernel

theorem test_endpoints :
    let r : MsgRec := { pad := false, pos := 1, units := 2, tile := 9, master := 2, l := false }
    let E : Endpoint := { isOpen := true, hh := 5, off := 0x3800, size := 1, recs := [{ r with pad := true }, r, { r with pad := true }] }
    let s (x : EngState) (l : List TOp) := onTile { eps := [(15, E)], engines := [(0, x)], tops := l }
    let b (x : EngState) (l : List TOp) := after (.tallyBoundary 0) (s x l)
    ((s (.recv 15) []).tile 0).calm (some .mx) ∧ issuesB (s .running []) .mx = true ∧ ((after (.recv 0 .mx 15) (s .running [])).tile 0).engine .mx = .recv 15 ∧
    ((after (.pop 0 .mx 15) (s .running [])).tile 0).tops = [.pop .mx 15] ∧
    (b (.recv 15) []).out = [.op 0 .mx .ok false E.headWord.toNat] ∧ ((b (.recv 0) []).tile 0).engine .mx = .recv 0 ∧
    ((b .running [.pop .mx 15]).tile 0).ep 15 = { E with recs := [] } ∧
    takesT (s .running []) own 0 0x5E0 0x50 = true ∧ (s .running []).mayWrite .hm own 0 = true ∧
    (((after (.endpointClose own 0 15 0x50) (s .running [])).tile 0).ep 15).isOpen = false ∧
    (after (.endpointClose own 0 15 0x50) (s (.recv 15) [])).out.length = 2 ∧
    (((after (.endpointOpen own 0 15 0x50) (onTile { eps := [(15, { E with isOpen := false })] })).tile 0).ep 15).recs = [] ∧
    (after (.endpointOpen own 0 15 0x50) (onTile { eps := [(15, { off := 0x3FFF, size := 8 })] })).out = [.reg own (tileRegAddr 0 0x5E0) .size 0] := by
  refine ⟨calm_of (by decide +kernel), ?_⟩; decide +kernel

theorem test_reassignment :
    let s := up { hh := [(1, { bound := true, fn := 3 })], tiles := [(7, { owner := [(1, 2)], tally := [(0, 4)], gates := [(0, { isOpen := true })], retired := 1 })] }
    let t := after (.reassignment mgr 0 0 0x10000000) (sl 0x1000 0x10000000 s)
    let u := after (.reassignmentComplete 7) t
    takesS (sl 0x1000 0x10000000 s) mgr 0 0x1000 0x10000000 = true ∧ s.givable 0 1 = true ∧ (t.tile 7).reassign = some { hh := 1, stopped := true } ∧
    (t.slice 0).hhTiles = [7] ∧ said t = none ∧ ((t.tile 7).gate 0).isOpen = false ∧ (u.tile 7).hh = 1 ∧ (u.tile 7).ownerOf 1 = 0 ∧ (u.tile 7).retired = 1 ∧
    said u = some .ok ∧ said (after (.reassignment mgr 0 31 0) (sl 0x107C 0 s)) = some .ok := by
  decide +kernel

/-! ## The gleaner, tests, marches, repair -/

theorem test_gleaner :
    let s := { onTile { glean := 2, gleanRow := [(1, 1023)] } with mem := [(rowKey 0 1 1023, mkRow 7)] }
    let t := after (.gleanerBeat 0 1 1 1) s
    let n := onTile { glean := 2, gleanAt := [(1, 1)] }
    let m := onTile { glean := 2, march := some { banks := 2, mode := false, bg := false, startup := false } }
    after (.gleanerBeat 0 1 0 0) n = n ∧ ((after (.gleanerBeat 0 1 0 0) m).tile 0).lap = 2 ∧
    (s.tile 0).gleanFree 1 = true ∧ ((after (.gleanerBeat 0 1 0 0) s).tile 0).lap = 2 ∧
    Tbl.get 0 ((after (.gleanerBeat 0 1 0 0) s).tile 0).gleanRow 1 = 0 ∧ t.poisoned 0 1 1023 = true ∧ (t.tile 0).poisons = 1 ∧
    bit ((t.slice 0).irq 0).cause 6 = true := by decide +kernel

theorem test_check_bits :
    let s := { onTile { owner := [(1, 7)], testPar := 5 } with mem := [(rowKey 0 1 1, mkRow 7), (rowKey 0 1 1039, { data := 3, par := 2 })] }
    let v : Word := 0x110
    (∀ k : Fin 4, takesT s own 0 0x840 (withField v 0 2 k.val) = true) ∧ s.isManager own = true ∧ (s.tile 0).ownerOf 1 = 7 ∧ (s.tile 0).testBusy = false ∧ (s.tile 0).underTest 1 = false ∧
    (after (.writepar own 0 v) s).stored 0 1 1 = { data := 7, par := 5 } ∧ ((after (.readraw own 0 0xF18) s).tile 0).testPar = 2 ∧
    ((after (.check own 0 v 0 0) s).tile 0).testStatus = .ok ∧ ((after (.check own 0 0x114 0 0) s).tile 0).testReplayed = true ∧
    ((after (.check own 0 0x114 0 8) s).tile 0).testStatus = .uncorr ∧ ((after (.check own 0 0x114 0 8) s).tile 0).testPar = 8 ∧
    (after (.check own 0 0x114 0 8) s).poisoned 0 1 1 = true ∧
    (after (.check own 0 0 0 0) (onTile {})).out = [.reg own (tileRegAddr 0 0x840) .deed 0] := by decide +kernel

theorem test_marches :
    let s := onTile { owner := [(1, 7)] }
    let t := after (.marchCMinus own 0 2) s
    let u := after (.marchEnd 0 [{ bank := 1, row := 1039, element := 0, kind := 1 }]) { t with mem := [(rowKey 0 1 0, mkRow 7), (rowKey 0 2 0, mkRow 9)] }
    (t.tile 0).march = some { banks := 2, mode := false, bg := false, startup := false } ∧ (u.tile 0).march = none ∧ (u.tile 0).marchDone = true ∧
    u.stored 0 1 0 = mkRow 0 ∧ u.stored 0 1 1039 = mkRow 0 ∧ u.stored 0 2 0 = mkRow 9 ∧ (u.tile 0).failBanks = 2 ∧
    ((after (.transparentMarch own 0 2) s).tile 0).march = some { banks := 2, mode := true, bg := false, startup := false } := by decide +kernel

theorem test_remap_rows :
    let s := onTile {}
    let v : Word := 0x80000000 ||| put 0 1023 ||| put 10 15 ||| put 14 15
    let t := after (.remapRowWrite own 0 31 v) s
    (t.tile 0).physRow 15 1023 = 1039 ∧ (t.tile 0).physRow 15 1022 = 1022 ∧ t.out = [.reg own (tileRegAddr 0 0x8FC) .ok 0] ∧
    ((after (.remapRowWrite own 0 31 0) t).tile 0).physRow 15 1023 = 1039 ∧
    (after (.remapRowWrite own 0 31 v) (onTile { owner := [(15, 1)] })).out = [.reg own (tileRegAddr 0 0x8FC) .deed 0] := by decide +kernel

/-! ## Stream engine -/

/-- A descriptor from (bit, value) pairs. -/
def dsc (l : List (Nat × Nat)) : RowData := BitVec.ofNat 512 ((l.map (fun p => p.2 <<< p.1)).sum)

/-- The space-1 address of an offset of tile `g`. -/
def mem (g off : Nat) : Nat := tileMemAddr g off

/-- A COPY of one 64 B element from bank 1 of tile 0 to tile `g`. -/
def copyTo (g : Nat) : RowData := dsc [(0, 1), (24, 63), (32, 0xBEEF), (64, mem 0 0x10000), (128, mem g 0x20040), (192, 64)]

/-- A channel of tile 0 with a local ring of four entries at bank 14. -/
def ch0 : Channel := { baseLo := BitVec.ofNat 32 (mem 0 0xE0000 % 2 ^ 32), baseHi := BitVec.ofNat 32 (mem 0 0xE0000 / 2 ^ 32 + 2 * 2 ^ 16), en := true, state := .idle, tail := 2 }

/-- Tile 0 with channel 7 as given. -/
def onCh (c : Channel) : State := onTile { chans := [(7, c)], owner := [(1, 4), (14, 4)] }

theorem test_channel_enable :
    let off := onCh { ch0 with state := .disabled, en := false }
    let st (c : Channel) (v : Word) := after (.en own 0 7 v) (onCh c)
    takesT off own 0 0x7C0 0x101 = true ∧ takesT (onCh ch0) own 0 0x7D4 5 = true ∧ off.mayWrite .hm own 0 = true ∧ ch0.localRing 0 = true ∧ bits (0x101 : Word) 4 3 = 0 ∧
    ((after (.en own 0 7 0x101) off).chan 0 7).state = .idle ∧ ((after (.en own 0 7 0x101) off).chan 0 7).rep = true ∧
    (after (.en own 0 7 1) (up {})).out = [.reg own (tileRegAddr 0 0x7C0) .decerr 0] ∧ ((up {}).chan 0 7).hhRing = false ∧
    ((st ch0 0).chan 0 7).state = .disabled ∧ (st { ch0 with state := .wait } 0).out = [.reg own (tileRegAddr 0 0x7C0) .rearmBusy 0] ∧
    ((after (.dringTailWrite own 0 7 4) (onCh ch0)).chan 0 7).tail = 4 ∧
    (after (.dringTailWrite own 0 7 5) (onCh ch0)).out = [.reg own (tileRegAddr 0 0x7D4) .size 0] := by decide +kernel

theorem test_channel_commands :
    let f (k : Instr) (c : Channel) := (after k (onCh c)).chan 0 7
    let h : Channel := { ch0 with state := .halt, code := .page, faultDir := 0, snap := some (copyTo 1), haltFrom := .run, tail := 1 }
    (∀ k : Fin 6, takesT (onCh h) own 0 0x7C0 (h.ctrlWord k.val) = true) ∧ (onCh h).mayWrite .hm own 0 = true ∧ h.ending = false ∧
    (f (.resume own 0 7) { h with haltFrom := .arming }).state = .arming ∧ (f (.arm own 0 7) ch0).state = .arming ∧
    (after (.arm own 0 7) (onCh { ch0 with state := .run })).out = [.reg own (tileRegAddr 0 0x7C0) .rearmBusy 0] ∧
    (f (.go own 0 7) { ch0 with state := .armed, snap := some (copyTo 1) }).state = .run ∧ (f (.go own 0 7) { ch0 with state := .run }).pendGo = true ∧
    (f (.go own 0 7) { ch0 with state := .run, pendGo := true }).goLost = true ∧ (f (.resume own 0 7) h).state = .run ∧
    (f (.resume own 0 7) { h with haltAll := true, haltFrom := .armed }).state = .armed ∧ h.haltedIdle = false ∧
    (f (.skip own 0 7) h).head = 1 ∧ (f (.skip own 0 7) h).state = .idle ∧ (f (.abort own 0 7) { h with tail := 3 }).head = 3 ∧
    (f (.abort own 0 7) { h with tail := 3 }).state = .idle ∧ (f (.abort own 0 7) { ch0 with state := .run, outst := 1 }).aborting = true ∧
    (let s := up { tiles := [(0, { chans := [(7, h)] })], crings := [(0, { en := true, size := 4 })] }
     ((s.slice 0).cring 0).takes = true ∧ (((after (.skip own 0 7) s).slice 0).cring 0).due.map (·.status) = [.page]) := by decide +kernel

theorem test_descriptors :
    let s (st : ChState) (r : Status) (d : RowData) : State := onCh { ch0 with state := st, fetched := some (r, d) }
    let t (st : ChState) (r : Status) (d : RowData) := (after (.descriptorFetched 0 7) (s st r d)).chan 0 7
    Desc.check (copyTo 1) 0 (fun k => !((s .run .ok 0).tile 0).isCount k) = none ∧ (t .arming .ok (copyTo 1)).state = .armed ∧
    (t .run .ok (copyTo 1)).state = .run ∧ (t .run .ok (copyTo 1)).curTag = 0xBEEF ∧
    (t .run .ok (dsc [(0, 10)])).fail.map (fun f => (f.status, f.dir)) = some (.decerr, 5) ∧
    (t .run .deed 0).fail.map (fun f => (f.status, f.dir)) = some (.deed, 3) := by decide +kernel

theorem test_descriptor_ends :
    let d := dsc [(9, 1), (24, 47)]
    let c : Channel := { ch0 with state := .run, snap := some d, bodyDone := true, head := 1 }
    let t := after (.descriptorComplete 0 7) (onCh c)
    let u := after (.tallyBoundary 0) t
    let e : Channel := { ch0 with state := .run, snap := some (copyTo 1), fail := some { seq := 0, addr := 5, dir := 1, status := .gate, unit := 0, all := false } }
    let x := after (.channelHalt 0 7) (onCh e)
    let r := dsc [(9, 1), (24, 63)]
    let q := dsc [(10, 1), (24, 63)]
    let v := after (.descriptorComplete 0 7) (onCh { c with snap := some r })
    let w := up { tiles := [(0, { chans := [(7, { c with snap := some q })] })], crings := [(0, { en := true, size := 4 })] }
    c.complete d = true ∧ (t.tile 0).tops = [.done 7 47 false] ∧ (t.chan 0 7).doneWait = true ∧ (t.chan 0 7).head = 1 ∧ (t.tile 0).calm none ∧
    (u.chan 0 7).head = 2 ∧ (u.chan 0 7).state = .idle ∧ (u.tile 0).tallyOf 47 = 1 ∧ bit ((u.slice 0).irq 0).cause 0 = true ∧
    (v.chan 0 7).head = 2 ∧ bit ((v.slice 0).irq 0).cause 0 = true ∧
    (((after (.descriptorComplete 0 7) w).slice 0).cring 0).due.map (fun r => (r.status, r.idx, r.chan)) = [(.ok, 1, 7)] ∧
    ((onCh e).tile 0).indexPending 7 = false ∧ (x.chan 0 7).state = .halt ∧ (x.chan 0 7).code = .gate ∧ (x.chan 0 7).faultDir = 1 ∧
    bit ((x.slice 0).irq 0).cause 2 = true := by
  refine ⟨by decide +kernel, by decide +kernel, by decide +kernel, by decide +kernel, calm_of (by decide +kernel), ?_⟩; decide +kernel

theorem test_bursts :
    let c : Channel := { ch0 with state := .run, snap := some (copyTo 1) }
    let w : Channel := { c with phase := .writing, outBuf := [5] }
    let r : Channel := { c with snap := some (dsc [(0, 1), (24, 63), (64, mem 1 0x20000), (128, mem 0 0x10000), (192, 64)]) }
    let f : Channel := { c with phase := .finished, targets := [{ target := .tile 1, addr := 0, place := 0, returned := false, issued := false }] }
    let own := onTile { chans := [(7, c)], owner := [(1, 4)], picked := some 7 }
    let n (c : Channel) := (after (.burstIssue 0 7) (onCh c)).net.map (fun p => (p.kind, p.target, p.size, p.data))
    c.working = some (copyTo 1) ∧ (onCh c).wantsLocal 0 7 = true ∧ ((after (.burstSelect 0) (onCh c)).tile 0).picked = some 7 ∧
    ((after (.burstSelect 0) (up {})).tile 0).picked = none ∧ (onCh c).side 0 (w.writeNext (copyTo 1) 0).2.1 = .remote 1 ∧
    n w = [(.write, .tile 1, 64, [5])] ∧ ((after (.burstIssue 0 7) (onCh w)).chan 0 7).phase = .finished ∧ n r = [(.read, .tile 1, 64, [])] ∧
    n f = [(.readback, .tile 1, 64, [])] ∧ ((after (.burstIssue 0 7) own).chan 0 7).runit = 1 ∧ ((after (.burstIssue 0 7) own).tile 0).picked = none := by
  decide +kernel

theorem test_responses :
    let c : Channel := { ch0 with state := .run, snap := some (dsc [(0, 1), (24, 63), (64, 2 ^ 21), (128, mem 1 0), (192, 64)]), outst := 1, phase := .lookupRead }
    let p : Packet := { pk0 with iss := { pk0.iss with chan := 7 }, loc := .home, resp := some .ok, data := [5] }
    let s (c : Channel) (p : Packet) : State := { onCh c with net := [p] }
    let l : Packet := { p with kind := .lookup 0, data := [0] }
    let g : Packet := { p with kind := .lookup 3, data := [dsc [(0, 1), (2, 1), (21, 3)]] }
    let b : Packet := { p with kind := .readback }
    let f : Channel := { c with phase := .finished, targets := [{ target := .tile 1, addr := 0, place := 0, returned := false, issued := true }] }
    (s c l).ownPkt 0 0 = some l ∧ ((after (.windowLookupReturn 0 0) (s c l)).chan 0 7).fail.map (fun f => (f.status, f.dir)) = some (.page, 0) ∧
    (after (.windowLookupReturn 0 0) (s { ch0 with baseHi := 0x20000, baseLo := 0 } g)).net.map (fun q => (q.kind, q.target, q.place)) = [(.fetch, .host 0, 3 * 2 ^ 21)] ∧
    Tbl.get 0 ((after (.remoteResponse 0 0 .ok []) (s c { p with unit := 3 })).chan 0 7).inBuf 3 = 5 ∧
    ((after (.remoteResponse 0 0 .ok []) (s c { p with resp := some .crc })).chan 0 7).fail.map (·.status) = some .crc ∧
    ((after (.remoteResponse 0 0 .ok []) (s c { p with kind := .write, write := true })).chan 0 7).outst = 0 ∧
    ((after (.readbackReturn 0 0 .ok) (s f b)).chan 0 7).targets.map (·.returned) = [true] ∧
    ((after (.readbackReturn 0 0 .ok) (s f { b with resp := some .uncorr })).chan 0 7).fail.map (fun f => (f.status, f.dir)) = some (.uncorr, 2) := by
  decide +kernel

/-- A row of window entries that maps page 1 to host frame 3. -/
def maps : RowData := dsc [(64, 7), (85, 3)]

/-- A channel whose source, or destination, is in window page 1 and whose lookup is under way. -/
def lkRead : Channel := { ch0 with state := .run, snap := some (dsc [(0, 1), (24, 63), (64, 2 ^ 21), (128, mem 1 0), (192, 64)]), outst := 1, phase := .lookupRead }
def lkWrite : Channel := { ch0 with state := .run, snap := some (dsc [(0, 1), (24, 63), (64, mem 0 0x10000), (128, 2 ^ 21), (192, 64)]), outst := 1, phase := .lookupWrite, outBuf := [9], runit := 1 }

/-- The channel's lookup of kind `k` has returned `row`; for an index block (4) the block waits for it. -/
def looked (c : Channel) (k : Nat) (row : RowData) : State :=
  let b : IndexBlock := { id := 3, chan := 7, first := 0, addr := 0x200000, count := 1, rows := [], need := 1, ready := false, status := .ok }
  let p : Packet := { pk0 with kind := .lookup k, iss := { pk0.iss with chan := 7 }, loc := .home, resp := some .ok, data := [row], unit := 3 }
  after (.windowLookupReturn 0 0) { onTile { chans := [(7, c)], owner := [(1, 4), (14, 4)], blocks := if k = 4 then [b] else [] } with net := [p] }

/-- The request that follows a lookup, and the failure. -/
def sets (t : State) : List (PKind × Target × Nat × Nat × List RowData) := t.net.map (fun q => (q.kind, q.target, q.place, q.size, q.data))
def fails (t : State) : Option (Status × Nat) := (t.chan 0 7).fail.map (fun f => (f.status, f.dir))

theorem test_lookup_channels : lkRead.working.isSome = true ∧ lkWrite.working.isSome = true ∧ lkWrite.targetsFull (.host 0) = false := by decide +kernel

theorem test_lookups : sets (looked lkRead 0 maps) = [(.read, .host 0, 3 * 2 ^ 21, 64, [])] ∧ ((looked lkRead 0 maps).chan 0 7).need = 1 := by
  decide +kernel

theorem test_lookups_of_writes : sets (looked lkWrite 1 maps) = [(.write, .host 0, 3 * 2 ^ 21, 64, [9])] ∧ fails (looked lkWrite 1 0) = some (.page, 1) := by decide +kernel

theorem test_lookup_of_a_halted_channel : ((looked { lkRead with state := .halt } 0 maps).chan 0 7).outst = 0 ∧ (looked { lkRead with state := .halt } 0 maps).net = [] := by
  decide +kernel

theorem test_lookups_of_blocks : sets (looked lkWrite 4 maps) = [(.index 3, .host 0, 3 * 2 ^ 21, 4, [])] ∧ fails (looked lkWrite 4 0) = some (.page, 4) ∧
    ((looked lkWrite 4 0).tile 0).blocks = [] ∧ ((looked lkRead 3 0).chan 0 7).fetched = some (.page, 0) := by decide +kernel

theorem test_response_kinds :
    let c (d : RowData) : Channel := { ch0 with state := .run, snap := some d, outst := 1 }
    let p : Packet := { pk0 with iss := { pk0.iss with chan := 7 }, loc := .home, resp := some .ok, data := [ringWords 6 5] }
    let ring := dsc [(0, 6), (13, 1), (24, 63), (128, mem 1 0x10000), (192, 256), (448, 3), (456, 1), (462, 2)]
    let w : Channel := { c ring with state := .wait, phase := .probe }
    let r (c : Channel) (p : Packet) := after (.remoteResponse 0 0 .ok []) { onCh c with net := [p] }
    let sc (k : PKind) : State := { up {} with net := [{ p with kind := k, iss := { p.iss with master := 3 } }] }
    (p.answer .ok []) = some (.ok, [ringWords 6 5]) ∧
    (let t := (r w { p with kind := .probe 1 2 }).chan 0 7
     t.state = .run ∧ t.started = 6 ∧ t.ringFree = 5) ∧
    ((r w { p with kind := .probe 1 2, data := [ringWords 12 5] }).chan 0 7).fail.map (·.status) = some .spread ∧
    (let t := r (c 0) { p with kind := .mcast [(3, 1), (5, 2)], resp := some .gate }
     (t.chan 0 7).fail.map (·.status) = some .gate ∧ Tbl.get 0 (t.tile 0).mcLag 7 = 0x28) ∧
    ((r (c (dsc [(0, 7), (128, 0)])) { p with kind := .reg true, addr := 0 }).chan 0 7).bodyDone = true ∧
    ((r (c 0) { p with kind := .fetch }).chan 0 7).fetched = some (.ok, ringWords 6 5) ∧
    (after (.remoteResponse 0 0 .ok []) (sc (.reg false))).out = [.reg (.sc 0) p.addr.toNat .ok 6] ∧ (after (.remoteResponse 0 0 .ok []) (sc .regBack)).net = [] := by
  decide +kernel

theorem test_slot_readbacks_return :
    let ring := dsc [(0, 6), (13, 1), (24, 63), (128, mem 1 0x10000), (192, 256), (448, 3), (456, 1), (462, 2)]
    let c : Channel := { ch0 with state := .run, snap := some ring, outst := 1, rbIssued := true, slotEnd := true, slotOpen := true, wunit := 4 }
    let p (st : Status) : Packet := { pk0 with kind := .slotReadback 1 2 4, iss := { pk0.iss with chan := 7 }, loc := .home, resp := some st, data := [ringWords 7 5] }
    let t (st : Status) := (after (.readbackReturn 0 0 .ok) { onCh c with net := [p st] }).chan 0 7
    (t .ok).ringFree = 5 ∧ (t .ok).slotOpen = false ∧ (t .ok).known = 4 ∧ (t .ok).rbIssued = false ∧ (t .spread).fail.map (fun f => (f.status, f.dir)) = some (.spread, 1) := by
  decide +kernel

theorem test_index_reads :
    let b : IndexBlock := { id := 3, chan := 7, first := 0, addr := 0, count := 1, rows := [(0, 5)], need := 0, ready := false, status := .ok }
    let s := onTile { chans := [(7, ch0)], blocks := [b] }
    s.indexPkt 0 3 = none ∧ ((after (.indexReadReturn 0 3 .tagged) s).tile 0).blocks = [{ b with ready := true }] ∧
    ((after (.indexReadReturn 0 3 .strayTag) s).chan 0 7).state = .halt ∧ ((after (.indexReadReturn 0 3 .strayTag) s).chan 0 7).haltFrom = .idle ∧
    bit (((after (.indexReadReturn 0 3 .strayTag) s).slice 0).irq 0).cause 2 = true ∧
    (let f := onTile { chans := [(7, ch0)], blocks := [{ b with status := .page }] }
     ((after (.indexReadReturn 0 3 .tagged) f).tile 0).blocks = [] ∧ ((after (.indexReadReturn 0 3 .tagged) f).chan 0 7).fail.map (·.status) = some .page) := by decide +kernel

theorem test_opcodes_without_data :
    let c (d : RowData) : Channel := { ch0 with state := .run, snap := some d }
    let f (k : Instr) (d : RowData) := after k (onCh (c d))
    let w (a : Nat) : RowData := dsc [(0, 7), (24, 63), (64, 9), (128, a)]
    (c (dsc [(0, 0)])).acting 0 = some (dsc [(0, 0)]) ∧ ((f (.nop 0 7) 0).chan 0 7).bodyDone = true ∧ ((f (.waitt 0 7) (dsc [(0, 8)])).chan 0 7).waitTally = true ∧
    ((f (.signal 0 7) (dsc [(0, 9), (64, 47), (96, 3)])).tile 0).tops = [.stAdd 7 47 3] ∧ (c (w (sliceRegAddr 0 0))).acting 7 = some (w (sliceRegAddr 0 0)) ∧
    (f (.regwrite 0 7) (w (tileRegAddr 1 0x0E0))).net.map (fun p => (p.kind, p.size, p.data)) = [(.reg true, 4, [9])] ∧
    ((f (.regwrite 0 7) (w (tileRegAddr 0 0x0E0))).tile 0).deedFlt = 9 ∧ ((f (.regwrite 0 7) (w (tileRegAddr 0 0x0E0))).chan 0 7).bodyDone = true ∧
    (let s := up { tiles := [(0, { hh := 5, chans := [(7, c (w (sliceRegAddr 0 0)))] })] }
     ((after (.regwrite 0 7) s).chan 0 7).fail.map (fun f => (f.status, f.dir)) = some (.deed, 1)) := by decide +kernel

theorem test_data_opcodes :
    let c (d : RowData) : Channel := { ch0 with state := .run, snap := some d, inBuf := [(0, 5)], runit := 1 }
    let ix (k v : Nat) : State := onTile { chans := [(7, c (dsc [(0, k), (64, mem 0 0x10000), (128, mem 1 0), (192, 64)]))], blocks := [{ id := 3, chan := 7, first := 0, addr := 0, count := 1, rows := [(0, dsc [(0, v)])], need := 0, ready := true, status := .ok }] }
    let out (t : State) := (t.chan 0 7).outBuf
    let cv := dsc [(0, 5), (24, 63), (48, 0x10), (64, mem 0 0x10000), (128, mem 1 0), (192, 64)]
    (c (copyTo 1)).chunkIn (copyTo 1) 0 = true ∧ out (after (.copy 0 7) (onCh (c (copyTo 1)))) = [5] ∧ out (after (.gather 0 7) (ix 2 1)) = [5] ∧
    out (after (.gather 0 7) (ix 2 0xFFFFFFFF)) = [0] ∧ out (after (.scatter 0 7) (ix 3 1)) = [5] ∧
    ((after (.scatter 0 7) (ix 3 0xFFFFFFFF)).chan 0 7).skipped = [0] ∧ ((after (.scatter 0 7) (ix 3 0xFFFFFFFF)).chan 0 7).wunit = 1 ∧
    out (after (.fill 0 7) (onCh (c (dsc [(0, 6), (64, 3), (128, mem 1 0), (192, 64)])))) = [patternRow 3] ∧
    (c cv).working = some cv ∧ ((after (.convert 0 7) (onCh { c cv with inBuf := [], runit := Desc.srcUnits cv })).chan 0 7).phase = .writing := by decide +kernel

theorem test_formats : fmtE2M1.decode 15 = .fin true 3 1 ∧ fmtE2M1.encode none (.fin true 3 1) = 15 ∧ fmt16.encode none (fmt16.decode 0x8001) = 0x8001 := by
  decide +kernel

theorem test_multicast :
    let d := dsc [(0, 4), (24, 63), (56, 2), (64, mem 0 0x10000), (128, mem 0 0), (192, 64), (209, 63), (384, 1), (392, 16)]
    let c : Channel := { ch0 with state := .run, snap := some d, inBuf := [(0, 5)], runit := 1 }
    let t := after (.multicast 0 7) (onCh c)
    let m (i g : Nat) : Packet := { pk0 with iss := { pk0.iss with chan := 7 }, kind := .mcast [(i, g)], target := .tile g, resp := some .ok, loc := .home }
    let f : Channel := { c with phase := .flit, outst := 2, flitEnd := 64 }
    let s (c : Channel) (k : Nat) : State := { onTile { chans := [(7, c)], owner := [(1, 4), (14, 4)], meter := k } with net := [m 0 1, { m 1 16 with id := 1 }] }
    let r (p : Packet) : Packet := { p with resp := none, loc := .arrived }
    let a : Access := { acc0 with master := .nw, write := true, beats := 4, done := 3, data := [3, 4, 5, 6], dest := .packet 0 }
    c.working = some d ∧ c.mcTargets d 0 = [(0, 1), (1, 16)] ∧
    t.net.map (fun p => (p.kind, p.target, p.data)) = [(.mcast [(0, 1)], .tile 1, [5]), (.mcast [(1, 16)], .tile 16, [5])] ∧
    (t.chan 0 7).phase = .flit ∧ (t.chan 0 7).flitEnd = ((onCh c).tile 0).mcStall.toNat ∧
    (s f 0).net.find? (fun p => p.flitTo 0 7 1) = some { m 1 16 with id := 1 } ∧ (s f 0).lastBeatStarted (m 1 16) = true ∧
    ({ up { tiles := [(1, { accs := [a] })] } with net := [r (m 0 1)] } : State).lastBeatStarted (r (m 0 1)) = true ∧
    ({ up { tiles := [(1, { accs := [{ a with stage := .atPort }] })] } with net := [r (m 0 1)] } : State).lastBeatStarted (r (m 0 1)) = false ∧
    ((after (.mcCredit 0 7 1) (s f 0)).chan 0 7).credits = [1] ∧ ((after (.mcCredit 0 7 1) (s { f with credits := [0] } 0)).chan 0 7).wunit = 1 ∧
    ((after (.mcStall 0 7) (s { f with credits := [0] } 63)).chan 0 7).fail = none ∧
    ((after (.mcStall 0 7) (s { f with credits := [0] } 64)).chan 0 7).fail.map (·.status) = some .mcStall ∧
    Tbl.get 0 ((after (.mcStall 0 7) (s { f with credits := [0] } 64)).tile 0).mcLag 7 = 2 := by decide +kernel

theorem test_slot_rings :
    let d (g : Nat) := dsc [(0, 6), (13, 1), (24, 63), (64, 3), (128, mem g 0x10000), (192, 256), (448, 3), (456, 1), (462, 2)]
    let c (g : Nat) : Channel := { ch0 with state := .run, snap := some (d g), wunit := 4, slotEnd := true, slotOpen := true, started := 1 }
    let w (g : Nat) (k : Word) : Channel := { c g with state := .wait, wunit := 0, slotEnd := false, started := k }
    let s (c : Channel) (k : Nat) (f : Word) (l : List TOp) : State :=
      onTile { chans := [(7, c)], owner := [(1, 4), (14, 4)], meter := k, tops := l, tally := [(1, f), (2, 5)] }
    (c 0).working = some (d 0) ∧ Desc.useRing (d 0) = true ∧ Desc.remoteRing (d 1) 0 = true ∧
    ((after (.slotFilled 0 7) (s (c 0) 0 5 [])).tile 0).tops = [.fill 7 1 false] ∧ ((after (.slotFilled 0 7) (s (c 0) 0 5 [])).chan 0 7).outst = 1 ∧
    ((s (c 0) 0 6 [.fill 7 1 false]).tile 0).calm none ∧
    ((after (.tallyBoundary 0) (s (c 0) 0 6 [.fill 7 1 false])).tile 0).tallyOf 1 = 7 ∧
    ((after (.tallyBoundary 0) (s (c 0) 0 6 [.fill 7 1 false])).chan 0 7).fail = none ∧
    ((after (.tallyBoundary 0) (s (c 0) 0 9 [.fill 7 1 false])).chan 0 7).fail.map (·.status) = some .spread ∧
    (w 0 9).ringWait = some (d 0) ∧ ((after (.slotRingResample 0 7) (s (w 0 9) 0 9 [])).chan 0 7).state = .wait ∧
    ((after (.slotRingResample 0 7) (s (w 0 8) 0 9 [])).chan 0 7).state = .run ∧
    ((after (.slotRingResample 0 7) (s (w 0 8) 0 10 [])).chan 0 7).fail.map (·.status) = some .spread ∧
    (after (.ringProbeRetry 0 7) (s (w 1 4) 63 5 [])).net = [] ∧ (after (.ringProbeRetry 0 7) (s (w 1 4) 64 5 [])).net.map (·.kind) = [.probe 1 2] := by
  refine ⟨by decide +kernel, by decide +kernel, by decide +kernel, by decide +kernel, by decide +kernel, calm_of (by decide +kernel), ?_⟩; decide +kernel

theorem test_ring_homes :
    let p (k : PKind) : Packet := { pk0 with target := .tile 1, kind := k, loc := .arrived, place := 0x10000, bstart := 0x400, blen := 4 }
    let q (k : PKind) : Packet := { p k with loc := .read }
    let s (p : Packet) (r : List (Nat × Gate)) (l : List TOp) : State :=
      { up { tiles := [(1, { tally := [(1, 6), (2, 5)], owner := [(1, 6)], commons := 0x20, gates := r, tops := l })] } with net := [p] }
    let r : List (Nat × Gate) := [(0, { base := 1024, size := 4, isOpen := true, r := true, w := true })]
    let a (k : Instr) (s : State) := ((after k s).pkt 0).map (fun q => (q.resp, q.data))
    let h (p : Packet) := s p r [.homeAdd 0 1 false]
    (s (p (.probe 1 2)) r []).atHome 1 0 = some (p (.probe 1 2)) ∧
    a (.ringProbe 1 0) (s (p (.probe 1 2)) r []) = some (some .ok, [ringWords 6 5]) ∧ a (.ringProbe 1 0) (s (p (.probe 1 2)) [] []) = some (some .gate, []) ∧
    (s (q (.slotReadback 1 2 4)) r []).readThere 1 0 = some (q (.slotReadback 1 2 4)) ∧
    ((after (.slotReadback 1 0) (s (q (.slotReadback 1 2 4)) r [])).tile 1).tops = [.homeAdd 0 1 false] ∧
    ((after (.mcReadback 1 0) (s (q (.rtally 3)) r [])).tile 1).tops = [.homeAdd 0 3 false] ∧
    a (.mcReadback 1 0) (s (q (.rtally 63)) r []) = some (some .ok, []) ∧
    ((h (q (.slotReadback 1 2 4))).tile 1).calm none ∧
    a (.tallyBoundary 1) (h (q (.slotReadback 1 2 2))) = some (some .ok, [ringWords 7 5]) ∧
    a (.tallyBoundary 1) (h (q (.slotReadback 1 2 1))) = some (some .spread, []) ∧
    a (.tallyBoundary 1) (h (q (.rtally 1))) = some (some .ok, []) ∧ ((after (.tallyBoundary 1) (h (q (.rtally 1)))).tile 1).tallyOf 1 = 7 := by
  refine ⟨by decide +kernel, by decide +kernel, by decide +kernel, by decide +kernel, by decide +kernel, by decide +kernel, by decide +kernel, calm_of (by decide +kernel), ?_⟩
  decide +kernel

/-! ## Households -/

/-- A package whose manager has one window page, to host frame 3, with its table in bank 1 of tile 0. -/
def winUp (S : Slice) : State :=
  { up { S with winLo := [(0, 0x10000)], winHi := [(0, 1)], tiles := [(0, { owner := [(1, 6)], commons := 0x20, gates := [(0, { base := 0x400, size := 1, r := true, isOpen := true, closedDone := false })] })] } with
    mem := [(rowKey 0 1 0, mkRow (dsc [(0, 7), (21, 3)]))] }

/-- Household 5 is function 9. -/
def hh5 : Tbl HhBind := [(5, { bound := true, fn := 9 })]

theorem test_bind :
    let v : Word := put 0 9 ||| put 14 1
    let full : Tbl HhBind := (List.range 16).map (fun h => (h, { bound := true, fn := BitVec.ofNat 8 h }))
    let s (S : Slice) (v : Word) : State := sl 0x148 (withField v 12 2 1) (up S)
    let t (S : Slice) (v : Word) := after (.bind mgr v) (s S v)
    let b (S : Slice) (v : Word) := (t S v).slice 0
    takesS (s {} v) mgr 0 0x148 (withField v 12 2 1) = true ∧ (s {} v).isManager mgr = true ∧ (b {} (put 14 2)).bindStat.cause = 4 ∧
    (b { hh := hh5 } v).bindStat.cause = 2 ∧ (b { hh := full } 99).bindStat.cause = 1 ∧
    takesS (s { hh := full } 99) mgr 0 0x148 (withField 99 12 2 1) = true ∧
    (b {} v).bind 1 = { fn := 9, bound := true, home := 1 } ∧ (b {} v).bindStat.hh = 1 ∧ said (t {} v) = some .ok ∧
    ((t {} v).slice 1).bind 1 = { fn := 9, bound := true, home := 1 } ∧ said (t { bindStat := { busy := true } } v) = some .rearmBusy := by decide +kernel

theorem test_unbind :
    let v : Word := withField 0x500 12 2 2
    let s (T : Tile) : State := sl 0x148 v (up { hh := hh5, tiles := [(0, T)] })
    let o : Tile := { gates := [(2, { hh := 5, isOpen := true, closedDone := false, bursts := 1 })], eps := [(3, { hh := 5, isOpen := true })] }
    let t := after (.unbind mgr 0x500) (s o)
    let c := after .unbindFinish (after (.gateForcedClose 0 2) (t.modTile 0 (fun T => { T with meter := 1024, wdog := 1024 })))
    let u : Word := withField 0 31 1 1
    takesS (s o) mgr 0 0x148 v = true ∧ (s o).hasTiles 5 = false ∧ (t.slice 0).bindStat.unbinding = some 5 ∧ ((t.tile 0).gate 2).isOpen = false ∧
    ((t.tile 0).ep 3).isOpen = false ∧ leads .unbindFinish t t = true ∧ ((c.slice 0).bind 5).bound = false ∧ (c.slice 0).bindStat.busy = false ∧
    ((after (.unbind mgr 0x500) (s { o with hh := 5 })).slice 0).bindStat.cause = 3 ∧
    takesS (sl 0x140 u (up { unbCount := 3 })) mgr 0 0x140 u = true ∧
    ((after (.unboundClr mgr 0 0) (sl 0x140 u (up { unbCount := 3 }))).slice 0).unbCount = 0 := by
  decide +kernel

theorem test_host_requests :
    let s := up { hh := hh5 }
    let r (fn a : Nat) := after (.hostRequest 0 fn (BitVec.ofNat 48 a) 64 true [7]) s
    (r 8 (mem 0 0)).out = [.hostAnswer 0 8 .decerr []] ∧ ((r 8 (mem 0 0)).slice 0).unbCount = 1 ∧ ((r 8 (mem 0 0)).slice 0).unbFn = 8 ∧
    (s.slice 0).hhOfFn 9 = some 5 ∧ (s.slice 0).replays 5 = false ∧
    (r 9 (mem 3 0x40)).net.map (fun p => (p.kind, p.target, p.place, p.data)) = [(.write, .tile 3, 0x40, [7])] ∧ (r 9 (mem 3 0x40)).net.map (fun p => (p.iss, p.loc)) = [(hostIssuer 0 5, .matrix 0)] ∧
    (r 9 0xA00000000000).out = [.hostAnswer 0 9 .decerr []] := by decide +kernel

theorem test_host_before_ready :
    let s : State := { slices := [(0, { step := 4, hh := hh5 })] }
    let r (fn : Nat) := after (.hostRequest 0 fn (BitVec.ofNat 48 (mem 0 0)) 64 true [7]) s
    s.live 0 = true ∧ s.ready 0 = false ∧ (r 8).out = [.hostAnswer 0 8 .decerr []] ∧ ((r 8).slice 0).unbCount = 1 ∧
    (r 9).out = [.hostAnswer 0 9 .decerr []] ∧ ((r 9).slice 0).unbCount = 0 ∧
    (after (.doorbellArrival 0 8 8 8 0) s).out = [.hostAnswer 0 8 .decerr []] := by decide +kernel

theorem test_doorbells :
    let w (code tail : Nat) : BitVec 64 := BitVec.ofNat 64 (code + 7 <<< 15 + tail <<< 32)
    let s (l : List Doorbell) (hh : Nat) : State := up { hh := hh5, bells := l, tiles := [(0, { hh := hh })] }
    let b : Doorbell := { hh := 5, offset := 8, size := 8, word := w 1 4, pieces := [] }
    let at' (code tail hh : Nat) (c : Channel) : State := { onTile { hh := hh, chans := [(7, c)] } with net := [{ pk0 with kind := .doorbell (w code tail), iss := hostIssuer 0 5, target := .tile 0, loc := .arrived }] }
    ((after (.doorbellArrival 0 9 8 8 (w 1 4)) (s [] 5)).slice 0).bells = [b] ∧ ((s [b] 5).slice 0).bellReady 5 = some b ∧ ((s [b] 5).slice 0).bellTurnOf = some 5 ∧
    (after (.doorbellRelease 0 5) (s [b] 5)).net.map (fun p => (p.kind, p.target)) = [(.doorbell (w 1 4), .tile 0)] ∧
    bits (((after (.doorbellRelease 0 5) (s [b] 6)).slice 0).irq 5).hostflt 0 6 = statusCode .gate + 16 ∧
    ((at' 1 4 5 ch0).atHome 0 0).isSome = true ∧ ((after (.doorbellTail 0 0) (at' 1 4 5 ch0)).chan 0 7).tail = 4 ∧
    ((after (.doorbellTail 0 0) (at' 1 5 5 ch0)).pkt 0).map (·.resp) = some (some .size) ∧ ((after (.doorbellTail 0 0) (at' 1 4 6 ch0)).pkt 0).map (·.resp) = some (some .gate) ∧
    ((after (.doorbellGo 0 0) (at' 2 0 5 { ch0 with state := .armed, snap := some (copyTo 1) })).chan 0 7).state = .run ∧
    ((after (.doorbellGo 0 0) (at' 2 0 5 { ch0 with state := .run })).chan 0 7).pendGo = true := by decide +kernel

theorem test_doorsteps :
    let s := up { hh := hh5, doorsteps := [(64 * 5 + 1, 0x80000000)], tiles := [(0, { hh := 5 })] }
    let t := after (.doorstepWrite 0 9 0x10C0 320 true [1, 2, 3, 4, 5]) s
    t.net.map (fun p => (p.place, p.size, p.data)) = [(0xE00C0, 64, [1]), (0xE0100, 256, [2, 3, 4, 5])] ∧
    (let e := after (.doorstepWrite 0 9 0x10C1 64 true [1]) s
     e.net = [] ∧ bits ((e.slice 0).irq 5).hostflt 0 12 = statusCode .align + 2 * 16 + 1 * 64) := by decide +kernel

theorem test_completion_records :
    let r : CRec := { tag := 0x1234, idx := 2, status := .page, l := false, demoted := true, chan := 7, tile := 3, bytes := 64, pace := 9, faddr := 5, fdir := 1 }
    let s (R : CRing) : State := winUp { crings := [(0, R)] }
    let R : CRing := { en := true, size := 4, due := [r] }
    let F : CRing := { R with due := [], flight := some r }
    let w (R : CRing) := after (.completionRecordWrite 0 0) (s R)
    let row : RowData := dsc [(0, 7), (21, 3)]
    R.room = 16 ∧ (w R).net.map (fun p => (p.kind, p.target, p.place, p.size)) = [(.sliceLookup 0, .tile 0, 0x10000, 64)] ∧
    ((s F).recordLooked 0 0 .ok row).net.map (fun p => (p.kind, p.target, p.place, p.size, p.data)) = [(.record, .host 0, 3 * 2 ^ 21, 32, [r.row true])] ∧
    ((((s F).recordLooked 0 0 .ok 0).slice 0).cring 0).status = .page ∧
    (((w R).slice 0).cring 0).flight = some r ∧ (((after (.completionRecordWrite 0 0) (up { crings := [(0, R)] })).slice 0).cring 0).kept = some r ∧
    (((w { R with tail := 16 }).slice 0).cring 0).hold = [r] ∧ (((w { R with tail := 16 }).slice 0).cring 0).ovf = true := by
  decide +kernel

theorem test_completion_record_fails :
    let r : CRec := { tag := 0x1234, idx := 2, status := .page, l := false, demoted := true, chan := 7, tile := 3, bytes := 64, pace := 9, faddr := 5, fdir := 1 }
    let F : CRing := { en := true, size := 4, flight := some r }
    let f := { winUp { crings := [(0, F)] } with net := [{ pk0 with kind := .record, iss := sliceIssuer 0 0, loc := .home, resp := some .crc }] }
    (f.recordError 0 0).map (·.2) = some .crc ∧ (((after (.completionRecordFail 0 0) f).slice 0).cring 0).kept = some r ∧
    (((after (.completionRecordFail 0 0) f).slice 0).cring 0).status = .crc := by
  decide +kernel

theorem test_completion_record_bytes :
    let r : CRec := { tag := 0x1234, idx := 2, status := .page, l := false, demoted := true, chan := 7, tile := 3, bytes := 64, pace := 9, faddr := 5, fdir := 1 }
    r.row true = rowOfBytes [0x34, 0x12, 2, 0, BitVec.ofNat 8 (statusCode .page + 0xA0), 7, 3, 0, 64, 0, 0, 0, 0, 0, 0, 0, 9, 0, 0, 0, 5, 0, 0, 0, 0, 0, 1, 0, 0, 0, 0, 0] := by
  decide +kernel

theorem test_completion_rings :
    let s (off : Nat) (v : Word) (R : CRing) : State := sl off v (up { crings := [(0, R)] })
    let e (v : Word) (R : CRing) := after (.cringEnWrite mgr 0 0 v) (s 0x504 v R)
    let h (v : Word) (R : CRing) := after (.cringHeadWrite mgr 0 0 v) (s 0x508 v R)
    let E : CRing := { en := true, err := true }
    let rv : Word := withField (withField (E.word 1) 25 1 0) 27 1 1
    let r (t : State) := (t.slice 0).cring 0
    takesS (s 0x504 0x1040000 {}) mgr 0 0x504 0x1040000 = true ∧ (up {}).mayHh mgr 0 = true ∧ (r (e 0x1040000 { head := 3, tail := 3 })).en = true ∧
    (r (e 0x1040000 { head := 3, tail := 3 })).tail = 0 ∧ said (e 0x1030000 {}) = some .size ∧
    takesS (s 0x504 rv E) mgr 0 0x504 rv = true ∧ (r (after (.retry mgr 0 0) (s 0x504 rv E))).again = true ∧
    takesS (s 0x508 5 {}) mgr 0 0x508 5 = true ∧ (r (h 5 { size := 4, tail := 5 })).head = 5 ∧ said (h 6 { size := 4, tail := 5 }) = some .size := by
  decide +kernel

theorem test_interrupts :
    let m : IrqMsg := { hh := 0, vec := 2, recs := 1, ord := 1 }
    let ring (n : Nat) : CRing := { due := [default], issued := n }
    let s := up { irqDue := [m], irqs := [(0, { cause := 4, enable := 4 })], crings := [(0, ring 2)] }
    let e (h : Nat) (v : Word) (S : Slice) := after (.irqEnableWrite mgr 0 h v) (sl (0x604 + 0x10 * h) v (up S))
    (after (.interruptMessage 0 0 2) s).out = [.interrupt 0 0 2] ∧ ((after (.interruptMessage 0 0 2) s).slice 0).irqDue = [] ∧
    takesS (sl 0x604 4 (up {})) mgr 0 0x604 4 = true ∧
    (((e 0 4 { irqs := [(0, { cause := 4 })] }).slice 0).irqDue.map (fun m => (m.hh, m.vec))) = [(0, 2)] ∧
    (after (.interruptMessage 0 0 2) (up { irqDue := [m], crings := [(0, ring 1)] })).out = [] ∧
    (((e 5 0xFF { hh := hh5 }).slice 0).irq 5).enable = 0x1F := by decide +kernel

theorem test_capture :
    let r : CapRec := { seq := 0, type := 1, hh := 5, gap := false, refused := false, addr := 8, tile := 0, data := 7, pace := 0, src := 0, status := .ok, payload := [3] }
    let c : Capture := { en := true, size := 4 }
    let s (c : Capture) : State := winUp { cap := c }
    let k (c : Capture) (i : Instr) := ((after i (s c)).slice 0).cap
    let w (c : Capture) (st : Status) := after (.captureRecordWrite 0 st) (s c)
    let row : RowData := dsc [(0, 7), (21, 3)]
    let e (v : Word) (c : Capture) := after (.captureEnWrite mgr 0 v) (sl 0x400 v (s c))
    (k { c with due := [r], seq := 6 } (.captureRecord 0 0)).hold = [{ r with seq := 6 }] ∧ (k { c with due := [r], err := true } (.captureRecord 0 0)).drop = 1 ∧
    (k { c with due := [r], err := true } (.captureRecord 0 0)).gap = true ∧
    (w { c with hold := [r] } .ok).net.map (fun p => (p.kind, p.target)) = [(.sliceLookup 16, .tile 0)] ∧
    ((w { c with hold := [r] } .ok).slice 0).cap.out = [(0, r.header), (1, 3)] ∧ ((w { c with hold := [r] } .ok).slice 0).cap.tail = 2 ∧
    ((s { c with out := [(1, 3)] }).captureLooked 0 .ok row).net.map (fun p => (p.kind, p.place, p.data)) = [(.capture, 3 * 2 ^ 21 + 64, [3])] ∧
    (((s { c with out := [(1, 3)] }).captureLooked 0 .ok 0).slice 0).cap.status = .page ∧
    ((after (.captureRecordWrite 0 .ok) (up { cap := { c with hold := [r] } })).slice 0).cap.status = .decerr ∧
    ((w { c with hold := [r, r], tail := 15 } .ok).slice 0).cap.hold = [{ r with gap := true }] ∧
    ((w { c with hold := [r] } .crc).slice 0).cap.err = true ∧ ((e 0x10020 { head := 4, tail := 9 }).slice 0).cap.tail = 0 ∧
    takesS (sl 0x400 0x10020 (s c)) mgr 0 0x400 0x10020 = true ∧
    ((e 0x70020 { head := 4, tail := 9 }).slice 0).cap.head = 4 ∧ ((e 0x10020 {}).slice 0).cap.mask = 0x20 := by decide +kernel

theorem test_rerun :
    let c : Capture := { en := true, rerun := true, rhh := 5, size := 4, tail := 1 }
    let f : Capture := { c with found := true }
    let s (c : Capture) : State := winUp { hh := hh5, cap := c }
    let u (h : Nat) : RowData := dsc [(32, 1), (40, h), (64, 8), (128, 77)]
    let p (c : Capture) (st : Status) (h : Nat) := after (.rerunPresent 0 st [u h]) (s c)
    c.busy = true ∧ (p c .ok 5).net.map (fun p => (p.kind, p.target)) = [(.sliceLookup 17, .tile 0)] ∧ ((p c .ok 5).slice 0).cap.asked = true ∧
    ((p f .ok 5).slice 0).bells.map (fun b => (b.hh, b.offset, b.word)) = [(5, 8, 77)] ∧ ((p f .ok 5).slice 0).cap.head = 1 ∧
    ((p f .ok 5).slice 0).cap.done = true ∧ ((p f .ok 4).slice 0).bells = [] ∧ ((p f .ok 4).slice 0).cap.head = 1 ∧
    ((p f .crc 5).slice 0).cap.err = true ∧ ((after (.rerunPresent 0 .ok [u 5]) (up { cap := c })).slice 0).cap.status = .decerr ∧
    ((p { c with tail := 0 } .ok 5).slice 0).cap.done = true := by
  decide +kernel

/-! ## The book -/

/-- A record of the type given. -/
def bRec (ty : Nat) : BookRec := { type := ty, l := true, tile := 2047, die := 0, boot := 1, seq := 0, pace := 3, detail := 4 }

/-- Both dies READY, the first slice and the book's control area as given. -/
def bk (S : Slice) (c : Control) : State := { up S with book := { a := { c with gen := 5 } } }

theorem test_book_records :
    let s (c : Control) : State := bk { holdSev := [bRec 8] } c
    let t := after (.bookAppend 0 0) (s { sevTail := 4095, sevSeq := 7 })
    let u := after (.bookAppend 0 0) (s { sevTail := 4095, sevSeq := 7, sevHead := 0 })
    let v := after (.bookAppend 0 1) (bk { holdRou := [bRec 19] } { rouTail := 5, rouHead := 6 })
    let d := after (.bookRecordDrop 0 0) (bk { noRoom := [true], holdSev := List.replicate 8 (bRec 8) } {})
    severe 8 = true ∧ severe 19 = false ∧ (s {}).book.a.good = true ∧ Tbl.find t.book.sev 4095 = some { bRec 8 with seq := 7 } ∧ t.book.cur.sevTail = 0 ∧
    t.book.cur.sevSeq = 8 ∧ t.book.cur.gen = 6 ∧ u.book.cur.sevHead = 1 ∧ u.book.cur.ovwr = 1 ∧ bit ((t.slice 0).irq 0).cause 5 = true ∧
    v.book.cur.rouHead = 7 ∧ Tbl.find v.book.rou 5 = some (bRec 19) ∧ (d.slice 0).bkDrops = 1 ∧ (d.slice 0).dropSev = 1 ∧ (d.slice 0).noRoom = [] := by
  decide +kernel

theorem test_book_record_bytes :
    (bRec 8).body.take 20 = [8, 1, 0xFF, 7, 1, 0, 0, 0, 0, 0, 0, 0, 3, 0, 0, 0, 4, 0, 0, 0] ∧ rowWord (bRec 8).row 15 = (crc32c (bRec 8).body).toNat ∧
    crc32c [0x31, 0x32, 0x33, 0x34, 0x35, 0x36, 0x37, 0x38, 0x39] = 0xE3069283 := by decide +kernel

theorem test_book_commands :
    let run (k : Word → Instr) (cmd : Nat) (v : Word) (S : Slice) (c : Control) :=
      after (.bookCommandEnd 0) (after (k v) (sl 0x300 (withField v 0 3 cmd) (bk S c)))
    let q (S : Slice) := sl 0x300 (withField 0 0 3 3) (bk S {})
    let m := run (.mapadd mgr 0) 2 0 { bkData := [(0, 3)] } { boot := [(0, 9)] }
    let i := run (.init mgr 0) 4 8 {} { sevTail := 5, mapCount := 4, sevSeq := 2 }
    let r := run (.read mgr 0) 1 0 { bkIndex := 4096 } {}
    let g := after (.bookCommandEnd 0) (after (.read mgr 0 0) (sl 0x300 (withField 0 0 3 1) { bk {} {} with book := { sev := [(0, bRec 8)] } }))
    takesS (q {}) mgr 0 0x300 (withField 0 0 3 3) = true ∧ (q {}).isManager mgr = true ∧ (after (.mapclear mgr 0 0) (q {})).book.queue = [0] ∧
    said (after (.mapclear mgr 0 0) (q { bkBusy := true })) = some .rearmBusy ∧
    m.book.entry 0 = 0x900000003 ∧ m.book.cur.mapCount = 1 ∧ m.book.cur.mapCrc = m.book.crcOf 1 ∧ (m.slice 0).bkBusy = false ∧
    ((run (.mapadd mgr 0) 2 0 {} {}).slice 0).bkStatus = .decerr ∧ (run (.mapclear mgr 0) 3 0 {} { mapCount := 4 }).book.cur.mapCount = 0 ∧
    i.book.cur.sevTail = 0 ∧ i.book.cur.mapCount = 4 ∧ i.book.cur.sevSeq = 2 ∧ (r.slice 0).bkStatus = .size ∧ Tbl.get 0 (g.slice 0).bkData 0 = 0x07FF0108 ∧
    leads (.bookCommandEnd 1) { bk {} {} with book := { queue := [0] } } { bk {} {} with book := { queue := [0] } } = true ∧
    ((run (.init mgr 0) 4 8 { bookErr := true } {}).slice 0).bkStatus = .decerr := by decide +kernel

theorem test_book_accesses :
    let c : Control := { sevTail := 3, sevHead := 4095, rouTail := 2 }
    let rd (w : Src) (off n : Nat) (wr : Bool) := (after (.bookSpace4Read w 0 (BitVec.ofNat 48 (4 * 2 ^ 45 + off)) n wr) { up { hh := hh5 } with book := { sev := [(0, bRec 8)] } }).out
    let a (v : Word) := after (.bookAck mgr 0 v) (sl 0x30C v (bk {} c))
    takesS (sl 0x30C 2 (bk {} c)) mgr 0 0x30C 2 = true ∧ takesS (sl 0x18 0xFF (bk {} c)) mgr 0 0x18 0xFF = true ∧
    (a 2).book.cur.sevHead = 1 ∧ (a 99).book.cur.sevHead = 3 ∧ (a 0x10005).book.cur.rouHead = 2 ∧
    (after (.startWordWrite mgr 0 0xFF) (sl 0x18 0xFF (bk {} c))).book.cur.startOf 0 = 7 ∧
    arrivesB (up {}) mgr = true ∧ space (BitVec.ofNat 48 (4 * 2 ^ 45)) = 4 ∧ rd mgr 0x10000 4 false = [.bookRead mgr .ok [8, 1, 0xFF, 7]] ∧
    rd mgr 0x10000 64 true = [.bookRead mgr .deed []] ∧ rd (.host 0 9) 0x10000 4 false = [.bookRead (.host 0 9) .deed []] ∧
    rd mgr 0x101000 4 false = [.bookRead mgr .decerr []] := by decide +kernel

/-! ## External memory, bridges and the ring, gates -/

theorem test_external_memory :
    let k : Packet := { pk0 with target := .ext 0 1, place := 0x140, loc := .arrived, qos := 7 }
    let wr (k : Packet) : Packet := { k with write := true, kind := .write, data := [9] }
    let s (E : ExtPort) (b : Bucket) (k : Packet) : State := { up { ext := [(1, E)], buckets := [(16, b)] } with net := [k] }
    let R : ExtPort := { ready := true }
    let q (b : Bucket) (k : Packet) := after (.extRequest 0 1 0) (s R b k)
    let u : List RowData := [6, 7, 0, 0]
    let good : Option (BitVec 32) := some (crc32c (bytesOfRows u))
    let v (k : Packet) : Packet := { k with loc := .served }
    let w : ExtWork := { pkt := 0, urgent := false, writing := false }
    let a (x : ExtWork) (k : Packet) (crc : Option (BitVec 32)) (e : Bool) := after (.extResponse 0 1 0 crc e u) (s { R with work := [x] } {} (v k))
    let r (t : State) : Option (Option Status × List RowData) := (t.pkt 0).map (fun p => (p.resp, p.data))
    let busy : State := { s { R with work := [{ w with pkt := 1 }] } {} k with net := [k, { v (wr k) with id := 1, place := 0x100 }] }
    (s R {} k).extHead 0 1 = some k ∧ ((after (.extRequest 0 1 0) (s {} {} k)).pkt 0).map (·.resp) = some (some .decerr) ∧
    (q {} k).out = [.stackRequest 0 1 0x100 256 false false []] ∧ ((q {} k).pkt 0).map (·.demoted) = some true ∧
    (q { tokens := 2 } k).out = [.stackRequest 0 1 0x100 256 false true []] ∧ ((q { tokens := 2 } k).slice 0).bucket 1 0 = { tokens := 1 } ∧
    (q { tokens := 2 } (wr k)).out = [.stackRequest 0 1 0x100 256 false false []] ∧ ((q { tokens := 2 } (wr k)).slice 0).bucket 1 0 = { tokens := 2 } ∧
    busy.unitBusy 0 1 0x100 = true ∧ busy.extHead 0 1 = some k ∧ (after (.extRequest 0 1 0) busy).out = [] ∧
    r (a w k good false) = some (some .ok, [7]) ∧ r (a w k (some 0) false) = some (none, []) ∧ r (a w k none false) = some (none, []) ∧ r (a { w with again := true, writing := true } (wr k) none false) = some (some .crc, []) ∧
    (a w k (some 0) false).out = [.stackRequest 0 1 0x100 256 false false []] ∧ ((a w k (some 0) false).slice 0).extPort 1 = { R with refetch := 1, work := [{ w with again := true }] } ∧
    r (a { w with again := true } k (some 0) false) = some (some .crc, []) ∧ (((a { w with again := true } k (some 0) false).slice 0).extPort 1).crc = 1 ∧
    r (a w k good true) = some (some .uncorr, []) ∧ bit (((a w k good true).slice 0).irq 0).cause 6 = true ∧
    (a w (wr k) good false).out = [.stackRequest 0 1 0x100 256 true false [6, 9, 0, 0]] ∧
    r (a { w with writing := true } (wr k) (some 0) false) = some (some .ok, []) := by
  decide +kernel

theorem test_controller_ready :
    let k : Packet := { pk0 with target := .ext 0 1, loc := .served }
    let t := after (.extControllerReadyChange 0 1 false) { up { ext := [(1, { ready := true })] } with net := [k] }
    (t.pkt 0).map (·.resp) = some (some .crc) ∧ ((t.slice 0).extPort 1).ready = false ∧
    (((after (.extControllerReadyChange 0 1 true) (up {})).slice 0).extPort 1).ready = true := by decide +kernel

theorem test_tithes :
    let s : State := up { tithe := [(0, { rate := 60, burst := 4 })], buckets := [(16, { tokens := 2, acc := 30 })] }
    let w (v : Word) := after (.titheWrite mgr 0 3 v) (sl 0x8C v s)
    ((after (.titheTokenAdd 0 1 0 1) s).slice 0).bucket 1 0 = { tokens := 4, acc := 24 } ∧ takesS (sl 0x8C 0x3F04 s) mgr 0 0x8C 0x3F04 = true ∧
    ((w 0x3F04).slice 0).titheOf 3 = { rate := 4, burst := 32 } ∧ said (w 0x3F04) = some .ok ∧ said (w 5) = some .size := by decide +kernel

/-- The packets of a ring test: a read and a write of 64 B of tile 256. -/
def rk (id : Nat) (wr : Bool) : Packet := { pk0 with id := id, ord := id, target := .tile 256, loc := .bridge 0 0, write := wr, kind := if wr then .write else .read, data := if wr then [7] else [], entered := true, iss := { pk0.iss with chan := id } }

/-- Dies 0 and 1 with every link between them up, and the bridge port 0 of die 0 and port 4 of die 1 as given. -/
def linked (B R : Bridge) (l : List Packet) : State := { slices := [(0, { step := 9, linkUp := 0xFF, bridges := [(0, B)] }), (1, { step := 9, linkUp := 0xFF, bridges := [(4, R)] })], net := l }

theorem test_links :
    let p := rk 0 false
    let w := rk 1 true
    let t := after (.stripeSend 0 0) (linked { queue := [0, 1], expect := 3 } {} [p, w])
    let x : Stripe := { kind := .command, seq := 0, entries := [0, 1], retried := false, ack := 3 }
    let u := after (.stripeReceived 1 4 []) t
    let b := after (.stripeReceived 1 4 [1]) t
    let d := after (.stripeReceived 1 4 []) (after (.stripeSend 0 0) u)
    peer 2 0 0 = (1, 4) ∧ (t.bridge 0 0).wire = [x] ∧ (t.bridge 0 0).slots = [x] ∧ (t.bridge 0 0).dataDue = [1] ∧ (t.bridge 0 0).nextSeq = 1 ∧
    t.net.map (·.ltag) = [0, 1] ∧ (u.bridge 1 4).expect = 1 ∧ (u.pkt 0).map (fun k => (k.loc, k.port)) = some (.matrix 1, 76) ∧
    (u.pkt 1).map (·.loc) = some (.wire 0 0) ∧ (d.pkt 1).map (fun k => (k.loc, k.port)) = some (.matrix 1, 76) ∧ (d.bridge 1 4).expect = 2 ∧
    (b.bridge 1 4).nak = true ∧ (b.bridge 1 4).discard = true ∧ (b.bridge 1 4).expect = 0 ∧ b.net = t.net ∧
    ((after (.stripeAck 0 0 1) u).bridge 0 0).slots = [] ∧ ((after (.stripeNak 0 0 0) b).bridge 0 0).slots = [{ x with retried := true }] ∧
    ((after (.stripeNak 0 0 0) b).bridge 0 0).wire = [{ x with retried := true }] ∧ Tbl.get 0 ((after (.stripeNak 0 0 0) b).slice 0).linkRetx 0 = 1 ∧
    (let c := linked { slots := [{ x with retried := true }] } { nak := true } [p, w]
     ((after (.stripeNak 0 0 0) c).bridge 0 0).slots.map (fun y => (y.kind, y.entries)) = [(.failed, [0, 1])]) ∧
    (let f := linked { wire := [{ x with kind := .failed }] } {} [p, w]
     ((after (.stripeReceived 1 4 []) f).pkt 0).map (·.resp) = some (some .crc)) ∧
    (let n := linked { wire := [{ x with entries := [0] }] } {} [{ p with kind := .notice, target := .slice 1 }]
     ((after (.stripeReceived 1 4 []) n).slice 1).noticeIn = [0] ∧ (after (.stripeReceived 1 4 []) n).net = []) := by decide +kernel

/-- The bytes of a command stripe with one entry: a read of 64 B at QoS 6 of household 5 with link tag 0x123, to tile 256. -/
theorem test_stripe_bytes :
    let p : Packet := { rk 0 false with qos := 6, ltag := 0x123, size := 64, addr := 0x201000000040, bstart := 0x401, blen := 2,
                                        iss := { die := 0, tile := 0x2A, master := 4, chan := 7, hh := 5, port := 127 } }
    let s : State := linked {} {} [p]
    let l := s.stripeBytes { kind := .command, seq := 5, entries := [0], retried := true, ack := 3, nak := true }
    l.length = 264 ∧ l.take 16 = [0x30, 0x12, 0x2E, 0, 0x40, 0, 0, 0, 0x10, 0x20, 0x2A, 0xE0, 0xFF, 0x01, 0x84, 0] ∧
    (l.drop 16).take 240 = List.replicate 240 0 ∧ (l.drop 256).take 4 = [0x15, 0x0C, 0x0C, 0x80] ∧ stripeGood l = true ∧
    stripeGood (withNoise l [0, 4]) = false := by decide +kernel

theorem test_link_down :
    let s := linked { slots := [{ kind := .failed, seq := 0, entries := [0], retried := false }] } { nak := true } [rk 0 false]
    let t := after (.linkDown 0 0) s
    let n : State := (linked {} {} [{ rk 0 false with iss := { pk0.iss with die := 1, tile := 256 }, target := .tile 0 }]).modSlice 1 (fun S => { S with linkNotice := true })
    let u := after (.linkDownNotice 1) n
    s.failNaked 0 0 = true ∧ (rk 0 false).onRing 0 = true ∧ bit (t.slice 0).linkUp 0 = false ∧ bit (t.slice 1).linkUp 4 = false ∧ (t.slice 1).linkNotice = true ∧
    t.net.any (fun p => p.resp == some .crc && p.loc == .matrix 0) = true ∧
    (u.slice 1).linkNotice = false ∧ u.net.any (fun p => p.resp == some .crc && p.loc == .matrix 1) = true ∧
    bit ((after (.linkTraining 0 2 true) (up { linkTrain := 4 })).slice 0).linkUp 2 = true ∧ bit ((after (.linkTraining 0 2 true) (up { linkTrain := 4 })).slice 1).linkUp 6 = true ∧
    bit ((after (.linkTraining 0 2 false) (up { linkTrain := 4 })).slice 0).linkUp 2 = false := by decide +kernel

theorem test_ring_routes :
    let p : Packet := { rk 0 false with loc := .matrix 0 }
    let s (u : BitVec 8) (p : Packet) : State := { slices := [(0, { step := 9, linkUp := u }), (1, { step := 9 })], net := [p] }
    let g (u : BitVec 8) (p : Packet) := after (.ringRoute 0 0) (s u p)
    let r : Packet := { p with iss := { p.iss with die := 1 }, target := .tile 0, resp := some .ok }
    let n : Packet := { p with kind := .notice, target := .slice 1 }
    let v (t : Nat) (x : Word) := after (.routeWrite mgr 0 t x) (sl (0x1A0 + 4 * t) x (up {}))
    p.destDie = 1 ∧ (s 2 p).heldBack p = false ∧ (s 2 p).outOfTurn p = false ∧ (s 2 p).routeOff 0 1 2 0 = false ∧ r.destDie = 1 ∧
    ((g 2 p).pkt 0).map (·.loc) = some (.ring 0 1) ∧ ((g 0x10 p).pkt 0).map (·.resp) = some (some .decerr) ∧ bit ((g 0x10 p).slice 0).decSrc 31 = true ∧
    ((g 0x10 r).pkt 0).map (fun k => (k.loc, k.dir)) = some (.ring 0 4, some 1) ∧ ((g 0 r).pkt 0).map (·.loc) = some .lost ∧
    (g 0 n).net = [] ∧ takesS (sl 0x1A4 0x21 (up {})) mgr 0 0x1A4 0x21 = true ∧
    (v 1 0x21).routeDir 0 1 = 1 ∧ (v 1 0x21).routeLinks 0 1 = 2 ∧ (v 0 0x21).slice 0 = { step := 9 } ∧ said (v 0 0x21) = some .ok := by decide +kernel

theorem test_gates_admit :
    let p : Packet := { pk0 with target := .tile 0, loc := .arrived, bstart := 0x400, blen := 2, place := 0x10000, iss := { pk0.iss with hh := 5 } }
    let G : Gate := { base := 0x400, size := 2, r := true, hh := 5, isOpen := true, closedDone := false }
    let s (T : Tile) (p : Packet) : State := { onTile T with net := [p] }
    let n (T : Tile) (p : Packet) := after (.nwRequest 0 0) (s T p)
    let st (T : Tile) (p : Packet) : Option (Option Status) := ((n T p).pkt 0).map (·.resp)
    let gs : Tbl Gate := [(2, G), (3, G)]
    (s { gates := gs } p).nwFirst p = true ∧ ((({ gates := gs } : Tile).burstOf p).isNone = true) ∧ ((n { gates := gs } p).tile 0).accs.map (fun a => (a.off, a.stage)) = [(0x10000, .atPort)] ∧
    (((n { gates := gs } p).tile 0).gate 2).bursts = 1 ∧ (((n { gates := gs } p).tile 0).gate 3).bursts = 0 ∧ ((n { gates := gs } p).pkt 0).map (·.loc) = some .served ∧
    st { gates := [(2, { G with size := 1 })] } p = some (some .gate) ∧ st { gates := gs } { p with place := 0x10020 } = some (some .align) ∧
    st { gates := gs } { p with write := true, kind := .write, data := [7] } = some (some .gate) ∧
    st { gates := gs, quar := 0x20 } p = some (some .wdog) ∧ ({ quar := 0x20 } : Tile).quarantined .nw = true ∧
    st { gates := gs, reassign := some { hh := 1, stopped := true } } p = some (some .gate) := by decide +kernel

theorem test_gates_open_and_close :
    let s (G : Gate) (b : List Burst) (k : Nat) : State := onTile { gates := [(2, G)], bursts := b, meter := k, wdog := 1024 }
    let o : Gate := { base := 0x3FFF, size := 1, r := true, hh := 5, isOpen := true, closedDone := false }
    let b : Burst := { iss := pk0.iss, bstart := 0, blen := 2, write := false, gates := [2], due := 1, left := 2 }
    let c : Gate := { o with isOpen := false, closing := true }
    let f (i : Instr) (G : Gate) (k : Nat) := (after i (s G [b] k)).tile 0
    let openV (v : Word) : Word := withField v 8 1 1
    let shut (v : Word) : Word := withField v 8 1 0
    takesT (s o [] 0) own 0 0x128 (openV 0x51) = true ∧ takesT (s o [] 0) own 0 0x128 (shut 0x51) = true ∧ (s o [] 0).mayWrite .slgm own 0 = true ∧
    (f (.gateOpen own 0 2 0x51) { base := 0x3FFF, size := 1 } 0).gate 2 = o ∧
    (after (.gateOpen own 0 2 0x51) (s { base := 0x3FFF, size := 2 } [] 0)).out = [.reg own (tileRegAddr 0 0x128) .size 0] ∧
    (after (.gateOpen own 0 2 0x53) (s o [] 0)).out = [.reg own (tileRegAddr 0 0x128) .rearmBusy 0] ∧
    (after (.gateOpen own 0 2 0x51) (s o [] 0)).out = [.reg own (tileRegAddr 0 0x128) .ok 0] ∧
    (after (.gateClose own 0 2 0x53) (s o [] 0)).out = [.reg own (tileRegAddr 0 0x128) .rearmBusy 0] ∧
    (after (.gateClose own 0 2 0x51) (s c [] 0)).out = [.reg own (tileRegAddr 0 0x128) .ok 0] ∧
    ((f (.gateClose own 0 2 0x51) o 0).gate 2).closedDone = true ∧ ((f (.gateClose own 0 2 0x51) { o with bursts := 1 } 0).gate 2).closing = true ∧
    ((f (.gateClosedDone 0 2) c 0).gate 2).closedDone = true ∧ ((f (.gateClosedDone 0 2) { c with bursts := 1 } 0).gate 2).closing = true ∧
    (s { c with bursts := 1 } [b] 1023).paceOver 0 0 1024 = false ∧ ((f (.gateForcedClose 0 2) { c with bursts := 1 } 1023).gate 2).closing = true ∧
    ((f (.gateForcedClose 0 2) { c with bursts := 1 } 1024).gate 2).forced = true ∧
    (f (.gateForcedClose 0 2) { c with bursts := 1 } 1024).bursts.map (·.cut) = [true] := by decide +kernel

theorem test_write_rights :
    let s := up { hh := [(5, { bound := true, fn := 9 })], tiles := [(1, { hh := 5 })] }
    let w : Src := .host 0 9
    let ft (off : Nat) (v : Word) : State := atBus w 0 (tileRegAddr 0 off) (some v) s
    let fs (off : Nat) (v : Word) : State := atBus w 0 (sliceRegAddr 0 off) (some v) s
    let b := up { rotBusy := true, rotMask := 1 }
    let m : Addr := BitVec.ofNat 48 (sliceRegAddr 0 0x204)
    takesT (ft 0x044 2) w 0 0x044 2 = true ∧ s.mayWrite .slgm w 0 = false ∧ said (after (.deedWrite w 0 1 2) (ft 0x044 2)) = some .deed ∧
    takesT s (.sc 1) 1 0x044 7 = true ∧ s.isManager (.sc 1) = false ∧ (after (.deedWrite (.sc 1) 1 1 7) s).out = [.reg (.sc 1) (tileRegAddr 1 0x044) .deed 0] ∧
    said (after (.commonsWrite w 0 2) (ft 0x080 2)) = some .deed ∧ takesS (fs 0x010 0xA501) w 0 0x010 0xA501 = true ∧
    said (after (.srst w 0 0xA501) (fs 0x010 0xA501)) = some .deed ∧ said (after (.sliceRotateGo w 0 1) (fs 0x200 1)) = some .deed ∧
    said (after (.registerWrite w m 7) (fs 0x204 7)) = some .deed ∧
    said (after (.sliceRotateGo mgr 0 1) (sl 0x200 1 b)) = some .ok ∧ ((after (.sliceRotateGo mgr 0 1) (sl 0x200 1 b)).slice 0).rotLeft = 0 ∧
    said (after (.registerWrite mgr m 7) (sl 0x204 7 b)) = some .ok ∧ ((after (.registerWrite mgr m 7) (sl 0x204 7 b)).slice 0).rotMask = 1 ∧
    (after (.doorbellArrival 0 8 0 8 0) s).out = [.hostAnswer 0 8 .decerr []] ∧ (after (.doorstepWrite 0 8 0 64 true [1]) s).out = [.hostAnswer 0 8 .decerr []] := by
  decide +kernel

/-! ## Well-formed commands -/

theorem test_well_formed_0 :
    ([.supplyGood 1, .settlingDelayExpiry 1, .bookCheck 1, .repairMapLoad 1, .startupInitialState 1, .sliceReset 1 1, .supplyReset 1,
      .srst (.sc 1) 1 0, .diePowerOff 1, .linkTraining 1 1 true, .monitorCrossing 1 1 60, .forceLapse (.sc 1) 1 0, .lapseEnd 1,
      .bankRequest 1 (.nw 0), .bankBeat 1 1, .bankReadComplete 1 1 [] [], .bankWriteCommit 1 1, .narrowWrite 1 1 1 0 1,
      .mergeIdleFlush 1 1 1, .mergeFlushCommit 1 1 1 0 0, .deedWrite (.sc 1) 1 1 0, .commonsWrite (.sc 1) 1 0, .deedAdmissionStop 1,
      .deedEffectPoint 1, .rotateGo (.sc 1) 1 0, .rotationEffectPoint 1, .sliceRotateGo (.sc 1) 1 0, .tileRotateRequest 1,
      .sliceRotateDone 1, .retireBank (.sc 1) 1 0, .sweep (.sc 1) 1 0, .sweepEnd 1 14, .remapWrite (.sc 1) 1 0, .laneFlit 1,
      .sliceMatrixGrant 1 1, .holdbackRelease 1 1, .bridgeSlotAdmit 1 1, .defaultTarget (.sc 1) 1 0, .decerrRearm (.sc 1) 1 0,
      .registerBusAccess (.sc 1) 0 1 true 0, .arbiterDecision 1 1, .deadlineAdmission 1 1, .lockAcquire (.sc 1) 1 0,
      .lockRelease (.sc 1) 1 0, .coreReset 1, .coreResetNotice 1 1, .watchdogBite 1 1, .watchdogLockBite 1 1, .quarRelease (.sc 1) 1 0,
      .wdogIntervalWrite (.sc 1) 1 0, .en (.sc 1) 1 1 0, .arm (.sc 1) 1 1, .go (.sc 1) 1 1, .resume (.sc 1) 1 1, .skip (.sc 1) 1 1,
      .abort (.sc 1) 1 1, .dringTailWrite (.sc 1) 1 1 0, .descriptorFetched 1 1, .burstSelect 1, .burstIssue 1 1] : List Instr).all Instr.wellFormed = true := by decide +kernel

theorem test_well_formed_1 :
    ([.windowLookupReturn 1 1, .remoteResponse 1 1 .ok [], .readbackReturn 1 1 .ok, .descriptorComplete 1 1, .channelHalt 1 1, .nop 1 1,
      .copy 1 1, .gather 1 1, .scatter 1 1, .multicast 1 1, .convert 1 1, .fill 1 1, .regwrite 1 1, .waitt 1 1, .signal 1 1,
      .indexReadReturn 1 1 .tagged, .slotFilled 1 1, .slotRingResample 1 1, .ringProbe 1 1, .ringProbeRetry 1 1, .slotReadback 1 1,
      .mcCredit 1 1 1, .mcReadback 1 1, .mcStall 1 1, .extRequest 1 1 1, .extResponse 1 1 1 (some 1) true [], .titheTokenAdd 1 1 1 1,
      .titheWrite (.sc 1) 1 1 0, .extControllerReadyChange 1 1 true, .stripeSend 1 1, .stripeReceived 1 1 [], .stripeNak 1 1 1,
      .stripeAck 1 1 1, .linkDown 1 1, .linkDownNotice 1, .ringRoute 1 1, .routeWrite (.sc 1) 1 1 0, .nwRequest 1 1, .gateOpen (.sc 1) 1 1 0,
      .gateClose (.sc 1) 1 1 0, .gateClosedDone 1 1, .gateForcedClose 1 1, .add 1 .vx 1 0, .waitGe 1 .vx 1 0, .waitDec 1 .vx 1, .dec 1 .vx 1,
      .fence 1 .vx, .fenceEnd 1 .vx, .arrive 1 .vx 1, .waitBell 1 .vx 1 1, .arriveWait 1 .vx 1, .tallyBoundary 1, .tallyWrite (.sc 1) 1 1 0,
      .tallyModeWrite (.sc 1) 1 1 0, .bellArriveWrite (.sc 1) 1 1, .bellForce (.sc 1) 1 1, .still 1, .send 1 .vx 1 1 1 1 1,
      .messageArrival 1 1, .sendRetry 1 .vx] : List Instr).all Instr.wellFormed = true := by decide +kernel

theorem test_well_formed_2 :
    ([.sendStatus 1 .vx, .recv 1 .vx 1, .pop 1 .vx 1, .endpointOpen (.sc 1) 1 1 0, .endpointClose (.sc 1) 1 1 0, .reassignment (.sc 1) 1 1 0,
      .reassignmentComplete 1, .bind (.sc 1) 0, .unbind (.sc 1) 0, .unbindFinish, .unboundClr (.sc 1) 1 0, .hostRequest 1 1 0 1 false [],
      .doorbellArrival 1 1 1 1 0, .doorbellRelease 1 1, .doorbellTail 1 1, .doorbellGo 1 1, .doorstepWrite 1 1 1 1 true [0],
      .completionRecordWrite 1 1, .completionRecordFail 1 1, .cringEnWrite (.sc 1) 1 1 0, .retry (.sc 1) 1 1, .cringHeadWrite (.sc 1) 1 1 0,
      .interruptMessage 1 1 1, .irqEnableWrite (.sc 1) 1 1 0, .captureRecord 1 1, .captureRecordWrite 1 .ok, .captureEnWrite (.sc 1) 1 0,
      .rerunPresent 1 .ok [], .gleanerBeat 1 1 0 0, .writepar (.sc 1) 1 0, .readraw (.sc 1) 1 0, .check (.sc 1) 1 0 0 0,
      .marchCMinus (.sc 1) 1 0, .transparentMarch (.sc 1) 1 0, .marchEnd 1 [], .remapRowWrite (.sc 1) 1 1 0, .bookAppend 1 1,
      .bookRecordDrop 1 1, .read (.sc 1) 1 0, .mapadd (.sc 1) 1 0, .mapclear (.sc 1) 1 0, .init (.sc 1) 1 0, .bookCommandEnd 1,
      .bookAck (.sc 1) 1 0, .bookSpace4Read (.sc 1) 1 0 1 true, .startWordWrite (.sc 1) 1 0, .registerWrite (.sc 1) 0 0,
      .engineStopped 1 .vx true, .bankRequest 1 (.core .mx .quad 0 256 true 2 7 [0, 0, 0, 0, 0, 0, 0, 0]),
      .bankRequest 1 (.core .sc .bank 1048568 8 false 1 0 []), .arm (.st 2047 7) 2047 7, .arm (.host 7 255) 1 1] : List Instr).all Instr.wellFormed = true := by decide +kernel

/-- One ill-formed term for each check. -/
theorem test_ill_formed_0 :
    ([.supplyGood 8, .settlingDelayExpiry 8, .bookCheck 8, .repairMapLoad 8, .startupInitialState 8, .sliceReset 8 1, .sliceReset 1 0,
      .sliceReset 1 6, .supplyReset 8, .srst (.sc 2048) 1 0, .srst (.sc 1) 8 0, .diePowerOff 8, .linkTraining 8 1 true,
      .linkTraining 1 8 true, .monitorCrossing 8 1 60, .forceLapse (.sc 2048) 1 0, .forceLapse (.sc 1) 8 0, .lapseEnd 8,
      .bankRequest 2048 (.nw 0), .bankRequest 1 (.core .mx .bank 0 64 false 0 0 []), .bankRequest 1 (.core .vx .bank 0 64 false 17 0 []),
      .bankRequest 1 (.core .vx .bank 1048512 64 false 2 0 []), .bankRequest 1 (.core .vx .bank 0 64 false 1 8 []),
      .bankRequest 1 (.core .vx .bank 0 64 true 1 0 []), .bankRequest 1 (.core .sc .bank 0 8 true 1 0 [0]),
      .bankRequest 1 (.core .st .bank 0 64 false 1 0 []), .bankRequest 1 (.core .nw .bank 0 64 false 1 0 []), .bankBeat 2048 1,
      .bankBeat 1 16, .bankReadComplete 2048 1 [] [], .bankWriteCommit 2048 1, .narrowWrite 2048 1 1 0 1, .narrowWrite 1 1048576 1 0 1,
      .narrowWrite 1 1 1 0 8, .mergeIdleFlush 2048 1 1, .mergeIdleFlush 1 16 1, .mergeIdleFlush 1 1 1024, .mergeFlushCommit 2048 1 1 0 0,
      .mergeFlushCommit 1 16 1 0 0, .mergeFlushCommit 1 1 1024 0 0, .deedWrite (.sc 2048) 1 1 0, .deedWrite (.sc 1) 2048 1 0,
      .deedWrite (.sc 1) 1 16 0, .commonsWrite (.sc 2048) 1 0, .commonsWrite (.sc 1) 2048 0, .deedAdmissionStop 2048, .deedEffectPoint 2048,
      .rotateGo (.sc 2048) 1 0, .rotateGo (.sc 1) 2048 0, .rotationEffectPoint 2048, .sliceRotateGo (.sc 2048) 1 0,
      .sliceRotateGo (.sc 1) 8 0, .tileRotateRequest 2048, .sliceRotateDone 8, .retireBank (.sc 2048) 1 0, .retireBank (.sc 1) 2048 0,
      .sweep (.sc 2048) 1 0, .sweep (.sc 1) 2048 0, .sweepEnd 2048 14, .sweepEnd 1 13] : List Instr).any Instr.wellFormed = false := by decide +kernel

/-- More ill-formed terms. -/
theorem test_ill_formed_1 :
    ([.remapWrite (.sc 2048) 1 0, .remapWrite (.sc 1) 2048 0, .sliceMatrixGrant 8 1, .sliceMatrixGrant 1 76, .holdbackRelease 8 1,
      .bridgeSlotAdmit 8 1, .bridgeSlotAdmit 1 8, .defaultTarget (.sc 2048) 1 0, .defaultTarget (.sc 1) 8 0, .decerrRearm (.sc 2048) 1 0,
      .decerrRearm (.sc 1) 8 0, .registerBusAccess (.sc 2048) 0 1 true 0, .arbiterDecision 2048 1, .arbiterDecision 1 21,
      .deadlineAdmission 2048 1, .lockAcquire (.sc 2048) 1 0, .lockAcquire (.sc 1) 2048 0, .lockRelease (.sc 2048) 1 0,
      .lockRelease (.sc 1) 2048 0, .coreReset 2048, .coreResetNotice 2048 1, .coreResetNotice 1 2048, .watchdogBite 2048 1,
      .watchdogBite 1 17, .watchdogLockBite 2048 1, .watchdogLockBite 1 16, .quarRelease (.sc 2048) 1 0, .quarRelease (.sc 1) 2048 0,
      .wdogIntervalWrite (.sc 2048) 1 0, .wdogIntervalWrite (.sc 1) 2048 0, .en (.sc 2048) 1 1 0, .en (.sc 1) 2048 1 0, .en (.sc 1) 1 8 0,
      .arm (.sc 2048) 1 1, .arm (.sc 1) 2048 1, .arm (.sc 1) 1 8, .go (.sc 2048) 1 1, .go (.sc 1) 2048 1, .go (.sc 1) 1 8,
      .resume (.sc 2048) 1 1, .resume (.sc 1) 2048 1, .resume (.sc 1) 1 8, .skip (.sc 2048) 1 1, .skip (.sc 1) 2048 1, .skip (.sc 1) 1 8,
      .abort (.sc 2048) 1 1, .abort (.sc 1) 2048 1, .abort (.sc 1) 1 8, .dringTailWrite (.sc 2048) 1 1 0, .dringTailWrite (.sc 1) 2048 1 0,
      .dringTailWrite (.sc 1) 1 8 0, .descriptorFetched 2048 1, .descriptorFetched 1 8, .burstSelect 2048, .burstIssue 2048 1,
      .burstIssue 1 8, .windowLookupReturn 2048 1, .remoteResponse 2048 1 .ok [], .readbackReturn 2048 1 .ok, .descriptorComplete 2048 1] : List Instr).any Instr.wellFormed = false := by decide +kernel

/-- More ill-formed terms. -/
theorem test_ill_formed_2 :
    ([.descriptorComplete 1 8, .channelHalt 2048 1, .channelHalt 1 8, .nop 2048 1, .nop 1 8, .copy 2048 1, .copy 1 8, .gather 2048 1,
      .gather 1 8, .scatter 2048 1, .scatter 1 8, .multicast 2048 1, .multicast 1 8, .convert 2048 1, .convert 1 8, .fill 2048 1, .fill 1 8,
      .regwrite 2048 1, .regwrite 1 8, .waitt 2048 1, .waitt 1 8, .signal 2048 1, .signal 1 8, .indexReadReturn 2048 1 .tagged,
      .slotFilled 2048 1, .slotFilled 1 8, .slotRingResample 2048 1, .slotRingResample 1 8, .ringProbe 2048 1, .ringProbeRetry 2048 1,
      .ringProbeRetry 1 8, .slotReadback 2048 1, .mcCredit 2048 1 1, .mcCredit 1 8 1, .mcCredit 1 1 16, .mcReadback 2048 1, .mcStall 2048 1,
      .mcStall 1 8, .extRequest 8 1 1, .extRequest 1 3 1, .extResponse 8 1 1 (some 1) true [], .extResponse 1 3 1 (some 1) true [], .titheTokenAdd 8 1 1 1,
      .titheTokenAdd 1 3 1 1, .titheTokenAdd 1 1 16 1, .titheWrite (.sc 2048) 1 1 0, .titheWrite (.sc 1) 8 1 0, .titheWrite (.sc 1) 1 16 0,
      .extControllerReadyChange 8 1 true, .extControllerReadyChange 1 3 true, .stripeSend 8 1, .stripeSend 1 8, .stripeReceived 8 1 [],
      .stripeReceived 1 8 [], .stripeNak 8 1 1, .stripeNak 1 8 1, .stripeNak 1 1 256, .stripeAck 8 1 1, .stripeAck 1 8 1,
      .stripeAck 1 1 256] : List Instr).any Instr.wellFormed = false := by decide +kernel

/-- More ill-formed terms. -/
theorem test_ill_formed_3 :
    ([.linkDown 8 1, .linkDown 1 8, .linkDownNotice 8, .ringRoute 8 1, .routeWrite (.sc 2048) 1 1 0, .routeWrite (.sc 1) 8 1 0,
      .routeWrite (.sc 1) 1 8 0, .nwRequest 2048 1, .gateOpen (.sc 2048) 1 1 0, .gateOpen (.sc 1) 2048 1 0, .gateOpen (.sc 1) 1 8 0,
      .gateClose (.sc 2048) 1 1 0, .gateClose (.sc 1) 2048 1 0, .gateClose (.sc 1) 1 8 0, .gateClosedDone 2048 1, .gateClosedDone 1 8,
      .gateForcedClose 2048 1, .gateForcedClose 1 8, .add 2048 .vx 1 0, .add 1 .vx 48 0, .waitGe 2048 .vx 1 0, .waitGe 1 .vx 48 0,
      .waitDec 2048 .vx 1, .waitDec 1 .vx 48, .dec 2048 .vx 1, .dec 1 .vx 48, .fence 2048 .vx, .fenceEnd 2048 .vx, .arrive 2048 .vx 1,
      .arrive 1 .vx 8, .waitBell 2048 .vx 1 1, .waitBell 1 .vx 8 1, .waitBell 1 .vx 1 4096, .arriveWait 2048 .vx 1, .arriveWait 1 .vx 8,
      .tallyBoundary 2048, .tallyWrite (.sc 2048) 1 1 0, .tallyWrite (.sc 1) 2048 1 0, .tallyWrite (.sc 1) 1 48 0,
      .tallyModeWrite (.sc 2048) 1 1 0, .tallyModeWrite (.sc 1) 2048 1 0, .tallyModeWrite (.sc 1) 1 2 0, .bellArriveWrite (.sc 2048) 1 1,
      .bellArriveWrite (.sc 1) 2048 1, .bellArriveWrite (.sc 1) 1 8, .bellForce (.sc 2048) 1 1, .bellForce (.sc 1) 2048 1,
      .bellForce (.sc 1) 1 8, .still 2048, .send 2048 .vx 1 1 1 1 1, .send 1 .vx 1048576 1 1 1 1, .send 1 .vx 1 1 2048 1 1,
      .send 1 .vx 1 1 1 16 1, .send 1 .vx 1 1 1 1 8, .messageArrival 2048 1, .sendRetry 2048 .vx, .sendStatus 2048 .vx, .recv 2048 .vx 1,
      .recv 1 .vx 16, .pop 2048 .vx 1] : List Instr).any Instr.wellFormed = false := by decide +kernel

/-- More ill-formed terms. -/
theorem test_ill_formed_4 :
    ([.pop 1 .vx 16, .endpointOpen (.sc 2048) 1 1 0, .endpointOpen (.sc 1) 2048 1 0, .endpointOpen (.sc 1) 1 16 0,
      .endpointClose (.sc 2048) 1 1 0, .endpointClose (.sc 1) 2048 1 0, .endpointClose (.sc 1) 1 16 0, .reassignment (.sc 2048) 1 1 0,
      .reassignment (.sc 1) 8 1 0, .reassignment (.sc 1) 1 32 0, .reassignmentComplete 2048, .bind (.sc 2048) 0, .unbind (.sc 2048) 0,
      .unboundClr (.sc 2048) 1 0, .unboundClr (.sc 1) 8 0, .hostRequest 8 1 0 1 false [], .hostRequest 1 256 0 1 false [],
      .hostRequest 1 1 0 1 false [0, 0], .doorbellArrival 8 1 1 1 0, .doorbellArrival 1 256 1 1 0, .doorbellRelease 8 1,
      .doorbellRelease 1 16, .doorbellTail 2048 1, .doorbellGo 2048 1, .doorstepWrite 8 1 1 1 true [0], .doorstepWrite 1 256 1 1 true [0],
      .doorstepWrite 1 1 1 0 true [0], .doorstepWrite 1 1 1 1 true [0, 0], .completionRecordWrite 8 1, .completionRecordWrite 1 16,
      .completionRecordFail 8 1, .completionRecordFail 1 16, .cringEnWrite (.sc 2048) 1 1 0, .cringEnWrite (.sc 1) 8 1 0,
      .cringEnWrite (.sc 1) 1 16 0, .retry (.sc 2048) 1 1, .retry (.sc 1) 8 1, .retry (.sc 1) 1 16, .cringHeadWrite (.sc 2048) 1 1 0,
      .cringHeadWrite (.sc 1) 8 1 0, .cringHeadWrite (.sc 1) 1 16 0, .interruptMessage 8 1 1, .interruptMessage 1 16 1,
      .interruptMessage 1 1 8, .irqEnableWrite (.sc 2048) 1 1 0, .irqEnableWrite (.sc 1) 8 1 0, .irqEnableWrite (.sc 1) 1 16 0,
      .captureRecord 8 1, .captureRecordWrite 8 .ok, .captureEnWrite (.sc 2048) 1 0, .captureEnWrite (.sc 1) 8 0, .rerunPresent 8 .ok [],
      .gleanerBeat 2048 1 0 0, .gleanerBeat 1 16 0 0, .writepar (.sc 2048) 1 0, .writepar (.sc 1) 2048 0, .readraw (.sc 2048) 1 0,
      .readraw (.sc 1) 2048 0, .check (.sc 2048) 1 0 0 0, .check (.sc 1) 2048 0 0 0] : List Instr).any Instr.wellFormed = false := by decide +kernel

/-- More ill-formed terms. -/
theorem test_ill_formed_5 :
    ([.marchCMinus (.sc 2048) 1 0, .marchCMinus (.sc 1) 2048 0, .transparentMarch (.sc 2048) 1 0, .transparentMarch (.sc 1) 2048 0,
      .marchEnd 2048 [], .remapRowWrite (.sc 2048) 1 1 0, .remapRowWrite (.sc 1) 2048 1 0, .remapRowWrite (.sc 1) 1 32 0, .bookAppend 8 1,
      .bookAppend 1 2, .bookRecordDrop 8 1, .bookRecordDrop 1 2, .read (.sc 2048) 1 0, .read (.sc 1) 8 0, .mapadd (.sc 2048) 1 0,
      .mapadd (.sc 1) 8 0, .mapclear (.sc 2048) 1 0, .mapclear (.sc 1) 8 0, .init (.sc 2048) 1 0, .init (.sc 1) 8 0, .bookCommandEnd 8,
      .bookAck (.sc 2048) 1 0, .bookAck (.sc 1) 8 0, .bookSpace4Read (.sc 2048) 1 0 1 true, .bookSpace4Read (.sc 1) 8 0 1 true,
      .startWordWrite (.sc 2048) 1 0, .startWordWrite (.sc 1) 8 0, .registerWrite (.sc 2048) 0 0, .engineStopped 2048 .vx true,
      .arm (.st 1 8) 1 1, .arm (.st 2048 1) 1 1, .arm (.host 8 1) 1 1, .arm (.host 1 256) 1 1] : List Instr).any Instr.wellFormed = false := by decide +kernel

end Sys2Proof.Tests
end

section
/-!
What setting bits one after another gives, and the fields that the deed registers take from a word.
-/

namespace Sys2Proof.Machine

variable {n : Nat}

theorem lt_of_bit {w : BitVec n} {k : Nat} (h : bit w k = true) : k < n := BitVec.lt_of_getLsbD h

@[simp] theorem bit_or (x y : BitVec n) (k : Nat) : bit (x ||| y) k = (bit x k || bit y k) := BitVec.getLsbD_or

/-- A set bit reads 1, and every other bit as before. -/
theorem bit_setBit_true (w : BitVec n) (k : Nat) {j : Nat} (hj : j < n) :
    bit (setBit w k true) j = true ↔ j = k ∨ bit w j = true := by
  simp only [bit, setBit, if_true, BitVec.getLsbD_or, BitVec.getLsbD_ofNat, hj, Nat.one_shiftLeft, Nat.testBit_two_pow,
    decide_true, Bool.true_and, Bool.or_eq_true, decide_eq_true_eq]
  rw [or_comm, @eq_comm _ k]

/-- A cleared bit reads 0. -/
theorem bit_setBit_false (w : BitVec n) (k : Nat) : bit (setBit w k false) k = false := by
  have h : (BitVec.ofNat n (1 <<< k)).getLsbD k = decide (k < n) := by
    rw [BitVec.getLsbD_ofNat, Nat.one_shiftLeft, Nat.testBit_two_pow_self, Bool.and_true]
  simp [bit, setBit, h]

theorem bit_foldl_setBit (l : List Nat) (w : BitVec n) {j : Nat} (hj : j < n) :
    bit (l.foldl (fun p b => setBit p b true) w) j = true ↔ j ∈ l ∨ bit w j = true := by
  induction l generalizing w with
  | nil => simp
  | cons b l ih => rw [List.foldl_cons, ih, bit_setBit_true w b hj, List.mem_cons]; tauto

@[simp] theorem mem_bitsOf {w : BitVec n} {k : Nat} : k ∈ bitsOf w ↔ bit w k = true := by
  simpa [bitsOf] using lt_of_bit

theorem eq_zero_iff_bit (w : BitVec n) : w = 0 ↔ ∀ k, k < n → bit w k = false := by
  constructor
  · rintro rfl k _; exact BitVec.getLsbD_zero
  · exact fun h => BitVec.eq_of_getLsbD_eq fun k hk => (h k hk).trans BitVec.getLsbD_zero.symm

/-- A field of a word put into a register of the field's width. -/
theorem toNat_ofNat_bits (v : Word) (len : Nat) : (BitVec.ofNat len (bits v 0 len)).toNat = bits v 0 len := by
  simp [bits]

/-- The low bits of a word put into a register of that many bits. -/
theorem bit_ofNat_bits (v : Word) {len k : Nat} (hk : k < len) : bit (BitVec.ofNat len (bits v 0 len)) k = bit v k := by
  simp [bits, bit, hk, BitVec.getLsbD]

/-- The bits 1 to 5 of a word, which TL_COMMONS has. -/
theorem toNat_commonsMask (v : Word) : (BitVec.ofNat 6 (v.toNat &&& 0x3E)).toNat = v.toNat &&& 0x3E := by
  have : v.toNat &&& 0x3E ≤ 0x3E := Nat.and_le_right
  exact Nat.mod_eq_of_lt (by omega)

end Sys2Proof.Machine
end

section
/-!
What a write to a register that may wait leads to; and what capture, a change of a tile and the acceptance of a deed write leave as they are.
-/

namespace Sys2Proof.Machine

open Host

variable {s t u : State} {w : Src} {tile off : Nat} {v : Word} {st : Status}

/-- A write that need not wait: performed and answered. -/
theorem State.tileReg_orWait_some (h : s.tileTakes w tile off v) {o : Option (State × Status)} (ho : o = some (t, st)) :
    s.tileReg w tile off v (RegRes.orWait o) = .next (s.answered t w tile off v st) := by
  subst ho; exact State.tileReg_now h

/-- A write that must wait. -/
theorem State.tileReg_orWait_none (h : s.tileTakes w tile off v) {o : Option (State × Status)} (ho : o = none) :
    s.tileReg w tile off v (RegRes.orWait o) =
      .next (s.taken (s.modTile tile (fun T => { T with regWait := T.regWait ++ [s.accOf w tile off v] })) w tile off v) := by
  subst ho; exact State.tileReg_waits h

/-- A write of a slice register that is performed at once. -/
theorem State.sliceReg_now_of_eq {die : Nat} (h : s.sliceTakes w die off v) {o : State × Status} (ho : o = (t, st)) :
    s.sliceReg w die off v (RegRes.now o) = .next (s.sliceAnswered t w die off v st) := by
  subst ho; exact State.sliceReg_now h

/-- The ports and the tiles of `t` are those of `s`, as they are once an event of `s` has been captured. -/
structure State.CapturesFrom (t s : State) : Prop where
  out : t.out = s.out
  tile : ∀ g, t.tile g = s.tile g

theorem State.capture_capturesFrom (s : State) (d h type addr tile : Nat) (data : BitVec 64) (src : Nat) (st : Status) (refused : Bool)
    (payload : List RowData) : (s.capture d h type addr tile data src st refused payload).CapturesFrom s :=
  ⟨(State.capture_rest s d h type addr tile data src st refused payload).1, State.capture_tile s d h type addr tile data src st refused payload⟩

theorem State.acceptDeed_tile (s : State) (tile : Nat) (op : DeedOp) :
    (s.acceptDeed tile op).tile tile =
      { s.tile tile with deedOp := some op, deedStop := false, deedLapse := s.lapsed tile,
                         pend := ((s.tile tile).opBanks op).foldl (fun p b => setBit p b true) (s.tile tile).pend } := by
  simp [State.acceptDeed]

@[simp] theorem State.acceptDeed_deedOp (s : State) (tile : Nat) (op : DeedOp) : ((s.acceptDeed tile op).tile tile).deedOp = some op := by
  rw [State.acceptDeed_tile]

@[simp] theorem State.acceptDeed_owner (s : State) (tile : Nat) (op : DeedOp) :
    ((s.acceptDeed tile op).tile tile).owner = (s.tile tile).owner := by
  rw [State.acceptDeed_tile]

@[simp] theorem State.acceptDeed_commons (s : State) (tile : Nat) (op : DeedOp) :
    ((s.acceptDeed tile op).tile tile).commons = (s.tile tile).commons := by
  rw [State.acceptDeed_tile]

@[simp] theorem State.acceptDeed_retired (s : State) (tile : Nat) (op : DeedOp) :
    ((s.acceptDeed tile op).tile tile).retired = (s.tile tile).retired := by
  rw [State.acceptDeed_tile]

@[simp] theorem State.acceptDeed_out (s : State) (tile : Nat) (op : DeedOp) : (s.acceptDeed tile op).out = s.out := rfl

/-- PEND after the acceptance of a deed write: set on the banks that it changes, elsewhere as before. -/
theorem State.acceptDeed_pend (s : State) (tile : Nat) (op : DeedOp) {b : Nat} (hb : b < 16) :
    bit ((s.acceptDeed tile op).tile tile).pend b = true ↔ b ∈ (s.tile tile).opBanks op ∨ bit (s.tile tile).pend b = true := by
  rw [State.acceptDeed_tile]; exact bit_foldl_setBit _ _ hb

/-! ## Deed writes (spec/02_banks_deeds.md R51 to R55, R82) -/

theorem exec_deedWrite {b : Nat} (hb : b < 16) :
    exec (.deedWrite w tile b v) s = s.tileReg w tile (0x040 + 4 * b) v (RegRes.orWait (s.deedWriteOp w tile b v)) := by
  simp [exec, execDeedWrite, State.named, hb]

theorem exec_commonsWrite :
    exec (.commonsWrite w tile v) s = s.tileReg w tile 0x080 v (RegRes.orWait (s.commonsWriteOp w tile v)) := rfl

theorem exec_retireBank : exec (.retireBank w tile v) s = s.tileReg w tile 0x0A8 v (RegRes.orWait (s.retireOp w tile v)) := rfl

theorem State.deedWriteOp_refused (b : Nat) (h : s.mayWrite .slgm w tile = false ∨ bits v 0 3 = 7 ∧ s.isManager w = false) :
    s.deedWriteOp w tile b v = some (s, .deed) := by
  unfold State.deedWriteOp
  rcases h with h | ⟨h7, h⟩
  · simp [h]
  · simp [h, h7]

section
variable {b : Nat} (hw : s.mayWrite .slgm w tile = true) (hm : bits v 0 3 = 7 → s.isManager w = true)
include hw hm

theorem State.deedWriteOp_waits (h : (s.tile tile).deedOp.isSome = true ∨ (s.tile tile).underTest b = true) :
    s.deedWriteOp w tile b v = none := by
  unfold State.deedWriteOp
  simp only [toNat_ofNat_bits, hw]
  rw [if_neg (by simpa using hm), if_pos (by simpa using h)]

/-- A write to TL_DEED that is taken: captured, and begun if it changes the deed. -/
theorem State.deedWriteOp_taken (hn : (s.tile tile).deedOp = none) (hu : (s.tile tile).underTest b = false)
    (hr : bit (s.tile tile).retired b = false) :
    ∃ u : State, u.CapturesFrom s ∧ s.deedWriteOp w tile b v =
      some (if (s.tile tile).ownerOf b = bits v 0 3 then u else u.acceptDeed tile (.deed b (BitVec.ofNat 3 (bits v 0 3))), .ok) := by
  refine ⟨_, State.capture_capturesFrom s (tileDie tile) (s.tile tile).hh 4 (0x040 + 4 * b) tile (v.zeroExtend 64) (captureSrc w tile) .ok
    false [], ?_⟩
  unfold State.deedWriteOp
  simp only [toNat_ofNat_bits, hw]
  rw [if_neg (by simpa using hm), if_neg (by simp [hn, hu]), if_neg (by simp [hr])]
  split <;> rfl

end

theorem State.commonsWriteOp_refused (h : s.mayWrite .slgm w tile = false) : s.commonsWriteOp w tile v = some (s, .deed) := by
  simp [State.commonsWriteOp, h]

/-- A write to TL_COMMONS that is taken: captured; begun if it changes the mask and some bank is commons, and otherwise complete. -/
theorem State.commonsWriteOp_taken (hw : s.mayWrite .slgm w tile = true) (hn : (s.tile tile).deedOp = none)
    (hu : ∀ b, b < 16 → (s.tile tile).ownerOf b = 6 → (s.tile tile).underTest b = false) :
    ∃ u : State, u.CapturesFrom s ∧ s.commonsWriteOp w tile v =
      some (if (s.tile tile).commons.toNat = v.toNat &&& 0x3E ∨ (∀ b, b < 16 → (s.tile tile).ownerOf b ≠ 6)
        then u.modTile tile (fun T => { T with commons := BitVec.ofNat 6 (v.toNat &&& 0x3E) })
        else u.acceptDeed tile (.commons (BitVec.ofNat 6 (v.toNat &&& 0x3E))), .ok) := by
  refine ⟨_, State.capture_capturesFrom s (tileDie tile) (s.tile tile).hh 4 0x080 tile (v.zeroExtend 64) (captureSrc w tile) .ok false [], ?_⟩
  have same : (s.tile tile).commons = BitVec.ofNat 6 (v.toNat &&& 0x3E) ↔ (s.tile tile).commons.toNat = v.toNat &&& 0x3E := by
    rw [BitVec.toNat_eq, toNat_commonsMask]
  have quiet : (List.range 16).any (fun b => (s.tile tile).ownerOf b == 6 && (s.tile tile).underTest b) = false := by
    simpa using hu
  have none_commons : (!(List.range 16).any (fun b => (s.tile tile).ownerOf b == 6)) = true ↔ ∀ b, b < 16 → (s.tile tile).ownerOf b ≠ 6 := by
    simp
  unfold State.commonsWriteOp
  rw [if_neg (by simp [hw]), if_neg (by simp [hn, quiet])]
  simp only [Bool.or_eq_true, decide_eq_true_eq, same, none_commons]
  split <;> rfl

/-- The banks of a mask that hold an owner: those that a retirement leaves without one. -/
def Tile.openBanks (T : Tile) (m : BitVec 16) : BitVec 16 :=
  (bitsOf m).foldl (fun p b => if T.ownerOf b = 0 then p else setBit p b true) 0

theorem Tile.bit_openBanks (T : Tile) (m : BitVec 16) {b : Nat} (hb : b < 16) :
    bit (T.openBanks m) b = true ↔ bit m b = true ∧ T.ownerOf b ≠ 0 := by
  have h : T.openBanks m = ((bitsOf m).filter (fun b => T.ownerOf b ≠ 0)).foldl (fun p b => setBit p b true) 0 := by
    rw [List.foldl_filter]; simp [Tile.openBanks]
  rw [h, bit_foldl_setBit _ _ hb]
  simp [bit]

/-- The RETIRED bits that a write to TL_RETIRED newly sets. -/
def Tile.newlyRetired (T : Tile) (v : Word) : BitVec 16 := BitVec.ofNat 16 (bits v 0 16) &&& ~~~ T.retired

theorem Tile.bit_newlyRetired (T : Tile) (v : Word) {b : Nat} (hb : b < 16) : bit (T.newlyRetired v) b = (bit v b && !bit T.retired b) := by
  rw [← bit_ofNat_bits v hb]
  simp [Tile.newlyRetired, bit, hb]

theorem Tile.bit_retired_newlyRetired (T : Tile) (v : Word) {b : Nat} (hb : b < 16) :
    bit (T.retired ||| T.newlyRetired v) b = (bit T.retired b || bit v b) := by
  rw [bit_or, Tile.bit_newlyRetired _ _ hb]
  cases bit T.retired b <;> simp

/-- A retirement leaves without an owner the banks that it newly names and that hold one. -/
theorem Tile.bit_openBanks_newlyRetired (T : Tile) (v : Word) {b : Nat} (hb : b < 16) :
    bit (T.openBanks (T.newlyRetired v)) b = (bit v b && !bit T.retired b && T.ownerOf b != 0) := by
  rw [Bool.eq_iff_iff, Tile.bit_openBanks _ _ hb, Tile.bit_newlyRetired _ _ hb]
  simp

theorem Tile.openBanks_newlyRetired_eq_zero (T : Tile) (v : Word) :
    T.openBanks (T.newlyRetired v) = 0 ↔ ∀ b, b < 16 → bit v b = true → bit T.retired b = true ∨ T.ownerOf b = 0 := by
  rw [eq_zero_iff_bit]
  refine forall₂_congr fun b hb => ?_
  rw [Tile.bit_openBanks_newlyRetired _ _ hb]
  cases bit T.retired b <;> simp

/-- A write to TL_RETIRED that is taken: the bits set, and a deed write to OWNER 0 begins on the banks among them that hold another. -/
theorem State.retireOp_taken (hw : s.isManager w = true) (hn : (s.tile tile).deedOp = none)
    (hu : ∀ b, b < 16 → bit v b = true → (s.tile tile).underTest b = false) :
    let m := (s.tile tile).newlyRetired v
    let r := s.modTile tile (fun T => { T with retired := T.retired ||| m })
    s.retireOp w tile v =
      some (if (s.tile tile).openBanks m = 0 then r else r.acceptDeed tile (.retire ((s.tile tile).openBanks m)), .ok) := by
  have quiet : (bitsOf ((s.tile tile).newlyRetired v)).any (s.tile tile).underTest = false := by
    rw [List.any_eq_false]
    intro b hb
    have hb := mem_bitsOf.1 hb
    have lt := lt_of_bit hb
    rw [Tile.bit_newlyRetired _ _ lt, Bool.and_eq_true] at hb
    simp [hu b lt hb.1]
  intro m r
  unfold State.retireOp
  simp only [hw, hn]
  rw [if_neg (by simp), if_neg (by simpa [Tile.newlyRetired] using quiet)]
  change (if (s.tile tile).openBanks m = 0 then some (r, Status.ok) else some (r.acceptDeed tile (.retire ((s.tile tile).openBanks m)), .ok)) = _
  split <;> rfl

end Sys2Proof.Machine
end

section
/-!
Deed writes: who may write, and what begins (spec/02_banks_deeds.md R51 to R55, R82).
-/

namespace Sys2Proof.Machine

/-- Settles O17: each write is its operation's case of who writes and what is pending, and one that begins is accepted with PEND on the
banks it changes. -/
theorem deedWritesBegin : Obligations.DeedWritesBegin := by
  unfold Obligations.DeedWritesBegin
  refine ⟨?deed, ?commons, ?retire, ?waits, ?refused⟩
  case deed =>
    intro s w tile b v h hw hb hm hn hu hr
    obtain ⟨u, hc, ho⟩ := State.deedWriteOp_taken hw hm hn hu hr
    refine ⟨_, (exec_deedWrite hb).trans (State.tileReg_orWait_some h ho), ?_⟩
    by_cases same : (s.tile tile).ownerOf b = bits v 0 3
    · simp [same, hc.out, hc.tile, hn]
    · simp only [if_neg same, State.acceptDeed_out, hc.out, true_and]
      have pend {k : Nat} := State.acceptDeed_pend u tile (.deed b (BitVec.ofNat 3 (bits v 0 3))) (b := k)
      simp only [hc.tile, Tile.opBanks, List.mem_singleton] at pend
      simp only [State.acceptDeed_owner, State.acceptDeed_commons, State.acceptDeed_deedOp, hc.tile, true_and]
      exact ⟨(pend hb).2 (.inl rfl), fun k hk hkb => by rw [Bool.eq_iff_iff, pend hk]; simp [hkb]⟩
  case commons =>
    intro s w tile v h hw hn hu
    obtain ⟨u, hc, ho⟩ := State.commonsWriteOp_taken hw hn hu
    refine ⟨_, exec_commonsWrite.trans (State.tileReg_orWait_some h ho), ?_⟩
    by_cases none_changes : (s.tile tile).commons.toNat = v.toNat &&& 0x3E ∨ ∀ b, b < 16 → (s.tile tile).ownerOf b ≠ 6
    · simp only [if_pos none_changes, State.modTile_out, State.modTile_tile, if_true, hc.out, hc.tile, true_and]
      refine ⟨fun hne ⟨b, hb, hb6⟩ => ?_, fun _ => ⟨hn, toNat_commonsMask v⟩⟩
      exact absurd hb6 (none_changes.resolve_left hne b hb)
    · simp only [if_neg none_changes, State.acceptDeed_out, hc.out, true_and]
      have pend {b : Nat} := State.acceptDeed_pend u tile (.commons (BitVec.ofNat 6 (v.toNat &&& 0x3E))) (b := b)
      simp only [hc.tile, Tile.opBanks, List.mem_filter, List.mem_range, beq_iff_eq] at pend
      simp only [State.acceptDeed_owner, State.acceptDeed_commons, State.acceptDeed_deedOp, hc.tile, true_and]
      exact ⟨fun _ _ b hb => by rw [pend hb]; simp [hb], fun hf => absurd hf none_changes⟩
  case retire =>
    intro s w tile v h hw hn hu
    refine ⟨_, exec_retireBank.trans (State.tileReg_orWait_some h (State.retireOp_taken hw hn hu)), ?_⟩
    have opens {b : Nat} (hb : b < 16) := (s.tile tile).bit_openBanks_newlyRetired v hb
    have none_open := (s.tile tile).openBanks_newlyRetired_eq_zero v
    by_cases hz : (s.tile tile).openBanks ((s.tile tile).newlyRetired v) = 0
    · simp only [if_pos hz, State.modTile_out, State.modTile_tile, if_true, true_and]
      refine ⟨fun b hb => Tile.bit_retired_newlyRetired _ v hb, fun b hb => ?_, iff_of_true hn (none_open.1 hz)⟩
      rw [← opens hb, (eq_zero_iff_bit _).1 hz b hb, Bool.or_false]
    · simp only [if_neg hz, State.acceptDeed_out, State.modTile_out, true_and]
      have pend {b : Nat} := State.acceptDeed_pend (s.modTile tile (fun T => { T with retired := T.retired ||| (s.tile tile).newlyRetired v }))
        tile (.retire ((s.tile tile).openBanks ((s.tile tile).newlyRetired v))) (b := b)
      simp only [State.modTile_tile, if_true, Tile.opBanks, mem_bitsOf] at pend
      simp only [State.acceptDeed_owner, State.acceptDeed_retired, State.acceptDeed_deedOp, State.modTile_tile, if_true, true_and]
      refine ⟨fun b hb => Tile.bit_retired_newlyRetired _ v hb, fun b hb => ?_, iff_of_false nofun (mt none_open.2 hz)⟩
      rw [Bool.eq_iff_iff, pend hb, opens hb, or_comm, ← Bool.or_eq_true]
  case waits =>
    intro s w tile b v h hw hb hm hp
    exact (exec_deedWrite hb).trans (State.tileReg_orWait_none h (State.deedWriteOp_waits hw hm hp))
  case refused =>
    intro s w tile b v hb
    exact ⟨fun h hd => (exec_deedWrite hb).trans (State.tileReg_orWait_some h (State.deedWriteOp_refused b hd)),
      fun h hd => exec_commonsWrite.trans (State.tileReg_orWait_some h (State.commonsWriteOp_refused hd))⟩

end Sys2Proof.Machine
end

section
/-!
Rotations: what the acceptance of one leaves in its tile and its slice, and how a slice asks its tiles for theirs
(spec/02_banks_deeds.md R60 to R66).
-/

namespace Sys2Proof.Machine

open Host

variable {s : State} {w : Src} {tile d : Nat} {v : Word}

/-! ## Registers of a slice -/

/-- `S'` is `S` but for its capture unit and its tiles. -/
def Slice.RegsFrom (S' S : Slice) : Prop := ∃ c ts, S' = { S with cap := c, tiles := ts }

theorem Slice.regsFrom_refl (S : Slice) : S.RegsFrom S := ⟨S.cap, S.tiles, rfl⟩

theorem Slice.RegsFrom.rotLeft {S' S : Slice} (h : S'.RegsFrom S) : S'.rotLeft = S.rotLeft := by
  obtain ⟨_, _, rfl⟩ := h
  rfl

theorem State.capture_regsFrom (s : State) (d h type addr tile : Nat) (data : BitVec 64) (src : Nat) (st : Status) (refused : Bool)
    (payload : List RowData) (e : Nat) : ((s.capture d h type addr tile data src st refused payload).slice e).RegsFrom (s.slice e) := by
  obtain ⟨c, hc⟩ := State.capture_slice s d h type addr tile data src st refused payload e
  exact ⟨c, (s.slice e).tiles, hc⟩

theorem State.modTile_regsFrom {u : State} {S : Slice} (f : Tile → Tile) (h : (u.slice d).RegsFrom S) :
    ((u.modTile tile f).slice d).RegsFrom S := by
  obtain ⟨c, ts, h⟩ := h
  simp only [State.modTile, State.setTile, State.modSlice_slice]
  split
  · subst d; rw [h]; exact ⟨_, _, rfl⟩
  · exact ⟨c, ts, h⟩

/-! ## A tile's rotation -/

theorem Tile.rotateCause_lt (T : Tile) : T.rotateCause < 4 := by
  unfold Tile.rotateCause
  dsimp only
  split_ifs <;> decide

theorem Tile.rotateCause_clearErr (T : Tile) : ({ T with rotErr := false, rotCause := 0#2 } : Tile).rotateCause = T.rotateCause := rfl

theorem Tile.deedOp_of_rotateWaits {T : Tile} (h : T.rotateWaits = false) : T.deedOp = none := by
  simp only [Tile.rotateWaits, Bool.or_eq_false_iff] at h
  simpa using h.1

theorem exec_rotateGo : exec (.rotateGo w tile v) s = s.tileReg w tile 0x090 v (RegRes.orWait (s.rotateGoOp w tile v)) := rfl

theorem State.rotateGoOp_taken (hw : s.mayWrite .slgm w tile = true) (hv : bit v 0 = true) (hr : (s.tile tile).rotateWaits = false) :
    s.rotateGoOp w tile v = some (s.rotateAccept tile (captureSrc w tile) v false, .ok) := by
  simp [State.rotateGoOp, hw, hv, hr, Tile.deedOp_of_rotateWaits hr]

section
variable (s : State) (tile src : Nat) (v : Word) (bySlice : Bool)

@[simp] theorem State.rotateAccept_out : (s.rotateAccept tile src v bySlice).out = s.out := by
  unfold State.rotateAccept
  dsimp only
  split <;> simp

/-- The acceptance of a rotation changes no register of a slice but those of its capture unit. -/
theorem State.rotateAccept_regsFrom (d : Nat) : ((s.rotateAccept tile src v bySlice).slice d).RegsFrom (s.slice d) := by
  unfold State.rotateAccept
  dsimp only
  split
  · exact State.modTile_regsFrom _ (State.modTile_regsFrom _ (State.capture_regsFrom ..))
  · exact State.modTile_regsFrom _ (State.modTile_regsFrom _ (State.modTile_regsFrom _ (State.capture_regsFrom ..)))

/-- A rotation that R60 refuses. -/
theorem State.rotateAccept_tile_refused (h : (s.tile tile).rotateCause ≠ 0) :
    (s.rotateAccept tile src v bySlice).tile tile =
      { s.tile tile with rotErr := true, rotCause := BitVec.ofNat 2 (s.tile tile).rotateCause, rotBusy := false } := by
  simp [State.rotateAccept, h, Tile.rotateCause_clearErr]

/-- A rotation that begins. -/
theorem State.rotateAccept_tile_begun (h : (s.tile tile).rotateCause = 0) :
    ∃ l, (s.rotateAccept tile src v bySlice).tile tile =
      { s.tile tile with
        rotErr := false, rotCause := 0, rotBusy := true, deedStop := false, deedLapse := l,
        deedOp := some (.rotate (s.tile tile).rotA (s.tile tile).rotB bySlice),
        pend := (bitsOf ((s.tile tile).rotA ||| (s.tile tile).rotB)).foldl (fun p b => setBit p b true) (s.tile tile).pend } := by
  simp [State.rotateAccept, h, State.acceptDeed_tile, Tile.opBanks]

end

/-! ## A slice's rotation -/

theorem exec_sliceRotateGo : exec (.sliceRotateGo w d v) s = s.sliceReg w d 0x0200 v (RegRes.now (s.sliceRotateOp w d v)) := rfl

/-- The registers of SLC_ROTATE as a rotation of the tiles of TILEMASK begins. -/
def Slice.beginRotation (S : Slice) : Slice :=
  { S with rotBusy := true, rotDone := false, rotErr := false, rotLeft := S.rotMask, rotRefused := false, rotLapse := S.lpActive }

/-- The tiles of a slice that a list names are asked for their rotations. -/
def State.askTiles (s : State) (d : Nat) (l : List Nat) : State :=
  l.foldl (fun s i => s.modTile (256 * d + i) (fun T => { T with rotWait := true })) s

@[simp] theorem State.askTiles_out (s : State) (d : Nat) (l : List Nat) : (s.askTiles d l).out = s.out := by
  unfold State.askTiles
  induction l generalizing s with
  | nil => rfl
  | cons i l ih => rw [List.foldl_cons, ih, State.modTile_out]

theorem State.askTiles_regsFrom {S : Slice} (l : List Nat) (h : (s.slice d).RegsFrom S) : ((s.askTiles d l).slice d).RegsFrom S := by
  unfold State.askTiles
  induction l generalizing s with
  | nil => exact h
  | cons i l ih => exact ih (State.modTile_regsFrom _ h)

/-- A tile that has been asked stays asked. -/
theorem State.askTiles_keeps (l : List Nat) {g : Nat} (h : (s.tile g).rotWait = true) : ((s.askTiles d l).tile g).rotWait = true := by
  unfold State.askTiles
  induction l generalizing s with
  | nil => exact h
  | cons i l ih => exact ih (by rw [State.modTile_tile]; split <;> simp [h])

theorem State.askTiles_rotWait (s : State) (d : Nat) {l : List Nat} {i : Nat} (hi : i ∈ l) :
    ((s.askTiles d l).tile (256 * d + i)).rotWait = true := by
  induction l generalizing s with
  | nil => nomatch hi
  | cons j l ih =>
    change (((s.modTile (256 * d + j) (fun T => { T with rotWait := true })).askTiles d l).tile (256 * d + i)).rotWait = true
    rcases List.mem_cons.1 hi with rfl | hi
    · exact State.askTiles_keeps l (by simp)
    · exact ih _ hi

theorem State.sliceRotateOp_refused (hm : s.isManager w = false) : s.sliceRotateOp w d v = (s, .deed) := by
  simp [State.sliceRotateOp, hm]

theorem State.sliceRotateOp_busy (hm : s.isManager w = true) (hb : (s.slice d).rotBusy = true) : s.sliceRotateOp w d v = (s, .ok) := by
  simp [State.sliceRotateOp, hm, hb]

section
variable (hm : s.isManager w = true) (hv : bit v 0 = true) (hb : (s.slice d).rotBusy = false)
include hm hv hb

theorem State.sliceRotateOp_empty (h0 : (s.slice d).rotMask = 0) :
    s.sliceRotateOp w d v = (s.modSlice d (fun S => { S with rotDone := true, rotErr := false }), .ok) := by
  simp [State.sliceRotateOp, hm, hv, hb, h0]

theorem State.sliceRotateOp_asks (h0 : (s.slice d).rotMask ≠ 0) :
    s.sliceRotateOp w d v = ((s.modSlice d (fun S => S.beginRotation)).askTiles d (bitsOf (s.slice d).rotMask), .ok) := by
  have h0' : ¬ (s.slice d).rotMask = 0#256 := h0
  simp [State.sliceRotateOp, hm, hv, hb, h0', State.askTiles, Slice.beginRotation]

end

/-- The tile takes up the request of its slice. -/
def State.takeRequest (s : State) (tile : Nat) : State := s.modTile tile (fun T => { T with rotWait := false })

theorem State.takeRequest_tile (s : State) (tile : Nat) : (s.takeRequest tile).tile tile = { s.tile tile with rotWait := false } := by
  simp [State.takeRequest]

theorem State.takeRequest_rotateCause (s : State) (tile : Nat) :
    ((s.takeRequest tile).tile tile).rotateCause = (s.tile tile).rotateCause := by
  rw [State.takeRequest_tile]
  rfl

theorem State.takeRequest_regsFrom (s : State) (tile d : Nat) : ((s.takeRequest tile).slice d).RegsFrom (s.slice d) :=
  State.modTile_regsFrom _ (Slice.regsFrom_refl _)

/-- The tile accepts the request of its slice, and one that it refuses it has answered. -/
theorem State.tileRotateOp_taken (h : (s.tile tile).rotWait = true) (hr : (s.tile tile).rotateWaits = false)
    (hg : (s.tile tile).reassign = none) :
    s.tileRotateOp tile =
      if (s.tile tile).rotateCause = 0 then (s.takeRequest tile).rotateAccept tile 0 1 true
      else ((s.takeRequest tile).rotateAccept tile 0 1 true).modSlice (tileDie tile) (fun S => S.rotateAnswered (tile % 256) true) := by
  simp [State.tileRotateOp, State.takeRequest, h, hr, hg]

/-- The answer of a tile to its slice changes no tile. -/
theorem State.rotateAnswered_tile (s : State) (d i : Nat) (refused : Bool) (g : Nat) :
    (s.modSlice d (fun S => S.rotateAnswered i refused)).tile g = s.tile g := by
  unfold State.tile
  rw [State.modSlice_slice]
  split
  · subst d; rfl
  · rfl

/-- Every tile of the mask has answered. -/
theorem State.sliceRotateDoneOp_answered (hb : (s.slice d).rotBusy = true) (h0 : (s.slice d).rotLeft = 0) :
    s.sliceRotateDoneOp d = s.modSlice d (fun S => { S with rotBusy := false, rotDone := true, rotErr := S.rotRefused }) := by
  simp [State.sliceRotateDoneOp, hb, h0]

/-- A TILEMASK word written while SLC_ROTATE is busy keeps its value (R66). -/
theorem State.tileMaskOp_busy (k : Nat) (hm : s.isManager w = true) (hb : (s.slice d).rotBusy = true) :
    s.tileMaskOp w d k v = (s.modSlice d id, .ok) := by
  simp [State.tileMaskOp, State.sliceM, hm, State.modSlice, hb]

theorem State.tileMaskOp_refused (k : Nat) (hm : s.isManager w = false) : s.tileMaskOp w d k v = (s, .deed) := by
  simp [State.tileMaskOp, State.sliceM, hm]

end Sys2Proof.Machine
end

section
/-!
REGISTER_WRITE of a slice register whose turn it is at the register bus (spec/13_registers.md R387; spec/04_fabric_arbitration.md R109, R111).
-/

namespace Sys2Proof.Machine

open Host

variable {s t : State} {w : Src} {d off : Nat} {v : Word} {st : Status}

/-! ## The address of a slice register -/

section
variable (hd : d < 8) (ho : off < 2 ^ 16)
include hd ho

theorem toNat_sliceRegAddr : (BitVec.ofNat 48 (sliceRegAddr d off)).toNat = sliceRegAddr d off := by
  rw [BitVec.toNat_ofNat, sliceRegAddr]
  omega

theorem space_sliceRegAddr : space (BitVec.ofNat 48 (sliceRegAddr d off)) = 3 := by
  rw [space, bits, toNat_sliceRegAddr hd ho, sliceRegAddr, Nat.shiftRight_eq_div_pow]
  omega

theorem addrDie_sliceRegAddr : addrDie (BitVec.ofNat 48 (sliceRegAddr d off)) = d := by
  rw [addrDie, bits, toNat_sliceRegAddr hd ho, sliceRegAddr, Nat.shiftRight_eq_div_pow]
  omega

theorem sliceRegOff_sliceRegAddr : sliceRegOff (BitVec.ofNat 48 (sliceRegAddr d off)) = off := by
  rw [sliceRegOff, bits, toNat_sliceRegAddr hd ho, sliceRegAddr, Nat.shiftRight_eq_div_pow]
  omega

theorem addrBitsZero_sliceRegAddr : addrBitsZero (BitVec.ofNat 48 (sliceRegAddr d off)) = true := by
  unfold addrBitsZero
  rw [space_sliceRegAddr hd ho]
  simp only [bits, toNat_sliceRegAddr hd ho, Nat.shiftRight_eq_div_pow, Bool.and_eq_true, beq_iff_eq]
  unfold sliceRegAddr
  omega

/-- The fabric takes the address of a slice register to the slice. -/
theorem State.regPlace_sliceRegAddr (h : s.hasDie d = true) : s.regPlace (BitVec.ofNat 48 (sliceRegAddr d off)) = some d := by
  simp [State.regPlace, addrBitsZero_sliceRegAddr hd ho, space_sliceRegAddr hd ho, addrDie_sliceRegAddr hd ho, h]

end

/-! ## The write -/

/-- The packet whose turn it is carries that write: its address, a write, of four bytes, of that value. -/
theorem State.turn_carries {a : Nat} {p : Packet} (h : s.turn w d a v = some p) :
    p.addr = BitVec.ofNat 48 a ∧ p.write = true ∧ p.size = 4 ∧ (p.data.headD 0).truncate 32 = v := by
  obtain ⟨hb, hp⟩ := State.turn_some h
  obtain ⟨-, hc⟩ := Option.filter_eq_some_iff.1 hb
  simp only [State.carries, Bool.and_eq_true, beq_iff_eq] at hc hp
  exact ⟨hc.1.2, hp.1.1, hp.1.2, hp.2⟩

/-- A mapped register of a slice block that is READY takes a write that comes over the register bus, and answers it. -/
theorem State.atSliceBlock_write (h : s.sliceTakes w d off v) (hm : sliceMapped d off = true)
    (hw : s.sliceWrite w d off v = some (t, some st)) (id : Nat) :
    s.atSliceBlock d { src := w, off := off, value := v, pkt := some id } = t.answerAt d id st [] := by
  simp [State.atSliceBlock, h.ready, hm, State.acceptSliceAcc, h.busy, State.sliceAcc, hw, State.answerAcc]

/-- REGISTER_WRITE of a mapped slice register whose block takes it: performed and answered. -/
theorem exec_registerWrite_slice (hd : d < 8) (ho : off < 2 ^ 16) (hdie : s.hasDie d = true) (h : s.sliceTakes w d off v)
    (hm : sliceMapped d off = true) (hw : s.sliceWrite w d off v = some (t, some st)) :
    exec (.registerWrite w (BitVec.ofNat 48 (sliceRegAddr d off)) v) s = .next (s.sliceAnswered t w d off v st) := by
  obtain ⟨p, hp⟩ := Option.isSome_iff_exists.1 h.path
  obtain ⟨haddr, hwrite, hsize, hdata⟩ := State.turn_carries hp
  have value : ((p.data.headD 0).truncate 64).truncate 32 = v := by
    rw [← hdata]; exact BitVec.setWidth_setWidth_of_le _ (by decide)
  have one : s.regOne w p.addr p.write (((p.data.headD 0).truncate 64).truncate 32) 0 (some p.id) = t.answerAt d p.id st [] := by
    rw [value, haddr, hwrite, State.regOne, if_neg (by rw [space_sliceRegAddr hd ho]; decide), addrDie_sliceRegAddr hd ho,
      sliceRegOff_sliceRegAddr hd ho]
    exact State.atSliceBlock_write h hm hw p.id
  have perform : s.busPerform w p = t.answerAt d p.id st [] := by
    rw [State.busPerform, if_neg (by rw [hsize]; decide), one, State.answerAt_handed]
  change s.fromSrc w (.next (s.busAccess w (BitVec.ofNat 48 (sliceRegAddr d off)) 4 true (v.zeroExtend 64))) = _
  unfold State.busAccess
  rw [State.fromSrc_arrives h.source, if_neg (by simp [space_sliceRegAddr hd ho]), State.regPlace_sliceRegAddr hd ho hdie]
  simp [(State.turn_some hp).1, State.live_of_ready h.ready, perform, State.sliceAnswered, hp]

/-! ## TILEMASK words (spec/02_banks_deeds.md R66) -/

theorem sliceMapped_tileMask (d : Nat) {k : Nat} (hk : k < 8) : sliceMapped d (0x0204 + 4 * k) = true := by
  have : within (0x0204 + 4 * k) 0x0200 0x0220 = true := by simp [within]; omega
  simp [sliceMapped, this]

theorem State.sliceWrite_tileMask (s : State) (w : Src) (d : Nat) {k : Nat} (hk : k < 8) (v : Word) :
    s.sliceWrite w d (0x0204 + 4 * k) v = RegRes.now (s.tileMaskOp w d k v) := by
  interval_cases k <;> rfl

end Sys2Proof.Machine
end

section
/-!
Rotations: requests, refusals and SLC_ROTATE (spec/02_banks_deeds.md R60 to R66).
-/

namespace Sys2Proof.Machine

/-- Settles O18: a tile's rotation is begun or refused by its CAUSE, for its own register as for the slice's request; the slice asks the
tiles of its mask, and while it is busy its registers keep their values. -/
theorem rotationsBegin : Obligations.RotationsBegin := by
  unfold Obligations.RotationsBegin
  refine ⟨?go, ?ask, ?request, ?done, ?kept⟩
  case go =>
    intro s w tile v h hw hv hr
    refine ⟨_, exec_rotateGo.trans (State.tileReg_orWait_some h (State.rotateGoOp_taken hw hv hr)), State.rotateAccept_out .., ?_⟩
    by_cases hc : (s.tile tile).rotateCause = 0
    · obtain ⟨l, ht⟩ := State.rotateAccept_tile_begun s tile (captureSrc w tile) v false hc
      simp only [if_pos hc, ht, true_and]
      intro b hb
      rw [bit_foldl_setBit _ _ hb, mem_bitsOf, bit_or, Bool.or_eq_true, or_assoc]
    · have ht := State.rotateAccept_tile_refused s tile (captureSrc w tile) v false hc
      simp only [if_neg hc, ht, Tile.deedOp_of_rotateWaits hr, true_and, and_true]
      exact Nat.mod_eq_of_lt (Tile.rotateCause_lt _)
  case ask =>
    intro s w d v h hm hv hb
    by_cases h0 : (s.slice d).rotMask = 0
    · refine ⟨_, exec_sliceRotateGo.trans (State.sliceReg_now_of_eq h (State.sliceRotateOp_empty hm hv hb h0)), ?_⟩
      simp [h0, hb]
    · refine ⟨_, exec_sliceRotateGo.trans (State.sliceReg_now_of_eq h (State.sliceRotateOp_asks hm hv hb h0)), by simp, ?_⟩
      obtain ⟨c, ts, hS⟩ := State.askTiles_regsFrom (d := d) (bitsOf (s.slice d).rotMask) (Slice.regsFrom_refl
        ((s.modSlice d (fun S => S.beginRotation)).slice d))
      rw [State.modSlice_slice, if_pos rfl] at hS
      rw [if_neg h0, hS]
      exact ⟨rfl, rfl, rfl, rfl, fun i _ hi => State.askTiles_rotWait _ d (mem_bitsOf.2 hi)⟩
  case request =>
    intro s tile hp hl h hr hg
    refine ⟨_, (State.atTile_next hp hl).trans (by rw [State.tileRotateOp_taken h hr hg]), ?_⟩
    have cause := State.takeRequest_rotateCause s tile
    by_cases hc : (s.tile tile).rotateCause = 0
    · obtain ⟨l, ht⟩ := State.rotateAccept_tile_begun (s.takeRequest tile) tile 0 1 true (cause.trans hc)
      rw [State.takeRequest_tile] at ht
      simp only [if_pos hc, ht, true_and]
      exact (State.rotateAccept_regsFrom ..).rotLeft.trans (State.takeRequest_regsFrom ..).rotLeft
    · have ht := State.rotateAccept_tile_refused (s.takeRequest tile) tile 0 1 true (mt cause.symm.trans hc)
      rw [State.takeRequest_tile] at ht
      rw [if_neg hc, if_neg hc, State.rotateAnswered_tile, ht, State.modSlice_slice, if_pos rfl]
      exact ⟨rfl, rfl, Tile.deedOp_of_rotateWaits hr, bit_setBit_false _ _, Bool.or_true _⟩
  case done =>
    intro s d hd hl hb h0
    exact (State.atDie_next hd hl).trans (by rw [State.sliceRotateDoneOp_answered hb h0])
  case kept =>
    intro s w d k v hd hk
    refine ⟨fun h hm => ?_, fun h hm hb => ?_, fun hdie h => ⟨fun hm => ?_, fun hm hb => ?_⟩⟩
    · exact exec_sliceRotateGo.trans (State.sliceReg_now_of_eq h (State.sliceRotateOp_refused hm))
    · exact exec_sliceRotateGo.trans (State.sliceReg_now_of_eq h (State.sliceRotateOp_busy hm hb))
    · refine exec_registerWrite_slice hd (by omega) hdie h (sliceMapped_tileMask d hk) ?_
      rw [State.sliceWrite_tileMask s w d hk, State.tileMaskOp_refused k hm]; rfl
    · refine exec_registerWrite_slice hd (by omega) hdie h (sliceMapped_tileMask d hk) ?_
      rw [State.sliceWrite_tileMask s w d hk, State.tileMaskOp_busy k hm hb]; rfl

end Sys2Proof.Machine
end

section
/-!
A core's reset and the slices that a package does not hold (spec/04_fabric_arbitration.md R149).
-/

namespace Sys2Proof.Machine

variable {s : State}

/-- A change of every slice of the package reaches no slice beyond them. -/
theorem State.modSlices_slice_absent (f : Slice → Slice) {d : Nat} (hd : s.dies ≤ d) : (s.modSlices f).slice d = s.slice d := by
  unfold State.modSlices
  suffices kept : ∀ (l : List Nat) (t : State), (∀ e, e ∈ l → e ≠ d) → (l.foldl (fun u e => u.modSlice e f) t).slice d = t.slice d from
    kept _ s fun e he => by have := List.mem_range.1 he; omega
  intro l t hl
  induction l generalizing t with
  | nil => rfl
  | cons e l ih =>
    obtain ⟨he, hl⟩ := List.forall_mem_cons.1 hl
    rw [List.foldl_cons, ih _ hl, State.modSlice_slice, if_neg he]

/-- Packets that set out change no slice. -/
theorem State.foldl_launch_slice {α : Type} (p : State → α → Packet) (l : List α) (t : State) (d : Nat) :
    (l.foldl (fun u a => u.launch (p u a)) t).slice d = t.slice d := by
  induction l generalizing t with
  | nil => rfl
  | cons a l ih => rw [List.foldl_cons, ih]; rfl

/-- A core's reset changes no slice that the package does not hold. -/
theorem State.coreResetOp_slice_absent {core d : Nat} (hc : tileDie core < s.dies) (hd : s.dies ≤ d) :
    (s.coreResetOp core).slice d = s.slice d := by
  unfold State.coreResetOp
  rw [State.foldl_launch_slice, State.modSlice_slice, if_neg (by omega)]
  exact State.modSlices_slice_absent _ hd

end Sys2Proof.Machine
end

section
/-!
Bank locks and core resets (spec/04_fabric_arbitration.md R143 to R149).
-/

namespace Sys2Proof.Machine

open Host

/-- A package of two dies with slice 0 past step 2 of its start-up, and the notice of core 0 in a slice 9, which it does not hold. -/
def strayNotice : State := { pkg := .yx2, slices := [(0, { power := true, step := 2 }), (9, { noticeIn := [0] })] }

/-- Refutes O29: its claim that after a core's reset the notice stands in no slice but the core's own ranges over every slice number, and a
reset takes old notices back from the slices of the package only; in `strayNotice` the notice in slice 9 outlives the reset of core 0. -/
theorem not_locksAndCoreResets : ¬ Obligations.LocksAndCoreResets := by
  unfold Obligations.LocksAndCoreResets
  rintro ⟨-, -, -, reset, -, -⟩
  have present : strayNotice.hasTile 0 = true := by decide
  have live : strayNotice.live (tileDie 0) = true := by decide
  obtain ⟨t, ht, -, -, -, elsewhere⟩ := reset strayNotice 0 present live
  have ht : strayNotice.coreResetOp 0 = t := Outcome.next.inj ((State.atTile_next present live).symm.trans ht)
  have kept : (t.slice 9).noticeIn = [0] := by
    rw [← ht, State.coreResetOp_slice_absent (by decide) (by decide)]; rfl
  exact elsewhere 9 (by decide) (kept ▸ List.mem_singleton_self 0)

end Sys2Proof.Machine
end

section
/-!
External memory ports: what stands in the network and at a port after each operation of a port, and the outcome of each event of one
(spec/07_external_bridges.md R234 to R241).
-/

namespace Sys2Proof.Machine

open Host

variable {s : State} {d port id : Nat} {k : Packet} {w : ExtWork}

/-! ## Packets of the network -/

theorem State.pkt_id (h : s.pkt id = some k) : k.id = id := by
  simpa using List.find?_some h

theorem State.pkt_isSome_of_mem (h : k ∈ s.net) : (s.pkt k.id).isSome = true :=
  List.find?_isSome.2 ⟨k, h, beq_self_eq_true k.id⟩

theorem State.pkt_of_net_eq {t : State} (h : t.net = s.net) (j : Nat) : t.pkt j = s.pkt j := by
  rw [State.pkt, h, State.pkt]

/-- A change of the packets of one identity that keeps the identity. -/
theorem State.modPkt_pkt (s : State) (id : Nat) {f : Packet → Packet} (hf : ∀ p, (f p).id = p.id) (j : Nat) :
    (s.modPkt id f).pkt j = (s.pkt j).map (fun p => if p.id == id then f p else p) := by
  have same : ((fun p : Packet => p.id == j) ∘ fun p => if p.id == id then f p else p) = fun p => p.id == j := by
    funext p
    simp only [Function.comp_apply]
    split <;> simp [hf]
  simp only [State.modPkt, State.pkt, updWhere, List.find?_map, same]

theorem State.modPkt_pkt_self (h : s.pkt id = some k) {f : Packet → Packet} (hf : ∀ p, (f p).id = p.id) :
    (s.modPkt id f).pkt id = some (f k) := by
  rw [State.modPkt_pkt s id hf, h, Option.map_some, if_pos (beq_iff_eq.2 (State.pkt_id h))]

@[simp] theorem State.takeId_pkt (s : State) (j : Nat) : s.takeId.pkt j = s.pkt j := rfl
@[simp] theorem State.modExt_pkt (s : State) (d p : Nat) (f : ExtPort → ExtPort) (j : Nat) : (s.modExt d p f).pkt j = s.pkt j := rfl
@[simp] theorem State.extCrc_pkt (s : State) (d p kind sup addr j : Nat) : (s.extCrc d p kind sup addr).pkt j = s.pkt j := rfl
@[simp] theorem State.toController_pkt (s : State) (d p : Nat) (k : Packet) (w : ExtWork) (j : Nat) : (s.toController d p k w).pkt j = s.pkt j := rfl

/-- What an answer leaves in the network: its status and its data in the request answered. -/
theorem State.answerAt_pkt (s : State) (d id : Nat) (st : Status) (data : List RowData) (j : Nat) :
    ((s.answerAt d id st data).pkt j).map (fun q => (q.resp, q.data)) =
      (s.pkt j).map (fun q => if q.id == id then (some st, data) else (q.resp, q.data)) := by
  unfold State.answerAt State.move
  rw [State.takeId_pkt, State.modPkt_pkt, State.modPkt_pkt]
  · cases s.pkt j with
    | none => rfl
    | some q => by_cases hq : q.id = id <;> simp [hq]
  all_goals exact fun _ => rfl

theorem State.answerAt_pkt_self (h : (s.pkt id).isSome = true) (d : Nat) (st : Status) (data : List RowData) :
    ((s.answerAt d id st data).pkt id).map (fun q => (q.resp, q.data)) = some (some st, data) := by
  obtain ⟨q, hq⟩ := Option.isSome_iff_exists.1 h
  simp [State.answerAt_pkt, hq, State.pkt_id hq]

theorem State.answerAt_resp (s : State) (d id : Nat) (st : Status) (data : List RowData) (j : Nat) :
    ((s.answerAt d id st data).pkt j).map (·.resp) = (s.pkt j).map (fun q => if j = id then some st else q.resp) := by
  have h := congrArg (Option.map Prod.fst) (s.answerAt_pkt d id st data j)
  rw [Option.map_map, Option.map_map] at h
  refine h.trans (Option.map_congr fun q hq => ?_)
  simp only [Function.comp_apply, State.pkt_id hq, beq_iff_eq]
  split <;> rfl

/-! ## Fields of a port -/

section
variable (s : State) (d p : Nat)

@[simp] theorem State.modExt_net (f : ExtPort → ExtPort) : (s.modExt d p f).net = s.net := rfl

@[simp] theorem State.modExt_extPort (f : ExtPort → ExtPort) : ((s.modExt d p f).slice d).extPort p = f ((s.slice d).extPort p) := by
  simp [State.modExt, Slice.extPort, Tbl.get_set]

@[simp] theorem State.modExt_irqs (f : ExtPort → ExtPort) (e : Nat) : ((s.modExt d p f).slice e).irqs = (s.slice e).irqs := by
  rw [State.modExt, State.modSlice_slice]
  split
  · subst e; rfl
  · rfl

@[simp] theorem State.modExt_buckets (f : ExtPort → ExtPort) (e : Nat) : ((s.modExt d p f).slice e).buckets = (s.slice e).buckets := by
  rw [State.modExt, State.modSlice_slice]
  split
  · subst e; rfl
  · rfl

@[simp] theorem Slice.setBucket_bucket (S : Slice) (h : Nat) (b : Bucket) : (S.setBucket p h b).bucket p h = b := by
  simp [Slice.setBucket, Slice.bucket, Tbl.get_set]

/-! ## Records and causes at a port -/

@[simp] theorem State.record_ext (type tile : Nat) (det : BitVec 352) (e : Nat) : ((s.record d type tile det).slice e).ext = (s.slice e).ext := by
  rw [State.record_slice]
  split
  · subst e; exact Slice.holdRecord_ext ..
  · rfl

@[simp] theorem State.record_irqs (type tile : Nat) (det : BitVec 352) (e : Nat) : ((s.record d type tile det).slice e).irqs = (s.slice e).irqs := by
  rw [State.record_slice]
  split
  · subst e; exact Slice.holdRecord_irqs ..
  · rfl

@[simp] theorem State.raise_ext (h v e : Nat) : ((s.raise d h v).slice e).ext = (s.slice e).ext := by
  rw [State.raise_slice]
  split
  · subst e; exact Slice.raise_ext ..
  · rfl

/-- A cause that has been raised stands. -/
theorem State.raise_cause (h : Nat) {v : Nat} (hv : v < 8) : bit (((s.raise d h v).slice d).irq h).cause v = true := by
  rw [State.raise_slice, if_pos rfl]
  unfold Slice.raise
  dsimp only
  split
  · assumption
  · simpa [Slice.irq, Tbl.get_set] using (bit_setBit_true _ v hv).2 (.inl rfl)

/-! ## What the port's operations leave -/

variable (k : Packet)

@[simp] theorem State.extCrc_extPort (kind sup addr e q : Nat) :
    ((s.extCrc d p kind sup addr).slice e).extPort q = (s.slice e).extPort q := by
  unfold State.extCrc Slice.extPort; rw [State.record_ext]

@[simp] theorem State.extRefetch_net (addr : Nat) : (s.extRefetch d p addr).net = s.net := by
  unfold State.extRefetch; dsimp only; split <;> rfl

/-- A refetch that succeeded changes no count of failures. -/
@[simp] theorem State.extRefetch_uncorr (addr : Nat) :
    (((s.extRefetch d p addr).slice d).extPort p).uncorr = ((s.slice d).extPort p).uncorr := by
  unfold State.extRefetch
  dsimp only
  split
  · rw [State.modExt_extPort]
    dsimp only
    rw [State.extCrc_extPort]
  · rw [State.modExt_extPort, State.look_slice]

@[simp] theorem State.toController_out (w : ExtWork) :
    (s.toController d p k w).out = s.out ++ [Output.stackRequest d p (stackUnit k.place) 256 w.writing w.urgent w.data] := rfl

@[simp] theorem State.toController_buckets (w : ExtWork) (e : Nat) : ((s.toController d p k w).slice e).buckets = (s.slice e).buckets := by
  rw [State.toController, State.emit_slice, State.modExt_buckets]

/-- A request at the controller changes only the work in hand of its port. -/
theorem State.toController_extPort (w : ExtWork) :
    ∃ l, ((s.toController d p k w).slice d).extPort p = { (s.slice d).extPort p with work := l } := by
  rw [State.toController, State.emit_slice, State.modExt_extPort]
  exact ⟨_, rfl⟩

/-- A request that leaves its port changes only the work in hand there. -/
theorem State.extEnd_extPort (st : Status) (data : List RowData) :
    ∃ l, ((s.extEnd d p k st data).slice d).extPort p = { (s.slice d).extPort p with work := l } := by
  rw [State.extEnd, State.answerAt_slice, State.modExt_extPort]
  exact ⟨_, rfl⟩

@[simp] theorem State.extEnd_irqs (st : Status) (data : List RowData) (e : Nat) : ((s.extEnd d p k st data).slice e).irqs = (s.slice e).irqs := by
  rw [State.extEnd, State.answerAt_slice, State.modExt_irqs]

/-- A request that leaves its port carries its status and its data. -/
theorem State.extEnd_pkt (h : (s.pkt k.id).isSome = true) (st : Status) (data : List RowData) :
    ((s.extEnd d p k st data).pkt k.id).map (fun q => (q.resp, q.data)) = some (some st, data) := by
  unfold State.extEnd; exact State.answerAt_pkt_self (by exact h) ..

theorem State.extEnd_resp (h : (s.pkt k.id).isSome = true) (st : Status) (data : List RowData) :
    ((s.extEnd d p k st data).pkt k.id).map (·.resp) = some (some st) := by
  simpa [Function.comp_def] using congrArg (Option.map Prod.fst) (s.extEnd_pkt d p k h st data)

/-! ## Requests that fail -/

/-- A request that fails leaves with CRC, and every other packet keeps its status. -/
theorem State.extFails_resp (j : Nat) :
    ((s.extFails d p k).pkt j).map (·.resp) = (s.pkt j).map (fun q => if j = k.id then some .crc else q.resp) := by
  unfold State.extFails State.extEnd
  rw [State.answerAt_resp, State.modExt_pkt, State.extCrc_pkt, State.modExt_pkt]

/-- A failure counts, and leaves the port ready or not as it was. -/
theorem State.extFails_extPort :
    ∃ l, ((s.extFails d p k).slice d).extPort p = { (s.slice d).extPort p with crc := satInc ((s.slice d).extPort p).crc, work := l } := by
  obtain ⟨l, h⟩ := State.extEnd_extPort ((s.modExt d p (fun E => { E with crc := satInc E.crc })).extCrc d p 4 0 k.place) d p k .crc []
  rw [State.extCrc_extPort, State.modExt_extPort] at h
  exact ⟨l, h⟩

/-- The requests of a list fail one after another: each of them leaves with CRC. -/
theorem State.foldl_extFails_resp (l : List Packet) (j : Nat) :
    ((l.foldl (fun s k => s.extFails d p k) s).pkt j).map (·.resp) =
      (s.pkt j).map (fun q => if j ∈ l.map (·.id) then some .crc else q.resp) := by
  induction l generalizing s with
  | nil => simp
  | cons k l ih =>
    have pull : ∀ o : Option Packet, o.map (fun q => if j ∈ l.map (·.id) then some Status.crc else q.resp) =
        (o.map (·.resp)).map (fun r => if j ∈ l.map (·.id) then some .crc else r) := fun o => by
      rw [Option.map_map]; rfl
    rw [List.foldl_cons, ih, pull, State.extFails_resp, Option.map_map]
    congr 1
    funext q
    by_cases hj : j = k.id <;> simp [hj]

theorem State.foldl_extFails_ready (l : List Packet) :
    (((l.foldl (fun s k => s.extFails d p k) s).slice d).extPort p).ready = ((s.slice d).extPort p).ready := by
  induction l generalizing s with
  | nil => rfl
  | cons k l ih =>
    obtain ⟨_, h⟩ := s.extFails_extPort d p k
    rw [List.foldl_cons, ih, h]

end

/-! ## A request comes to its port (R235, R237, R238, R240) -/

/-- The port takes up the request whose turn it is. -/
theorem exec_extRequest (hd : s.hasDie d = true) (hl : s.live d = true) (h : s.extHead d port = some k) :
    exec (.extRequest d port k.id) s = .next (s.extRequestOp d port k) := by
  refine (State.atDie_next hd hl).trans ?_
  simp [State.extArrive, h]

theorem State.extRequestOp_notReady (h : ((s.slice d).extPort port).ready = false) :
    s.extRequestOp d port k = s.answerAt d k.id .decerr [] := by
  simp [State.extRequestOp, h]

theorem State.extRequestOp_unitBusy (h : ((s.slice d).extPort port).ready = true) (hb : s.unitBusy d port (stackUnit k.place) = true) :
    s.extRequestOp d port k = s := by
  simp [State.extRequestOp, h, hb]

/-- A write of fewer bytes than a unit, which merges with what its unit holds (R238). -/
def Packet.merges (k : Packet) : Bool := k.write && k.size < 256

/-- A request that pays for its deadline, if its household has a token (R240). -/
def Packet.owesToken (k : Packet) : Bool := k.qos == 7 && !k.demoted && !k.merges

/-- The state after a household has paid, or not, the token of a request. -/
def State.payToken (s : State) (d port : Nat) (k : Packet) (pay : Bool) : State :=
  if pay then s.modSlice d (fun S => S.setBucket port k.iss.hh
    { (s.slice d).bucket port k.iss.hh with tokens := ((s.slice d).bucket port k.iss.hh).tokens - 1 }) else s

section
variable (s : State) (d port : Nat) (k : Packet) (pay : Bool)

@[simp] theorem State.payToken_out : (s.payToken d port k pay).out = s.out := by
  unfold State.payToken; split <;> rfl

@[simp] theorem State.payToken_pkt (j : Nat) : (s.payToken d port k pay).pkt j = s.pkt j := by
  unfold State.payToken; split <;> rfl

theorem State.payToken_bucket :
    ((s.payToken d port k pay).slice d).bucket port k.iss.hh =
      { (s.slice d).bucket port k.iss.hh with
        tokens := if pay then ((s.slice d).bucket port k.iss.hh).tokens - 1 else ((s.slice d).bucket port k.iss.hh).tokens } := by
  unfold State.payToken; split <;> simp

end

/-- What a request is at the port that has taken it: served, and demoted where its household has no token for it. -/
def Packet.takenAt (k : Packet) (s : State) (d : Nat) (pay : Bool) (q : Packet) : Packet :=
  { q with loc := .served, demoted := q.demoted || (k.owesToken && !pay), lapse := if pay && (s.slice d).lpActive then d :: q.lapse else q.lapse }

theorem Packet.takenAt_id (k : Packet) (s : State) (d : Nat) (pay : Bool) (q : Packet) : (k.takenAt s d pay q).id = q.id := rfl

/-- A request is demoted where it owes a token and its household has none. -/
theorem Packet.takenAt_demoted (k : Packet) (s : State) (d tokens : Nat) (q : Packet) :
    ((k.takenAt s d (k.owesToken && 0 < tokens) q).loc, (k.takenAt s d (k.owesToken && 0 < tokens) q).demoted) =
      (.served, q.demoted || k.owesToken && tokens == 0) := by
  have unpaid : (k.owesToken && !(k.owesToken && decide (0 < tokens))) = (k.owesToken && tokens == 0) := by
    cases k.owesToken <;> cases tokens <;> simp
  simp only [Packet.takenAt, unpaid]

/-- A request that the port takes goes to the controller as a read or write of its whole unit. -/
theorem State.extRequestOp_taken (h : ((s.slice d).extPort port).ready = true) (hb : s.unitBusy d port (stackUnit k.place) = false) :
    let pay := k.owesToken && 0 < ((s.slice d).bucket port k.iss.hh).tokens
    s.extRequestOp d port k = ((s.payToken d port k pay).modPkt k.id (k.takenAt s d pay)).toController d port k
      { pkt := k.id, urgent := pay, writing := k.write && !k.merges, data := if k.merges then [] else k.data } := by
  simp only [State.extRequestOp, h, hb]
  rfl

/-! ## The controller answers (R236 to R238) -/

section
variable {crc : Option (BitVec 32)} {u : Bool} {data : List RowData}

/-- The unit of four rows that a transfer brings. -/
def unitOf (data : List RowData) : List RowData := (List.range 4).map (fun i => data.getD i 0)

/-- The state in which a transfer that checks right goes on: a refetch or resend that helped is recorded or counted. -/
def State.extChecked (s : State) (d port : Nat) (k : Packet) (w : ExtWork) : State := if w.again then s.extRefetch d port k.place else s

@[simp] theorem State.extChecked_net : (s.extChecked d port k w).net = s.net := by
  unfold State.extChecked; split <;> simp

@[simp] theorem State.extChecked_pkt (j : Nat) : (s.extChecked d port k w).pkt j = s.pkt j :=
  State.pkt_of_net_eq State.extChecked_net j

@[simp] theorem State.extChecked_uncorr :
    (((s.extChecked d port k w).slice d).extPort port).uncorr = ((s.slice d).extPort port).uncorr := by
  unfold State.extChecked; split <;> simp

/-- The answer of the controller for a request in hand. -/
theorem exec_extResponse (hd : s.hasDie d = true) (hl : s.live d = true) (hk : s.pkt id = some k) (hat : k.atExt d port = true)
    (hw : ((s.slice d).extPort port).work.find? (fun x => x.pkt == id) = some w) :
    exec (.extResponse d port id crc u data) s = .next (s.extResponseOp d port k w crc u data) := by
  refine (State.atDie_next hd hl).trans ?_
  simp [State.extAnswer, hk, hw, hat]

/-- A transfer that fails its check is asked for once more; the second time its request fails. -/
theorem State.extResponseOp_bad (hb : transferBad w crc (unitOf data) = true) :
    s.extResponseOp d port k w crc u data =
      if w.again then s.extFails d port k
      else (s.modExt d port (fun E => { E with refetch := satInc E.refetch })).toController d port k { w with again := true } :=
  if_pos hb

/-- A transfer that checks right ends its request, but for the read of a merge, which its write follows. -/
theorem State.extResponseOp_good (hb : transferBad w crc (unitOf data) = false) :
    s.extResponseOp d port k w crc u data =
      if u then (s.extChecked d port k w).extUncorr d port k
      else if w.writing then (s.extChecked d port k w).extEnd d port k .ok []
      else if k.write then (s.extChecked d port k w).toController d port k
        { w with writing := true, again := false, data := unitMerge k (unitOf data) }
      else (s.extChecked d port k w).extEnd d port k .ok (unitSlice k (unitOf data)) :=
  if_neg (Bool.eq_false_iff.1 hb)

/-- An error that the controller does not correct: the requester has UNCORR, the port counts it, and H0 has its cause. -/
theorem State.extUncorr_outcome (h : (s.pkt k.id).isSome = true) :
    ((s.extUncorr d port k).pkt k.id).map (·.resp) = some (some .uncorr) ∧
      (((s.extUncorr d port k).slice d).extPort port).uncorr = satInc ((s.slice d).extPort port).uncorr ∧
      bit (((s.extUncorr d port k).slice d).irq 0).cause 6 = true := by
  unfold State.extUncorr
  refine ⟨State.extEnd_resp _ d port k (by exact h) .uncorr [], ?_, ?_⟩
  · obtain ⟨_, he⟩ := State.extEnd_extPort (((s.modExt d port (fun E => { E with uncorr := satInc E.uncorr })).raise d 0 6).record d 8 sliceTile
      (detail [(0, port), (1, k.iss.hh), (2, k.iss.tile + k.iss.chan * 2048), (4, k.place)])) d port k .uncorr []
    rw [he]
    simp [Slice.extPort, State.modExt, Tbl.get_set]
  · simp only [Slice.irq, State.extEnd_irqs, State.record_irqs]
    exact State.raise_cause _ d 0 (by decide)

end

/-! ## The controller becomes ready, or leaves the ready state -/

theorem exec_extControllerReadyChange (hd : s.hasDie d = true) (hl : s.live d = true) (hp : port < 3) (r : Bool) :
    exec (.extControllerReadyChange d port r) s = .next (s.extReadyOp d port r) := by
  refine Eq.trans ?_ (State.atDie_next hd hl)
  exact if_pos (decide_eq_true hp)

/-- Every request in hand at a port that leaves the ready state ends with CRC. -/
theorem State.extReadyOp_ends (hk : k ∈ s.net) (hat : k.atExt d port = true) :
    ((s.extReadyOp d port false).pkt k.id).map (·.resp) = some (some .crc) := by
  obtain ⟨q, hq⟩ := Option.isSome_iff_exists.1 (State.pkt_isSome_of_mem hk)
  have listed : k.id ∈ (s.net.filter (fun k => k.atExt d port)).map (·.id) := List.mem_map_of_mem (List.mem_filter.2 ⟨hk, hat⟩)
  refine (State.foldl_extFails_resp _ d port _ k.id).trans ?_
  rw [State.modExt_pkt, hq, Option.map_some, State.modExt_net, if_pos listed]

theorem State.extReadyOp_ready (r : Bool) : (((s.extReadyOp d port r).slice d).extPort port).ready = r := by
  cases r with
  | true => simp [State.extReadyOp]
  | false => exact (State.foldl_extFails_ready _ d port _).trans (by rw [State.modExt_extPort])

end Sys2Proof.Machine
end

section
/-!
The tithes: how a bucket gains tokens, and what a write to SLC_TITHE stores (spec/07_external_bridges.md R239, R241).
-/

namespace Sys2Proof.Machine

open Host

variable {s : State} {d h : Nat} {w : Src} {v : Word}

theorem exec_titheTokenAdd {port : Nat} (hd : s.hasDie d = true) (hl : s.live d = true) (hp : port < 3) (hh : h < 16) (n : Nat) :
    exec (.titheTokenAdd d port h n) s = .next (s.tokenOp d port h n) := by
  refine Eq.trans ?_ (State.atDie_next hd hl)
  exact if_pos (by simp [hp, hh])

/-- The bucket of household `h` at a port after `n` paces (R239). -/
theorem State.tokenOp_bucket (s : State) (d port h n : Nat) :
    let B := (s.slice d).bucket port h
    let a := B.acc + ((s.slice d).titheOf h).rate.toNat * n
    ((s.tokenOp d port h n).slice d).bucket port h = { tokens := min ((s.slice d).titheOf h).burst.toNat (B.tokens + a / 33), acc := a % 33 } := by
  simp [State.tokenOp]

theorem exec_titheWrite (hh : h < 16) :
    exec (.titheWrite w d h v) s = s.sliceReg w d (0x0080 + 4 * h) v (RegRes.now (s.titheOp w d h v)) :=
  if_pos (decide_eq_true hh)

/-- The tithe that a word written to SLC_TITHE asks for. -/
def wordTithe (v : Word) : Tithe := { rate := BitVec.ofNat 7 (bits v 0 7), burst := BitVec.ofNat 6 (min 32 (bits v 8 6)) }

theorem wordTithe_rate (v : Word) : (wordTithe v).rate.toNat = bits v 0 7 := toNat_ofNat_bits v 7

theorem wordTithe_burst (v : Word) : (wordTithe v).burst.toNat = min 32 (bits v 8 6) :=
  Nat.mod_eq_of_lt (by omega)

/-- A field of the tithes summed over the households other than `h`. -/
def Slice.othersSum (S : Slice) (h : Nat) (f : Tithe → Nat) : Nat :=
  (((List.range 16).filter (fun k => k != h)).map (fun k => f (S.titheOf k))).sum

/-- The sum over all households with the tithe of `h` replaced: that of the others and the new one. -/
theorem Slice.sum_replaced (S : Slice) (hh : h < 16) (t : Tithe) (f : Tithe → Nat) :
    ((List.range 16).map (fun k => f (if k = h then t else S.titheOf k))).sum = S.othersSum h f + f t := by
  rw [← List.sum_map_erase _ (List.mem_range.2 hh), List.nodup_range.erase_eq_filter, if_pos rfl, add_comm]
  congr 2
  refine List.map_congr_left fun k hk => ?_
  rw [if_neg (by simpa using (List.mem_filter.1 hk).2)]

/-- The tithe of `h` stored, and the tokens of its buckets brought down to BURST. -/
def Slice.storeTithe (S : Slice) (h : Nat) (t : Tithe) : Slice :=
  (List.range 3).foldl (fun S p => S.setBucket p h { S.bucket p h with tokens := min (S.bucket p h).tokens t.burst.toNat })
    { S with tithe := S.tithe.set h t }

theorem Slice.storeTithe_titheOf (S : Slice) (h : Nat) (t : Tithe) (k : Nat) :
    (S.storeTithe h t).titheOf k = if h = k then t else S.titheOf k :=
  Tbl.get_set ..

/-- Whether the tithes keep within the sums of R241 decides what a write to SLC_TITHE does. -/
theorem State.titheOp_eq (hm : s.isManager w = true) (hh : h < 16) :
    s.titheOp w d h v =
      if 64 < (s.slice d).othersSum h (·.rate.toNat) + bits v 0 7 ∨ 64 < (s.slice d).othersSum h (·.burst.toNat) + min 32 (bits v 8 6)
      then (s, .size) else (s.modSlice d (fun S => S.storeTithe h (wordTithe v)), .ok) := by
  have rate := (s.slice d).sum_replaced hh (wordTithe v) (·.rate.toNat)
  have burst := (s.slice d).sum_replaced hh (wordTithe v) (·.burst.toNat)
  rw [wordTithe_rate] at rate
  rw [wordTithe_burst] at burst
  unfold wordTithe at rate burst
  simp only [State.titheOp, hm, rate, burst, Bool.or_eq_true, decide_eq_true_eq]
  rfl

end Sys2Proof.Machine
end

section
/-!
External memory ports and tithes (spec/07_external_bridges.md R234 to R241).
-/

namespace Sys2Proof.Machine

open Host

/-- Settles O58, event by event, from what the port's operation leaves in each of its cases; the 16 tithes sum to those of the other
households and the new one, and the requests of a port that leaves the ready state fail one after another, each keeping the CRC of those
before it. -/
theorem externalMemory : Obligations.ExternalMemory := by
  unfold Obligations.ExternalMemory
  refine ⟨?request, ?response, ?tokens, ?tithe, ?ready⟩
  case request =>
    intro s d port id k hd hl hk hh
    obtain rfl := State.pkt_id hk
    have run := exec_extRequest hd hl hh
    refine ⟨fun hr => ?_, fun hr hb => ?_, fun hr hb => ?_⟩
    · refine ⟨_, run.trans (by rw [State.extRequestOp_notReady hr]), ?_, by simp⟩
      simp [State.answerAt_resp, hk]
    · exact run.trans (by rw [State.extRequestOp_unitBusy hr hb])
    · refine ⟨_, run.trans (by rw [State.extRequestOp_taken hr hb]), ?_, ?_, ?_⟩
      · rw [State.toController_out]; exact congrArg (· ++ _) (State.payToken_out ..)
      · unfold Slice.bucket; rw [State.toController_buckets]; exact State.payToken_bucket ..
      · rw [State.toController_pkt, State.modPkt_pkt_self ((State.payToken_pkt ..).trans hk) (Packet.takenAt_id k s d _)]
        exact congrArg some (Packet.takenAt_demoted ..)
  case response =>
    intro s d port id crc u data k w hd hl hk hat hw
    obtain rfl := State.pkt_id hk
    have here : ((s.extChecked d port k w).pkt k.id).isSome = true := by simp [hk]
    refine ⟨_, exec_extResponse hd hl hk hat hw, fun hb ha => ?_, fun hb ha => ?_, fun hb hu => ?_, fun hb hu hw => ?_,
      fun hb hu hw hr => ?_, fun hb hu hw hr => ?_⟩
    · rw [State.extResponseOp_bad hb, if_neg (Bool.eq_false_iff.1 ha)]
      obtain ⟨_, he⟩ := State.toController_extPort (s.modExt d port (fun E => { E with refetch := satInc E.refetch })) d port k
        { w with again := true }
      rw [he, State.modExt_extPort]
      exact ⟨rfl, rfl, rfl⟩
    · rw [State.extResponseOp_bad hb, if_pos ha]
      obtain ⟨_, he⟩ := s.extFails_extPort d port k
      rw [he, State.extFails_resp, hk]
      simp
    · rw [State.extResponseOp_good hb, if_pos hu]
      simpa using State.extUncorr_outcome (d := d) (port := port) here
    · rw [State.extResponseOp_good hb, if_neg (Bool.eq_false_iff.1 hu), if_pos hw]
      exact State.extEnd_pkt _ d port k here .ok []
    · rw [State.extResponseOp_good hb, if_neg (Bool.eq_false_iff.1 hu), if_neg (Bool.eq_false_iff.1 hw), if_pos hr]
      have waits : k.resp = none := by
        simp only [Packet.atExt, Bool.and_eq_true, Option.isNone_iff_eq_none] at hat
        exact hat.2
      exact ⟨by simp [hk, waits], by rw [State.toController_out]; exact List.mem_concat_self⟩
    · rw [State.extResponseOp_good hb, if_neg (Bool.eq_false_iff.1 hu), if_neg (Bool.eq_false_iff.1 hw), if_neg (Bool.eq_false_iff.1 hr)]
      exact State.extEnd_pkt _ d port k here .ok _
  case tokens =>
    intro s d port h n hd hl hp hh
    exact ⟨_, exec_titheTokenAdd hd hl hp hh n, State.tokenOp_bucket s d port h n⟩
  case tithe =>
    intro s w d h v ht hm hh
    have write : exec (.titheWrite w d h v) s = _ := exec_titheWrite hh
    refine ⟨fun hr hb => ?_, fun hover => ?_⟩
    · refine ⟨_, write.trans (State.sliceReg_now_of_eq ht ((State.titheOp_eq hm hh).trans (if_neg ?_))), rfl, rfl, ?_, ?_, fun k hk => ?_⟩
      · rw [not_or, not_lt, not_lt]; exact ⟨hr, hb⟩
      all_goals rw [State.modSlice_slice, if_pos rfl, Slice.storeTithe_titheOf]
      · rw [if_pos rfl, wordTithe_rate]
      · rw [if_pos rfl, wordTithe_burst]
      · exact if_neg (Ne.symm hk)
    · exact write.trans (State.sliceReg_now_of_eq ht ((State.titheOp_eq hm hh).trans (if_pos hover)))
  case ready =>
    intro s d port hd hl hp
    exact ⟨⟨_, exec_extControllerReadyChange hd hl hp true, State.extReadyOp_ready true, rfl⟩,
      _, exec_extControllerReadyChange hd hl hp false, State.extReadyOp_ready false, fun _ => State.extReadyOp_ends⟩

end Sys2Proof.Machine
end

section
/-!
Tables after an entry has gone or every value has changed, and the fields of a word of which a command sets one itself.
-/

namespace Sys2Proof.Machine

/-! ## Tables -/

/-- A table cut down by its keys lists what it keeps, and reads as the default elsewhere. -/
theorem Tbl.get_filter_key {α : Type} (d : α) (m : Tbl α) (q : Nat → Bool) (k : Nat) :
    Tbl.get d (m.filter (fun p => q p.1)) k = if q k then Tbl.get d m k else d := by
  induction m with
  | nil => simp [Tbl.get]
  | cons p m ih =>
    obtain ⟨j, a⟩ := p
    by_cases hj : j = k
    · subst hj
      cases hq : q j <;> simp [hq, Tbl.get, ih]
    · cases hq : q j <;> simp [hq, Tbl.get, hj, ih]

theorem Tbl.get_del_self {α : Type} (d : α) (m : Tbl α) (k : Nat) : Tbl.get d (m.del k) k = d :=
  (Tbl.get_filter_key d m (· != k) k).trans (if_neg (by simp))

theorem Tbl.get_cut_within {α : Type} (d : α) (m : Tbl α) {lo hi k : Nat} (hlo : lo ≤ k) (hhi : k < hi) : Tbl.get d (m.cut lo hi) k = d :=
  (Tbl.get_filter_key d m (fun j => j < lo || hi ≤ j) k).trans (if_neg (by simp; omega))

/-- A change of every value that keeps the default. -/
theorem Tbl.get_mapVals {α : Type} {d : α} {f : α → α} (hd : f d = d) (m : Tbl α) (k : Nat) :
    Tbl.get d (m.mapVals f) k = f (Tbl.get d m k) := by
  induction m with
  | nil => exact hd.symm
  | cons p m ih =>
    change (if p.1 = k then f p.2 else Tbl.get d (Tbl.mapVals m f) k) = f (if p.1 = k then p.2 else Tbl.get d m k)
    rw [ih, apply_ite f]

/-- An entry of a table is still there after a write, unless it was the one read at the key written. -/
theorem Tbl.mem_set_of_mem {α : Type} (d : α) {m : Tbl α} {k : Nat} (a : α) {p : Nat × α} (hp : p ∈ m) :
    p ∈ m.set k a ∨ p.1 = k ∧ p.2 = Tbl.get d m k ∧ (k, a) ∈ m.set k a := by
  induction m with
  | nil => nomatch hp
  | cons q m ih =>
    obtain ⟨j, b⟩ := q
    simp only [Tbl.set, Tbl.get]
    split_ifs with hlt heq
    · omega
    · exact .inl (List.mem_cons_of_mem _ hp)
    · rcases List.mem_cons.1 hp with rfl | hp
      · exact .inr ⟨‹_›, rfl, List.mem_cons_self⟩
      · exact .inl (List.mem_cons_of_mem _ hp)
    · rcases List.mem_cons.1 hp with rfl | hp
      · exact .inl List.mem_cons_self
      · exact (ih hp).imp (List.mem_cons_of_mem _) fun ⟨hk, hv, hm⟩ => ⟨hk, hv, List.mem_cons_of_mem _ hm⟩

/-! ## Fields of a word -/

theorem testBit_bits (v : Word) (lo len k : Nat) : (bits v lo len).testBit k = (decide (k < len) && bit v (lo + k)) := by
  rw [bits, Nat.testBit_mod_two_pow, Nat.testBit_shiftRight]; rfl

theorem bit_put (lo x k : Nat) : bit (put lo x) k = (decide (k < 32) && decide (lo ≤ k) && x.testBit (k - lo)) := by
  simp [bit, put, BitVec.getLsbD_ofNat, Nat.testBit_shiftLeft, Bool.and_assoc]

/-- A value of `len` bits placed from bit `lo` reaches no bit outside its field. -/
theorem bit_put_outside {lo len x k : Nat} (hx : x < 2 ^ len) (hk : k < lo ∨ lo + len ≤ k) : bit (put lo x) k = false := by
  rw [bit_put]
  rcases hk with hk | hk
  · simp [hk]
  · rw [Nat.testBit_lt_two_pow (hx.trans_le (Nat.pow_le_pow_right two_pos (by omega))), Bool.and_false]

theorem bit_withField (v : Word) (lo len x k : Nat) :
    bit (withField v lo len x) k = ((bit v k && !bit (put lo (2 ^ len - 1)) k) || bit (put lo x) k) := by
  unfold withField
  rw [bit_or]
  by_cases hk : k < 32
  · simp [bit, hk]
  · simp [bit, BitVec.getLsbD_of_ge _ k (not_lt.1 hk)]

/-- A field that the command sets leaves the fields beside it. -/
theorem bits_withField_beside (v : Word) {lo len x lo' len' : Nat} (hx : x < 2 ^ len) (h : lo' + len' ≤ lo ∨ lo + len ≤ lo') :
    bits (withField v lo len x) lo' len' = bits v lo' len' := by
  refine Nat.eq_of_testBit_eq fun k => ?_
  rw [testBit_bits, testBit_bits]
  by_cases hk : k < len'
  · have outside : lo' + k < lo ∨ lo + len ≤ lo' + k := by omega
    have mask : 2 ^ len - 1 < 2 ^ len := Nat.sub_lt Nat.one_le_two_pow one_pos
    rw [bit_withField, bit_put_outside hx outside, bit_put_outside mask outside, Bool.not_false, Bool.and_true, Bool.or_false]
  · simp [hk]

/-- A field that the command sets holds what it sets. -/
theorem bits_withField_self (v : Word) {lo len x : Nat} (hx : x < 2 ^ len) (h : lo + len ≤ 32) : bits (withField v lo len x) lo len = x := by
  refine Nat.eq_of_testBit_eq fun k => ?_
  rw [testBit_bits, bit_withField, bit_put, bit_put, Nat.add_sub_cancel_left, Nat.testBit_two_pow_sub_one]
  by_cases hk : k < len
  · have : lo + k < 32 := by omega
    simp [hk, this]
  · rw [Nat.testBit_lt_two_pow (hx.trans_le (Nat.pow_le_pow_right two_pos (not_lt.1 hk)))]
    simp [hk]

end Sys2Proof.Machine
end

section
/-!
Bindings: what a bind or unbind writes into the slices, and what a write to SLC_BINDREQ does in each of its cases
(spec/09_households.md R306 to R309).
-/

namespace Sys2Proof.Machine

open Host

variable {s : State} {w : Src} {v : Word} {h : Nat} {fn : BitVec 8} {home : BitVec 3}

/-! ## The registers of a household in a slice (R309) -/

/-- The registers that a bind or unbind of household `h` resets stand at their reset values, and DBG is 0. -/
def Slice.Cleared (S : Slice) (h : Nat) : Prop :=
  (S.bind h).dbg = false ∧ S.titheOf h = {} ∧ Tbl.get 0 S.winLo h = 0 ∧ Tbl.get 0 S.winHi h = 0 ∧ S.cring h = {} ∧ S.irq h = {} ∧
    ∀ k, k < 64 → Tbl.get 0 S.doorsteps (64 * h + k) = 0

@[simp] theorem Slice.setBind_bind (S : Slice) (h : Nat) (b : HhBind) (k : Nat) : (S.setBind h b).bind k = if h = k then b else S.bind k :=
  Tbl.get_set ..

@[simp] theorem Slice.resetHh_bind (S : Slice) (h k : Nat) : (S.resetHh h).bind k = S.bind k := rfl

/-- A slice that a bind or unbind of household `h` has reached: its registers reset, and the binding `b` written if the slice is powered and
has passed step 2. -/
def Slice.rebind (S : Slice) (h : Nat) (b : HhBind) : Slice :=
  (S.resetHh h).setBind h (if S.power && 2 ≤ S.step then b else { S.bind h with dbg := false })

/-- `S'` is a slice that a bind or unbind of household `h` has reached: in it the household is bound by `b`, if `S` takes bindings, its
registers are reset, and every other household is bound as in `S`. -/
structure Slice.Rebinds (S' S : Slice) (h : Nat) (b : HhBind) : Prop where
  taken : (S.power && 2 ≤ S.step) = true → S'.bind h = b
  cleared : S'.Cleared h
  others : ∀ k, k ≠ h → S'.bind k = S.bind k

theorem Slice.rebind_rebinds (S : Slice) (h : Nat) {b : HhBind} (hb : b.dbg = false) : (S.rebind h b).Rebinds S h b := by
  have own : (S.rebind h b).bind h = if S.power && 2 ≤ S.step then b else { S.bind h with dbg := false } := by
    rw [Slice.rebind, Slice.setBind_bind, if_pos rfl]
  refine ⟨fun hl => by rw [own, if_pos hl], ?_, fun k hk => ?_⟩
  · refine ⟨?_, Tbl.get_del_self .., Tbl.get_del_self .., Tbl.get_del_self .., Tbl.get_del_self .., Tbl.get_del_self ..,
      fun k hk => Tbl.get_cut_within _ _ (by omega) (by omega)⟩
    rw [own]
    split
    · exact hb
    · rfl
  · rw [Slice.rebind, Slice.setBind_bind, if_neg (Ne.symm hk), Slice.resetHh_bind]

/-- Neither SLC_BINDSTAT nor the capture unit holds a register of a household. -/
theorem Slice.Rebinds.withStatus {S' S : Slice} {h : Nat} {b : HhBind} (hr : S'.Rebinds S h b) (q : BindStat) (c : Capture) :
    ({ S' with bindStat := q, cap := c } : Slice).Rebinds S h b :=
  ⟨hr.taken, hr.cleared, hr.others⟩

/-! ## Changes of every slice -/

/-- Slices 0 to `n - 1` changed one after another, each from what it was. -/
theorem State.foldl_range_slice {f : State → Nat → State} {g : Slice → Slice}
    (hf : ∀ t e d, (f t e).slice d = if e = d then g (t.slice e) else t.slice d) (s : State) (n d : Nat) :
    ((List.range n).foldl f s).slice d = if d < n then g (s.slice d) else s.slice d := by
  induction n with
  | zero => rfl
  | succ n ih =>
    rw [List.range_succ, List.foldl_append, List.foldl_cons, List.foldl_nil, hf]
    by_cases hn : n = d
    · subst hn
      rw [if_pos rfl, if_pos n.lt_succ_self, ih, if_neg (lt_irrefl n)]
    · rw [if_neg hn, ih]
      exact if_congr (by omega) rfl rfl

theorem State.modSlices_slice (s : State) (f : Slice → Slice) {d : Nat} (hd : d < s.dies) : (s.modSlices f).slice d = f (s.slice d) :=
  (State.foldl_range_slice (fun t e d => t.modSlice_slice e d f) s s.dies d).trans (if_pos hd)

theorem State.writeBinds_slice (s : State) (h : Nat) (b : HhBind) {d : Nat} (hd : d < s.dies) :
    (s.writeBinds h b).slice d = (s.slice d).rebind h b := by
  refine (State.foldl_range_slice (g := (·.rebind h b)) (fun t e d => ?_) s s.dies d).trans (if_pos hd)
  rw [State.modSlice_slice]
  rfl

theorem State.writeBinds_dies (s : State) (h : Nat) (b : HhBind) : (s.writeBinds h b).dies = s.dies :=
  congrArg Package.dies (State.writeBinds_keeps (κ := false) State.keeps_refl).pkg

/-! ## SLC_BINDSTAT -/

/-- A change of SLC_BINDSTAT and of the unbind in progress. -/
def State.modBindStat (s : State) (f : BindStat → BindStat) : State := s.modSlice 0 (fun S => { S with bindStat := f S.bindStat })

@[simp] theorem State.modBindStat_bindStat (s : State) (f : BindStat → BindStat) :
    ((s.modBindStat f).slice 0).bindStat = f (s.slice 0).bindStat := by
  rw [State.modBindStat, State.modSlice_slice, if_pos rfl]

theorem State.modBindStat_slice (s : State) (f : BindStat → BindStat) (d : Nat) :
    ∃ q, (s.modBindStat f).slice d = { s.slice d with bindStat := q } := by
  rw [State.modBindStat, State.modSlice_slice]
  split
  · subst d; exact ⟨_, rfl⟩
  · exact ⟨(s.slice d).bindStat, rfl⟩

@[simp] theorem State.modBindStat_hh (s : State) (f : BindStat → BindStat) (d : Nat) : ((s.modBindStat f).slice d).hh = (s.slice d).hh := by
  obtain ⟨_, hq⟩ := s.modBindStat_slice f d
  rw [hq]

/-- A bind or unbind that failed for a cause. -/
def State.bindFails (s : State) (c : BitVec 4) : State := s.modBindStat (fun q => { q with err := true, cause := c })

/-- A failure shows in ERR and CAUSE, and changes no binding. -/
theorem State.bindFails_outcome (s : State) (c : BitVec 4) :
    let t := s.bindFails c
    (t.slice 0).bindStat.err = true ∧ (t.slice 0).bindStat.cause = c ∧ (t.slice 0).bindStat.busy = (s.slice 0).bindStat.busy ∧
      ∀ d, (t.slice d).hh = (s.slice d).hh := by
  simp [State.bindFails]

/-! ## OP 1 (R307) -/

/-- The binding of a household to function `fn` with the home die `home`. -/
def HhBind.to (fn : BitVec 8) (home : BitVec 3) : HhBind := { fn := fn, bound := true, home := home, dbg := false }

/-- The household `h` bound in the slices, and SLC_BINDSTAT showing it. -/
def State.bound (s : State) (h : Nat) (b : HhBind) : State :=
  (s.writeBinds h b).modBindStat (fun q => { q with hh := BitVec.ofNat 4 h, err := false, cause := 0 })

theorem Slice.hhOfFn_eq_none_iff (S : Slice) (fn : Nat) :
    S.hhOfFn fn = none ↔ ∀ k, k < 16 → (S.bind k).bound = true → (S.bind k).fn.toNat ≠ fn := by
  simp [Slice.hhOfFn]

theorem State.bindOp_noDie (hd : s.dies ≤ home.toNat) : s.bindOp fn home = s.bindFails 4 := if_pos hd

section
variable (hd : home.toNat < s.dies)
include hd

theorem State.bindOp_fnBound (hf : (s.slice 0).hhOfFn fn.toNat ≠ none) : s.bindOp fn home = s.bindFails 2 :=
  (if_neg (not_le.2 hd)).trans (if_pos (Option.isSome_iff_ne_none.2 hf))

variable (hf : (s.slice 0).hhOfFn fn.toNat = none)
include hf

theorem State.bindOp_noneFree (hn : ∀ k, 0 < k → k < 16 → ((s.slice 0).bind k).bound = true) : s.bindOp fn home = s.bindFails 1 := by
  have free : (List.range 16).find? (fun k => k != 0 && !((s.slice 0).bind k).bound) = none := by
    simpa [Nat.pos_iff_ne_zero, imp.swap] using hn
  simp only [State.bindOp, hf, free, if_neg (not_le.2 hd)]
  rfl

/-- The lowest free household is taken. -/
theorem State.bindOp_takes (h0 : 0 < h) (h16 : h < 16) (hb : ((s.slice 0).bind h).bound = false)
    (hl : ∀ k, 0 < k → k < h → ((s.slice 0).bind k).bound = true) :
    s.bindOp fn home = s.bound h (.to fn home) := by
  have free : (List.range 16).find? (fun k => k != 0 && !((s.slice 0).bind k).bound) = some h := by
    rw [List.find?_range_eq_some]
    refine ⟨by simp [hb, h0.ne'], List.mem_range.2 h16, fun k hk => ?_⟩
    rcases k.eq_zero_or_pos with rfl | hk0
    · rfl
    · simp [hl k hk0 hk]
  simp only [State.bindOp, hf, free, if_neg (not_le.2 hd)]
  rfl

end

theorem State.bound_bindStat (s : State) (h : Nat) (b : HhBind) :
    ((s.bound h b).slice 0).bindStat.err = false ∧ ((s.bound h b).slice 0).bindStat.hh = BitVec.ofNat 4 h := by
  simp [State.bound]

/-- A bind has reached every slice of the package. -/
theorem State.bound_rebinds (s : State) (h : Nat) {b : HhBind} (hb : b.dbg = false) {d : Nat} (hd : d < s.dies) :
    ((s.bound h b).slice d).Rebinds (s.slice d) h b := by
  obtain ⟨q, reached⟩ := (s.writeBinds h b).modBindStat_slice (fun q => { q with hh := BitVec.ofNat 4 h, err := false, cause := 0 }) d
  rw [State.bound, reached, State.writeBinds_slice s h b hd]
  exact ((s.slice d).rebind_rebinds h hb).withStatus q _

/-! ## The end of an unbind (R308, steps 3 to 5) -/

/-- Some gate of household `h` does not show CLOSED_DONE. -/
def State.gatesOpen (s : State) (h : Nat) : Bool :=
  s.listedTiles.any (fun t => (s.tile t).gates.any (fun p => p.2.hh.toNat == h && !p.2.closedDone))

theorem State.gatesOpen_iff :
    s.gatesOpen h = true ↔ ∃ g k, g ∈ s.listedTiles ∧ k ∈ (s.tile g).gates ∧ k.2.hh.toNat = h ∧ k.2.closedDone = false := by
  simp [State.gatesOpen]

/-- The capture unit records household `h` no more. -/
def Slice.dropCapture (S : Slice) (h : Nat) : Slice := { S with cap := { S.cap with mask := setBit S.cap.mask h false } }

/-- The bindings of household `h` cleared in the slices, and its unbind at an end. -/
def State.unbound (s : State) (h : Nat) : State :=
  ((s.writeBinds h {}).modSlices (·.dropCapture h)).modBindStat (fun q => { q with busy := false, unbinding := none })

theorem State.unbindFinishOp_eq (hu : (s.slice 0).bindStat.unbinding = some h) :
    s.unbindFinishOp = if s.gatesOpen h then s else s.unbound h := by
  simp only [State.unbindFinishOp, hu]
  rfl

theorem State.unbound_bindStat (s : State) (h : Nat) :
    ((s.unbound h).slice 0).bindStat.busy = false ∧ ((s.unbound h).slice 0).bindStat.unbinding = none := by
  simp [State.unbound]

/-- The end of an unbind has reached every slice of the package. -/
theorem State.unbound_rebinds (s : State) (h : Nat) {d : Nat} (hd : d < s.dies) :
    ((s.unbound h).slice d).Rebinds (s.slice d) h {} ∧ bit ((s.unbound h).slice d).cap.mask h = false := by
  obtain ⟨q, reached⟩ := ((s.writeBinds h {}).modSlices (·.dropCapture h)).modBindStat_slice
    (fun q => { q with busy := false, unbinding := none }) d
  rw [State.unbound, reached, State.modSlices_slice _ _ (by rwa [State.writeBinds_dies]), State.writeBinds_slice s h {} hd]
  exact ⟨((s.slice d).rebind_rebinds h rfl).withStatus q _, bit_setBit_false _ h⟩

end Sys2Proof.Machine
end

section
/-!
The gates and endpoints of a household that is unbound: closing one never opens another (spec/09_households.md R308;
spec/07_external_bridges.md R258; spec/08_tallies_bells_channels.md R299).
-/

namespace Sys2Proof.Machine

open Host

variable {s : State} {tile h e : Nat}

/-! ## What closing leaves of a tile -/

/-- `T'` has the gates and endpoints of `T`, each of its household, and none open that was closed. -/
structure Tile.ClosesFrom (T' T : Tile) : Prop where
  gate : ∀ k, (T'.gate k).hh = (T.gate k).hh ∧ ((T'.gate k).isOpen = true → (T.gate k).isOpen = true)
  ep : ∀ k, (T'.ep k).hh = (T.ep k).hh ∧ ((T'.ep k).isOpen = true → (T.ep k).isOpen = true)

theorem Tile.closesFrom_refl (T : Tile) : T.ClosesFrom T := ⟨fun _ => ⟨rfl, id⟩, fun _ => ⟨rfl, id⟩⟩

theorem Tile.ClosesFrom.trans {T₂ T₁ T : Tile} (h : T₂.ClosesFrom T₁) (h' : T₁.ClosesFrom T) : T₂.ClosesFrom T :=
  ⟨fun k => ⟨(h.gate k).1.trans (h'.gate k).1, fun o => (h'.gate k).2 ((h.gate k).2 o)⟩,
   fun k => ⟨(h.ep k).1.trans (h'.ep k).1, fun o => (h'.ep k).2 ((h.ep k).2 o)⟩⟩

/-- No gate of household `h` is open. -/
def Tile.GatesShut (T : Tile) (h : Nat) : Prop := ∀ k, (T.gate k).hh.toNat = h → (T.gate k).isOpen = false

/-- Endpoint `e` is closed, or of another household than `h`. -/
def Tile.EpShut (T : Tile) (h e : Nat) : Prop := (T.ep e).hh.toNat = h → (T.ep e).isOpen = false

theorem Tile.ClosesFrom.gatesShut {T' T : Tile} (hc : T'.ClosesFrom T) (hs : T.GatesShut h) : T'.GatesShut h := fun k hk =>
  Bool.eq_false_iff.2 fun ho => Bool.eq_false_iff.1 (hs k ((hc.gate k).1 ▸ hk)) ((hc.gate k).2 ho)

theorem Tile.ClosesFrom.epShut {T' T : Tile} (hc : T'.ClosesFrom T) (hs : T.EpShut h e) : T'.EpShut h e := fun he =>
  Bool.eq_false_iff.2 fun ho => Bool.eq_false_iff.1 (hs ((hc.ep e).1 ▸ he)) ((hc.ep e).2 ho)

/-- An endpoint changed in place to one of the same household that is not open unless it was. -/
theorem Tile.setEp_closesFrom (T : Tile) (e : Nat) {E : Endpoint} (hh : E.hh = (T.ep e).hh) (ho : E.isOpen = true → (T.ep e).isOpen = true) :
    (T.setEp e E).ClosesFrom T := by
  refine ⟨fun _ => ⟨rfl, id⟩, fun k => ?_⟩
  have read : (T.setEp e E).ep k = if e = k then E else T.ep k := Tbl.get_set ..
  rw [read]
  split
  · subst k; exact ⟨hh, ho⟩
  · exact ⟨rfl, id⟩

/-! ## Gates -/

theorem Gate.close_hh (now : Nat) (G : Gate) : (G.close now).hh = G.hh := by
  unfold Gate.close; split_ifs <;> rfl

theorem Gate.close_isOpen (now : Nat) (G : Gate) : (G.close now).isOpen = false := by
  unfold Gate.close
  split_ifs with h
  · simpa using h
  · rfl
  · rfl

/-- A gate after those with a property have closed. -/
theorem Tile.closeGates_gate (T : Tile) (now : Nat) (p : Gate → Bool) (k : Nat) :
    (T.closeGates now p).gate k = if p (T.gate k) then (T.gate k).close now else T.gate k :=
  Tbl.get_mapVals (f := fun G => if p G then G.close now else G) (ite_self _) T.gates k

theorem Tile.closeGates_closesFrom (T : Tile) (now : Nat) (p : Gate → Bool) : (T.closeGates now p).ClosesFrom T := by
  refine ⟨fun k => ?_, fun _ => ⟨rfl, id⟩⟩
  rw [Tile.closeGates_gate]
  split
  · exact ⟨Gate.close_hh .., fun ho => absurd ho (Bool.eq_false_iff.1 (Gate.close_isOpen ..))⟩
  · exact ⟨rfl, id⟩

theorem Tile.closeGates_gatesShut (T : Tile) (now h : Nat) : (T.closeGates now (fun G => G.hh.toNat == h)).GatesShut h := by
  intro k hk
  rw [Tile.closeGates_gate] at hk ⊢
  split at hk
  · rw [if_pos ‹_›]; exact Gate.close_isOpen ..
  · exact absurd (beq_iff_eq.2 hk) ‹_›

/-! ## Endpoints -/

theorem Tile.closeMsgs_closesFrom (T : Tile) (e : Nat) : (T.closeMsgs e).ClosesFrom T := by
  have counted (l : List MsgIn) :
      (l.foldl (fun (T : Tile) _ => T.setEp e { T.ep e with drop := satInc (T.ep e).drop }) T).ClosesFrom T :=
    List.foldlRecOn (motive := fun U : Tile => U.ClosesFrom T) l _ T.closesFrom_refl fun U hU _ _ =>
      Tile.ClosesFrom.trans (Tile.setEp_closesFrom _ _ rfl id) hU
  exact ⟨(counted _).gate, (counted _).ep⟩

theorem Tile.setEngine_closesFrom (T : Tile) (g : Engine) (q : EngState) : (T.setEngine g q).ClosesFrom T :=
  ⟨fun _ => ⟨rfl, id⟩, fun _ => ⟨rfl, id⟩⟩

/-- The endpoint `e` of a tile closed, with the messages still arriving for it refused. -/
def Tile.shutEp (T : Tile) (e : Nat) : Tile := (T.setEp e { T.ep e with isOpen := false, recs := [] }).closeMsgs e

theorem Tile.shutEp_closesFrom (T : Tile) (e : Nat) : (T.shutEp e).ClosesFrom T :=
  (Tile.closeMsgs_closesFrom ..).trans (T.setEp_closesFrom e rfl nofun)

theorem Tile.shutEp_epShut (T : Tile) (e h : Nat) : (T.shutEp e).EpShut h e := by
  refine (Tile.closeMsgs_closesFrom ..).epShut fun _ => ?_
  have read : (T.setEp e { T.ep e with isOpen := false, recs := [] }).ep e = { T.ep e with isOpen := false, recs := [] } :=
    (Tbl.get_set ..).trans (if_pos rfl)
  rw [read]

/-! ## Closing in the state -/

/-- `t` is `s` but for tiles whose gates and endpoints close, and the capture units. -/
structure State.ClosesFrom (t s : State) : Prop where
  regs : ∀ d, (t.slice d).RegsFrom (s.slice d)
  tile : ∀ g, (t.tile g).ClosesFrom (s.tile g)

theorem State.closesFrom_refl (s : State) : s.ClosesFrom s := ⟨fun _ => Slice.regsFrom_refl _, fun _ => Tile.closesFrom_refl _⟩

theorem State.ClosesFrom.modTile {t : State} (hc : t.ClosesFrom s) {f : Tile → Tile} (hf : (f (t.tile tile)).ClosesFrom (t.tile tile)) :
    (t.modTile tile f).ClosesFrom s := by
  refine ⟨fun d => State.modTile_regsFrom f (hc.regs d), fun g => ?_⟩
  rw [State.modTile_tile]
  split
  · subst g; exact hf.trans (hc.tile tile)
  · exact hc.tile g

theorem State.ClosesFrom.trans {u t : State} (hc : u.ClosesFrom t) (hc' : t.ClosesFrom s) : u.ClosesFrom s := by
  refine ⟨fun d => ?_, fun g => (hc.tile g).trans (hc'.tile g)⟩
  obtain ⟨c', ts', h'⟩ := hc'.regs d
  obtain ⟨c, ts, h⟩ := hc.regs d
  exact ⟨c, ts, by rw [h, h']⟩

theorem State.foldl_closesFrom {α : Type} {f : State → α → State} (hf : ∀ t x, (f t x).ClosesFrom t) (s : State) (l : List α) :
    (l.foldl f s).ClosesFrom s := by
  induction l generalizing s with
  | nil => exact s.closesFrom_refl
  | cons x l ih => exact (ih (f s x)).trans (hf s x)

theorem State.ClosesFrom.emit {t : State} (hc : t.ClosesFrom s) (o : Output) : (t.emit o).ClosesFrom s := ⟨hc.regs, hc.tile⟩

/-- A RECV of engine `g` that waits at an endpoint which has closed ends. -/
def State.endRecv (tile e : Nat) (s : State) (g : Engine) : State :=
  if (s.tile tile).engine g == .recv e then s.endOp tile g .aborted false 0 else s

theorem State.endRecv_closesFrom (s : State) (tile e : Nat) (g : Engine) : (s.endRecv tile e g).ClosesFrom s := by
  unfold State.endRecv
  split
  · exact (s.closesFrom_refl.modTile (Tile.setEngine_closesFrom ..)).emit _
  · exact s.closesFrom_refl

theorem State.closeEp_eq (s : State) (tile e : Nat) :
    s.closeEp tile e = allEngines.foldl (State.endRecv tile e) (s.modTile tile (fun T => T.shutEp e)) := rfl

theorem State.closeEp_closesFrom_shut (s : State) (tile e : Nat) :
    (s.closeEp tile e).ClosesFrom (s.modTile tile (fun T => T.shutEp e)) := by
  rw [State.closeEp_eq]
  exact State.foldl_closesFrom (fun t g => t.endRecv_closesFrom tile e g) _ _

theorem State.closeEp_closesFrom (s : State) (tile e : Nat) : (s.closeEp tile e).ClosesFrom s :=
  (s.closeEp_closesFrom_shut tile e).trans (s.closesFrom_refl.modTile (Tile.shutEp_closesFrom ..))

theorem State.closeEp_epShut (s : State) (tile e h : Nat) : ((s.closeEp tile e).tile tile).EpShut h e := by
  refine ((s.closeEp_closesFrom_shut tile e).tile tile).epShut ?_
  rw [State.modTile_tile, if_pos rfl]
  exact Tile.shutEp_epShut _ e h

/-- What every step of a list keeps, and the step of one of its entries brings about, holds after the list. -/
theorem foldl_of_step_mem {α β : Type} {P : β → Prop} {f : β → α → β} {a : α} (keeps : ∀ b x, P b → P (f b x))
    (makes : ∀ b, P (f b a)) {l : List α} (ha : a ∈ l) (b : β) : P (l.foldl f b) := by
  induction l generalizing b with
  | nil => nomatch ha
  | cons x l ih =>
    rcases List.mem_cons.1 ha with rfl | ha
    · exact List.foldlRecOn l f (makes b) fun c hc x _ => keeps c x hc
    · exact ih ha _

/-- Endpoint `e` of a tile closes if it is open and of household `h`. -/
def State.closeEpOf (h tile : Nat) (s : State) (e : Nat) : State :=
  if ((s.tile tile).ep e).isOpen && ((s.tile tile).ep e).hh.toNat == h then s.closeEp tile e else s

theorem State.closeEpOf_closesFrom (s : State) (h tile e : Nat) : (s.closeEpOf h tile e).ClosesFrom s := by
  unfold State.closeEpOf
  split
  · exact s.closeEp_closesFrom tile e
  · exact s.closesFrom_refl

theorem State.closeEpOf_epShut (s : State) (h tile e : Nat) : ((s.closeEpOf h tile e).tile tile).EpShut h e := by
  unfold State.closeEpOf
  split
  · exact s.closeEp_epShut tile e h
  · rename_i hn
    exact fun he => by simpa [he] using hn

theorem State.closeEps_closesFrom (s : State) (h tile : Nat) : (s.closeEps tile (fun E => E.hh.toNat == h)).ClosesFrom s :=
  State.foldl_closesFrom (f := State.closeEpOf h tile) (fun t e => t.closeEpOf_closesFrom h tile e) s (List.range 16)

theorem State.closeEps_epShut (s : State) (h tile : Nat) (he : e < 16) :
    ((s.closeEps tile (fun E => E.hh.toNat == h)).tile tile).EpShut h e :=
  foldl_of_step_mem (f := State.closeEpOf h tile) (P := fun t => (t.tile tile).EpShut h e)
    (fun t x ht => ((t.closeEpOf_closesFrom h tile x).tile tile).epShut ht) (fun t => t.closeEpOf_epShut h tile e) (List.mem_range.2 he) s

/-! ## OP 2 (R308) -/

/-- The gates and endpoints of household `h` at a tile close. -/
def State.shutTile (h : Nat) (s : State) (tile : Nat) : State :=
  (s.modTile tile (fun T => T.closeGates (s.paceNat tile) (fun G => G.hh.toNat == h))).closeEps tile (fun E => E.hh.toNat == h)

theorem State.shutTile_closesFrom (s : State) (h tile : Nat) : (s.shutTile h tile).ClosesFrom s :=
  (State.closeEps_closesFrom ..).trans (s.closesFrom_refl.modTile (Tile.closeGates_closesFrom ..))

theorem State.shutTile_gatesShut (s : State) (h tile : Nat) : ((s.shutTile h tile).tile tile).GatesShut h := by
  refine ((State.closeEps_closesFrom ..).tile tile).gatesShut ?_
  rw [State.modTile_tile, if_pos rfl]
  exact Tile.closeGates_gatesShut _ _ h

theorem State.shutTile_epShut (s : State) (h tile : Nat) (he : e < 16) : ((s.shutTile h tile).tile tile).EpShut h e :=
  State.closeEps_epShut _ h tile he

/-- SLC_BINDSTAT with the unbind of household `h` in progress. -/
def State.unbindBegun (s : State) (h : Nat) : State :=
  s.modBindStat (fun q => { q with busy := true, err := false, cause := 0, unbinding := some h })

/-- The gates and endpoints of household `h` close at every tile that a slice lists. -/
def State.shutTiles (s : State) (h : Nat) : State := s.listedTiles.foldl (State.shutTile h) s

theorem State.shutTiles_closesFrom (s : State) (h : Nat) : (s.shutTiles h).ClosesFrom s :=
  State.foldl_closesFrom (fun t g => t.shutTile_closesFrom h g) s s.listedTiles

theorem State.shutTiles_gatesShut (h : Nat) (ht : tile ∈ s.listedTiles) : ((s.shutTiles h).tile tile).GatesShut h :=
  foldl_of_step_mem (P := fun t => (t.tile tile).GatesShut h) (fun t g hs => ((t.shutTile_closesFrom h g).tile tile).gatesShut hs)
    (fun t => t.shutTile_gatesShut h tile) ht s

theorem State.shutTiles_epShut (h : Nat) (ht : tile ∈ s.listedTiles) (he : e < 16) : ((s.shutTiles h).tile tile).EpShut h e :=
  foldl_of_step_mem (P := fun t => (t.tile tile).EpShut h e) (fun t g hs => ((t.shutTile_closesFrom h g).tile tile).epShut hs)
    (fun t => t.shutTile_epShut h tile he) ht s

theorem State.unbindOp_refused (hr : h = 0 ∨ ((s.slice 0).bind h).bound = false ∨ s.hasTiles h = true) : s.unbindOp h = s.bindFails 3 :=
  if_pos (by simpa [or_assoc] using hr)

theorem State.unbindOp_begins (h0 : h ≠ 0) (hb : ((s.slice 0).bind h).bound = true) (ht : s.hasTiles h = false) :
    s.unbindOp h = (s.unbindBegun h).shutTiles h :=
  if_neg (by simp [h0, hb, ht])

/-- A tile that a slice lists stays listed when SLC_BINDSTAT changes. -/
theorem State.mem_listedTiles_modBindStat {g : Nat} {f : BindStat → BindStat} (hg : g ∈ s.listedTiles) : g ∈ (s.modBindStat f).listedTiles := by
  obtain ⟨p, hp, hq⟩ := List.mem_flatMap.1 hg
  rcases Tbl.mem_set_of_mem {} (k := 0) { s.slice 0 with bindStat := f (s.slice 0).bindStat } hp with kept | ⟨h0, hS, new⟩
  · exact List.mem_flatMap.2 ⟨p, kept, hq⟩
  · refine List.mem_flatMap.2 ⟨_, new, ?_⟩
    rw [h0, hS] at hq
    exact hq

/-- What an unbind that begins leaves: SLC_BINDSTAT busy with it, every binding as it was, and no gate or endpoint of the household open at a
tile that a slice lists. -/
theorem State.unbindBegun_shutTiles_outcome (s : State) (h : Nat) :
    let t := (s.unbindBegun h).shutTiles h
    (t.slice 0).bindStat.busy = true ∧ (t.slice 0).bindStat.unbinding = some h ∧ (∀ d, (t.slice d).hh = (s.slice d).hh) ∧
      ∀ g, g ∈ s.listedTiles → (t.tile g).GatesShut h ∧ ∀ e, e < 16 → (t.tile g).EpShut h e := by
  have closes := (s.unbindBegun h).shutTiles_closesFrom h
  have status : (((s.unbindBegun h).shutTiles h).slice 0).bindStat = ((s.unbindBegun h).slice 0).bindStat := by
    obtain ⟨_, _, hr⟩ := closes.regs 0
    rw [hr]
  refine ⟨?_, ?_, fun d => ?_, fun g hg => ?_⟩
  · rw [status, State.unbindBegun, State.modBindStat_bindStat]
  · rw [status, State.unbindBegun, State.modBindStat_bindStat]
  · obtain ⟨_, _, hr⟩ := closes.regs d
    rw [hr]
    exact s.modBindStat_hh _ d
  · have listed : g ∈ (s.unbindBegun h).listedTiles := State.mem_listedTiles_modBindStat hg
    exact ⟨State.shutTiles_gatesShut h listed, fun e he => State.shutTiles_epShut h listed he⟩

end Sys2Proof.Machine
end

section
/-!
BIND, UNBIND, UNBIND_FINISH and UNBOUND_CLR as commands (spec/09_households.md R306 to R310).
-/

namespace Sys2Proof.Machine

open Host

variable {s t : State} {w : Src} {v : Word}

/-! ## Writes to SLC_BINDREQ -/

@[simp] theorem State.sliceAnswered_tile (s t : State) (w : Src) (die off : Nat) (v : Word) (st : Status) (g : Nat) :
    (s.sliceAnswered t w die off v st).tile g = t.tile g := by
  unfold State.tile; rw [State.sliceAnswered_slice]

theorem exec_bind (ht : s.sliceTakes w 0 0x0148 (withField v 12 2 1)) {st : Status} (ho : s.bindReqOp w (withField v 12 2 1) = (t, st)) :
    exec (.bind w v) s = .next (s.sliceAnswered t w 0 0x0148 (withField v 12 2 1) st) :=
  State.sliceReg_now_of_eq ht ho

theorem exec_unbind (ht : s.sliceTakes w 0 0x0148 (withField v 12 2 2)) {st : Status} (ho : s.bindReqOp w (withField v 12 2 2) = (t, st)) :
    exec (.unbind w v) s = .next (s.sliceAnswered t w 0 0x0148 (withField v 12 2 2) st) :=
  State.sliceReg_now_of_eq ht ho

theorem State.bindReqOp_busy (hm : s.isManager w = true) (hb : (s.slice 0).bindStat.busy = true) : s.bindReqOp w v = (s, .rearmBusy) := by
  simp [State.bindReqOp, hm, hb]

section
variable (hm : s.isManager w = true) (hb : (s.slice 0).bindStat.busy = false)
include hm hb

theorem State.bindReqOp_bind (v : Word) :
    s.bindReqOp w (withField v 12 2 1) = (s.bindOp (BitVec.ofNat 8 (bits v 0 8)) (BitVec.ofNat 3 (bits v 14 3)), .ok) := by
  have op : bits (withField v 12 2 1) 12 2 = 1 := bits_withField_self v (by decide) (by decide)
  have fn : bits (withField v 12 2 1) 0 8 = bits v 0 8 := bits_withField_beside v (by decide) (by decide)
  have home : bits (withField v 12 2 1) 14 3 = bits v 14 3 := bits_withField_beside v (by decide) (by decide)
  simp [State.bindReqOp, hm, hb, op, fn, home]

theorem State.bindReqOp_unbind (v : Word) : s.bindReqOp w (withField v 12 2 2) = (s.unbindOp (bits v 8 4), .ok) := by
  have op : bits (withField v 12 2 2) 12 2 = 2 := bits_withField_self v (by decide) (by decide)
  have household : bits (withField v 12 2 2) 8 4 = bits v 8 4 := bits_withField_beside v (by decide) (by decide)
  simp [State.bindReqOp, hm, hb, op, household]

end

/-! ## The other two commands -/

theorem exec_unbindFinish (hl : s.live 0 = true) : exec .unbindFinish s = .next s.unbindFinishOp :=
  State.atDie_next (by unfold State.hasDie State.dies; cases s.pkg <;> rfl) hl

/-- SLC_UNBOUND cleared. -/
def Slice.clearUnbound (S : Slice) : Slice := { S with unbCount := 0, unbFn := 0 }

theorem State.unboundOp_clear (hm : s.isManager w = true) (d : Nat) (v : Word) :
    s.unboundOp w d (withField v 31 1 1) = (s.modSlice d Slice.clearUnbound, .ok) := by
  have clear : bit (withField v 31 1 1) 31 = true := by rw [bit_withField, bit_put, bit_put]; simp
  simp only [State.unboundOp, hm, clear]
  rfl

/-- Settles O52. A write to SLC_BINDREQ or SLC_UNBOUND is its operation and its answer; each operation is its case of what it finds free or
bound, and a bind or unbind reaches the slices one by one, each from what it was. -/
theorem bindings : Obligations.Bindings := by
  unfold Obligations.Bindings
  refine ⟨?bind, ?unbind, ?finish, ?unbound⟩
  case bind =>
    intro s w v ht hm hb fn home
    have fnNat : (BitVec.ofNat 8 fn).toNat = fn := toNat_ofNat_bits v 8
    have homeNat : (BitVec.ofNat 3 home).toNat = home := Nat.mod_eq_of_lt (Nat.mod_lt _ (by decide))
    have run {t : State} (op : s.bindOp (BitVec.ofNat 8 fn) (BitVec.ofNat 3 home) = t) :=
      exec_bind ht ((State.bindReqOp_bind hm hb v).trans (congrArg (·, Status.ok) op))
    have fails {c : BitVec 4} (op : s.bindOp (BitVec.ofNat 8 fn) (BitVec.ofNat 3 home) = s.bindFails c) :
        ∃ t : State, exec (.bind w v) s = .next t ∧ (t.slice 0).bindStat.err = true ∧ (t.slice 0).bindStat.cause = c ∧
          ∀ d, (t.slice d).hh = (s.slice d).hh := by
      obtain ⟨err, cause, -, kept⟩ := s.bindFails_outcome c
      refine ⟨_, run op, ?_⟩
      simp only [State.sliceAnswered_slice]
      exact ⟨err, cause, kept⟩
    have unknown (hf : ∀ k, k < 16 → ((s.slice 0).bind k).bound = true → ((s.slice 0).bind k).fn.toNat ≠ fn) :
        (s.slice 0).hhOfFn (BitVec.ofNat 8 fn).toNat = none := by rw [fnNat]; exact (Slice.hhOfFn_eq_none_iff ..).2 hf
    refine ⟨fun hd => ?noDie, fun hd hf => ?fnBound, fun hd hf hn => ?noneFree, fun h hd hf h0 h16 hfree hlow => ?takes⟩
    all_goals rw [← homeNat] at hd
    case noDie => exact fails (State.bindOp_noDie hd)
    case fnBound =>
      obtain ⟨k, hk, hbound, hfn⟩ := hf
      refine fails (State.bindOp_fnBound hd fun hnone => ?_)
      rw [fnNat] at hnone
      exact (Slice.hhOfFn_eq_none_iff ..).1 hnone k hk hbound hfn
    case noneFree => exact fails (State.bindOp_noneFree hd (unknown hf) hn)
    case takes =>
      have op := State.bindOp_takes hd (unknown hf) h0 h16 hfree hlow
      obtain ⟨err, hh⟩ := s.bound_bindStat h (.to (BitVec.ofNat 8 fn) (BitVec.ofNat 3 home))
      refine ⟨_, run op, ?_, ?_, fun d hd => ?_⟩
      · rw [State.sliceAnswered_slice, err]
      · rw [State.sliceAnswered_slice, hh]; exact Nat.mod_eq_of_lt h16
      · rw [State.sliceAnswered_slice]
        obtain ⟨taken, cleared, others⟩ := s.bound_rebinds h (b := .to (BitVec.ofNat 8 fn) (BitVec.ofNat 3 home)) rfl hd
        exact ⟨taken, cleared, others⟩
  case unbind =>
    intro s w v hm
    refine ⟨fun hb => ⟨fun ht => exec_bind ht (State.bindReqOp_busy hm hb), fun ht => exec_unbind ht (State.bindReqOp_busy hm hb)⟩,
      fun ht hb => ?_⟩
    have run {t : State} (op : s.unbindOp (bits v 8 4) = t) :=
      exec_unbind ht ((State.bindReqOp_unbind hm hb v).trans (congrArg (·, Status.ok) op))
    refine ⟨fun hr => ?refused, fun h0 hbound hno => ?begins⟩
    case refused =>
      obtain ⟨err, cause, busy, kept⟩ := s.bindFails_outcome 3
      refine ⟨_, run (State.unbindOp_refused hr), ?_⟩
      simp only [State.sliceAnswered_slice]
      exact ⟨err, cause, busy.trans hb, kept⟩
    case begins =>
      obtain ⟨busy, unbinding, kept, shut⟩ := s.unbindBegun_shutTiles_outcome (bits v 8 4)
      refine ⟨_, run (State.unbindOp_begins h0 hbound hno), ?_⟩
      simp only [State.sliceAnswered_slice, State.sliceAnswered_tile]
      exact ⟨busy, unbinding, kept, shut⟩
  case finish =>
    intro s h hl hu _
    have run := exec_unbindFinish hl
    rw [State.unbindFinishOp_eq hu] at run
    refine ⟨fun hopen => ?waits, fun hdone => ?ends⟩
    case waits => rw [run, if_pos (State.gatesOpen_iff.2 hopen)]
    case ends =>
      have shut : ¬ s.gatesOpen h = true := fun hopen => by
        obtain ⟨g, k, hg, hk, hh, hc⟩ := State.gatesOpen_iff.1 hopen
        exact Bool.eq_false_iff.1 hc (hdone g k hg hk hh)
      rw [if_neg shut] at run
      obtain ⟨busy, unbinding⟩ := s.unbound_bindStat h
      refine ⟨_, run, busy, unbinding, fun d hd => ?_⟩
      obtain ⟨⟨taken, cleared, others⟩, dropped⟩ := s.unbound_rebinds h hd
      exact ⟨fun _ => taken, dropped, cleared, others⟩
  case unbound =>
    intro s w d v ht hm
    exact State.sliceReg_now_of_eq ht (State.unboundOp_clear hm d v)

end Sys2Proof.Machine
end

section
/-!
The book: what its rings and its control area hold after a record or an acknowledge (spec/11_startup_power_book.md R378, R379, R385).
-/

namespace Sys2Proof.Machine

variable {b : Book} {r : BookRec}

@[simp] theorem Book.update_sev (b : Book) (f : Control → Control) : (b.update f).sev = b.sev := by
  unfold Book.update; split <;> rfl

@[simp] theorem Book.update_rou (b : Book) (f : Control → Control) : (b.update f).rou = b.rou := by
  unfold Book.update; split <;> rfl

/-! ## Acknowledges -/

/-- The book after an acknowledge of `count` records of a ring, the routine one where `routine`. -/
def Book.ack (b : Book) (routine : Bool) (count : Nat) : Book :=
  if routine then
    let n := min count ((b.cur.rouTail + 11264 - b.cur.rouHead) % 11264)
    if n = 0 then b else b.update (fun c => { c with rouHead := (c.rouHead + n) % 11264 })
  else
    let n := min count ((b.cur.sevTail + 4096 - b.cur.sevHead) % 4096)
    if n = 0 then b else b.update (fun c => { c with sevHead := (c.sevHead + n) % 4096 })

theorem State.bookAckOp_manager {s : State} {w : Src} (hm : s.isManager w = true) (d : Nat) (v : Word) :
    s.bookAckOp w d v = ({ s with book := s.book.ack (bit v 16) (bits v 0 14) }, .ok) := by
  unfold State.bookAckOp Book.ack
  simp only [hm, Bool.not_true, Bool.false_eq_true, if_false]
  split
  · split <;> rfl
  · split <;> rfl

/-- An acknowledge writes no slot. -/
theorem Book.ack_slots (b : Book) (routine : Bool) (count : Nat) : (b.ack routine count).sev = b.sev ∧ (b.ack routine count).rou = b.rou := by
  cases routine with
  | true => rw [Book.ack, if_pos rfl]; dsimp only; split <;> simp
  | false => rw [Book.ack, if_neg Bool.false_ne_true]; dsimp only; split <;> simp

section
variable (good : b.a.good = true ∨ b.b.good = true) (hg : b.cur.gen.toNat + 1 < 2 ^ 32)
include good hg

/-- An acknowledge moves no TAIL. -/
theorem Book.ack_tails (routine : Bool) (count : Nat) :
    (b.ack routine count).cur.sevTail = b.cur.sevTail ∧ (b.ack routine count).cur.rouTail = b.cur.rouTail := by
  cases routine with
  | true => rw [Book.ack, if_pos rfl]; dsimp only; split <;> simp [Book.update_cur b _ good hg]
  | false => rw [Book.ack, if_neg Bool.false_ne_true]; dsimp only; split <;> simp [Book.update_cur b _ good hg]

/-- HEAD of the severe ring moves on by COUNT records, to TAIL at most. -/
theorem Book.ack_severe (count : Nat) (hh : b.cur.sevHead < 4096) :
    (b.ack false count).cur.rouHead = b.cur.rouHead ∧
      (b.ack false count).cur.sevHead = (b.cur.sevHead + min count ((b.cur.sevTail + 4096 - b.cur.sevHead) % 4096)) % 4096 := by
  simp only [Book.ack, Bool.false_eq_true, if_false]
  split
  · next none_moved => rw [none_moved, Nat.add_zero, Nat.mod_eq_of_lt hh]; exact ⟨rfl, rfl⟩
  · rw [Book.update_cur b _ good hg]; exact ⟨rfl, rfl⟩

/-- HEAD of the routine ring moves on by COUNT records, to TAIL at most. -/
theorem Book.ack_routine (count : Nat) (hh : b.cur.rouHead < 11264) :
    (b.ack true count).cur.sevHead = b.cur.sevHead ∧
      (b.ack true count).cur.rouHead = (b.cur.rouHead + min count ((b.cur.rouTail + 11264 - b.cur.rouHead) % 11264)) % 11264 := by
  simp only [Book.ack, if_true]
  split
  · next none_moved => rw [none_moved, Nat.add_zero, Nat.mod_eq_of_lt hh]; exact ⟨rfl, rfl⟩
  · rw [Book.update_cur b _ good hg]; exact ⟨rfl, rfl⟩

/-! ## Records -/

/-- What the severe ring's taking of a record leaves in the book. -/
theorem Book.append_severe (hs : severe r.type = true) :
    let c := b.cur
    let b' := b.append r
    Tbl.find b'.sev c.sevTail = some { r with seq := c.sevSeq } ∧ b'.rou = b.rou ∧ b'.cur.sevTail = (c.sevTail + 1) % 4096 ∧
      b'.cur.sevSeq = c.sevSeq + 1 ∧ b'.cur.gen = c.gen + 1 ∧
      b'.cur.sevHead = (if (c.sevTail + 1) % 4096 = c.sevHead then (c.sevHead + 1) % 4096 else c.sevHead) ∧
      b'.cur.ovwr = (if (c.sevTail + 1) % 4096 = c.sevHead then satInc c.ovwr else c.ovwr) := by
  simp only [Book.append, hs, if_true]
  have cur := Book.update_cur { b with sev := b.sev.set b.cur.sevTail { r with seq := b.cur.sevSeq } } (h := good) (hg := hg)
  rw [cur]
  simp [Tbl.find_set, Book.cur]

/-- What the routine ring's taking of a record leaves in the book. -/
theorem Book.append_routine (hs : severe r.type = false) :
    let c := b.cur
    let b' := b.append r
    Tbl.find b'.rou c.rouTail = some { r with seq := c.rouSeq } ∧ b'.sev = b.sev ∧ b'.cur.rouTail = (c.rouTail + 1) % 11264 ∧
      b'.cur.rouSeq = c.rouSeq + 1 ∧ b'.cur.gen = c.gen + 1 ∧
      b'.cur.rouHead = (if (c.rouTail + 1) % 11264 = c.rouHead then (c.rouHead + 1) % 11264 else c.rouHead) ∧
      b'.cur.ovwr = (if (c.rouTail + 1) % 11264 = c.rouHead then satInc c.ovwr else c.ovwr) := by
  simp only [Book.append, hs, Bool.false_eq_true, if_false]
  have cur := Book.update_cur { b with rou := b.rou.set b.cur.rouTail { r with seq := b.cur.rouSeq } } (h := good) (hg := hg)
  rw [cur]
  simp [Tbl.find_set, Book.cur]

/-! ## The start word -/

theorem Book.update_startOf (d e : Nat) (x : BitVec 8) :
    (b.update (fun c => { c with start := c.start.set d x })).cur.startOf e = if d = e then x else b.cur.startOf e := by
  rw [Book.update_cur b _ good hg]
  exact Tbl.get_set 1 b.cur.start d x e

end

end Sys2Proof.Machine
end

section
/-!
A slice's records on their way to the book: the hold, the records that find it full, and the DROPPED record
(spec/11_startup_power_book.md R379, R380, R382).
-/

namespace Sys2Proof.Machine

variable {s : State} {S : Slice} {d ring : Nat} {r : BookRec} {l : List BookRec}

/-! ## The holds of a slice -/

@[simp] theorem Slice.raise_holdSev (S : Slice) (now h v : Nat) : (S.raise now h v).holdSev = S.holdSev := by
  unfold Slice.raise; dsimp only; split <;> rfl

@[simp] theorem Slice.raise_holdRou (S : Slice) (now h v : Nat) : (S.raise now h v).holdRou = S.holdRou := by
  unfold Slice.raise; dsimp only; split <;> rfl

/-- A severe record comes behind those of the severe hold, or finds no room. -/
theorem Slice.holdRecord_holds (S : Slice) (hs : severe r.type = true) :
    (∃ m, (S.holdRecord r).holdSev = S.holdSev ++ m) ∧ (S.holdRecord r).holdRou = S.holdRou := by
  unfold Slice.holdRecord
  simp only [hs, if_true]
  split
  · exact ⟨⟨[], (List.append_nil _).symm⟩, rfl⟩
  · exact ⟨⟨[r], rfl⟩, rfl⟩

/-! ## The DROPPED record -/

/-- A slice that owes a DROPPED record and has room for it writes that one record, a severe one; otherwise nothing changes. -/
theorem State.dropped_slice (s : State) (d : Nat) :
    (s.dropped d).slice d = s.slice d ∨
      ∃ q : BookRec, severe q.type = true ∧ (s.dropped d).slice d = { (s.slice d).holdRecord q with dropSev := 0, dropRou := 0 } := by
  unfold State.dropped
  dsimp only
  split
  · exact .inr ⟨_, rfl, by rw [State.modSlice_slice, if_pos rfl, State.record_slice, if_pos rfl]⟩
  · exact .inl rfl

theorem State.dropped_of_not_due (h : (s.slice d).dropDue = false) : s.dropped d = s := by
  unfold State.dropped
  simp only [h, Bool.false_eq_true, if_false]

@[simp] theorem State.dropped_book (s : State) (d : Nat) : (s.dropped d).book = s.book := by
  unfold State.dropped
  dsimp only
  split <;> simp

/-- The DROPPED record leaves what the holds hold, and comes behind it. -/
theorem State.dropped_holds (s : State) (d : Nat) :
    (∃ m, ((s.dropped d).slice d).holdSev = (s.slice d).holdSev ++ m) ∧ ((s.dropped d).slice d).holdRou = (s.slice d).holdRou := by
  rcases s.dropped_slice d with same | ⟨q, hq, written⟩
  · rw [same]; exact ⟨⟨[], (List.append_nil _).symm⟩, rfl⟩
  · rw [written]; exact (s.slice d).holdRecord_holds hq

/-- The DROPPED record changes no cause of an interrupt. -/
theorem State.dropped_irqs (s : State) (d : Nat) : ((s.dropped d).slice d).irqs = (s.slice d).irqs := by
  rcases s.dropped_slice d with same | ⟨q, -, written⟩
  · rw [same]
  · rw [written]; exact (s.slice d).holdRecord_irqs q

/-! ## The oldest record of a hold reaches the book -/

/-- The hold of a slice for the records of a ring: 0 severe, 1 routine. -/
def Slice.heldFor (S : Slice) (ring : Nat) : List BookRec := if ring = 0 then S.holdSev else S.holdRou

/-- The slice with the records `l` in its hold for a ring. -/
def Slice.setHeld (S : Slice) (ring : Nat) (l : List BookRec) : Slice := if ring = 0 then { S with holdSev := l } else { S with holdRou := l }

theorem Slice.setHeld_holdSev (S : Slice) (ring : Nat) (l : List BookRec) : (S.setHeld ring l).holdSev = if ring = 0 then l else S.holdSev := by
  unfold Slice.setHeld
  split <;> rfl

theorem Slice.setHeld_holdRou (S : Slice) (ring : Nat) (l : List BookRec) : (S.setHeld ring l).holdRou = if ring = 0 then S.holdRou else l := by
  unfold Slice.setHeld
  split <;> rfl

/-- The book takes the oldest record `r` of a slice's hold, which leaves `l` there. -/
def State.takeHeld (s : State) (d ring : Nat) (r : BookRec) (l : List BookRec) : State :=
  { s.modSlice d (fun S => S.setHeld ring l) with book := s.book.append r }

theorem State.takeHeld_slice (s : State) (d ring : Nat) (r : BookRec) (l : List BookRec) :
    (s.takeHeld d ring r l).slice d = (s.slice d).setHeld ring l :=
  (s.modSlice_slice d d (fun S => S.setHeld ring l)).trans (if_pos rfl)

/-- The book has taken the record, and H0 has been told of one that is marked for notice. -/
def State.noticeHeld (s : State) (d ring : Nat) (r : BookRec) (l : List BookRec) : State :=
  if noticed r.type then (s.takeHeld d ring r l).raise d 0 5 else s.takeHeld d ring r l

theorem State.noticeHeld_book (s : State) (d ring : Nat) (r : BookRec) (l : List BookRec) :
    (s.noticeHeld d ring r l).book = s.book.append r := by
  unfold State.noticeHeld
  split <;> rfl

theorem State.noticeHeld_holds (s : State) (d ring : Nat) (r : BookRec) (l : List BookRec) :
    ((s.noticeHeld d ring r l).slice d).holdSev = (if ring = 0 then l else (s.slice d).holdSev) ∧
      ((s.noticeHeld d ring r l).slice d).holdRou = (if ring = 0 then (s.slice d).holdRou else l) := by
  rw [← Slice.setHeld_holdSev, ← Slice.setHeld_holdRou, ← s.takeHeld_slice d ring r l, State.noticeHeld]
  split
  · rw [State.raise_slice, if_pos rfl]; exact ⟨Slice.raise_holdSev .., Slice.raise_holdRou ..⟩
  · exact ⟨rfl, rfl⟩

section
variable (he : (s.slice d).bookErr = false) (hh : (s.slice d).heldFor ring = r :: l)
include he hh

theorem State.appendOp_held : s.appendOp d ring = (s.noticeHeld d ring r l).dropped d := by
  unfold Slice.heldFor at hh
  simp only [State.appendOp, he, hh]
  rfl

theorem State.appendOp_book : (s.appendOp d ring).book = s.book.append r := by
  rw [State.appendOp_held he hh, State.dropped_book, State.noticeHeld_book]

theorem State.appendOp_holds :
    (∃ m, ((s.appendOp d ring).slice d).holdSev = (if ring = 0 then l else (s.slice d).holdSev) ++ m) ∧
      ((s.appendOp d ring).slice d).holdRou = (if ring = 0 then (s.slice d).holdRou else l) := by
  obtain ⟨sev, rou⟩ := s.noticeHeld_holds d ring r l
  rw [State.appendOp_held he hh, ← sev, ← rou]
  exact (s.noticeHeld d ring r l).dropped_holds d

/-- A record that is marked for notice raises BOOK to H0. -/
theorem State.appendOp_cause (hn : noticed r.type = true) : bit (((s.appendOp d ring).slice d).irq 0).cause 5 = true := by
  rw [State.appendOp_held he hh, Slice.irq, State.dropped_irqs, State.noticeHeld, if_pos hn]
  exact State.raise_cause _ d 0 (by decide)

end

theorem exec_bookAppend (hd : s.hasDie d = true) (hl : s.live d = true) (hr : ring < 2) :
    exec (.bookAppend d ring) s = .next (s.appendOp d ring) :=
  (if_pos (decide_eq_true hr)).trans (State.atDie_next hd hl)

/-! ## A record finds its hold full -/

theorem takeFirst_of_mem {α : Type} {p : α → Bool} {a : α} {l : List α} (ha : a ∈ l) (hp : p a = true) :
    ∃ b rest, takeFirst p l = some (b, rest) ∧ rest.length + 1 = l.length := by
  induction l with
  | nil => nomatch ha
  | cons c l ih =>
    by_cases hc : p c = true
    · exact ⟨c, l, by simp [takeFirst, hc], rfl⟩
    · have tail : a ∈ l := (List.mem_cons.1 ha).resolve_left (fun e => hc (e ▸ hp))
      obtain ⟨b, rest, found, len⟩ := ih tail
      exact ⟨b, c :: rest, by simp [takeFirst, hc, found], by simp [len]⟩

/-- No DROPPED record is due as long as the hold of the dropped record is full, or the book takes none. -/
theorem Slice.dropDue_dropRecord (full : S.bookErr = true ∨ 8 ≤ (S.heldFor ring).length) : (S.dropRecord (ring == 0)).dropDue = false := by
  rcases full with err | full
  · simp [Slice.dropRecord, Slice.dropDue, err]
  · by_cases h0 : ring = 0
    · simp only [Slice.heldFor, h0, if_true] at full
      simp [Slice.dropRecord, Slice.dropDue, h0, full]
    · simp only [Slice.heldFor, h0, if_false] at full
      simp [Slice.dropRecord, Slice.dropDue, h0, full]

/-- A record that finds its hold full is counted as dropped, and leaves those that have found no room. -/
theorem State.recordDropOp_full (hm : (ring == 0) ∈ (s.slice d).noRoom)
    (full : (s.slice d).bookErr = true ∨ 8 ≤ ((s.slice d).heldFor ring).length) :
    ∃ rest, rest.length + 1 = (s.slice d).noRoom.length ∧
      s.recordDropOp d ring = s.modSlice d (fun S => { S with noRoom := rest }.dropRecord (ring == 0)) := by
  obtain ⟨b, rest, found, len⟩ := takeFirst_of_mem (p := fun b => b == (ring == 0)) hm (beq_self_eq_true _)
  refine ⟨rest, len, ?_⟩
  simp only [State.recordDropOp, found]
  apply State.dropped_of_not_due
  rw [State.modSlice_slice, if_pos rfl]
  exact Slice.dropDue_dropRecord full

theorem exec_bookRecordDrop (hd : s.hasDie d = true) (hl : s.live d = true) (hr : ring < 2) :
    exec (.bookRecordDrop d ring) s = .next (s.recordDropOp d ring) :=
  (if_pos (decide_eq_true hr)).trans (State.atDie_next hd hl)

end Sys2Proof.Machine
end

section
/-!
Space-4 accesses: who may read the book, and the bytes that a read returns (spec/11_startup_power_book.md R383).
-/

namespace Sys2Proof.Machine

variable {s : State} {w : Src} {d size k : Nat} {a : Addr} {write : Bool}

/-! ## Offsets and bytes -/

/-- A field from bit 0. -/
theorem bits_zero {n : Nat} (x : BitVec n) (len : Nat) : bits x 0 len = x.toNat % 2 ^ len := rfl

theorem rowByte_ushiftRight (x : RowData) (k i : Nat) : rowByte (x >>> (8 * k)) i = rowByte x (k + i) := by
  apply BitVec.eq_of_getLsbD_eq
  intro j hj
  simp [rowByte, hj, Nat.mul_add, Nat.add_assoc]

theorem rowBytes_take_all (x : RowData) : (rowBytes x).take 64 = rowBytes x := List.take_of_length_le (by simp [rowBytes])

/-- The bytes of a row shifted down by whole bytes are those of the row from there on. -/
theorem rowBytes_ushiftRight_take (x : RowData) {n : Nat} (h : k + n ≤ 64) :
    (rowBytes (x >>> (8 * k))).take n = ((rowBytes x).drop k).take n := by
  apply List.ext_getElem
  · simp [rowBytes]; omega
  · intro i _ _
    simp [rowBytes, rowByte_ushiftRight]

/-! ## The answer -/

/-- What a space-4 access is answered: DECERR outside the book, DEED to a write or to another household than the manager, else the
64 bytes of the book from the address on. -/
def State.bookVerdict (s : State) (w : Src) (a : Addr) (size : Nat) (write : Bool) : Status × RowData :=
  match (if (size = 4 ∧ a.toNat % 4 = 0) ∨ (size = 64 ∧ a.toNat % 64 = 0) then bookPlace a else none) with
  | none => (.decerr, 0)
  | some k => if write || !s.isManager w then (.deed, 0) else (.ok, s.book.unit (k / 64) >>> (8 * (k % 64)))

/-- What a reader sees of a verdict. -/
def bookData (q : Status × RowData) (size : Nat) (write : Bool) : List Byte := if q.1 = .ok ∧ !write then (rowBytes q.2).take size else []

/-- The answer of a verdict: at its port, and to the packet `pk` in which the access came. -/
def State.bookReply (s : State) (pk : Option Packet) (w : Src) (d size : Nat) (write : Bool) (q : Status × RowData) : State :=
  match pk with
  | some p => (s.emit (.bookRead w q.1 (bookData q size write))).answerAt d p.id q.1 (if q.1 = .ok ∧ !write then [q.2] else [])
  | none => s.emit (.bookRead w q.1 (bookData q size write))

theorem State.bookReply_rest (s : State) (pk : Option Packet) (w : Src) (d size : Nat) (write : Bool) (q : Status × RowData) :
    (s.bookReply pk w d size write q).book = s.book ∧
      (s.bookReply pk w d size write q).out = s.out ++ [.bookRead w q.1 (bookData q size write)] := by
  cases pk with
  | none => exact ⟨rfl, rfl⟩
  | some p => exact ⟨rfl, rfl⟩

/-- A space-4 access of a READY slice changes nothing of the book, and is answered its verdict. -/
theorem State.bookSpaceOp_ready (hr : s.ready d = true) :
    (s.bookSpaceOp w d a size write).book = s.book ∧
      (s.bookSpaceOp w d a size write).out =
        s.out ++ [.bookRead w (s.bookVerdict w a size write).1 (bookData (s.bookVerdict w a size write) size write)] := by
  unfold State.bookSpaceOp State.bookVerdict
  rw [if_neg (by simp [hr])]
  generalize (if (size = 4 ∧ a.toNat % 4 = 0) ∨ (size = 64 ∧ a.toNat % 64 = 0) then bookPlace a else none) = place
  cases place with
  | none => exact (s.latchDecerr d a (s.issuer w)).bookReply_rest _ w d size write (.decerr, 0)
  | some k =>
    dsimp only
    split
    · exact s.bookReply_rest _ w d size write (.deed, 0)
    · exact s.bookReply_rest _ w d size write (.ok, s.book.unit (k / 64) >>> (8 * (k % 64)))

theorem exec_bookSpace4Read (hw : s.arrives w) (hd : s.hasDie d = true) (hr : s.ready d = true) (ha : space a = 4) :
    exec (.bookSpace4Read w d a size write) s = .next (s.bookSpaceOp w d a size write) :=
  (State.fromSrc_arrives hw _).trans ((if_pos (beq_iff_eq.2 ha)).trans (State.atDie_next hd (State.live_of_ready hr)))

/-! ## Verdicts -/

theorem bookPlace_inside (h0 : bits a 21 24 = 0) (h : bits a 0 21 < 0x101000) : bookPlace a = some (bits a 0 21) := if_pos ⟨h0, h⟩

theorem bookPlace_outside (h : bits a 21 24 ≠ 0 ∨ 0x101000 ≤ bits a 0 21) : bookPlace a = none := by
  apply if_neg
  omega

theorem State.bookVerdict_outside (h : bits a 21 24 ≠ 0 ∨ 0x101000 ≤ bits a 0 21) : s.bookVerdict w a size write = (.decerr, 0) := by
  simp only [State.bookVerdict, bookPlace_outside h, ite_self]

section
variable (h0 : bits a 21 24 = 0) (h : bits a 0 21 < 0x101000)
  (hs : (size = 4 ∧ a.toNat % 4 = 0) ∨ (size = 64 ∧ a.toNat % 64 = 0))
include h0 h hs

theorem State.bookVerdict_refused (hx : write = true ∨ s.isManager w = false) : s.bookVerdict w a size write = (.deed, 0) := by
  simp only [State.bookVerdict, bookPlace_inside h0 h, if_pos hs]
  exact if_pos (by simpa using hx)

theorem State.bookVerdict_read (hm : s.isManager w = true) :
    s.bookVerdict w a size false = (.ok, s.book.unit (bits a 0 21 / 64) >>> (8 * (bits a 0 21 % 64))) := by
  simp only [State.bookVerdict, bookPlace_inside h0 h, if_pos hs]
  exact if_neg (by simp [hm])

end

end Sys2Proof.Machine
end

section
/-!
The book's records, acknowledges, start words and space-4 accesses as commands (spec/11_startup_power_book.md R378 to R385).
-/

namespace Sys2Proof.Machine

/-- SLC_START is kept in the book. -/
theorem State.startWordOp_manager {s : State} {w : Src} (hm : s.isManager w = true) (d : Nat) (v : Word) :
    s.startWordOp w d v =
      ({ s with book := s.book.update (fun c => { c with start := c.start.set d (BitVec.ofNat 8 (bits v 0 3)) }) }, .ok) := by
  simp [State.startWordOp, hm]

theorem noticed_of_severe {type : Nat} (h : severe type = true) : noticed type = true := by
  unfold severe at h
  simp [noticed, h]

/-- Settles O56. Each command is its operation; a record and an acknowledge are what the book's ring makes of them, a space-4 access is
answered its verdict. -/
theorem bookRecordsAndAccesses : Obligations.BookRecordsAndAccesses := by
  unfold Obligations.BookRecordsAndAccesses
  refine ⟨?append, ?drop, ?writes, ?space⟩
  case append =>
    intro s d r l hd hl he good hg
    refine ⟨fun held hs => ?severe, fun held hs => ?routine⟩
    case severe =>
      have held : (s.slice d).heldFor 0 = r :: l := held
      obtain ⟨⟨m, sev⟩, -⟩ := State.appendOp_holds he held
      obtain ⟨slot, rou, tail, seq, gen, head, ovwr⟩ := Book.append_severe good hg hs
      refine ⟨_, m, exec_bookAppend hd hl (by decide), ?_⟩
      rw [State.appendOp_book he held]
      exact ⟨slot, rou, tail, seq, gen, head, ovwr, sev, State.appendOp_cause he held (noticed_of_severe hs)⟩
    case routine =>
      have held : (s.slice d).heldFor 1 = r :: l := held
      obtain ⟨-, rou⟩ := State.appendOp_holds he held
      obtain ⟨slot, sev, tail, seq, gen, head, ovwr⟩ := Book.append_routine good hg hs
      refine ⟨_, [], exec_bookAppend hd hl (by decide), ?_⟩
      rw [State.appendOp_book he held]
      refine ⟨slot, sev, tail, seq, gen, head, ovwr, rou.trans (List.append_nil l).symm, fun ht => State.appendOp_cause he held ?_⟩
      rcases ht with ht | ht <;> rw [ht] <;> rfl
  case drop =>
    intro s d ring hd hl hr hm full
    obtain ⟨rest, len, dropped⟩ := State.recordDropOp_full hm full
    refine ⟨_, exec_bookRecordDrop hd hl hr, ?_⟩
    rw [dropped, State.modSlice_slice, if_pos rfl]
    refine ⟨rfl, len, rfl, ?_⟩
    by_cases h0 : ring = 0
    · simp [Slice.dropRecord, h0]
    · simp [Slice.dropRecord, h0]
  case writes =>
    intro s w d v hm good hg
    refine ⟨fun ht => ?ack, fun ht => ?start⟩
    case ack =>
      obtain ⟨sev, rou⟩ := s.book.ack_slots (bit v 16) (bits v 0 14)
      obtain ⟨sevTail, rouTail⟩ := Book.ack_tails good hg (bit v 16) (bits v 0 14)
      refine ⟨_, State.sliceReg_now_of_eq ht (State.bookAckOp_manager hm d v), rfl, sev, rou, sevTail, rouTail,
        fun h16 hh => ?_, fun h16 hh => ?_⟩
      · rw [h16]; exact Book.ack_severe good hg _ hh
      · rw [h16]; exact Book.ack_routine good hg _ hh
    case start =>
      refine ⟨_, State.sliceReg_now_of_eq ht (State.startWordOp_manager hm d v), ?_, fun e hne => ?_, rfl⟩
      · exact (Book.update_startOf good hg ..).trans (if_pos rfl)
      · exact (Book.update_startOf good hg ..).trans (if_neg hne.symm)
  case space =>
    intro s w d a size write hw hd hr ha
    obtain ⟨book, out⟩ := State.bookSpaceOp_ready (w := w) (a := a) (size := size) (write := write) hr
    refine ⟨_, exec_bookSpace4Read hw hd hr ha, book, fun h0 h => ⟨?unit, ?word, ?refused⟩, fun h => ?outside⟩
    case unit =>
      rintro rfl al rfl hm
      have aligned : bits a 0 21 % 64 = 0 := by rw [bits_zero]; omega
      rw [out, State.bookVerdict_read h0 h (.inr ⟨rfl, al⟩) hm, aligned]
      simp [bookData, rowBytes_take_all]
    case word =>
      rintro rfl al rfl hm
      have inside : bits a 0 21 % 64 + 4 ≤ 64 := by rw [bits_zero]; omega
      rw [out, State.bookVerdict_read h0 h (.inl ⟨rfl, al⟩) hm]
      simp [bookData, rowBytes_ushiftRight_take _ inside]
    case refused =>
      intro hs hx
      rw [out, State.bookVerdict_refused h0 h hs.symm hx]
      rfl
    case outside =>
      rw [out, State.bookVerdict_outside h]
      rfl

end Sys2Proof.Machine
end

section
/-!
What every command keeps, whatever its operands: it goes on, and it leaves the queue, the package and the canonical form of the banks; one
that stores nothing in a bank leaves the banks as well.
-/

namespace Sys2Proof.Machine

variable {s r : State}

/-! ## Commands go on -/

theorem goesOn_next : goesOn (.next r) := ⟨r, rfl⟩

theorem goesOn_ite {c : Prop} [Decidable c] {a b : Result} (ha : goesOn a) (hb : goesOn b) : goesOn (if c then a else b) := by
  split <;> assumption

theorem State.named_goesOn {b : Bool} {x : Result} (h : goesOn x) : goesOn (s.named b x) := goesOn_ite h goesOn_next

theorem State.fromSrc_goesOn {w : Src} {x : Result} (h : goesOn x) : goesOn (s.fromSrc w x) := by
  cases w with
  | sc t => exact goesOn_ite h goesOn_next
  | st t n => exact goesOn_ite h goesOn_next
  | host d fn => exact goesOn_ite goesOn_next (goesOn_ite goesOn_next h)

theorem State.tileReg_goesOn {w : Src} {tile off : Nat} {v : Word} {x : RegRes} : goesOn (s.tileReg w tile off v x) :=
  State.fromSrc_goesOn goesOn_next

theorem State.sliceReg_goesOn {w : Src} {d off : Nat} {v : Word} {x : RegRes} : goesOn (s.sliceReg w d off v x) :=
  State.fromSrc_goesOn goesOn_next

theorem execBankRequest_goesOn (tile : Nat) (rq : BankReq) (s : State) : goesOn (execBankRequest tile rq s) := by
  cases rq with
  | nw id => exact goesOn_next
  | core => exact goesOn_ite goesOn_next (goesOn_ite goesOn_next (goesOn_ite goesOn_next goesOn_next))

/-- No command stops the machine: an event is one of a place that may be absent, a register write one of a source that may be. -/
theorem exec_goesOn (c : Instr) (s : State) : goesOn (exec c s) := by
  cases c with
  | bankRequest tile rq => exact execBankRequest_goesOn tile rq s
  | narrowWrite => exact goesOn_ite goesOn_next (goesOn_ite goesOn_next (goesOn_ite goesOn_next goesOn_next))
  | defaultTarget | registerBusAccess | registerWrite => exact State.fromSrc_goesOn goesOn_next
  | bookSpace4Read => exact State.fromSrc_goesOn (State.named_goesOn goesOn_next)
  | srst | forceLapse | sliceRotateGo | decerrRearm | bind | unbind | unboundClr | captureEnWrite | bookAck | startWordWrite
  | read | mapadd | mapclear | init => exact State.sliceReg_goesOn
  | titheWrite | routeWrite | reassignment | cringEnWrite | retry | cringHeadWrite | irqEnableWrite =>
    exact State.named_goesOn State.sliceReg_goesOn
  | commonsWrite | rotateGo | retireBank | sweep | remapWrite | lockAcquire | lockRelease | quarRelease | wdogIntervalWrite
  | writepar | readraw | check | marchCMinus | transparentMarch => exact State.tileReg_goesOn
  | deedWrite | en | dringTailWrite | gateOpen | gateClose | tallyWrite | tallyModeWrite | bellArriveWrite | bellForce
  | endpointOpen | endpointClose | remapRowWrite | arm | go | resume | skip | abort => exact State.named_goesOn State.tileReg_goesOn
  | bridgeSlotAdmit | titheTokenAdd | extControllerReadyChange | stripeSend | stripeReceived | stripeNak | stripeAck | linkDown
  | hostRequest | doorbellArrival | doorbellRelease | doorstepWrite | completionRecordWrite | completionRecordFail | bookAppend
  | bookRecordDrop | watchdogBite | watchdogLockBite | gateClosedDone | gateForcedClose | descriptorFetched | burstIssue
  | descriptorComplete | channelHalt | nop | copy | gather | scatter | multicast | convert | fill | regwrite | waitt | signal
  | slotFilled | slotRingResample | ringProbeRetry | mcCredit | mcStall | add | waitGe | waitDec | dec | arrive | waitBell
  | arriveWait | send | recv | pop => exact State.named_goesOn goesOn_next
  | _ => exact goesOn_next

/-! ## What commands keep -/

/-- Every command keeps the package, the queue and the canonical form of the banks, and one that stores nothing in a bank the banks. -/
theorem exec_keeps : ∀ (c : Instr) (s : State), s.KeepsR (!reachesBanks c) (exec c s)
  | .supplyGood .., _ => execSupplyGood_keeps State.keeps_refl
  | .settlingDelayExpiry .., _ => execSettlingDelayExpiry_keeps State.keeps_refl
  | .bookCheck .., _ => execBookCheck_keeps State.keeps_refl
  | .repairMapLoad .., _ => execRepairMapLoad_keeps State.keeps_refl
  | .startupInitialState .., _ => execStartupInitialState_keeps State.keeps_refl
  | .sliceReset .., _ => execSliceReset_keeps State.keeps_refl
  | .supplyReset .., _ => execSupplyReset_keeps State.keeps_refl
  | .srst .., _ => execSrst_keeps State.keeps_refl
  | .diePowerOff .., _ => execDiePowerOff_keeps State.keeps_refl
  | .linkTraining .., _ => execLinkTraining_keeps State.keeps_refl
  | .monitorCrossing .., _ => execMonitorCrossing_keeps State.keeps_refl
  | .forceLapse .., _ => execForceLapse_keeps State.keeps_refl
  | .lapseEnd .., _ => execLapseEnd_keeps State.keeps_refl
  | .bankRequest .., _ => execBankRequest_keeps State.keeps_refl
  | .bankBeat .., _ => execBankBeat_keeps State.keeps_refl
  | .bankReadComplete .., _ => execBankReadComplete_keeps State.keeps_refl
  | .bankWriteCommit .., _ => execBankWriteCommit_keeps State.keeps_refl
  | .narrowWrite .., _ => execNarrowWrite_keeps State.keeps_refl
  | .mergeIdleFlush .., _ => execMergeIdleFlush_keeps State.keeps_refl
  | .mergeFlushCommit .., _ => execMergeFlushCommit_keeps State.keeps_refl
  | .deedWrite .., _ => execDeedWrite_keeps State.keeps_refl
  | .commonsWrite .., _ => execCommonsWrite_keeps State.keeps_refl
  | .deedAdmissionStop .., _ => execDeedAdmissionStop_keeps State.keeps_refl
  | .deedEffectPoint .., _ => execDeedEffectPoint_keeps State.keeps_refl
  | .rotateGo .., _ => execRotateGo_keeps State.keeps_refl
  | .rotationEffectPoint .., _ => execRotationEffectPoint_keeps State.keeps_refl
  | .sliceRotateGo .., _ => execSliceRotateGo_keeps State.keeps_refl
  | .tileRotateRequest .., _ => execTileRotateRequest_keeps State.keeps_refl
  | .sliceRotateDone .., _ => execSliceRotateDone_keeps State.keeps_refl
  | .retireBank .., _ => execRetireBank_keeps State.keeps_refl
  | .sweep .., _ => execSweep_keeps State.keeps_refl
  | .sweepEnd .., _ => execSweepEnd_keeps State.keeps_refl
  | .remapWrite .., _ => execRemapWrite_keeps State.keeps_refl
  | .laneFlit .., _ => execLaneFlit_keeps State.keeps_refl
  | .sliceMatrixGrant .., _ => execSliceMatrixGrant_keeps State.keeps_refl
  | .holdbackRelease .., _ => execHoldbackRelease_keeps State.keeps_refl
  | .bridgeSlotAdmit .., _ => execBridgeSlotAdmit_keeps State.keeps_refl
  | .defaultTarget .., _ => execDefaultTarget_keeps State.keeps_refl
  | .decerrRearm .., _ => execDecerrRearm_keeps State.keeps_refl
  | .registerBusAccess .., _ => execRegisterBusAccess_keeps State.keeps_refl
  | .arbiterDecision .., _ => execArbiterDecision_keeps State.keeps_refl
  | .deadlineAdmission .., _ => execDeadlineAdmission_keeps State.keeps_refl
  | .lockAcquire .., _ => execLockAcquire_keeps State.keeps_refl
  | .lockRelease .., _ => execLockRelease_keeps State.keeps_refl
  | .coreReset .., _ => execCoreReset_keeps State.keeps_refl
  | .coreResetNotice .., _ => execCoreResetNotice_keeps State.keeps_refl
  | .watchdogBite .., _ => execWatchdogBite_keeps State.keeps_refl
  | .watchdogLockBite .., _ => execWatchdogLockBite_keeps State.keeps_refl
  | .quarRelease .., _ => execQuarRelease_keeps State.keeps_refl
  | .wdogIntervalWrite .., _ => execWdogIntervalWrite_keeps State.keeps_refl
  | .en .., _ => execEn_keeps State.keeps_refl
  | .arm .., _ => execArm_keeps State.keeps_refl
  | .go .., _ => execGo_keeps State.keeps_refl
  | .resume .., _ => execResume_keeps State.keeps_refl
  | .skip .., _ => execSkip_keeps State.keeps_refl
  | .abort .., _ => execAbort_keeps State.keeps_refl
  | .dringTailWrite .., _ => execDringTailWrite_keeps State.keeps_refl
  | .descriptorFetched .., _ => execDescriptorFetched_keeps State.keeps_refl
  | .burstSelect .., _ => execBurstSelect_keeps State.keeps_refl
  | .burstIssue .., _ => execBurstIssue_keeps State.keeps_refl
  | .windowLookupReturn .., _ => execWindowLookupReturn_keeps State.keeps_refl
  | .remoteResponse .., _ => execRemoteResponse_keeps State.keeps_refl
  | .readbackReturn .., _ => execReadbackReturn_keeps State.keeps_refl
  | .descriptorComplete .., _ => execDescriptorComplete_keeps State.keeps_refl
  | .channelHalt .., _ => execChannelHalt_keeps State.keeps_refl
  | .nop .., _ => execNop_keeps State.keeps_refl
  | .copy .., _ => execCopy_keeps State.keeps_refl
  | .gather .., _ => execGather_keeps State.keeps_refl
  | .scatter .., _ => execScatter_keeps State.keeps_refl
  | .multicast .., _ => execMulticast_keeps State.keeps_refl
  | .convert .., _ => execConvert_keeps State.keeps_refl
  | .fill .., _ => execFill_keeps State.keeps_refl
  | .regwrite .., _ => execRegwrite_keeps State.keeps_refl
  | .waitt .., _ => execWaitt_keeps State.keeps_refl
  | .signal .., _ => execSignal_keeps State.keeps_refl
  | .indexReadReturn .., _ => execIndexReadReturn_keeps State.keeps_refl
  | .slotFilled .., _ => execSlotFilled_keeps State.keeps_refl
  | .slotRingResample .., _ => execSlotRingResample_keeps State.keeps_refl
  | .ringProbe .., _ => execRingProbe_keeps State.keeps_refl
  | .ringProbeRetry .., _ => execRingProbeRetry_keeps State.keeps_refl
  | .slotReadback .., _ => execSlotReadback_keeps State.keeps_refl
  | .mcCredit .., _ => execMcCredit_keeps State.keeps_refl
  | .mcReadback .., _ => execMcReadback_keeps State.keeps_refl
  | .mcStall .., _ => execMcStall_keeps State.keeps_refl
  | .extRequest .., _ => execExtRequest_keeps State.keeps_refl
  | .extResponse .., _ => execExtResponse_keeps State.keeps_refl
  | .titheTokenAdd .., _ => execTitheTokenAdd_keeps State.keeps_refl
  | .titheWrite .., _ => execTitheWrite_keeps State.keeps_refl
  | .extControllerReadyChange .., _ => execExtControllerReadyChange_keeps State.keeps_refl
  | .stripeSend .., _ => execStripeSend_keeps State.keeps_refl
  | .stripeReceived .., _ => execStripeReceived_keeps State.keeps_refl
  | .stripeNak .., _ => execStripeNak_keeps State.keeps_refl
  | .stripeAck .., _ => execStripeAck_keeps State.keeps_refl
  | .linkDown .., _ => execLinkDown_keeps State.keeps_refl
  | .linkDownNotice .., _ => execLinkDownNotice_keeps State.keeps_refl
  | .ringRoute .., _ => execRingRoute_keeps State.keeps_refl
  | .routeWrite .., _ => execRouteWrite_keeps State.keeps_refl
  | .nwRequest .., _ => execNwRequest_keeps State.keeps_refl
  | .gateOpen .., _ => execGateOpen_keeps State.keeps_refl
  | .gateClose .., _ => execGateClose_keeps State.keeps_refl
  | .gateClosedDone .., _ => execGateClosedDone_keeps State.keeps_refl
  | .gateForcedClose .., _ => execGateForcedClose_keeps State.keeps_refl
  | .add .., _ => execAdd_keeps State.keeps_refl
  | .waitGe .., _ => execWaitGe_keeps State.keeps_refl
  | .waitDec .., _ => execWaitDec_keeps State.keeps_refl
  | .dec .., _ => execDec_keeps State.keeps_refl
  | .fence .., _ => execFence_keeps State.keeps_refl
  | .fenceEnd .., _ => execFenceEnd_keeps State.keeps_refl
  | .arrive .., _ => execArrive_keeps State.keeps_refl
  | .waitBell .., _ => execWaitBell_keeps State.keeps_refl
  | .arriveWait .., _ => execArriveWait_keeps State.keeps_refl
  | .tallyBoundary .., _ => execTallyBoundary_keeps State.keeps_refl
  | .tallyWrite .., _ => execTallyWrite_keeps State.keeps_refl
  | .tallyModeWrite .., _ => execTallyModeWrite_keeps State.keeps_refl
  | .bellArriveWrite .., _ => execBellArriveWrite_keeps State.keeps_refl
  | .bellForce .., _ => execBellForce_keeps State.keeps_refl
  | .still .., _ => execStill_keeps State.keeps_refl
  | .send .., _ => execSend_keeps State.keeps_refl
  | .messageArrival .., _ => execMessageArrival_keeps State.keeps_refl
  | .sendRetry .., _ => execSendRetry_keeps State.keeps_refl
  | .sendStatus .., _ => execSendStatus_keeps State.keeps_refl
  | .recv .., _ => execRecv_keeps State.keeps_refl
  | .pop .., _ => execPop_keeps State.keeps_refl
  | .endpointOpen .., _ => execEndpointOpen_keeps State.keeps_refl
  | .endpointClose .., _ => execEndpointClose_keeps State.keeps_refl
  | .reassignment .., _ => execReassignment_keeps State.keeps_refl
  | .reassignmentComplete .., _ => execReassignmentComplete_keeps State.keeps_refl
  | .bind .., _ => execBind_keeps State.keeps_refl
  | .unbind .., _ => execUnbind_keeps State.keeps_refl
  | .unbindFinish, _ => execUnbindFinish_keeps State.keeps_refl
  | .unboundClr .., _ => execUnboundClr_keeps State.keeps_refl
  | .hostRequest .., _ => execHostRequest_keeps State.keeps_refl
  | .doorbellArrival .., _ => execDoorbellArrival_keeps State.keeps_refl
  | .doorbellRelease .., _ => execDoorbellRelease_keeps State.keeps_refl
  | .doorbellTail .., _ => execDoorbellTail_keeps State.keeps_refl
  | .doorbellGo .., _ => execDoorbellGo_keeps State.keeps_refl
  | .doorstepWrite .., _ => execDoorstepWrite_keeps State.keeps_refl
  | .completionRecordWrite .., _ => execCompletionRecordWrite_keeps State.keeps_refl
  | .completionRecordFail .., _ => execCompletionRecordFail_keeps State.keeps_refl
  | .cringEnWrite .., _ => execCringEnWrite_keeps State.keeps_refl
  | .retry .., _ => execRetry_keeps State.keeps_refl
  | .cringHeadWrite .., _ => execCringHeadWrite_keeps State.keeps_refl
  | .interruptMessage .., _ => execInterruptMessage_keeps State.keeps_refl
  | .irqEnableWrite .., _ => execIrqEnableWrite_keeps State.keeps_refl
  | .captureRecord .., _ => execCaptureRecord_keeps State.keeps_refl
  | .captureRecordWrite .., _ => execCaptureRecordWrite_keeps State.keeps_refl
  | .captureEnWrite .., _ => execCaptureEnWrite_keeps State.keeps_refl
  | .rerunPresent .., _ => execRerunPresent_keeps State.keeps_refl
  | .gleanerBeat .., _ => execGleanerBeat_keeps State.keeps_refl
  | .writepar .., _ => execWritepar_keeps State.keeps_refl
  | .readraw .., _ => execReadraw_keeps State.keeps_refl
  | .check .., _ => execCheck_keeps State.keeps_refl
  | .marchCMinus .., _ => execMarchCMinus_keeps State.keeps_refl
  | .transparentMarch .., _ => execTransparentMarch_keeps State.keeps_refl
  | .marchEnd .., _ => execMarchEnd_keeps State.keeps_refl
  | .remapRowWrite .., _ => execRemapRowWrite_keeps State.keeps_refl
  | .bookAppend .., _ => execBookAppend_keeps State.keeps_refl
  | .bookRecordDrop .., _ => execBookRecordDrop_keeps State.keeps_refl
  | .read .., _ => execRead_keeps State.keeps_refl
  | .mapadd .., _ => execMapadd_keeps State.keeps_refl
  | .mapclear .., _ => execMapclear_keeps State.keeps_refl
  | .init .., _ => execInit_keeps State.keeps_refl
  | .bookCommandEnd .., _ => execBookCommandEnd_keeps State.keeps_refl
  | .bookAck .., _ => execBookAck_keeps State.keeps_refl
  | .bookSpace4Read .., _ => execBookSpace4Read_keeps State.keeps_refl
  | .startWordWrite .., _ => execStartWordWrite_keeps State.keeps_refl
  | .registerWrite .., _ => execRegisterWrite_keeps State.keeps_refl
  | .engineStopped .., _ => execEngineStopped_keeps State.keeps_refl

theorem State.Keeps.canonical {κ : Bool} {t : State} (k : s.Keeps κ t) (h : s.canonical) : t.canonical :=
  ⟨k.mem h.mem, k.poison h.poison, k.valid h.valid⟩

/-! ## The statements -/

/-- Settles O1: by what `step` is in each of the two cases of the queue. -/
theorem stepRunsFrontCommand : Obligations.StepRunsFrontCommand :=
  ⟨fun _ _ _ h => by rw [step, h], fun _ h => by rw [step, h]⟩

/-- Settles O2: nothing has been written, poisoned or marked valid. -/
theorem resetIsCanonical : Obligations.ResetIsCanonical :=
  ⟨List.Pairwise.nil, List.Pairwise.nil, List.Pairwise.nil⟩

/-- Settles O4, by what every command keeps. -/
theorem commandsKeepQueueAndPackage : Obligations.CommandsKeepQueueAndPackage :=
  fun c s t h => ⟨(exec_keeps c s t h).pending, (exec_keeps c s t h).pkg⟩

/-- Settles O5: a step is a command of the queue, which keeps the canonical form, or a tick of the clock. -/
theorem stepKeepsCanonicalForm : Obligations.StepKeepsCanonicalForm := by
  intro s t canon h
  rw [step] at h
  split at h
  next => cases h; exact ⟨canon.mem, canon.poison, canon.valid⟩
  next c rest _ => exact (exec_keeps c _ t h).canonical ⟨canon.mem, canon.poison, canon.valid⟩

/-- Settles O6: every command goes on, by the place or the source that it names. -/
theorem everyCommandGoesOn : Obligations.EveryCommandGoesOn := exec_goesOn

/-- Settles O7, by what every command that stores nothing in a bank keeps. -/
theorem otherCommandsLeaveBanks : Obligations.OtherCommandsLeaveBanks :=
  fun c s t hc h => (exec_keeps c s t h).banks (by rw [hc]; rfl)

end Sys2Proof.Machine
end

section
/-!
Register accesses: the address of a tile register, the turn of an access at the register bus, and what a block that is free makes of it
(spec/04_fabric_arbitration.md R109 to R111; spec/13_registers.md R387).
-/

namespace Sys2Proof.Machine

open Host

/-! ## The address of a tile register -/

section
variable {s : State} {tile off : Nat}

/-- The registers of a tile block are words below 0x1000. -/
theorem tileMapped_lt (h : tileMapped off = true) : off < 0x1000 ∧ off % 4 = 0 := by
  simp only [tileMapped, within, Bool.or_eq_true, Bool.and_eq_true, beq_iff_eq, decide_eq_true_eq] at h
  omega

theorem State.dies_le (s : State) : s.dies ≤ 8 := by
  unfold State.dies
  cases s.pkg <;> decide

theorem State.hasTile_lt (h : s.hasTile tile = true) : tile < 2048 := by
  have := s.dies_le
  simp only [State.hasTile, decide_eq_true_eq] at h
  omega

theorem State.hasDie_lt {d : Nat} (h : s.hasDie d = true) : d < 8 := by
  have := s.dies_le
  simp only [State.hasDie, decide_eq_true_eq] at h
  omega

variable (ht : tile < 2048) (ho : off < 0x1000)
include ht ho

theorem toNat_tileRegAddr : (BitVec.ofNat 48 (tileRegAddr tile off)).toNat = tileRegAddr tile off := by
  rw [BitVec.toNat_ofNat, tileRegAddr]
  omega

theorem space_tileRegAddr : space (BitVec.ofNat 48 (tileRegAddr tile off)) = 2 := by
  rw [space, bits, toNat_tileRegAddr ht ho, tileRegAddr, Nat.shiftRight_eq_div_pow]
  omega

theorem addrTile_tileRegAddr : addrTile (BitVec.ofNat 48 (tileRegAddr tile off)) = tile := by
  rw [addrTile, bits, toNat_tileRegAddr ht ho, tileRegAddr, Nat.shiftRight_eq_div_pow]
  omega

theorem tileRegOff_tileRegAddr : tileRegOff (BitVec.ofNat 48 (tileRegAddr tile off)) = off := by
  rw [tileRegOff, bits, toNat_tileRegAddr ht ho, tileRegAddr, Nat.shiftRight_eq_div_pow]
  omega

theorem addrBitsZero_tileRegAddr : addrBitsZero (BitVec.ofNat 48 (tileRegAddr tile off)) = true := by
  unfold addrBitsZero
  rw [space_tileRegAddr ht ho]
  simp only [bits, toNat_tileRegAddr ht ho, Nat.shiftRight_eq_div_pow, Bool.and_eq_true, beq_iff_eq]
  unfold tileRegAddr
  omega

theorem toNat_tileRegAddr_mod (h4 : off % 4 = 0) : (BitVec.ofNat 48 (tileRegAddr tile off)).toNat % 4 = 0 := by
  rw [toNat_tileRegAddr ht ho, tileRegAddr]
  omega

end

/-- The fabric takes the address of a tile register to the slice of the tile. -/
theorem State.regPlace_tileRegAddr {s : State} {tile off : Nat} (h : s.hasTile tile = true) (ho : off < 0x1000) :
    s.regPlace (BitVec.ofNat 48 (tileRegAddr tile off)) = some (tileDie tile) := by
  have ht := State.hasTile_lt h
  simp [State.regPlace, addrBitsZero_tileRegAddr ht ho, space_tileRegAddr ht ho, addrTile_tileRegAddr ht ho, h]

/-! ## What a block that is free makes of an access -/

section
variable {s t : State} {tile d : Nat} {a : RegAcc} {st : Status} {v : Word}

/-- A register of a tile block that is free takes an access at once, and answers it. -/
theorem State.atTileBlock_free (h : s.tileFree tile) (hm : tileMapped a.off = true) (hx : s.tileAcc tile a = (some (t, some st), v)) :
    s.atTileBlock tile a = t.answerAcc (tileDie tile) (tileRegAddr tile 0) a st v := by
  simp [State.atTileBlock, h.ready, hm, State.acceptAcc, h.given, h.busy, h.first, hx]

/-- A register of a slice block that is free takes an access at once, and answers it. -/
theorem State.atSliceBlock_free (hr : s.ready d = true) (hb : (s.slice d).hhBusy = none) (hm : sliceMapped d a.off = true)
    (hx : s.sliceAcc d a = (some (t, some st), v)) :
    s.atSliceBlock d a = t.answerAcc d (sliceRegAddr d 0) a st v := by
  simp [State.atSliceBlock, hr, hm, State.acceptSliceAcc, hb, hx]

theorem State.answerAcc_local {base : Nat} (hp : a.pkt = none) (hd : a.dropped = false) :
    s.answerAcc d base a st v = s.answerReg a.src (base + a.off) st (if st = .ok then v else 0) := by
  simp [State.answerAcc, hp, hd]

theorem State.answerAcc_bus {base id : Nat} (hp : a.pkt = some id) (hh : a.half = 0) :
    s.answerAcc d base a st v = s.answerAt d id st (if a.write then [] else [(if st = .ok then v else 0).zeroExtend 512]) := by
  simp [State.answerAcc, hp, hh]

end

/-! ## Turns at the register bus -/

section
variable {s t : State} {w : Src} {tile off d : Nat} {write : Bool} {x : BitVec 64} {p : Packet} {st : Status} {v : Word}

/-- A packet whose turn it is carries the access of its source to that address. -/
theorem State.busPkt_carries {a : Addr} (h : s.busPkt w d a write = some p) : s.busHead d = some p ∧ p.addr = a := by
  obtain ⟨hb, hc⟩ := Option.filter_eq_some_iff.1 h
  simp only [State.carries, Bool.and_eq_true, beq_iff_eq] at hc
  exact ⟨hb, hc.1.2⟩

theorem State.readTurn_some {a : Nat} (h : s.readTurn w d a = some p) :
    s.busPkt w d (BitVec.ofNat 48 a) false = some p ∧ p.write = false ∧ p.size = 4 := by
  obtain ⟨hb, hp⟩ := Option.filter_eq_some_iff.1 h
  simp only [Bool.and_eq_true, beq_iff_eq, Bool.not_eq_true'] at hp
  exact ⟨hb, hp.1, hp.2⟩

/-- The access that a four-byte packet asks of a block. -/
def Packet.regAcc (p : Packet) (w : Src) (off : Nat) : RegAcc :=
  { src := w, off := off, value := ((p.data.headD 0).truncate 64).truncate 32, write := p.write, pkt := some p.id }

/-- The register bus hands an access of a tile register to the tile's block when its turn has come. -/
theorem State.busAccess_tile_turn (hf : isLocal w tile = false) (hh : s.hasTile tile = true) (hl : s.live (tileDie tile) = true)
    (ho : off < 0x1000) (hp : s.busPkt w (tileDie tile) (BitVec.ofNat 48 (tileRegAddr tile off)) write = some p) (h4 : p.size = 4) :
    s.busAccess w (BitVec.ofNat 48 (tileRegAddr tile off)) 4 write x = (s.atTileBlock tile (p.regAcc w off)).handed p.id := by
  have ht := State.hasTile_lt hh
  unfold State.busAccess
  rw [if_neg (by simp [addrTile_tileRegAddr ht ho, hf]), State.regPlace_tileRegAddr hh ho]
  simp [hp, hl, State.busPerform, h4, State.regOne,
    (State.busPkt_carries hp).2, space_tileRegAddr ht ho, addrTile_tileRegAddr ht ho, tileRegOff_tileRegAddr ht ho, Packet.regAcc]

/-- The register bus hands an access of a slice register to the slice's block when its turn has come. -/
theorem State.busAccess_slice_turn (hd : s.hasDie d = true) (hl : s.live d = true) (ho : off < 0x10000)
    (hp : s.busPkt w d (BitVec.ofNat 48 (sliceRegAddr d off)) write = some p) (h4 : p.size = 4) :
    s.busAccess w (BitVec.ofNat 48 (sliceRegAddr d off)) 4 write x = (s.atSliceBlock d (p.regAcc w off)).handed p.id := by
  have h8 := State.hasDie_lt hd
  unfold State.busAccess
  rw [if_neg (by simp [space_sliceRegAddr h8 ho]), State.regPlace_sliceRegAddr h8 ho hd]
  simp [hp, hl, State.busPerform, h4, State.regOne, (State.busPkt_carries hp).2, space_sliceRegAddr h8 ho, addrDie_sliceRegAddr h8 ho,
    sliceRegOff_sliceRegAddr h8 ho, Packet.regAcc]

/-- A scalar core reaches its own tile's block by the local path. -/
theorem State.busAccess_local (hh : s.hasTile tile = true) (ho : off < 0x1000) (h4 : off % 4 = 0) :
    s.busAccess (.sc tile) (BitVec.ofNat 48 (tileRegAddr tile off)) 4 write x =
      s.atTileBlock tile { src := .sc tile, off := off, value := x.truncate 32, write := write } := by
  have ht := State.hasTile_lt hh
  have here : isLocal (.sc tile) tile = true := by simp [isLocal, srcTile]
  have size : regSize (.sc tile) (BitVec.ofNat 48 (tileRegAddr tile off)) 4 write = true := by
    simp only [regSize, toNat_tileRegAddr_mod ht ho h4, beq_self_eq_true, Bool.and_true, Bool.true_or]
  unfold State.busAccess
  rw [if_pos (by simp [space_tileRegAddr ht ho, addrTile_tileRegAddr ht ho, here, addrBitsZero_tileRegAddr ht ho, size])]
  simp [State.regOne, space_tileRegAddr ht ho, addrTile_tileRegAddr ht ho, tileRegOff_tileRegAddr ht ho]

theorem exec_registerBusAccess {a : Addr} {size : Nat} (h : s.arrives w) :
    exec (.registerBusAccess w a size write x) s = .next (s.busAccess w a size write x) := State.fromSrc_arrives h _

theorem exec_registerWrite {a : Addr} (h : s.arrives w) :
    exec (.registerWrite w a v) s = .next (s.busAccess w a 4 true (v.zeroExtend 64)) := State.fromSrc_arrives h _

/-- An access at a tile's block whose turn has come at the register bus, performed and answered with its response. -/
theorem State.busAccess_tile_answer (hf : isLocal w tile = false) (hh : s.hasTile tile = true) (h : s.tileFree tile)
    (hm : tileMapped off = true) (hp : s.busPkt w (tileDie tile) (BitVec.ofNat 48 (tileRegAddr tile off)) write = some p) (h4 : p.size = 4)
    (hx : s.tileAcc tile (p.regAcc w off) = (some (t, some st), v)) :
    s.busAccess w (BitVec.ofNat 48 (tileRegAddr tile off)) 4 write x =
      t.answerAt (tileDie tile) p.id st (if p.write then [] else [(if st = .ok then v else 0).zeroExtend 512]) := by
  rw [State.busAccess_tile_turn hf hh (State.live_of_ready h.ready) (tileMapped_lt hm).1 hp h4, State.atTileBlock_free (a := p.regAcc w off) h hm hx,
    State.answerAcc_bus (a := p.regAcc w off) rfl rfl, State.answerAt_handed]
  rfl

end

/-! ## Parties without rights -/

section
variable {s : State} {w : Src} {tile : Nat} (h : ∀ k, s.hhOf w = some k → k ≠ 0 ∧ k ≠ (s.tile tile).hh)
include h

theorem State.mayWrite_foreign (r : Right) : s.mayWrite r w tile = false := by
  unfold State.mayWrite
  cases e : s.hhOf w with
  | none => rfl
  | some k => obtain ⟨h0, hk⟩ := h k e; cases r <;> simp [h0, hk]

/-- A party of another household stands at another place. -/
theorem State.isLocal_foreign : isLocal w tile = false := by
  cases w with
  | sc t => by_contra hl; simp only [isLocal, srcTile, Bool.not_eq_false, beq_iff_eq, Option.some.injEq] at hl; subst hl; exact (h _ rfl).2 rfl
  | st t n => by_contra hl; simp only [isLocal, srcTile, Bool.not_eq_false, beq_iff_eq, Option.some.injEq] at hl; subst hl; exact (h _ rfl).2 rfl
  | host d fn => rfl

/-- A foreign party's access to a tile block is answered DEED and changes nothing. -/
theorem State.tileAcc_foreign (a : RegAcc) (hw : a.src = w) : s.tileAcc tile a = (some (s, some .deed), 0) := by
  subst hw
  unfold State.tileAcc
  split
  · rw [State.tileWrite_deny s a.src tile h]
  · rw [if_neg (by simp [State.mayRead, State.mayWrite_foreign h])]; rfl

end

/-- Settles O27: a foreign party comes over the register bus, where its write as its read is answered DEED by a block without rights for it. -/
theorem foreignAccessRefused : Obligations.ForeignAccessRefused := by
  intro s w tile off write x p from' place free foreign _ mapped turn four kind
  rw [exec_registerBusAccess from', State.busAccess_tile_answer (State.isLocal_foreign foreign) place free mapped turn four
    (State.tileAcc_foreign foreign _ rfl), kind]
  simp

end Sys2Proof.Machine
end

section
/-!
Reads over the register bus, accesses that set out to it, and the default target (spec/13_registers.md R387, R392, R393;
spec/04_fabric_arbitration.md R109 to R112, R122 to R124).
-/

namespace Sys2Proof.Machine

open Host

variable {s t : State} {w : Src} {tile off d e : Nat} {a : Addr} {write : Bool} {x : BitVec 64} {p : Packet}

/-! ## Reads -/

theorem State.tileAcc_read (s : State) (tile : Nat) {k : RegAcc} (hk : k.write = false) :
    s.tileAcc tile k = if s.mayRead k.src tile then (some (s.readLook k.off, some .ok), s.tileRead k.src tile k.off)
      else (some (s, some .deed), 0) := by
  simp only [State.tileAcc, hk, Bool.false_eq_true, if_false, RegRes.now]

theorem State.sliceAcc_read (s : State) (d : Nat) {k : RegAcc} (hk : k.write = false) :
    s.sliceAcc d k = if s.sliceMayRead k.src k.off then (some (s, some .ok), s.sliceRead d k.off) else (some (s, some .deed), 0) := by
  simp only [State.sliceAcc, hk, Bool.false_eq_true, if_false, RegRes.now]

theorem tileRegAddr_zero_add (tile off : Nat) : tileRegAddr tile 0 + off = tileRegAddr tile off := by
  unfold tileRegAddr
  rw [Nat.add_zero]

/-- A scalar core's read of its own tile is answered at its port. -/
theorem State.busAccess_local_read (hh : s.hasTile tile = true) (h : s.tileFree tile) (hm : tileMapped off = true) :
    s.busAccess (.sc tile) (BitVec.ofNat 48 (tileRegAddr tile off)) 4 false x =
      if s.mayRead (.sc tile) tile then (s.readLook off).emit (.reg (.sc tile) (tileRegAddr tile off) .ok (s.tileRead (.sc tile) tile off))
      else s.emit (.reg (.sc tile) (tileRegAddr tile off) .deed 0) := by
  obtain ⟨ho, h4⟩ := tileMapped_lt hm
  let k : RegAcc := { src := .sc tile, off := off, value := x.truncate 32, write := false }
  rw [State.busAccess_local hh ho h4]
  by_cases hr : s.mayRead (.sc tile) tile = true
  · rw [State.atTileBlock_free (a := k) h hm ((s.tileAcc_read tile rfl).trans (if_pos hr)), State.answerAcc_local (a := k) rfl rfl, if_pos hr, tileRegAddr_zero_add]
    rfl
  · rw [State.atTileBlock_free (a := k) h hm ((s.tileAcc_read tile rfl).trans (if_neg hr)), State.answerAcc_local (a := k) rfl rfl, if_neg hr, tileRegAddr_zero_add]
    rfl

/-- A read of a tile register that comes over the register bus is answered with its response. -/
theorem State.busAccess_tile_read (hf : isLocal w tile = false) (hh : s.hasTile tile = true) (h : s.tileFree tile)
    (hm : tileMapped off = true) (hp : s.readTurn w (tileDie tile) (tileRegAddr tile off) = some p) :
    s.busAccess w (BitVec.ofNat 48 (tileRegAddr tile off)) 4 false x =
      if s.mayRead w tile then (s.readLook off).answerAt (tileDie tile) p.id .ok [(s.tileRead w tile off).zeroExtend 512]
      else s.answerAt (tileDie tile) p.id .deed [0] := by
  obtain ⟨hb, hw, h4⟩ := State.readTurn_some hp
  by_cases hr : s.mayRead w tile = true
  · rw [State.busAccess_tile_answer hf hh h hm hb h4 ((s.tileAcc_read tile (k := p.regAcc w off) hw).trans (if_pos hr)), hw, if_pos hr]
    rfl
  · rw [State.busAccess_tile_answer hf hh h hm hb h4 ((s.tileAcc_read tile (k := p.regAcc w off) hw).trans (if_neg hr)), hw, if_neg hr]
    simp

/-- A read of a slice register that comes over the register bus is answered with its response. -/
theorem State.busAccess_slice_read (hd : s.hasDie d = true) (hr : s.ready d = true) (hb : (s.slice d).hhBusy = none) (ho : off < 0x10000)
    (hm : sliceMapped d off = true) (hp : s.readTurn w d (sliceRegAddr d off) = some p) :
    s.busAccess w (BitVec.ofNat 48 (sliceRegAddr d off)) 4 false x =
      if s.sliceMayRead w off then s.answerAt d p.id .ok [(s.sliceRead d off).zeroExtend 512] else s.answerAt d p.id .deed [0] := by
  obtain ⟨hbus, hw, h4⟩ := State.readTurn_some hp
  rw [State.busAccess_slice_turn hd (State.live_of_ready hr) ho hbus h4]
  by_cases hy : s.sliceMayRead w off = true
  · rw [State.atSliceBlock_free (a := p.regAcc w off) hr hb hm ((s.sliceAcc_read d hw).trans (if_pos hy)),
      State.answerAcc_bus (a := p.regAcc w off) rfl rfl, State.answerAt_handed, if_pos hy]
    simp [Packet.regAcc, hw]
  · rw [State.atSliceBlock_free (a := p.regAcc w off) hr hb hm ((s.sliceAcc_read d hw).trans (if_neg hy)),
      State.answerAcc_bus (a := p.regAcc w off) rfl rfl, State.answerAt_handed, if_neg hy]
    simp [Packet.regAcc, hw]

/-! ## Accesses that set out -/

/-- An address that the fabric takes to a register block. -/
theorem State.regPlace_eq_some (h : s.regPlace a = some d) :
    addrBitsZero a = true ∧ (space a = 2 ∧ s.hasTile (addrTile a) = true ∧ tileDie (addrTile a) = d ∨
      space a = 3 ∧ s.hasDie (addrDie a) = true ∧ addrDie a = d) := by
  simp only [State.regPlace] at h
  split_ifs at h <;> simp_all

@[simp] theorem State.launch_out (s : State) (p : Packet) : (s.launch p).out = s.out := rfl

theorem State.launch_net (s : State) (p : Packet) :
    (s.launch p).net = s.net ++ [{ p with lapse := if (s.slice p.iss.die).lpActive && p.qos == 7 then [p.iss.die] else p.lapse }] := rfl

/-- A scalar core's access to another place than its own tile block takes the slice matrix. -/
theorem State.busAccess_issue (h : ¬(space a = 2 ∧ addrTile a = tile)) (hr : s.regPlace a = some d) {size : Nat}
    (hb : s.busPkt (.sc tile) d a write = none) : s.busAccess (.sc tile) a size write x = s.issueReg (.sc tile) a size write x := by
  have far : ¬((space a = 2 && isLocal (.sc tile) (addrTile a) && addrBitsZero a && regSize (.sc tile) a size write) = true) := by
    simp only [isLocal, srcTile, Bool.and_eq_true, decide_eq_true_eq, beq_iff_eq, Option.some.injEq]
    exact fun q => h ⟨q.1.1.1, q.1.1.2.symm⟩
  rw [State.busAccess, if_neg far, hr]
  simp only [hb]

/-- An address that names no register block is not the scalar core's own. -/
theorem State.busAccess_nowhere (hh : s.hasTile tile = true) (hr : s.regPlace a = none) {size : Nat} :
    s.busAccess (.sc tile) a size write x = (s.latchDecerr (tileDie tile) a (s.issuer (.sc tile))).answerReg (.sc tile) a.toNat .decerr 0 := by
  have far : ¬((space a = 2 && isLocal (.sc tile) (addrTile a) && addrBitsZero a && regSize (.sc tile) a size write) = true) := by
    simp only [isLocal, srcTile, Bool.and_eq_true, decide_eq_true_eq, beq_iff_eq, Option.some.injEq]
    rintro ⟨⟨⟨h2, ht⟩, h0⟩, -⟩
    subst ht
    simp [State.regPlace, h0, h2, hh] at hr
  rw [State.busAccess, if_neg far, hr]
  simp only [State.issueReg, hr]

/-- A register access that is issued is the newest packet of the network. -/
theorem State.issueReg_sc (hr : s.regPlace a = some d) (h4 : a.toNat % 4 = 0) :
    ∃ (p : Packet), (s.issueReg (.sc tile) a 4 write x).net = s.net ++ [p] ∧ (s.issueReg (.sc tile) a 4 write x).out = s.out ∧
      p.kind = .reg write ∧ p.qos = 6 ∧ p.target = .regs d ∧ p.addr = a ∧ p.iss = s.issuer (.sc tile) ∧ p.resp = none ∧ p.write = write := by
  have size : regSize (.sc tile) a 4 write = true := by simp [regSize, h4]
  simp only [State.issueReg, hr, size, State.launch_net, State.launch_out, State.modTile_net, State.modTile_out]
  refine ⟨_, rfl, trivial, rfl, rfl, rfl, rfl, ?_, rfl, rfl⟩
  simp only [State.newPacket, State.issuer, State.modTile_tile]
  split <;> rfl

/-- Where an address leads is the package's alone. -/
theorem State.regPlace_of_pkg {u : State} (h : u.pkg = s.pkg) (a : Addr) : u.regPlace a = s.regPlace a := by
  have dies : u.dies = s.dies := congrArg Package.dies h
  unfold State.regPlace State.hasTile State.hasDie
  rw [dies]

/-- A host function's register access passes into the slice matrix. -/
theorem State.hostPass_reg {h fn size : Nat} {data : List RowData} (hr : s.regPlace a = some e)
    (hs : size = 4 ∧ a.toNat % 4 = 0 ∨ size = 8 ∧ a.toNat % 8 = 0) :
    s.hostPass d h fn a size write data = s.launch (s.newPacket (hostIssuer d h) (.reg write) 6 (.regs e) a 0 size write data) := by
  have size : ((size == 4 && a.toNat % 4 == 0) || (size == 8 && a.toNat % 8 == 0)) = true := by
    rcases hs with ⟨rfl, h⟩ | ⟨rfl, h⟩ <;> simp [h]
  obtain ⟨h0, ⟨h2, ht, he⟩ | ⟨h3, ht, he⟩⟩ := State.regPlace_eq_some hr
  · subst he
    simp only [State.hostPass, h2, h0, ht, size, Bool.and_self, if_true]
  · subst he
    simp only [State.hostPass, h3, h0, ht, size, Bool.and_self, if_true]

/-- A host function of a READY slice issues its register access; capture takes note of a write. -/
theorem State.issueReg_host {fn h size : Nat} (hd : s.ready d = true) (hf : (s.slice d).hhOfFn fn = some h)
    (hn : (s.slice d).replays h = false) (hr : s.regPlace a = some e)
    (hs : size = 4 ∧ a.toNat % 4 = 0 ∨ size = 8 ∧ a.toNat % 8 = 0) :
    ∃ u p, s.issueReg (.host d fn) a size write x = u ∧ u.net = s.net ++ [p] ∧ u.out = s.out ∧
       p.kind = .reg write ∧ p.qos = 6 ∧ p.target = .regs e ∧ p.addr = a ∧ p.iss.hh = h ∧ p.resp = none := by
  have issue (u : State) (hp : u.pkg = s.pkg) (hu : u.net = s.net) (ho : u.out = s.out) (data : List RowData) :
      ∃ v p, u.hostPass d h fn a size write data = v ∧ v.net = s.net ++ [p] ∧ v.out = s.out ∧
       p.kind = .reg write ∧ p.qos = 6 ∧ p.target = .regs e ∧ p.addr = a ∧ p.iss.hh = h ∧ p.resp = none := by
    rw [State.hostPass_reg ((State.regPlace_of_pkg hp a).trans hr) hs]
    exact ⟨_, _, rfl, by rw [State.launch_net, hu], ho, rfl, rfl, rfl, rfl, rfl, rfl⟩
  simp only [State.issueReg, State.hostRequestOp, hd, Bool.not_true, Bool.false_and, Bool.false_eq_true, if_false, State.fromHost, hf, hn,
    Bool.and_false]
  split
  · obtain ⟨ho, -, -, -, hnet, -, -, -, hpkg⟩ := s.capture_rest d h 3 a.toNat 0
      (((if write then [x.zeroExtend 512] else []).headD 0 : RowData).truncate 64) 0 .ok false []
    exact issue _ hpkg hnet ho _
  · exact issue s rfl rfl rfl _

/-! ## The order of the register bus (R109) -/

theorem argMin_eq_none {α : Type} {f : α → Nat} {l : List α} (h : argMin f l = none) : l = [] := by
  cases l with
  | nil => rfl
  | cons b l =>
    rw [argMin] at h
    split at h
    · cases h
    · split_ifs at h

/-- The least element of a list. -/
theorem argMin_eq_some {α : Type} {f : α → Nat} {l : List α} {b : α} (h : argMin f l = some b) : b ∈ l ∧ ∀ c, c ∈ l → f b ≤ f c := by
  induction l generalizing b with
  | nil => cases h
  | cons c l ih =>
    rw [argMin] at h
    split at h
    next hn => cases h; rw [argMin_eq_none hn]; simp
    next k hk =>
      obtain ⟨hmem, hle⟩ := ih hk
      split_ifs at h with hlt <;> cases h
      · exact ⟨.tail _ hmem, fun q hq => by rcases List.mem_cons.1 hq with rfl | hq; exacts [hlt.le, hle q hq]⟩
      · exact ⟨.head _, fun q hq => by rcases List.mem_cons.1 hq with rfl | hq; exacts [le_rfl, (Nat.le_of_not_lt hlt).trans (hle q hq)]⟩

theorem State.busHead_first (h : s.busHead d = some p) :
    p ∈ s.net ∧ p.target = .regs d ∧ ∀ q, q ∈ s.net → q.target = .regs d → q.loc = .arrived → q.resp = none → p.came ≤ q.came := by
  obtain ⟨hmem, hle⟩ := argMin_eq_some h
  simp only [List.mem_filter, Bool.and_eq_true, beq_iff_eq, Option.isNone_iff_eq_none] at hmem hle
  exact ⟨hmem.1, hmem.2.1.1, fun q hq ht hl hr => hle q ⟨hq, ⟨ht, hl⟩, hr⟩⟩

/-! ## DECERR is latched (R124) -/

theorem State.latchDecerr_slice (s : State) (d : Nat) (a : Addr) (i : Issuer) : (s.latchDecerr d a i).slice d = (s.slice d).latchDecerr a i :=
  (s.modSlice_slice d d _).trans (if_pos rfl)

theorem Slice.latchDecerr_free (S : Slice) (a : Addr) (i : Issuer) (h : bit S.decSrc 31 = false) :
    (S.latchDecerr a i).decAddr = a ∧ (S.latchDecerr a i).decSrc = decerrSource i ||| flag 31 true := by
  rw [Slice.latchDecerr, if_neg (by rw [h]; decide)]
  exact ⟨rfl, rfl⟩

theorem Slice.latchDecerr_held (S : Slice) (a : Addr) (i : Issuer) (h : bit S.decSrc 31 = true) :
    (S.latchDecerr a i).decAddr = S.decAddr ∧ (S.latchDecerr a i).decSrc = S.decSrc ||| flag 30 true := by
  rw [Slice.latchDecerr, if_pos h]
  exact ⟨rfl, rfl⟩

/-- What a register answer leaves of the latch. -/
theorem State.answerReg_latch (s : State) (w : Src) (k : Nat) (st : Status) (v : Word) (d : Nat) :
    ((s.answerReg w k st v).slice d).decAddr = (s.slice d).decAddr ∧ ((s.answerReg w k st v).slice d).decSrc = (s.slice d).decSrc := by
  obtain ⟨ts, h⟩ := s.answerReg_slice w k st v d
  rw [h]
  exact ⟨rfl, rfl⟩

/-- The answer of the default target, where the request came from. -/
def State.defaultAnswer (s : State) (w : Src) (a : Addr) : State :=
  match w with
  | .host e fn => s.emit (.hostAnswer e fn .decerr [])
  | _ => s.answerReg w a.toNat .decerr 0

theorem State.defaultOp_undecoded (h : s.decodes w a = false) : s.defaultOp w d a = (s.latchDecerr d a (s.issuer w)).defaultAnswer w a := by
  rw [State.defaultOp, if_neg (by rw [h]; decide)]
  cases w <;> rfl

theorem State.defaultAnswer_latch (s : State) (w : Src) (a : Addr) (d : Nat) :
    ((s.defaultAnswer w a).slice d).decAddr = (s.slice d).decAddr ∧ ((s.defaultAnswer w a).slice d).decSrc = (s.slice d).decSrc := by
  cases w with
  | host e fn => exact ⟨rfl, rfl⟩
  | sc t => exact s.answerReg_latch _ _ _ _ d
  | st t n => exact s.answerReg_latch _ _ _ _ d

theorem State.defaultAnswer_out (s : State) (w : Src) (a : Addr) :
    match w with
    | .host e fn => (s.defaultAnswer w a).out = s.out ++ [Output.hostAnswer e fn .decerr []]
    | _ => (s.defaultAnswer w a).out = s.out ++ [Output.reg w a.toNat .decerr 0] := by
  cases w with
  | host e fn => rfl
  | sc t => exact (s.answerReg_rest (.sc t) _ _ _).1
  | st t n => exact (s.answerReg_rest (.st t n) _ _ _).1

theorem State.defaultAnswer_mem (s : State) (w : Src) (a : Addr) : (s.defaultAnswer w a).mem = s.mem := by
  cases w with
  | host e fn => rfl
  | sc t => exact (s.answerReg_rest (.sc t) _ _ _).2.1
  | st t n => exact (s.answerReg_rest (.st t n) _ _ _).2.1

theorem exec_defaultTarget (h : s.arrives w) (hd : s.hasDie d = true) (hl : s.live d = true) (hn : s.decodes w a = false) :
    exec (.defaultTarget w d a) s = .next ((s.latchDecerr d a (s.issuer w)).defaultAnswer w a) :=
  (State.fromSrc_arrives h _).trans ((State.atDie_next hd hl).trans (by rw [State.defaultOp_undecoded hn]))

end Sys2Proof.Machine
end

section
/-!
The statements about register accesses and the default target.
-/

namespace Sys2Proof.Machine

open Host

/-- Settles O25: the default target latches, or marks MULTI, and answers; SLC_DECERR_SRC is a register of the manager. -/
theorem defaultTargetAnswersDecerr : Obligations.DefaultTargetAnswersDecerr := by
  refine ⟨fun s w d a from' hd hl undecoded => ?_, fun s w d v takes manager => ?_⟩
  · refine ⟨_, exec_defaultTarget from' hd hl undecoded, State.defaultAnswer_mem _ w a, State.defaultAnswer_out _ w a, ?_, ?_⟩
    · intro free
      rw [(State.defaultAnswer_latch _ w a d).1, (State.defaultAnswer_latch _ w a d).2, State.latchDecerr_slice]
      exact Slice.latchDecerr_free _ a _ free
    · intro held
      rw [(State.defaultAnswer_latch _ w a d).1, (State.defaultAnswer_latch _ w a d).2, State.latchDecerr_slice]
      exact Slice.latchDecerr_held _ a _ held
  · refine State.sliceReg_now_of_eq takes ?_
    rw [State.rearmOp, State.sliceM, if_neg (by rw [manager]; decide)]
    split <;> rfl

/-- Settles O26: a read is the block's answer to its party, a scalar core's over the local path and any other in its turn at the bus; an access
of another place is a packet, or DECERR where the fabric has no block for it. -/
theorem registerReads : Obligations.RegisterReads := by
  refine ⟨⟨?own, ?tile, ?slice⟩, ?core, ?host, ?nowhere, ?order⟩
  case own =>
    intro s tile off x from' free _ mapped
    rw [exec_registerBusAccess from', State.busAccess_local_read from'.1 free mapped]
    rfl
  case tile =>
    intro s w tile off x p from' place free far _ mapped turn
    rw [exec_registerBusAccess from', State.busAccess_tile_read far place free mapped turn]
    rfl
  case slice =>
    intro s w d off x p from' place ready busy ho mapped turn
    rw [exec_registerBusAccess from', State.busAccess_slice_read place ready busy ho mapped turn]
  case core =>
    rintro s t d size a write x from' place far rfl aligned first
    obtain ⟨p, h⟩ := State.issueReg_sc (tile := t) (write := write) (x := x) place aligned
    exact ⟨_, p, (exec_registerBusAccess from').trans (by rw [State.busAccess_issue far place first]), h⟩
  case host =>
    intro s d fn h e a size write x hd ready fnOf live place sized first
    have from' : s.arrives (.host d fn) := ⟨hd, State.live_of_ready ready, by rw [State.hhOf, fnOf]; rfl⟩
    obtain ⟨u, p, hu, hp⟩ := State.issueReg_host (write := write) (x := x) ready fnOf live place sized
    refine ⟨u, p, (exec_registerBusAccess from').trans ?_, hp⟩
    unfold State.busAccess
    rw [if_neg (by simp [isLocal, srcTile]), place]
    simp only [first, hu]
  case nowhere =>
    intro s t size a write x from' nowhere
    refine ⟨_, (exec_registerBusAccess from').trans (by rw [State.busAccess_nowhere from'.1 nowhere]), ?_, ?_, fun free => ?_⟩
    · exact (State.answerReg_rest _ _ _ _ _).2.2.2.2.1
    · exact (State.answerReg_rest _ _ _ _ _).1
    · rw [(State.answerReg_latch _ _ _ _ _ _).1, State.latchDecerr_slice]
      exact (Slice.latchDecerr_free _ a _ free).1
  case order => exact fun s d w a write p h => State.busHead_first (State.busPkt_carries h).1

end Sys2Proof.Machine
end

section
/-!
REGISTER_WRITE of a tile register that its block takes, and the registers without a command of their own (spec/13_registers.md R387, R400).
-/

namespace Sys2Proof.Machine

open Host

variable {s t : State} {w : Src} {tile off d : Nat} {v : Word} {st : Status}

theorem State.tileTakes.free (h : s.tileTakes w tile off v) : s.tileFree tile := ⟨h.ready, h.given, h.busy, h.first⟩

theorem State.tileAcc_write {k : RegAcc} (hk : k.write = true) {r : RegRes} (hw : s.tileWrite k.src tile k.off k.value = r) :
    s.tileAcc tile k = (r, 0) := by
  simp only [State.tileAcc, hk, if_true, hw]

/-- REGISTER_WRITE of a mapped tile register whose block takes it: performed and answered. -/
theorem exec_registerWrite_tile (hh : s.hasTile tile = true) (h : s.tileTakes w tile off v) (hw : isLocal w tile = true → ∃ u, w = .sc u)
    (hm : tileMapped off = true) (ht : s.tileWrite w tile off v = some (t, some st)) :
    exec (.registerWrite w (BitVec.ofNat 48 (tileRegAddr tile off)) v) s = .next (s.answered t w tile off v st) := by
  rw [exec_registerWrite h.source]
  by_cases hl : isLocal w tile = true
  · obtain ⟨u, rfl⟩ := hw hl
    obtain rfl : u = tile := by simpa [isLocal, srcTile] using hl
    have value : (v.zeroExtend 64).truncate 32 = v := by simp
    let k : RegAcc := { src := .sc u, off := off, value := v, write := true }
    rw [State.busAccess_local hh (tileMapped_lt hm).1 (tileMapped_lt hm).2, value,
      State.atTileBlock_free (a := k) h.free hm (State.tileAcc_write rfl ht), State.answerAcc_local (a := k) rfl rfl, tileRegAddr_zero_add]
    simp [State.answered, State.tileTurn, hl, k]
  · obtain ⟨p, hp⟩ := Option.isSome_iff_exists.1 (h.path.resolve_left hl)
    obtain ⟨-, hwrite, hsize, hdata⟩ := State.turn_carries hp
    have value : (p.regAcc w off).value = v := by
      change ((p.data.headD 0).truncate 64).truncate 32 = v
      rw [← hdata]
      exact BitVec.setWidth_setWidth_of_le _ (by decide)
    have far : isLocal w tile = false := by simpa using hl
    rw [State.busAccess_tile_answer far hh h.free hm (State.turn_some hp).1 hsize
      (State.tileAcc_write (k := p.regAcc w off) hwrite (by rw [value]; exact ht)), hwrite]
    simp [State.answered, State.tileTurn, far, hp]

/-! ## The registers -/

theorem ofNat_bits_truncate (v : Word) : BitVec.ofNat 16 (bits v 0 16) = v.truncate 16 := by
  apply BitVec.eq_of_toNat_eq
  simp [bits]

/-- TL_PRIO, TL_ROTATE_A, TL_ROTATE_B, TL_CONF and TL_DEEDFLT. -/
def plainTileReg (off : Nat) : Prop :=
  off = 0x084 ∨ off = 0x088 ∨ off = 0x08C ∨ (∃ i, i < 6 ∧ off = 0x0C0 + 4 * i) ∨ off = 0x0E0

/-- What a tile holds after a write to one of them. -/
def Tile.storePlain (T : Tile) (off : Nat) (v : Word) : Tile :=
  if off = 0x084 then { T with prio := v &&& 0x3FFF8 } else if off = 0x088 then { T with rotA := v.truncate 16 }
  else if off = 0x08C then { T with rotB := v.truncate 16 } else if off = 0x0E0 then { T with deedFlt := v }
  else { T with conf := T.conf.set ((off - 0x0C0) / 4) v }

theorem plainTileReg.mapped (h : plainTileReg off) : tileMapped off = true := by
  obtain rfl | rfl | rfl | ⟨i, hi, rfl⟩ | rfl := h
  case inr.inr.inr.inl => interval_cases i <;> decide
  all_goals decide

theorem State.tileWrite_conf (s : State) (w : Src) (tile : Nat) (v : Word) {i : Nat} (hi : i < 6) :
    s.tileWrite w tile (0x0C0 + 4 * i) v = RegRes.now (s.confOp w tile i v) := by
  interval_cases i <;> rfl

theorem Tile.storePlain_conf (T : Tile) (v : Word) {i : Nat} (hi : i < 6) :
    T.storePlain (0x0C0 + 4 * i) v = { T with conf := T.conf.set i v } := by
  interval_cases i <;> rfl

/-- A writer with the rights stores its value in one of them. -/
theorem State.tileWrite_plain (hs : s.mayWrite .slgm w tile = true) (hh : s.mayWrite .hm w tile = true) (h : plainTileReg off) :
    s.tileWrite w tile off v = some (s.modTile tile (fun T => T.storePlain off v), some .ok) := by
  obtain rfl | rfl | rfl | ⟨i, hi, rfl⟩ | rfl := h
  · change RegRes.now (s.prioOp w tile v) = _
    simp [State.prioOp, hs, RegRes.now, Tile.storePlain]
  · change RegRes.now (s.rotateMaskOp w tile false v) = _
    simp [State.rotateMaskOp, hs, RegRes.now, Tile.storePlain, ofNat_bits_truncate]
  · change RegRes.now (s.rotateMaskOp w tile true v) = _
    simp [State.rotateMaskOp, hs, RegRes.now, Tile.storePlain, ofNat_bits_truncate]
  · simp [State.tileWrite_conf s w tile v hi, State.confOp, hh, RegRes.now, Tile.storePlain_conf _ v hi]
  · change RegRes.now (s.deedFltOp w tile v) = _
    simp [State.deedFltOp, hh, RegRes.now, Tile.storePlain]

/-- SLC_PARK, the first words of SLC_WIN and SLC_DOORSTEP. -/
def plainSliceReg (off : Nat) : Prop :=
  (∃ i, i < 8 ∧ off = 0x0180 + 4 * i) ∨ (∃ h, h < 16 ∧ off = 0x00C0 + 8 * h) ∨ (∃ k, k < 1024 ∧ off = 0x2000 + 4 * k)

/-- What a slice holds after a write to one of them. -/
def Slice.storePlain (S : Slice) (off : Nat) (v : Word) : Slice :=
  if off < 0x0180 then { S with winLo := S.winLo.set ((off - 0x00C0) / 8) (v &&& 0x7FFFFFC0) }
  else if off < 0x2000 then { S with park := S.park.set ((off - 0x0180) / 4) (v &&& 0x17F) }
  else { S with doorsteps := S.doorsteps.set ((off - 0x2000) / 4) (v &&& 0x8000FFFF) }

theorem plainSliceReg.mapped (h : plainSliceReg off) : off < 2 ^ 16 ∧ sliceMapped d off = true := by
  simp only [sliceMapped, within, Bool.or_eq_true, Bool.and_eq_true, decide_eq_true_eq, beq_iff_eq]
  obtain ⟨i, hi, rfl⟩ | ⟨h, hh, rfl⟩ | ⟨k, hk, rfl⟩ := h <;> omega

/-- SLC_DOORSTEP is the last range of the map that takes writes. -/
theorem State.sliceWrite_doorstep (s : State) (w : Src) (d : Nat) (v : Word) {k : Nat} (hk : k < 1024) :
    s.sliceWrite w d (0x2000 + 4 * k) v =
      RegRes.now (s.sliceM w d (fun S => { S with doorsteps := S.doorsteps.set k (v &&& 0x8000FFFF) })) := by
  have past {lo hi : Nat} (h : hi < 0x2000) : within (0x2000 + 4 * k) lo hi = false := by simp [within]; omega
  have other {c : Nat} (h : c < 0x2000) : 0x2000 + 4 * k ≠ c := by omega
  have here : within (0x2000 + 4 * k) 0x2000 0x2FFC = true := by simp [within]; omega
  simp [State.sliceWrite, past, other, here]

theorem Slice.storePlain_doorstep (S : Slice) (v : Word) (k : Nat) :
    S.storePlain (0x2000 + 4 * k) v = { S with doorsteps := S.doorsteps.set k (v &&& 0x8000FFFF) } := by
  have index : (0x2000 + 4 * k - 0x2000) / 4 = k := by omega
  rw [Slice.storePlain, if_neg (by omega), if_neg (by omega), index]

/-- The manager stores its value in one of them. -/
theorem State.sliceWrite_plain (hm : s.isManager w = true) (h : plainSliceReg off) :
    s.sliceWrite w d off v = some (s.modSlice d (fun S => S.storePlain off v), some .ok) := by
  have byManager (f : Slice → Slice) : RegRes.now (s.sliceM w d f) = some (s.modSlice d f, some .ok) := by
    simp [State.sliceM, hm, RegRes.now]
  obtain ⟨i, hi, rfl⟩ | ⟨h, hh, rfl⟩ | ⟨k, hk, rfl⟩ := h
  · interval_cases i <;> exact byManager _
  · interval_cases h <;> exact byManager _
  · rw [State.sliceWrite_doorstep s w d v hk, byManager]
    simp only [Slice.storePlain_doorstep]

/-- Settles O22: the plain registers of a tile and of a slice store what their writer gives; TL_CTRL is its operation. -/
theorem registerWrites : Obligations.RegisterWrites := by
  refine ⟨fun s w tile off v place takes path hs hh reg => ?_, fun s w d off v place takes manager reg => ?_, fun s w tile v takes => ?_⟩
  · exact exec_registerWrite_tile place takes path (plainTileReg.mapped reg) (State.tileWrite_plain hs hh reg)
  · obtain ⟨ho, mapped⟩ := plainSliceReg.mapped (d := d) reg
    exact exec_registerWrite_slice (State.hasDie_lt place) ho place takes mapped (State.sliceWrite_plain manager reg)
  · have op : RegRes.now (s.ctrlOp w tile v) = some
        (if s.mayWrite .slgm w tile then s.modTile tile (fun T => { T with remap := bit v 0, logLate := bit v 1 }) else s,
          some (if s.mayWrite .slgm w tile then .ok else .deed)) := by
      cases hw : s.mayWrite .slgm w tile <;> simp [State.ctrlOp, hw, RegRes.now]
    exact (congrArg (s.tileReg w tile 0x004 v) op).trans (State.tileReg_now takes)

end Sys2Proof.Machine
end

section
/-!
Registers at reset (spec/13_registers.md R403): what the slices and tiles of `State.reset` hold, and what each range of the two maps reads as.
-/

namespace Sys2Proof.Machine

theorem State.reset_slice (d : Nat) : State.reset.slice d = {} := rfl

theorem State.reset_tile (t : Nat) : State.reset.tile t = {} := rfl

/-! ## Objects at reset -/

theorem Lock.nibble_free (w : Src) (tile : Nat) : (({} : Lock).nibble w tile) = 0 := rfl

theorem Tile.lockWord_free {T : Tile} (h : ∀ b, T.lock b = {}) (w : Src) (tile k : Nat) : T.lockWord w tile k = 0 := by
  simp only [Tile.lockWord, h, Lock.nibble_free]
  rfl

/-- Of a gate only CLOSED_DONE, in the third word, is set. -/
theorem Gate.word_reset (k : Nat) : ({} : Gate).word k = if k = 2 then 0x00020000 else 0 := by
  match k with
  | 0 | 1 | 2 => rfl
  | k + 3 => rfl

theorem Endpoint.word_reset (off : Nat) : ({} : Endpoint).word off = 0 := by
  unfold Endpoint.word
  split <;> rfl

theorem Channel.localRing_reset (tile : Nat) : ({} : Channel).localRing tile = false := by
  have nowhere : (space ({} : Channel).base == 1) = false := by decide
  simp only [Channel.localRing, nowhere, Bool.false_and]

theorem Channel.read_reset (tile off : Nat) : ({} : Channel).read tile off = 0 := by
  simp only [Channel.read, Channel.localRing_reset]
  split <;> rfl

theorem Capture.word_reset (off : Nat) : ({} : Capture).word off = 0 := by
  unfold Capture.word
  split <;> rfl

theorem CRing.word_reset (k : Nat) : ({} : CRing).word k = 0 := by
  unfold CRing.word
  split <;> rfl

theorem Irq.word_reset (k : Nat) : ({} : Irq).word k = 0 := by
  unfold Irq.word
  split <;> rfl

/-- No tile has raised STILL. -/
theorem Slice.allQuiet_reset (h : Nat) : ({} : Slice).allQuiet h = false := by
  have tile (i : Nat) : ({} : Slice).tile i = {} := rfl
  have loud : ∀ T ∈ ((List.range 256).map ({} : Slice).tile).filter (fun T => T.hh == h && T.wmEn), T.wmNow = false := by
    intro T hT
    obtain ⟨i, -, rfl⟩ := List.mem_map.1 (List.mem_filter.1 hT).1
    rw [tile]
  unfold Slice.allQuiet
  generalize ((List.range 256).map ({} : Slice).tile).filter (fun T => T.hh == h && T.wmEn) = l at loud
  cases l with
  | nil => rfl
  | cons T l => simp [loud T (.head _)]

theorem Slice.statusWord_reset : ({} : Slice).statusWord = 0 := by
  simp only [Slice.statusWord, Slice.allQuiet_reset]
  rfl

/-! ## The blocks -/

theorem within_iff {off lo hi : Nat} : within off lo hi = true ↔ lo ≤ off ∧ off ≤ hi ∧ off % 4 = 0 := by
  simp [within, and_assoc]

theorem ofNat_bits_zero {n : Nat} (lo len : Nat) : BitVec.ofNat 32 (bits (0 : BitVec n) lo len) = 0 := by
  simp [bits]

theorem bit_zero {n : Nat} (k : Nat) : bit (0 : BitVec n) k = false := BitVec.getLsbD_zero

theorem Tile.ownerOf_reset (b : Nat) : ({} : Tile).ownerOf b = 0 := rfl
theorem Tile.ep_reset (e : Nat) : ({} : Tile).ep e = {} := rfl
theorem Tile.chan_reset (n : Nat) : ({} : Tile).chan n = {} := rfl
theorem Slice.cring_reset (h : Nat) : ({} : Slice).cring h = {} := rfl
theorem Slice.irq_reset (h : Nat) : ({} : Slice).irq h = {} := rfl
theorem Slice.cap_reset : ({} : Slice).cap = {} := rfl
theorem Slice.rotMask_reset : ({} : Slice).rotMask = 0 := rfl

/-- SLC_HH_BIND is bound for H0 alone. -/
theorem Slice.bindWord_reset {h : Nat} (h0 : h ≠ 0) : (({} : Slice).bind h).word = 0 := by
  have : (({} : Slice).bind h) = {} := by simp [Slice.bind, Tbl.get, h0]
  rw [this]
  rfl

theorem Slice.titheOf_reset (h : Nat) : ({} : Slice).titheOf h = {} := rfl

theorem Tbl.get_nil {α : Type} (d : α) (k : Nat) : Tbl.get d [] k = d := rfl

theorem Slice.tileHhWord_of_hh {S : Slice} (h : ∀ j, (S.tile j).hh = 0) (i : Nat) : S.tileHhWord i = 0 := by
  simp only [Slice.tileHhWord, h]
  decide

theorem zero_ite {c : Prop} [Decidable c] {x y : Word} (hx : c → x = 0) (hy : y = 0) : (if c then x else y) = 0 := by
  split
  case isTrue h => exact hx h
  case isFalse => exact hy

/-- Every register of a tile block reads 0 at reset but TL_ID, the gates, the bells, TL_WM, ST_MC_STALL and TL_WDOG. -/
theorem State.tileRead_reset (w : Src) (tile off : Nat) (h0 : off ≠ 0) (hg : ¬(0x100 ≤ off ∧ off < 0x180)) (hb : ¬(0x300 ≤ off ∧ off < 0x320))
    (hw : off ≠ 0x340) (hs : off ≠ 0x800) (hd : off ≠ 0x904) : State.reset.tileRead w tile off = 0 := by
  unfold State.tileRead
  rw [State.reset_tile]
  dsimp only
  rw [Tile.lockWord_free (fun _ => rfl), Tile.ep_reset, Endpoint.word_reset, Tile.chan_reset, Channel.read_reset,
    ofNat_bits_zero, ofNat_bits_zero, ofNat_bits_zero, bit_zero, Tile.ownerOf_reset]
  repeat' refine zero_ite ?_ ?_
  any_goals (intro h; contradiction)
  any_goals (intro h; have := within_iff.1 h; omega)
  any_goals (intro _; rfl)
  rfl

/-- An offset past a range of the map. -/
theorem within_past {off lo hi : Nat} (h : hi < off) : within off lo hi = false := by
  simp [within]; omega

theorem State.tileRead_gate (s : State) (w : Src) (tile : Nat) {g k : Nat} (hg : g < 8) (hk : k < 4) :
    s.tileRead w tile (0x100 + 16 * g + 4 * k) = ((s.tile tile).gate g).word k := by
  have past {lo hi : Nat} (h : hi < 0x100) : within (0x100 + 16 * g + 4 * k) lo hi = false := within_past (by omega)
  have other {c : Nat} (h : c < 0x100) : 0x100 + 16 * g + 4 * k ≠ c := by omega
  have here : within (0x100 + 16 * g + 4 * k) 0x100 0x17C = true := within_iff.2 (by omega)
  have gate : (0x100 + 16 * g + 4 * k - 0x100) / 16 = g := by omega
  have word : (0x100 + 16 * g + 4 * k) % 16 / 4 = k := by omega
  simp [State.tileRead, past, other, here, gate, word]

theorem State.tileRead_bell (s : State) (w : Src) (tile : Nat) {b : Nat} (hb : b < 8) :
    s.tileRead w tile (0x300 + 4 * b) = ((s.tile tile).bell b).word := by
  have past {lo hi : Nat} (h : hi < 0x300) : within (0x300 + 4 * b) lo hi = false := within_past (by omega)
  have other {c : Nat} (h : c < 0x300) : 0x300 + 4 * b ≠ c := by omega
  have here : within (0x300 + 4 * b) 0x300 0x31C = true := within_iff.2 (by omega)
  simp [State.tileRead, past, other, here]

/-- Every register of a slice block reads 0 at reset but SLC_ID, SLC_CFG, SLC_START, SLC_HH_BIND[0], SLC_ROUTE and the book's words. -/
theorem State.sliceRead_reset (d off : Nat) (h0 : off ≠ 0) (h4 : off ≠ 4) (hs : off ≠ 0x0018) (hb : off ≠ 0x0040)
    (hr : ¬(0x01A0 ≤ off ∧ off < 0x01C0)) (hk : ¬(0x0300 ≤ off ∧ off < 0x0380)) : State.reset.sliceRead d off = 0 := by
  unfold State.sliceRead
  rw [State.reset_slice]
  dsimp only
  rw [Slice.statusWord_reset, Slice.titheOf_reset, Slice.tileHhWord_of_hh (fun _ => rfl), Slice.cring_reset, CRing.word_reset, Slice.irq_reset, Irq.word_reset, Capture.word_reset, ofNat_bits_zero]
  simp only [Tbl.get_nil, Slice.extPort]
  repeat' refine zero_ite ?_ ?_
  any_goals (intro h; contradiction)
  any_goals (intro h; have := within_iff.1 h; omega)
  any_goals (intro h; rw [Slice.bindWord_reset (by have := within_iff.1 h; omega)])
  any_goals (intro _; split <;> rfl)
  any_goals (intro _; rfl)
  rfl

/-- TL_ID names the tile, and household 0. -/
theorem State.tileRead_reset_id (w : Src) (tile : Nat) : State.reset.tileRead w tile 0 = BitVec.ofNat 32 tile := by
  have read : State.reset.tileRead w tile 0 = put 0 tile ||| put 16 (State.reset.tile tile).hh := rfl
  rw [read, State.reset_tile]
  simp [put]

/-- TL_WM: the watchman is enabled, HOSTWAIT set. -/
theorem State.tileRead_reset_wm (w : Src) (tile : Nat) : State.reset.tileRead w tile 0x340 = 0x00000003 := by
  change flag 0 true ||| flag 1 true ||| flag 8 false ||| flag 9 false ||| put 16 0 = _
  decide

/-- SLC_ROUTE: of a YX2 each die has one other, reached over all four links. -/
theorem State.routeWord_reset {d k : Nat} (hd : d < 2) (hk : k < 8) :
    State.reset.routeWord d k = if k = 0 ∧ d = 1 ∨ k = 1 ∧ d = 0 then 0x000000F0 else 0 := by
  interval_cases d <;> interval_cases k <;> decide

theorem State.sliceRead_route (s : State) (d : Nat) {k : Nat} (hk : k < 8) : s.sliceRead d (0x01A0 + 4 * k) = s.routeWord d k := by
  interval_cases k <;> rfl

theorem State.sliceRead_bind0 (d : Nat) : State.reset.sliceRead d 0x0040 = 0x00000100 := by
  have read : State.reset.sliceRead d 0x0040 = ((State.reset.slice d).bind 0).word := rfl
  rw [read, State.reset_slice]
  decide

/-- Settles O3: off the exceptions every range of the map reads 0; the gates, the bells and SLC_ROUTE are ranges of their own. -/
theorem registersAtReset : Obligations.RegistersAtReset := by
  refine ⟨fun w tile off ht ho h4 => ?_, fun d off hd ho h4 h0 hcfg hstart hbook => ?_⟩
  · by_cases hg : 0x100 ≤ off ∧ off < 0x180
    · obtain ⟨g, k, hg8, hk, rfl⟩ : ∃ g k, g < 8 ∧ k < 4 ∧ off = 0x100 + 16 * g + 4 * k :=
        ⟨(off - 0x100) / 16, off % 16 / 4, by omega, by omega, by omega⟩
      rw [State.tileRead_gate _ w tile hg8 hk, State.reset_tile, show ({} : Tile).gate g = {} from rfl, Gate.word_reset,
        if_neg (c := 0x100 + 16 * g + 4 * k = 0) (by omega)]
      by_cases hk2 : k = 2
      · rw [if_pos hk2, if_pos (by omega)]
      · rw [if_neg hk2, if_neg (by omega), if_neg (by omega), if_neg (by omega), if_neg (by omega), if_neg (by omega)]
    by_cases hb : 0x300 ≤ off ∧ off < 0x320
    · obtain ⟨b, hb8, rfl⟩ : ∃ b, b < 8 ∧ off = 0x300 + 4 * b := ⟨(off - 0x300) / 4, by omega, by omega⟩
      rw [State.tileRead_bell _ w tile hb8, State.reset_tile, show ({} : Tile).bell b = {} from rfl, if_neg (by omega), if_neg (by omega),
        if_pos (by omega)]
      decide
    rw [if_neg (c := 0x100 ≤ off ∧ off < 0x180 ∧ off % 16 = 8) (by omega), if_neg hb]
    split_ifs
    case pos => subst off; exact State.tileRead_reset_id w tile
    case pos => subst off; exact State.tileRead_reset_wm w tile
    case pos => subst off; rfl
    case pos => subst off; rfl
    case neg => exact State.tileRead_reset w tile off ‹_› hg hb ‹_› ‹_› ‹_›
  · by_cases hr : 0x01A0 ≤ off ∧ off < 0x01C0
    · obtain ⟨k, hk, rfl⟩ : ∃ k, k < 8 ∧ off = 0x01A0 + 4 * k := ⟨(off - 0x01A0) / 4, by omega, by omega⟩
      rw [State.sliceRead_route _ d hk, State.routeWord_reset hd hk, if_neg (c := 0x01A0 + 4 * k = 0x0040) (by omega)]
      exact if_congr (by omega) rfl rfl
    split_ifs with hbind hroute
    · subst hbind; exact State.sliceRead_bind0 d
    · omega
    · exact State.sliceRead_reset d off h0 hcfg hstart hbind hr hbook

end Sys2Proof.Machine
end

section
/-!
Tables and sets of keys with a range taken out.
-/

namespace Sys2Proof.Machine

/-- No key of the range is listed. -/
theorem Tbl.find_cut {α : Type} (m : Tbl α) {lo hi k : Nat} (hlo : lo ≤ k) (hhi : k < hi) : Tbl.find (m.cut lo hi) k = none := by
  induction m with
  | nil => rfl
  | cons p m ih =>
    obtain ⟨j, a⟩ := p
    by_cases h : j < lo ∨ hi ≤ j
    · rw [Tbl.cut, List.filter_cons_of_pos (by simpa using h), Tbl.find, if_neg (by omega)]; exact ih
    · rw [Tbl.cut, List.filter_cons_of_neg (by simpa using h)]; exact ih

theorem Keys.contains_cut (m : Keys) (lo hi k : Nat) :
    (m.cut lo hi).contains k = (m.contains k && !(decide (lo ≤ k) && decide (k < hi))) := by
  rw [Bool.eq_iff_iff]
  simp only [Keys.cut, List.contains_iff_mem, List.mem_filter, Bool.or_eq_true, Bool.and_eq_true, decide_eq_true_eq, Bool.not_eq_true',
    Bool.and_eq_false_iff, decide_eq_false_iff_not]
  constructor <;> rintro ⟨hk, h⟩ <;> exact ⟨hk, by omega⟩

end Sys2Proof.Machine
end

section
/-!
What the links and locks of a package keep as a die goes down: the book, and of each slice its supply.
-/

namespace Sys2Proof.Machine

variable {s t : State}

/-- The book is the same, and every slice is as powered and stands at the same level. -/
structure State.SuppliedAs (t s : State) : Prop where
  book : t.book = s.book
  power : ∀ e, (t.slice e).power = (s.slice e).power
  mv : ∀ e, (t.slice e).mv = (s.slice e).mv

theorem State.suppliedAs_refl (s : State) : s.SuppliedAs s := ⟨rfl, fun _ => rfl, fun _ => rfl⟩

theorem State.SuppliedAs.trans {u : State} (h : u.SuppliedAs t) (h' : t.SuppliedAs s) : u.SuppliedAs s :=
  ⟨h.book.trans h'.book, fun e => (h.power e).trans (h'.power e), fun e => (h.mv e).trans (h'.mv e)⟩

/-- The network and the identities are no part of it. -/
theorem State.suppliedAs_of_eq (hb : t.book = s.book) (hs : t.slices = s.slices) : t.SuppliedAs s := by
  refine ⟨hb, fun e => ?_, fun e => ?_⟩ <;> rw [State.slice, hs] <;> rfl

theorem State.modSlice_suppliedAs (d : Nat) {f : Slice → Slice} (hp : ∀ S, (f S).power = S.power) (hm : ∀ S, (f S).mv = S.mv) :
    (s.modSlice d f).SuppliedAs s := by
  refine ⟨rfl, fun e => ?_, fun e => ?_⟩ <;> rw [State.modSlice_slice] <;> by_cases h : d = e
  · rw [if_pos h, hp, h]
  · rw [if_neg h]
  · rw [if_pos h, hm, h]
  · rw [if_neg h]

theorem State.foldl_suppliedAs {α : Type} {f : State → α → State} (hf : ∀ t x, (f t x).SuppliedAs t) (l : List α) (s : State) :
    (l.foldl f s).SuppliedAs s := by
  induction l generalizing s with
  | nil => exact s.suppliedAs_refl
  | cons x l ih => exact (ih (f s x)).trans (hf s x)

theorem State.record_suppliedAs (s : State) (d type tile : Nat) (det : BitVec 352) : (s.record d type tile det).SuppliedAs s :=
  (State.modSlice_suppliedAs (s := s.look) d (f := fun S => S.holdRecord (s.look.mkRecord d type tile det)) (fun S => S.holdRecord_power _)
    (fun S => S.holdRecord_mv _)).trans (State.suppliedAs_of_eq rfl rfl)

theorem State.modBridge_suppliedAs (s : State) (d p : Nat) (f : Bridge → Bridge) : (s.modBridge d p f).SuppliedAs s :=
  State.modSlice_suppliedAs d (f := fun S => { S with bridges := S.bridges.set p (f (S.bridge p)) }) (fun _ => rfl) (fun _ => rfl)

theorem State.modTile_suppliedAs (s : State) (g : Nat) (f : Tile → Tile) : (s.modTile g f).SuppliedAs s :=
  State.modSlice_suppliedAs (tileDie g) (f := fun S => S.setTile (g % 256) (f (s.tile g))) (fun _ => rfl) (fun _ => rfl)

theorem State.loseLink_suppliedAs (s : State) (d port : Nat) : (s.loseLink d port).SuppliedAs s := by
  unfold State.loseLink
  exact (State.modBridge_suppliedAs _ _ _ _).trans ((State.modBridge_suppliedAs _ _ _ _).trans (State.suppliedAs_of_eq rfl rfl))

theorem State.linkState_suppliedAs (s : State) (d port : Nat) (up : Bool) (event : Nat) : (s.linkState d port up event).SuppliedAs s := by
  have mark : (s.modSlice d (fun S => { S with linkUp := setBit S.linkUp port up, linkTrain := setBit S.linkTrain port false })).SuppliedAs s :=
    State.modSlice_suppliedAs d (fun _ => rfl) (fun _ => rfl)
  unfold State.linkState
  dsimp only
  split
  · exact (State.record_suppliedAs _ _ _ _ _).trans mark
  · exact mark

theorem State.endRing_suppliedAs (s : State) (d : Nat) : (s.endRing d).SuppliedAs s := by
  unfold State.endRing
  refine State.SuppliedAs.trans (State.foldl_suppliedAs (fun t p => ?_) _ _) (State.suppliedAs_of_eq (s := s) rfl rfl)
  exact State.suppliedAs_of_eq rfl rfl

theorem State.dropLinks_suppliedAs (s : State) (d : Nat) : (s.dropLinks d).SuppliedAs s := by
  unfold State.dropLinks
  dsimp only
  refine (State.foldl_suppliedAs (fun t e => t.endRing_suppliedAs e) _ _).trans ?_
  have down : ((bitsOf (s.slice d).linkUp).foldl (fun s p => s.linkState (peer s.dies d p).1 (peer s.dies d p).2 false 2)
      ((List.range 8).foldl (fun s p => s.loseLink d p) s)).SuppliedAs s :=
    (State.foldl_suppliedAs (fun t p => t.linkState_suppliedAs _ _ _ _) _ _).trans (State.foldl_suppliedAs (fun t p => t.loseLink_suppliedAs d p) _ s)
  split
  · exact down
  · refine State.SuppliedAs.trans (State.foldl_suppliedAs (fun t e => ?_) _ _) down
    split
    · exact t.suppliedAs_refl
    · exact State.modSlice_suppliedAs e (f := fun S => { S with linkNotice := true }) (fun _ => rfl) (fun _ => rfl)

theorem State.breakLock_suppliedAs (s : State) (tile bank cause : Nat) : (s.breakLock tile bank cause).SuppliedAs s := by
  unfold State.breakLock
  dsimp only
  split
  · exact s.suppliedAs_refl
  · exact (State.record_suppliedAs _ _ _ _ _).trans (State.modTile_suppliedAs _ _ _)

theorem State.breakLocks_suppliedAs (s : State) (tile cause : Nat) (p : Holder → Bool) : (s.breakLocks tile cause p).SuppliedAs s := by
  unfold State.breakLocks
  refine State.foldl_suppliedAs (fun t q => ?_) _ s
  exact t.breakLock_suppliedAs tile q.1 cause

/-! ## A die goes down (spec/11_startup_power_book.md R368) -/

/-- The slice of a die that goes down starts again, as powered and at the level it stood; no row of its banks is left as written; the causes
that the book has latched stand. -/
theorem State.slicesDown_outcome (s : State) (d : Nat) :
    (∃ S : Slice, (s.slicesDown d).slice d = S.restart ∧ S.power = (s.slice d).power ∧ S.mv = (s.slice d).mv) ∧
    (s.slicesDown d).book.cause = s.book.cause ∧
    ∀ g b p, tileDie g = d → b < 16 → p < 1040 → Tbl.find (s.slicesDown d).mem (rowKey g b p) = none := by
  have links := s.dropLinks_suppliedAs d
  unfold State.slicesDown
  dsimp only
  generalize he : ({ s.dropLinks d with
    net := _, notices := _, mem := _, poison := _, valid := _, book := _ } : State) = e
  have supply : ∀ e', (e.slice e').power = (s.slice e').power ∧ (e.slice e').mv = (s.slice e').mv := by
    intro e'
    rw [← he]
    exact ⟨links.power e', links.mv e'⟩
  have cause : e.book.cause = s.book.cause := by rw [← he, ← links.book]
  have mem : e.mem = (s.dropLinks d).mem.cut (rowKey (256 * d) 0 0) (rowKey (256 * d + 256) 0 0) := by rw [← he]
  generalize (e.listedTiles.filter (fun t => tileDie t != d && e.live (tileDie t))) = l
  generalize hq : (fun h : Holder => match h with | .core c _ => tileDie c == d | .master _ => false) = q
  have locks := State.foldl_suppliedAs (fun t g => t.breakLocks_suppliedAs g 1 q) l e
  have banks := ((foldl_keeps (fun _ _ h => State.breakLocks_keeps h) State.keeps_refl :
    e.Keeps true (l.foldl (fun t g => t.breakLocks g 1 q) e)).banks rfl).1
  refine ⟨⟨_, by rw [State.modSlice_slice, if_pos rfl], ?_, ?_⟩, ?_, fun g b p hg hb hp => ?_⟩
  · exact (locks.power d).trans (supply d).1
  · exact (locks.mv d).trans (supply d).2
  · exact (congrArg Book.cause locks.book).trans cause
  · rw [State.modSlice_mem, banks, mem]
    simp only [tileDie] at hg
    exact Tbl.find_cut _ (by simp only [rowKey]; omega) (by simp only [rowKey]; omega)

end Sys2Proof.Machine
end

section
/-!
Slice resets: settles O10.
-/

namespace Sys2Proof.Machine

/-- Slice `d` stands before step 1 with its registers at their reset values and no row of its banks as written, at the level it stood. -/
structure State.Restarted (t s : State) (d : Nat) : Prop where
  step : (t.slice d).step = 0
  tiles : (t.slice d).tiles = []
  base : (t.slice d).base = {}
  crings : (t.slice d).crings = []
  irqs : (t.slice d).irqs = []
  mv : (t.slice d).mv = (s.slice d).mv
  rows : ∀ g b p, tileDie g = d → b < 16 → p < 1040 → Tbl.find t.mem (rowKey g b p) = none

theorem State.slicesDown_restarted (s : State) (d : Nat) :
    (s.slicesDown d).Restarted s d ∧ ((s.slicesDown d).slice d).power = (s.slice d).power ∧ (s.slicesDown d).book.cause = s.book.cause := by
  obtain ⟨⟨S, slice, power, mv⟩, cause, rows⟩ := s.slicesDown_outcome d
  refine ⟨⟨?_, ?_, ?_, ?_, ?_, ?_, rows⟩, ?_, cause⟩ <;> rw [slice]
  · rfl
  · rfl
  · rfl
  · rfl
  · rfl
  · exact mv
  · exact power

theorem State.latchCause_slice (s : State) (d cause e : Nat) : (s.latchCause d cause).slice e = s.slice e := by
  unfold State.latchCause; split <;> rfl

theorem State.latchCause_free {s : State} {d cause : Nat} (hc : 1 ≤ cause ∧ cause ≤ 5) (h0 : Tbl.get 0 s.book.cause d = 0) :
    Tbl.get 0 (s.latchCause d cause).book.cause d = cause := by
  rw [State.latchCause, if_pos (by simp [hc, h0])]
  exact (Tbl.get_set _ _ _ _ _).trans (if_pos rfl)

/-- A change of the supply of a slice leaves it restarted. -/
theorem State.Restarted.powered {t s : State} {d : Nat} (h : t.Restarted s d) (p : Bool) :
    (t.modSlice d (fun S => { S with power := p })).Restarted s d := by
  obtain ⟨step, tiles, base, crings, irqs, mv, rows⟩ := h
  refine ⟨?_, ?_, ?_, ?_, ?_, ?_, rows⟩ <;> rw [State.modSlice_slice, if_pos rfl]
  · exact step
  · exact tiles
  · exact base
  · exact crings
  · exact irqs
  · exact mv

/-- A slice reset leaves its slice restarted and powered, with its cause latched. -/
theorem State.resetSlice_outcome {s : State} {d cause : Nat} (h : cause = 1 ∨ (s.slice d).power = true) :
    (s.resetSlice d cause).Restarted s d ∧ ((s.resetSlice d cause).slice d).power = true ∧
      (s.resetSlice d cause).book.cause = (s.latchCause d cause).book.cause := by
  obtain ⟨down, power, latched⟩ := (s.latchCause d cause).slicesDown_restarted d
  have down : ((s.latchCause d cause).slicesDown d).Restarted s d := { down with mv := down.mv.trans (congrArg Slice.mv (s.latchCause_slice ..)) }
  rw [State.latchCause_slice] at power
  by_cases hc : cause = 1
  · subst hc
    exact ⟨down.powered true, by rw [State.resetSlice, if_pos rfl, State.modSlice_slice, if_pos rfl], latched⟩
  · have hp := h.resolve_left hc
    rw [State.resetSlice, if_neg hc, if_pos hp]
    exact ⟨down, power.trans hp, latched⟩

/-- Settles O10: a reset restarts the slice; the causes that ask for more than one slice or for a key are cases of the operations. -/
theorem sliceResets : Obligations.SliceResets := by
  refine ⟨fun s d cause hd hc => ?_, fun s d hd => ?_, fun s d hd hp => ?_, fun s d hd hp => ?_, fun s w d v h => ?_⟩
  · obtain ⟨⟨step, tiles, base, crings, irqs, -, rows⟩, power, latched⟩ := State.resetSlice_outcome (s := s) (d := d) (cause := cause)
      (hc.imp_right And.left)
    have run : s.sliceResetOp d cause = s.resetSlice d cause := by
      rcases hc with rfl | ⟨-, rfl | rfl | ⟨rfl, hs⟩⟩
      · rfl
      · rfl
      · rfl
      · simp [State.sliceResetOp, hs]
    refine ⟨_, (State.atAnyDie_next hd).trans (congrArg Host.Outcome.next run), power, step, tiles, base, crings, irqs, rows, fun h0 => ?_⟩
    rw [latched]
    exact State.latchCause_free (by omega) h0
  · exact State.atAnyDie_next hd
  · let s' := s.modSlice d (fun S => { S with mv := min S.mv 639 })
    have slice : s'.slice d = { s.slice d with mv := min (s.slice d).mv 639 } := (State.modSlice_slice ..).trans (if_pos rfl)
    obtain ⟨⟨step, tiles, -, -, -, mv, -⟩, -, latched⟩ := State.resetSlice_outcome (s := s') (d := d) (cause := 2)
      (.inr (by rw [slice]; exact hp))
    refine ⟨_, State.atAnyDie_next hd, step, tiles, mv.trans_le (by rw [slice]; exact min_le_right _ _), fun h0 => ?_⟩
    exact (congrArg (Tbl.get 0 · d) latched).trans (State.latchCause_free (by omega) h0)
  · obtain ⟨down, -, -⟩ := s.slicesDown_restarted d
    obtain ⟨step, tiles, -⟩ := down.powered false
    have power : (((s.slicesDown d).modSlice d (fun S => { S with power := false })).slice d).power = false := by
      rw [State.modSlice_slice, if_pos rfl]
    exact ⟨_, (State.atAnyDie_next hd).trans (congrArg Host.Outcome.next (if_pos hp)), power, step, tiles, by rw [State.live, power]; rfl⟩
  · have run := fun {t st} => State.sliceReg_now_of_eq (o := s.srstOp w d v) (t := t) (st := st) h
    by_cases hm : s.isManager w = true
    · rw [if_neg (by simp [hm])]
      by_cases hb : bit v 0 = true
      · by_cases hk : bits v 8 8 = 0xA5
        · rw [if_pos ⟨hb, hk⟩]
          exact run (by simp [State.srstOp, hm, hb, hk])
        · rw [if_neg (by simp [hk]), if_pos hb]
          exact run (by simp [State.srstOp, hm, hb, hk])
      · rw [if_neg (by simp [hb]), if_neg hb]
        exact run (by simp [State.srstOp, hm, hb])
    · rw [if_pos (by simpa using hm)]
      exact run (by simp [State.srstOp, hm])

end Sys2Proof.Machine
end

section
/-!
The start-up sequence: settles O9.
-/

namespace Sys2Proof.Machine

variable {α : Type} (f : Slice → α)

/-- What neither the tiles of a slice nor its held records decide is as it was once an entry of the repair map has been applied. -/
theorem State.applyEntry_keep (ht : ∀ S i T, f (Slice.setTile S i T) = f S) (hr : ∀ S r, f (Slice.holdRecord S r) = f S)
    (s : State) (d k e : Nat) : f ((s.applyEntry d k).slice e) = f (s.slice e) := by
  have tile : ∀ (g : Nat) (T : Tile), f ((s.setTile g T).slice e) = f (s.slice e) := fun g T => by
    rw [State.setTile, State.modSlice_slice]
    split
    · next h => rw [ht, h]
    · rfl
  have record : ∀ x j r, f ((s.repairRecord d x j r).slice e) = f (s.slice e) := fun x j r => by
    rw [State.repairRecord, State.record_slice]
    split
    · next h => rw [hr, h]
    · rfl
  unfold State.applyEntry
  dsimp only
  split
  · rfl
  split
  · exact tile _ _
  split
  · split
    · exact record _ _ _
    · split
      · exact tile _ _
      · exact record _ _ _
  · rfl

/-- A fold of steps that keep a value keeps it. -/
theorem foldl_eq {β σ : Type} (v : σ → β) {ι : Type} {g : σ → ι → σ} (h : ∀ t x, v (g t x) = v t) (l : List ι) (s : σ) :
    v (l.foldl g s) = v s := by
  induction l generalizing s with
  | nil => rfl
  | cons x l ih => exact (ih _).trans (h s x)

/-- The start-up march leads to step 6, its absence to step 7; nothing else of the slice but its tiles changes. -/
theorem State.startMarch_slice (s : State) (d : Nat) :
    ∃ (b : Tile) (l : Tbl Tile), (s.startMarch d).slice d =
      { s.slice d with step := if bit (s.slice d).start 0 then 6 else 7, base := b, tiles := l } := by
  unfold State.startMarch
  dsimp only
  split
  · exact ⟨_, _, by rw [State.modSlice_slice, if_pos rfl, State.modTiles, State.modSlice_slice, if_pos rfl]⟩
  · exact ⟨_, _, (State.modSlice_slice ..).trans (if_pos rfl)⟩

/-- Copies of bindings leave a slice's supply and its step. -/
theorem State.copyBinds_slice (s : State) (e d g : Nat) : ∃ h, (s.copyBinds e d).slice g = { s.slice g with hh := h } := by
  rw [State.copyBinds, State.modSlice_slice]
  by_cases h : d = g
  · subst h; exact ⟨_, if_pos rfl⟩
  · exact ⟨_, if_neg h⟩

/-- The control area that BOOK_CHECK writes: BOOT of the die counted up. -/
def Control.booted (d : Nat) (c : Control) : Control := { c with boot := c.boot.set d (satInc (c.bootOf d)) }

theorem State.bookCheckOp_outcome {s : State} {d : Nat} (hs : (s.slice d).step = 4) (hg : s.book.a.good = true ∨ s.book.b.good = true) :
    ((s.bookCheckOp d).slice d).step = 5 ∧ ((s.bookCheckOp d).slice d).start = (s.book.update (Control.booted d)).cur.startOf d ∧
      (s.bookCheckOp d).book = { s.book.update (Control.booted d) with cause := (s.book.update (Control.booted d)).cause.del d } := by
  have good : ¬((!s.book.a.good && !s.book.b.good) = true) := by rcases hg with h | h <;> simp [h]
  unfold State.bookCheckOp
  rw [if_neg (not_not.mpr hs), if_neg good]
  refine ⟨?_, ?_, rfl⟩
  · rw [State.owedRecords_keep Slice.step _ _ (fun _ _ => Slice.holdRecord_step _ _) (fun _ _ => rfl), State.record_slice, if_pos rfl,
      Slice.holdRecord_step, State.modSlice_slice, if_pos rfl]
  · rw [State.owedRecords_keep Slice.start _ _ (fun _ _ => Slice.holdRecord_start _ _) (fun _ _ => rfl), State.record_slice, if_pos rfl,
      Slice.holdRecord_start, State.modSlice_slice, if_pos rfl]
    rfl

theorem State.mapLoadOp_outcome {s : State} {d : Nat} (hs : (s.slice d).step = 5) :
    ((s.mapLoadOp d).slice d).step = (if bit (s.slice d).start 0 then 6 else 7) ∧
      (((s.mapLoadOp d).slice d).mapErr = true ↔ (s.slice d).mapErr = true ∨ s.book.crcOf s.book.cur.mapCount ≠ s.book.cur.mapCrc) := by
  unfold State.mapLoadOp
  rw [if_neg (not_not.mpr hs)]
  dsimp only
  generalize hm : (if s.book.crcOf s.book.cur.mapCount ≠ s.book.cur.mapCrc then _ else _ : State) = m
  obtain ⟨b, l, hmarch⟩ := m.startMarch_slice d
  rw [hmarch, ← hm]
  split
  · next hc =>
    rw [State.repairRecord, State.record_slice, if_pos rfl, State.modSlice_slice, if_pos rfl, Slice.holdRecord_start, Slice.holdRecord_mapErr]
    simp [hc]
  · next hc =>
    have start := foldl_eq (fun t => (State.slice t d).start) (fun t k => State.applyEntry_keep Slice.start (fun _ _ _ => rfl)
      (fun _ _ => Slice.holdRecord_start _ _) t d k d) (List.range s.book.cur.mapCount) s
    have err := foldl_eq (fun t => (State.slice t d).mapErr) (fun t k => State.applyEntry_keep Slice.mapErr (fun _ _ _ => rfl)
      (fun _ _ => Slice.holdRecord_mapErr _ _) t d k d) (List.range s.book.cur.mapCount) s
    dsimp only at start err ⊢
    rw [start, err]
    simp [not_not.mp hc]

/-- The bindings are copied for every slice of the list at most; nothing else of any slice changes. -/
theorem State.copyBinds_foldl (e : Nat) (l : List Nat) (s : State) (g : Nat) :
    (∃ h, ((l.foldl (fun s f => s.copyBinds e f) s).slice g) = { s.slice g with hh := h }) ∧
    (l.foldl (fun s f => s.copyBinds e f) s).valid = s.valid := by
  induction l generalizing s with
  | nil => exact ⟨⟨_, rfl⟩, rfl⟩
  | cons x l ih =>
    obtain ⟨⟨h, ih⟩, valid⟩ := ih (s.copyBinds e x)
    obtain ⟨h', copy⟩ := s.copyBinds_slice e x g
    exact ⟨⟨h, by rw [List.foldl_cons, ih, copy]⟩, valid⟩

theorem State.readyOp_outcome {s : State} {d : Nat} (hs : (s.slice d).step = 6 ∨ (s.slice d).step = 7) :
    ((s.readyOp d).slice d).step = 9 ∧ ((s.readyOp d).slice d).power = (s.slice d).power ∧
      (s.readyOp d).valid = s.valid.cut (validKey (256 * d) 14 0) (validKey (256 * d + 256) 14 0) := by
  have step : ¬(((s.slice d).step ≠ 6 && (s.slice d).step ≠ 7) = true) := by rcases hs with h | h <;> simp [h]
  unfold State.readyOp
  dsimp only
  rw [if_neg step]
  generalize hm : (State.modTiles { s with valid := _ } d _) = m
  have power : (m.slice d).power = (s.slice d).power := by
    rw [← hm, State.modTiles, State.modSlice_slice, if_pos rfl]; rfl
  have valid : m.valid = s.valid.cut (validKey (256 * d) 14 0) (validKey (256 * d + 256) 14 0) := by rw [← hm]; rfl
  generalize (List.range m.dies).filter (fun e => e != d && m.ready e) = l
  rw [State.modSlice_slice, if_pos rfl, State.modSlice_valid]
  cases l with
  | nil => exact ⟨rfl, power, valid⟩
  | cons e l =>
    obtain ⟨h, copy⟩ := m.copyBinds_slice e d d
    obtain ⟨⟨h', copies⟩, valids⟩ := State.copyBinds_foldl e (e :: l) (m.copyBinds e d) d
    refine ⟨rfl, ?_, ?_⟩ <;> dsimp only <;> split
    · rw [copies, copy, power]
    · rw [copy, power]
    · rw [valids, State.copyBinds, State.modSlice_valid, valid]
    · rw [State.copyBinds, State.modSlice_valid, valid]

theorem State.unswept_of_cut {t : State} {v : Keys} {d g b r : Nat} (hv : t.valid = v.cut (validKey (256 * d) 14 0) (validKey (256 * d + 256) 14 0))
    (hg : tileDie g = d) (hb : b = 14 ∨ b = 15) (hr : r < 1024) : t.unswept g b r = true := by
  have inside : validKey (256 * d) 14 0 ≤ validKey g b r ∧ validKey g b r < validKey (256 * d + 256) 14 0 := by
    simp only [tileDie] at hg
    simp only [validKey]
    omega
  have hb : 14 ≤ b := by omega
  rw [State.unswept, hv, Keys.contains_cut]
  simp [inside, hb]

/-- Settles O9, step by step of the sequence. -/
theorem startUpSequence : Obligations.StartUpSequence := by
  refine ⟨fun s d hd hs => ?_, fun s d hd hs => ?_, fun s d hd hl hs hg hn => ?_, fun s d hd hl hs => ?_, fun s d hd hl hs => ?_⟩
  · refine ⟨_, State.atAnyDie_next hd, ?_⟩
    unfold State.supplyGoodOp
    dsimp only
    rw [if_neg (not_not.mpr hs), State.modSlice_slice, if_pos rfl]
    refine ⟨rfl, rfl, rfl, le_max_right _ _, fun hp h0 => ?_⟩
    rw [if_pos (by simp [hp])]
    exact State.latchCause_free (by omega) h0
  · refine ⟨_, State.atAnyDie_next hd, ?_⟩
    unfold State.settledOp
    rw [if_neg (not_not.mpr hs)]
    refine ⟨?_, ?_, ?_⟩
    · rw [State.lapseLevel_keep Slice.step _ _ (fun _ _ _ _ => rfl) (fun _ _ _ _ _ _ _ _ => Slice.raiseAll_step _ _ _)
        (fun _ _ => Slice.holdRecord_step _ _) (fun _ _ => rfl) (fun _ _ => rfl), State.modSlice_slice, if_pos rfl]
    · rw [State.lapseLevel_keep Slice.epoch _ _ (fun _ _ _ _ => rfl) (fun _ _ _ _ _ _ _ _ => Slice.raiseAll_epoch _ _ _)
        (fun _ _ => Slice.holdRecord_epoch _ _) (fun _ _ => rfl) (fun _ _ => rfl), State.modSlice_slice, if_pos rfl]
    · rw [State.lapseLevel_keep Slice.paceFrom _ _ (fun _ _ _ _ => rfl) (fun _ _ _ _ _ _ _ _ => Slice.raiseAll_paceFrom _ _ _)
        (fun _ _ => Slice.holdRecord_paceFrom _ _) (fun _ _ => rfl) (fun _ _ => rfl), State.modSlice_slice, if_pos rfl]
  · obtain ⟨step, start, book⟩ := State.bookCheckOp_outcome hs hg
    have cur := s.book.update_cur (Control.booted d) hg hn
    refine ⟨_, State.atDie_next hd hl, step, ?_, ?_, ?_⟩
    · rw [start, cur]; rfl
    · rw [book]
      refine (congrArg (Control.bootOf · d) cur).trans ?_
      exact (Tbl.get_set _ _ _ _ _).trans (if_pos rfl)
    · rw [book]
      exact Tbl.get_del_self _ _ _
  · obtain ⟨step, err⟩ := State.mapLoadOp_outcome hs
    exact ⟨_, State.atDie_next hd hl, step, err⟩
  · obtain ⟨step, power, valid⟩ := State.readyOp_outcome hs
    obtain ⟨hp, -⟩ := Bool.and_eq_true_iff.mp hl
    exact ⟨_, State.atDie_next hd hl, by rw [State.ready, step, power, hp]; rfl, fun g b r hg hb hr => State.unswept_of_cut valid hg hb hr⟩

end Sys2Proof.Machine
end

section
/-!
Lapse, entry and end: settles O11.
-/

namespace Sys2Proof.Machine

variable {s : State} {d : Nat}

/-- A lapse record changes nothing of the slice but what it holds for the book. -/
theorem State.lapseRecord_keep {α : Type} (f : Slice → α) (hr : ∀ S r, f (Slice.holdRecord S r) = f S)
    (ho : ∀ S o, f ({ S with lpOwed := o } : Slice) = f S) (s : State) (d : Nat) (r : BookRec) :
    f ((s.lapseRecord d r).slice d) = f (s.slice d) := by
  rw [State.lapseRecord, State.modSlice_slice, if_pos rfl]
  split
  · exact ho _ _
  · exact hr _ _

/-- The lapse registers of a slice: ACTIVE, STICKY, the causes and COUNT. -/
def Slice.lapseRegs (S : Slice) : Bool × Bool × (Bool × Bool × Bool) × BitVec 16 := (S.lpActive, S.lpSticky, (S.lpCS, S.lpCT, S.lpCF), S.lpCount)

theorem State.lapseRecord_lapseRegs (s : State) (d : Nat) (r : BookRec) : ((s.lapseRecord d r).slice d).lapseRegs = (s.slice d).lapseRegs :=
  State.lapseRecord_keep Slice.lapseRegs (fun S r => by simp [Slice.lapseRegs]) (fun _ _ => rfl) s d r

theorem State.lapseEntry_lapseRegs (s : State) (d : Nat) :
    ((s.lapseEntry d).slice d).lapseRegs = (true, true, (s.slice d).causes, satInc (s.slice d).lpCount) := by
  rw [State.lapseEntry, State.lapseRecord_lapseRegs, State.modSlice_slice, if_pos rfl]
  simp only [Slice.lapseRegs, Slice.raiseAll_lpActive, Slice.raiseAll_lpSticky, Slice.raiseAll_lpCS, Slice.raiseAll_lpCT, Slice.raiseAll_lpCF,
    Slice.raiseAll_lpCount]
  rfl

/-- Without a cause a lapse check changes nothing. -/
theorem State.lapseCheck_calm (h : (s.slice d).anyCause = false) : s.lapseCheck d = s := by
  simp [State.lapseCheck, h]

/-- Some cause puts the slice in lapse; if it was not, STICKY is set, the causes are those shown, and COUNT goes up. -/
theorem State.lapseCheck_cause (h : (s.slice d).anyCause = true) :
    ((s.lapseCheck d).slice d).lpActive = true ∧ ((s.slice d).lpActive = false →
      ((s.lapseCheck d).slice d).lapseRegs = (true, true, (s.slice d).causes, satInc (s.slice d).lpCount)) := by
  by_cases ha : (s.slice d).lpActive = true
  · have run : s.lapseCheck d = s.modSlice d (fun S => { S with
        lpCS := S.lpCS || (s.slice d).causes.1, lpCT := S.lpCT || (s.slice d).causes.2.1, lpCF := S.lpCF || (s.slice d).causes.2.2 }) := by
      simp [State.lapseCheck, h, ha]
    exact ⟨by rw [run, State.modSlice_slice, if_pos rfl]; exact ha, fun hn => absurd ha (by simp [hn])⟩
  · have run : s.lapseCheck d = s.lapseEntry d := by simp [State.lapseCheck, h, ha]
    have regs := s.lapseEntry_lapseRegs d
    rw [run]
    exact ⟨congrArg Prod.fst regs, fun _ => regs⟩

theorem Slice.anyCause_iff (S : Slice) :
    S.anyCause = true ↔ S.mv < 700 ∨ 800 < S.mv ∨ 105 < S.degC ∨ S.degC < 0 ∨ S.lpForce = true := by
  simp [Slice.anyCause, Slice.causes, or_assoc]

theorem Slice.clear_iff (S : Slice) :
    S.clear = true ↔ 710 ≤ S.mv ∧ S.mv ≤ 790 ∧ 2 ≤ S.degC ∧ S.degC ≤ 103 ∧ S.lpForce = false := by
  simp [Slice.clear, and_assoc]

/-- A slice whose clear count may run shows no cause. -/
theorem Slice.anyCause_of_clear {S : Slice} (h : S.clear = true) : S.anyCause = false := by
  rw [Bool.eq_false_iff, Ne, Slice.anyCause_iff]
  obtain ⟨h1, h2, h3, h4, h5⟩ := S.clear_iff.mp h
  simp only [h5, Bool.false_eq_true, or_false]
  omega

theorem State.lapseCheck_clear (s : State) (d : Nat) : ((s.lapseCheck d).slice d).clear = (s.slice d).clear :=
  State.lapseCheck_keep Slice.clear s d (fun _ _ _ _ => rfl) (fun S a b c e g n x => by simp [Slice.clear])
    (fun S r => by simp [Slice.clear]) (fun _ _ => rfl)

/-- The clear count of a lapse level: it runs while nothing holds it at 0, from the pace on at which it began. -/
theorem State.lapseLevel_lpClear (s : State) (d : Nat) :
    ((s.lapseLevel d).slice d).lpClear = if (s.slice d).clear then some ((s.slice d).lpClear.getD (s.paceNat (256 * d))) else none := by
  rw [State.lapseLevel, State.modSlice_slice, if_pos rfl, Slice.countClear, State.lapseCheck_clear]
  dsimp only
  split
  · next h => rw [State.lapseCheck_calm (Slice.anyCause_of_clear h)]
  · rfl

theorem State.lapseLevel_lapseRegs (s : State) (d : Nat) : ((s.lapseLevel d).slice d).lapseRegs = ((s.lapseCheck d).slice d).lapseRegs := by
  rw [State.lapseLevel, State.modSlice_slice, if_pos rfl]; rfl

theorem State.lapseLevel_active (s : State) (d : Nat) :
    ((s.lapseLevel d).slice d).lpActive = true ↔ (s.slice d).lpActive = true ∨ (s.slice d).anyCause = true := by
  have regs : ((s.lapseLevel d).slice d).lpActive = ((s.lapseCheck d).slice d).lpActive := congrArg Prod.fst (s.lapseLevel_lapseRegs d)
  rw [regs]
  by_cases h : (s.slice d).anyCause = true
  · simp [h, (State.lapseCheck_cause h).1]
  · simp [h, State.lapseCheck_calm (Bool.eq_false_iff.mpr h)]

theorem State.lapseLevel_readings (s : State) (d : Nat) :
    ((s.lapseLevel d).slice d).mv = (s.slice d).mv ∧ ((s.lapseLevel d).slice d).degC = (s.slice d).degC := by
  constructor
  · exact State.lapseLevel_keep Slice.mv _ _ (fun _ _ _ _ => rfl) (fun _ _ _ _ _ _ _ _ => Slice.raiseAll_mv _ _ _)
      (fun _ _ => Slice.holdRecord_mv _ _) (fun _ _ => rfl) (fun _ _ => rfl)
  · exact State.lapseLevel_keep Slice.degC _ _ (fun _ _ _ _ => rfl) (fun _ _ _ _ _ _ _ _ => Slice.raiseAll_degC _ _ _)
      (fun _ _ => Slice.holdRecord_degC _ _) (fun _ _ => rfl) (fun _ _ => rfl)

/-- A slice with its monitors' readings. -/
def Slice.reads (mv : Nat) (degC : Int) (S : Slice) : Slice := { S with mv := mv, degC := degC }

theorem State.reads_slice (s : State) (d mv : Nat) (degC : Int) : (s.modSlice d (Slice.reads mv degC)).slice d = (s.slice d).reads mv degC :=
  (State.modSlice_slice ..).trans (if_pos rfl)

/-- Readings change no pace. -/
theorem State.reads_paceNat (s : State) (d mv : Nat) (degC : Int) (g : Nat) : (s.modSlice d (Slice.reads mv degC)).paceNat g = s.paceNat g := by
  have slice : ∃ m c, (s.modSlice d (Slice.reads mv degC)).slice (tileDie g) = (s.slice (tileDie g)).reads m c := by
    by_cases h : d = tileDie g
    · subst h; exact ⟨mv, degC, State.reads_slice ..⟩
    · exact ⟨_, _, (State.modSlice_slice ..).trans (if_neg h)⟩
  obtain ⟨m, c, slice⟩ := slice
  rw [State.paceNat, State.paceNat, State.tile, State.tile, slice]
  rfl

/-- Lapse ends: ACTIVE is cleared, STICKY and COUNT stand. -/
theorem State.lapseEndOp_lapseRegs (hc : ((!(s.slice d).lpActive || !(s.slice d).clear || !s.clearCounted d || !s.lapseDrained d) : Bool) = false) :
    ((s.lapseEndOp d).slice d).lapseRegs = { s.slice d with lpActive := false : Slice }.lapseRegs := by
  rw [State.lapseEndOp, if_neg (by simp [hc])]
  dsimp only
  rw [State.lapseRecord_lapseRegs, State.modSlice_slice, if_pos rfl]
  rfl

/-- Settles O11: the lapse level decides entry and the clear count, and a clear count short of 4096 keeps the slice in lapse. -/
theorem lapseEntryAndEnd : Obligations.LapseEntryAndEnd := by
  refine ⟨fun s d mv degC hd hl hm => ?_, fun s d mv degC hd hp hm => ?_, fun s w d v h hm => ?_, fun s d hd hl ha hc hk hdr => ?_,
    fun s d hk => ?_⟩
  · let s' := s.modSlice d (Slice.reads mv degC)
    have slice : s'.slice d = (s.slice d).reads mv degC := s.reads_slice d mv degC
    have live : s'.live d = true := by rw [State.live, slice]; exact hl
    have run : s.monitorOp d mv degC = s'.lapseLevel d := by
      unfold State.monitorOp
      exact (if_neg (by omega)).trans (if_pos live)
    obtain ⟨level, temp⟩ := s'.lapseLevel_readings d
    have count := s'.lapseLevel_lpClear d
    have active := s'.lapseLevel_active d
    rw [slice] at level temp count active
    rw [Slice.anyCause_iff] at active
    refine ⟨_, (State.atAnyDie_next hd).trans (congrArg Host.Outcome.next run), level, temp, ?_, active, fun hn hy => ?_⟩
    · rw [count, State.reads_paceNat]
      exact if_congr (Slice.clear_iff _) rfl rfl
    · have cause : (s'.slice d).anyCause = true := by
        rw [slice, Slice.anyCause_iff]
        exact (active.mp hy).resolve_left (by simp [Slice.reads, hn])
      have regs := (State.lapseCheck_cause cause).2 (by rw [slice]; exact hn)
      rw [← State.lapseLevel_lapseRegs, slice] at regs
      simp only [Slice.lapseRegs, Prod.mk.injEq, Slice.causes] at regs
      obtain ⟨-, sticky, ⟨cs, ct, cf⟩, count⟩ := regs
      refine ⟨sticky, ?_, ?_, cf, count⟩
      · rw [cs, Bool.or_eq_true, decide_eq_true_eq, decide_eq_true_eq]; rfl
      · rw [ct, Bool.or_eq_true, decide_eq_true_eq, decide_eq_true_eq]; rfl
  · have slice := s.reads_slice d mv degC
    obtain ⟨⟨step, -, -, -, -, level, -⟩, -⟩ := State.resetSlice_outcome (s := s.modSlice d (Slice.reads mv degC)) (d := d) (cause := 2)
      (.inr (by rw [slice]; exact hp))
    have run : s.monitorOp d mv degC = (s.modSlice d (Slice.reads mv degC)).resetSlice d 2 := by
      unfold State.monitorOp
      exact if_pos hm
    exact ⟨_, (State.atAnyDie_next hd).trans (congrArg Host.Outcome.next run), step, level.trans (by rw [slice]; rfl)⟩
  · exact State.sliceReg_now_of_eq (o := s.forceOp w d v) h (by simp [State.forceOp, hm])
  · obtain ⟨k, hk, h4⟩ := hk
    have counted : s.clearCounted d = true := by simp [State.clearCounted, hk, State.paceOver, h4]
    have regs := State.lapseEndOp_lapseRegs (s := s) (d := d) (by simp [ha, hc, counted, hdr])
    simp only [Slice.lapseRegs, Prod.mk.injEq] at regs
    obtain ⟨active, sticky, -, count⟩ := regs
    exact ⟨_, State.atDie_next hd hl, active, sticky, count⟩
  · have counted : s.clearCounted d = false := by
      unfold State.clearCounted
      split
      · next k hk' => simpa [State.paceOver] using hk k hk'
      · rfl
    have still : s.lapseEndOp d = s := by simp [State.lapseEndOp, counted]
    show Host.Outcome.next _ = _
    rw [still, ite_self]

end Sys2Proof.Machine
end

section
/-!
Rows read and written by the beats of accesses: settles O13, O14 and O15.
-/

namespace Sys2Proof.Machine

variable {s : State} {tile bank row master : Nat} {iss : Option Issuer} {u1 u2 : ByteMask}

/-! ## Reads of a row -/

/-- A record changes no tile. -/
theorem State.record_tile (s : State) (d type g t : Nat) (det : BitVec 352) : (s.record d type g det).tile t = s.tile t := by
  rw [State.tile, State.tile, State.record_slice]
  split
  · next h => rw [← h, Slice.tile, Slice.tile, Slice.holdRecord_base, Slice.holdRecord_tiles]
  · rfl

theorem State.raise_tile (s : State) (d h v t : Nat) : (s.raise d h v).tile t = s.tile t := by
  rw [State.tile, State.tile, State.raise_slice]
  split
  · next h => rw [← h, Slice.tile, Slice.tile, Slice.raise_base, Slice.raise_tiles]
  · rfl

/-- A corrected event counts in TL_REPLAYS and poisons nothing. -/
theorem State.corrected_outcome (s : State) (tile bank row phys master : Nat) (m : ByteMask) :
    ((s.corrected tile bank row phys master m).tile tile).replays = satInc (s.tile tile).replays ∧
      (s.corrected tile bank row phys master m).poison = s.poison := by
  unfold State.corrected
  dsimp only
  split <;> refine ⟨?_, rfl⟩ <;> rw [State.modTile_tile, if_pos rfl] <;> dsimp only
  · rw [State.record_tile, State.modTile_tile, if_pos rfl]
  · rw [State.look_tile, State.modTile_tile, if_pos rfl]

/-- An uncorrected event poisons its row and counts in TL_POISONS. -/
theorem State.uncorrected_outcome (s : State) (tile bank row phys master : Nat) (m : ByteMask) (iss : Option Issuer) :
    (s.uncorrected tile bank row phys master m iss).poisoned tile bank phys = true ∧
      ((s.uncorrected tile bank row phys master m iss).tile tile).poisons = satInc (s.tile tile).poisons := by
  unfold State.uncorrected
  dsimp only
  constructor
  · rw [State.poisoned, State.raise_poison, State.record_poison, State.modTile_poison, List.contains_iff_mem]
    exact Keys.mem_add.mpr (.inl rfl)
  · rw [State.raise_tile, State.record_tile, State.modTile_tile, if_pos rfl]
    rfl

theorem State.readRow_unswept (h : s.unswept tile bank row = true) : s.readRow tile bank row master iss u1 u2 = (s, .ok, 0) := if_pos h

theorem State.readRow_poisoned (h : s.unswept tile bank row = false) (hp : s.poisoned tile bank ((s.tile tile).physRow bank row) = true) :
    s.readRow tile bank row master iss u1 u2 = (s, .uncorr, 0) := by
  simp [State.readRow, h, State.checkRow, hp]

theorem State.readRow_right (h : s.unswept tile bank row = false) (hp : s.poisoned tile bank ((s.tile tile).physRow bank row) = false)
    (h1 : missMask (s.stored tile bank ((s.tile tile).physRow bank row)) ^^^ u1 = 0) :
    s.readRow tile bank row master iss u1 u2 = (s, .ok, (s.stored tile bank ((s.tile tile).physRow bank row)).data) := by
  simp [State.readRow, h, State.checkRow, hp, h1]

theorem State.readRow_replayed (h : s.unswept tile bank row = false) (hp : s.poisoned tile bank ((s.tile tile).physRow bank row) = false)
    (h1 : missMask (s.stored tile bank ((s.tile tile).physRow bank row)) ^^^ u1 ≠ 0)
    (h2 : missMask (s.stored tile bank ((s.tile tile).physRow bank row)) ^^^ u2 = 0) :
    s.readRow tile bank row master iss u1 u2 =
      (s.corrected tile bank row ((s.tile tile).physRow bank row) master (missMask (s.stored tile bank ((s.tile tile).physRow bank row)) ^^^ u1),
        .ok, (s.stored tile bank ((s.tile tile).physRow bank row)).data) := by
  rw [State.readRow, if_neg (by simp [h]), State.checkRow]
  dsimp only
  rw [if_neg (by simp [hp]), if_neg h1, if_pos h2]

theorem State.readRow_failed (h : s.unswept tile bank row = false) (hp : s.poisoned tile bank ((s.tile tile).physRow bank row) = false)
    (h1 : missMask (s.stored tile bank ((s.tile tile).physRow bank row)) ^^^ u1 ≠ 0)
    (h2 : missMask (s.stored tile bank ((s.tile tile).physRow bank row)) ^^^ u2 ≠ 0) :
    s.readRow tile bank row master iss u1 u2 =
      (s.uncorrected tile bank row ((s.tile tile).physRow bank row) master
        (missMask (s.stored tile bank ((s.tile tile).physRow bank row)) ^^^ u2) iss, .uncorr, 0) := by
  rw [State.readRow, if_neg (by simp [h]), State.checkRow]
  dsimp only
  rw [if_neg (by simp [hp]), if_neg h1, if_neg h2]

/-- Settles O14, one outcome of a read after the other. -/
theorem rowReadOutcomes : Obligations.RowReadOutcomes := by
  intro s tile bank row master iss u1 u2 p k x
  refine ⟨fun h => State.readRow_unswept h, fun h => ⟨fun hp => State.readRow_poisoned h hp, fun hp => ⟨fun h1 => State.readRow_right h hp h1,
    fun h1 h2 => ?_, fun h1 h2 => ?_⟩⟩⟩
  · have hx : x = _ := State.readRow_replayed h hp h1 h2
    obtain ⟨replays, poison⟩ := s.corrected_outcome tile bank row p master (k ^^^ u1)
    rw [hx]
    exact ⟨rfl, replays, poison⟩
  · have hx : x = _ := State.readRow_failed h hp h1 h2
    obtain ⟨poisoned, poisons⟩ := s.uncorrected_outcome tile bank row p master (k ^^^ u2) iss
    rw [hx]
    exact ⟨rfl, poisoned, poisons⟩

/-! ## The row of a beat -/

/-- What a write of a row does to the poison bits: its own is cleared. -/
theorem State.writeRow_poisoned (s : State) (tile bank row : Nat) (x : RowData) (g c q : Nat) :
    (s.writeRow tile bank row x).poisoned g c q = (s.poisoned g c q && rowKey g c q != rowKey tile bank ((s.tile tile).physRow bank row)) := by
  rw [Bool.eq_iff_iff]
  simp only [State.poisoned, State.writeRow, Keys.del, List.contains_iff_mem, List.mem_filter, Bool.and_eq_true]

/-- A write of a swept row sets its valid bit. -/
theorem State.writeRow_unswept (s : State) (tile bank row : Nat) (x : RowData) (hb : 14 ≤ bank) :
    (s.writeRow tile bank row x).unswept tile bank row = false := by
  rw [State.unswept, State.writeRow]
  simp only [hb, if_true, decide_true, Bool.true_and, Bool.not_eq_false']
  exact List.contains_iff_mem.mpr (Keys.mem_add.mpr (.inl rfl))

/-- The one row of an access of one beat of 64 B. -/
theorem Access.cells_row {a : Access} (hr : a.rom = false) (hs : a.size = 64) (hd : a.done = 0) :
    a.cells = [(viewBank a.view a.off, viewRow a.view a.off)] := by
  simp [Access.cells, hr, cellsAt, hs, hd]

theorem Access.isFlush_port {a : Access} (h : a.dest = .port) : a.isFlush = false := by rw [Access.isFlush, h]

/-- An access at a master's port that has performed its one beat with its rows intact is answered OK there. -/
theorem State.beatDone_port (s : State) (tile : Nat) {a : Access} (hb : a.beats = 1) (hd : a.done = 1) (hp : a.dest = .port) (hbad : a.badAt = none)
    (hm : a.master ≠ .sc ∨ a.data = [] ∨ a.write = true) :
    s.beatDone tile a = (s.modTile tile (fun T => T.dropAcc a.id)).emit
      (.access tile a.master a.id .ok (if a.write then [] else a.data) (a.l || (s.slice (tileDie tile)).lpActive) a.demoted) := by
  have lp : ((s.modTile tile (fun T => T.dropAcc a.id)).slice (tileDie tile)).lpActive = (s.slice (tileDie tile)).lpActive := by
    rw [State.modTile, State.setTile, State.modSlice_slice, if_pos rfl]; rfl
  rw [State.beatDone, if_neg (by omega), State.deliver, lp]
  simp only [hp, hbad, Option.isSome_none, Bool.false_eq_true, if_false, if_true]
  by_cases hw : a.write = true
  · rw [if_pos hw, if_pos hw]
  · rw [if_neg hw, if_neg hw]
    split
    · next hsc hdata => simp_all
    · rfl

/-- Settles O13: the write of the row, then the answer, which touches no bank. -/
theorem writeCommitStoresRow : Obligations.WriteCommitStoresRow := by
  intro s tile id a x ht hl ha hid hst hw hs hb hd hp hbad hrom hx b r p
  have beat : (s.tile tile).inBeat id = some a := by rw [Tile.inBeat, ha]; simp [hst]
  have run : s.writeCommit tile id = ((s.writeRow tile b r x).modTile tile (fun T => T.dropAcc id)).emit
      (.access tile a.master id .ok [] (a.l || (s.slice (tileDie tile)).lpActive) a.demoted) := by
    rw [State.writeCommit, beat]
    dsimp only
    rw [if_neg (by simp [Access.isFlush_port hp, hrom, hw]), Access.cells_row hrom hs hd,
      State.beatDone_port _ tile (a := { a with done := a.done + 1 }) hb (by rw [hd]) hp hbad (.inr (.inr hw))]
    simp only [hs, hd, hx, hw, hid]
    rfl
  have stored : ∀ g c q, (s.writeCommit tile id).stored g c q = (s.writeRow tile b r x).stored g c q := fun g c q => by
    rw [run]
    simp only [State.stored, State.emit_mem, State.modTile_mem, State.emit_tile, State.emit_slice, State.modTile_tile]
    congr 1
    have bg : (if tile = g then ((s.writeRow tile b r x).tile tile).dropAcc id else (s.writeRow tile b r x).tile g).bg =
        ((s.writeRow tile b r x).tile g).bg := by
      split
      · next h => rw [h]; rfl
      · rfl
    have epoch : (((s.writeRow tile b r x).modTile tile (fun T => T.dropAcc id)).slice (tileDie g)).epoch =
        ((s.writeRow tile b r x).slice (tileDie g)).epoch := by
      rw [State.modTile, State.setTile, State.modSlice_slice]
      split
      · next h => rw [h]; rfl
      · rfl
    simp only [bg, epoch]
  have poisoned : ∀ g c q, (s.writeCommit tile id).poisoned g c q = (s.writeRow tile b r x).poisoned g c q := fun g c q => by rw [run]; rfl
  refine ⟨_, State.atTile_next ht hl, ?_, ?_, fun h14 => ?_, fun g c q hk => ⟨?_, ?_⟩, ?_, ?_⟩
  · rw [stored, State.writeRow_stored, if_pos rfl]
  · rw [poisoned, State.writeRow_poisoned]; simp [p]
  · rw [run]
    exact s.writeRow_unswept tile b r x h14
  · rw [stored, State.writeRow_stored, if_neg (Ne.symm hk)]
  · rw [poisoned, State.writeRow_poisoned]; simp [p, hk]
  · rw [run]; rfl
  · rw [run, State.emit_tile, State.modTile_tile, if_pos rfl]; rfl

/-- A tile with no send issues none. -/
theorem State.issueSends_none (s : State) (tile : Nat) (h : (s.tile tile).sends = []) : s.issueSends tile = s := by
  rw [State.issueSends, h]; rfl

/-- Settles O15: the row's read leaves the state as it is, and the access ends with it. -/
theorem readCompleteReturnsRow : Obligations.ReadCompleteReturnsRow := by
  intro s tile id a u1 u2 ht hl ha hid hst hw hs hb hd hp hbad hrom hx hm hsends b r p hu hpo hk
  have beat : (s.tile tile).inBeat id = some a := by rw [Tile.inBeat, ha]; simp [hst]
  have cells := Access.cells_row hrom hs hd
  have rows : readCells tile a a.cells u1 u2 s = (s, [(s.stored tile b p).data], false) := by
    rw [cells]
    simp only [readCells, b, r, p, State.readRow_right hu hpo hk]
    rfl
  have run : s.readComplete tile id u1 u2 = (s.modTile tile (fun T => T.dropAcc id)).emit
      (.access tile a.master id .ok [(s.stored tile b p).data] (a.l || (s.slice (tileDie tile)).lpActive) a.demoted) := by
    rw [State.readComplete, beat]
    dsimp only
    rw [if_neg (by simp [Access.isFlush_port hp]), if_neg (by simp [hrom]), if_neg (by simp [hw]), State.readBeat, rows]
    dsimp only
    rw [State.beatDone_port s tile (a := { a with done := a.done + 1, data := _, badAt := _ }) hb (by simp only [hd]) hp (by simp [hbad]) (.inl hm)]
    rw [State.issueSends_none _ _ (by rw [State.emit_tile, State.modTile_tile, if_pos rfl]; exact hsends)]
    simp [hx, hw, hid, Tile.seen, hm]
  exact (State.atTile_next ht hl).trans (congrArg Host.Outcome.next run)

end Sys2Proof.Machine
end

section
/-!
Requests at the tile matrix and the beats that banks start: settles O12.
-/

namespace Sys2Proof.Machine

variable {s : State} {tile : Nat}

theorem State.modTile_congr {f g : Tile → Tile} (h : f (s.tile tile) = g (s.tile tile)) : s.modTile tile f = s.modTile tile g := by
  rw [State.modTile, State.modTile, h]

/-- A change of a tile leaves what is no tile of its slice. -/
theorem State.modTile_slice (s : State) (g : Nat) (f : Tile → Tile) (d : Nat) :
    ∃ l, (s.modTile g f).slice d = { s.slice d with tiles := l } := by
  rw [State.modTile, State.setTile, State.modSlice_slice]
  split
  · next h => exact ⟨_, by rw [h]; rfl⟩
  · exact ⟨_, rfl⟩

theorem State.modTile_lpActive (s : State) (g : Nat) (f : Tile → Tile) (d : Nat) : ((s.modTile g f).slice d).lpActive = (s.slice d).lpActive := by
  obtain ⟨l, h⟩ := s.modTile_slice g f d
  rw [h]

/-- Only MX, VX, the march engine and reads of SC make requests at the tile matrix. -/
theorem coreShape_not_nw {m : Master} {off size beats : Nat} {write : Bool} {data : List RowData} (h : coreShape m off size write beats data = true) :
    m ≠ .nw := by
  rintro rfl
  simp [coreShape] at h

/-- An access refused by the deed whose answer goes to its master's port. -/
theorem State.refuseDeed_port (s : State) (tile : Nat) {a : Access} (hp : a.dest = .port) :
    s.refuseDeed tile a = ((s.modTile tile Tile.countDeed).modTile tile (fun T => T.dropAcc a.id)).emit
      (.access tile a.master a.id .deed [] (a.l || (s.slice (tileDie tile)).lpActive) a.demoted) := by
  rw [State.refuseDeed, State.deliver]
  simp [hp, State.modTile_lpActive]

/-- A request that passes READY, reassignment, quarantine, alignment and the boot ROM, and that no merge-buffer entry answers, goes to its banks. -/
theorem State.coreRequest_offer {a : Access} (hr : s.ready (tileDie tile) = true) (hre : (s.tile tile).reassign = none)
    (hq : (s.tile tile).quarantined a.master = false) (hal : alignOk a.master a.view a.off a.size a.write = true)
    (hrom : ¬(a.master = .sc ∧ a.off < 0x4000 ∧ (s.tile tile).remap = false)) (hb : (s.tile tile).bufferHit a = false) :
    s.coreRequest tile a = s.takeId.offer tile a := by
  have ready : s.takeId.ready (tileDie tile) = true := hr
  have rom : ((a.master == .sc && !(s.tile tile).remap && decide (a.off < 0x4000)) : Bool) = false := by
    rw [Bool.eq_false_iff]
    intro h
    simp only [Bool.and_eq_true, beq_iff_eq, Bool.not_eq_true', decide_eq_true_eq] at h
    exact hrom ⟨h.1.1, h.2, h.1.2⟩
  rw [State.coreRequest, if_neg (by simp [ready]), if_neg (by simp [hre]), if_neg (by simp [hq]), if_neg (by simp [hal]), if_neg (by simp [rom]), if_neg (by simp [hb])]

/-- The banks' answer to a request that has performed no beat. -/
theorem State.offer_first (s : State) (tile : Nat) {a : Access} (hd : a.done = 0) :
    ((s.tile tile).deedCheck a.master a.banks = .refuse → s.offer tile a = s.refuseDeed tile a) ∧
    ((s.tile tile).deedCheck a.master a.banks = .hold → s.offer tile a =
      s.modTile tile (fun T => { T with accs := (T.dropAcc a.id).accs ++ [{ a with stage := .held, inSet := false, since := s.paceNat tile }] })) ∧
    ((s.tile tile).deedCheck a.master a.banks = .allow → s.offer tile a =
      s.modTile tile (fun T => { T with accs := (T.dropAcc a.id).accs ++ [
        if T.direct a = false then { a with stage := .waiting, inSet := false, since := s.paceNat tile }
        else if T.regFull a = true then { a with stage := .queued, inSet := false }
        else { a with stage := .waiting, inSet := false, lapse := a.lapse || (s.lapsed tile && a.ownBound), since := s.paceNat tile }] })) := by
  refine ⟨fun h => ?_, fun h => ?_, fun h => ?_⟩ <;> rw [State.offer] <;> dsimp only <;> rw [if_neg (by omega), h]
  dsimp only
  by_cases hdir : (s.tile tile).direct a = true
  · rw [if_neg (by simp [hdir])]
    by_cases hf : (s.tile tile).regFull a = true
    · rw [if_pos hf]
      exact State.modTile_congr (by rw [if_neg (by simp [hdir]), if_pos hf])
    · rw [if_neg hf]
      exact State.modTile_congr (by rw [if_neg (by simp [hdir]), if_neg hf])
  · rw [if_pos (by simpa using hdir)]
    exact State.modTile_congr (by rw [if_pos (by simpa using hdir)])

/-- Settles O12: the three answers of the banks, the access granted at the NW port, and the next beat of a bank. -/
theorem banksServeRequests : Obligations.BanksServeRequests := by
  refine ⟨?_, fun s tile id a ht hl ha hst => ?_, fun s tile bank a ht hl hn hbusy => ?_⟩
  · intro s tile m v off size write beats qos data a ht hr hs hq hre hqu hal hrom hb
    have run : exec (.bankRequest tile (.core m v off size write beats qos data)) s = .next (s.takeId.offer tile a) := by
      have step : exec (.bankRequest tile (.core m v off size write beats qos data)) s =
          execBankRequest tile (.core m v off size write beats qos data) s := rfl
      rw [step, execBankRequest]
      rw [if_neg (by simp [ht]), if_neg (by simp [hs, hq]), if_neg (by simp [State.live_of_ready hr])]
      exact congrArg Host.Outcome.next (State.coreRequest_offer (a := a) hr hre hqu hal hrom hb)
    obtain ⟨refuse, hold, allow⟩ := s.takeId.offer_first tile (a := a) rfl
    refine ⟨fun h => ?_, fun h => ?_, fun h => ?_⟩
    · have bound : a.ownBound = true := by simp [a, Access.ownBound, State.newAccess, coreShape_not_nw hs]
      rw [run, allow h, bound, Bool.and_true]
      rfl
    · rw [run, hold h]; rfl
    · rw [run, refuse h, State.refuseDeed_port _ _ rfl]; rfl
  · refine (State.atTile_next ht hl).trans (congrArg Host.Outcome.next ?_)
    rw [State.portRequest, ha]
    exact if_pos (by simp [hst])
  · refine (State.atTile_next ht hl).trans (congrArg Host.Outcome.next ?_)
    rw [State.startBeat, hn]
    dsimp only
    rw [if_neg (by simp [hbusy])]
    simp only [beq_iff_eq]

end Sys2Proof.Machine
end

section
/-!
Sweeps: settles O21.
-/

namespace Sys2Proof.Machine

/-- A tile block at which nothing waits has nothing to take up. -/
theorem State.freed_none {s : State} {tile : Nat} (h : (s.tile tile).regWait = []) : s.freed tile = s := by
  rw [State.freed, h]; rfl

/-- A tile once the sweep of a bank has ended. -/
def Tile.swept (bank : Nat) (T : Tile) : Tile := if bank = 14 then { T with sweep14 := false } else { T with sweep15 := false }

theorem State.sweepEnd_ends {s : State} {tile bank : Nat} (hw : (s.tile tile).regWait = [])
    (hb : bank = 14 ∧ (s.tile tile).sweep14 = true ∨ bank = 15 ∧ (s.tile tile).sweep15 = true) :
    s.sweepEnd tile bank =
      { s with valid := s.valid.cut (validKey tile bank 0) (validKey tile bank 0 + 1024) }.modTile tile (Tile.swept bank) := by
  rw [State.sweepEnd, if_pos (by simpa using hb)]
  refine State.freed_none ?_
  rw [State.modTile_tile, if_pos rfl]
  split
  · exact hw
  · exact hw

/-- Valid bits of the rows of the swept banks have keys of their own. -/
theorem validKey_within {g tile b bank r : Nat} (hr : r < 1024) (hb : b = 14 ∨ b = 15) (hk : bank = 14 ∨ bank = 15) :
    (validKey tile bank 0 ≤ validKey g b r ∧ validKey g b r < validKey tile bank 0 + 1024) ↔ g = tile ∧ b = bank := by
  simp only [validKey]; omega

/-- Settles O21: a write that begins the sweeps, one that waits, and the end of a sweep, which cuts the valid bits of its bank. -/
theorem sweepsClearValidBits : Obligations.SweepsClearValidBits := by
  refine ⟨fun s w tile v h hm hop hown h14 h15 => ?_, fun s w tile v h hm hop => ?_, fun s tile bank ht hl _ hw hb => ?_⟩
  · have calm : ∀ b, b = 14 ∨ b = 15 → ∀ on : Bool, (on && (s.tile tile).ownerOf b != 0 && (s.tile tile).ownerOf b != 7) = false := by
      intro b hb on
      rcases hown b hb with ho | ho <;> simp [ho]
    by_cases hv : (bit v 0 || bit v 1) = true
    · rw [if_pos hv]
      have none0 : ¬((!bit v 0 && !bit v 1) = true) := by
        rw [Bool.and_eq_true, Bool.not_eq_true', Bool.not_eq_true']
        rintro ⟨h0, h1⟩
        simp [h0, h1] at hv
      refine State.tileReg_orWait_some h ?_
      simp only [State.sweepOp, hm, hop, h14, h15, calm 14 (.inl rfl), calm 15 (.inr rfl), if_neg none0, Option.isSome_none, Bool.not_true,
        Bool.or_false, Bool.and_false, Bool.false_eq_true, if_false]
      exact congrArg (fun t => some (t, Status.ok)) (State.modTile_congr (by simp [h14, h15]))
    · rw [if_neg hv]
      refine State.tileReg_orWait_some h ?_
      rw [Bool.not_eq_true, Bool.or_eq_false_iff] at hv
      simp [State.sweepOp, hm, hop, hv]
  · refine State.tileReg_orWait_none h ?_
    simp [State.sweepOp, hm, hop]
  · have hk : bank = 14 ∨ bank = 15 := hb.imp And.left And.left
    have run := State.sweepEnd_ends hw hb
    refine ⟨_, (State.atTile_next ht hl).trans (congrArg Host.Outcome.next run), fun r hr => ?_, fun g b r hr h14 h16 hne => ?_,
      fun h14 => ?_, fun h15 => ?_⟩
    · have inside := (validKey_within (g := tile) (tile := tile) (b := bank) hr hk hk).mpr ⟨rfl, rfl⟩
      rw [State.unswept, State.modTile_valid]
      dsimp only
      rw [Keys.contains_cut]
      have h14 : 14 ≤ bank := by omega
      simp [inside, h14]
    · have outside : ¬(validKey tile bank 0 ≤ validKey g b r ∧ validKey g b r < validKey tile bank 0 + 1024) := fun h => by
        obtain ⟨rfl, rfl⟩ := (validKey_within hr (by omega) hk).mp h
        simp at hne
      rw [State.unswept, State.unswept, State.modTile_valid]
      dsimp only
      rw [Keys.contains_cut]
      have : (decide (validKey tile bank 0 ≤ validKey g b r) && decide (validKey g b r < validKey tile bank 0 + 1024)) = false := by
        rw [Bool.eq_false_iff, Ne, Bool.and_eq_true, decide_eq_true_eq, decide_eq_true_eq]; exact outside
      rw [this, Bool.not_false, Bool.and_true]
    · rw [State.modTile_tile, if_pos rfl, Tile.swept, if_pos h14]; exact ⟨rfl, rfl⟩
    · rw [State.modTile_tile, if_pos rfl, Tile.swept, if_neg (by omega)]; exact ⟨rfl, rfl⟩

end Sys2Proof.Machine
end

section
/-!
What the accesses of a tile, their answers and its merge buffer leave as it is: a value of a tile that depends on none of what they change.
-/

namespace Sys2Proof.Machine

variable {α : Type} {f : Tile → α}

/-- `f` depends on nothing of a tile that the answer to an access changes: channels, index blocks, sends, endpoints, messages, bursts and
gates. -/
structure Tile.DeliverFree (f : Tile → α) : Prop where
  chans : ∀ T l, f { T with chans := l } = f T
  blocks : ∀ T l, f { T with blocks := l } = f T
  sends : ∀ T l, f { T with sends := l } = f T
  eps : ∀ T l, f { T with eps := l } = f T
  msgs : ∀ T l, f { T with msgs := l } = f T
  bursts : ∀ T l, f { T with bursts := l } = f T
  gates : ∀ T l, f { T with gates := l } = f T

/-- `f` depends neither on the accesses of a tile nor on DEEDFLT. -/
structure Tile.AnswerFree (f : Tile → α) : Prop extends Tile.DeliverFree f where
  accs : ∀ T l, f { T with accs := l } = f T
  deedFlt : ∀ T n, f { T with deedFlt := n } = f T

/-- `f` depends on nothing that narrow writes change either: the merge buffer and the narrow writes that wait. -/
structure Tile.NarrowFree (f : Tile → α) : Prop extends Tile.AnswerFree f where
  merge : ∀ T l, f { T with merge := l } = f T
  narrow : ∀ T l, f { T with narrow := l } = f T

/-- A change of a tile that `f` does not see is not seen in any tile. -/
theorem State.modTile_value {k : Tile → Tile} (s : State) (t g : Nat) (h : f (k (s.tile t)) = f (s.tile t)) : f ((s.modTile t k).tile g) = f (s.tile g) := by
  rw [State.modTile_tile]
  split
  · next e => rw [h, e]
  · rfl

/-- A change of a slice that leaves its tiles changes no tile. -/
theorem State.modSlice_tile {k : Slice → Slice} (s : State) (d g : Nat) (hb : ∀ S, (k S).base = S.base) (ht : ∀ S, (k S).tiles = S.tiles) :
    (s.modSlice d k).tile g = s.tile g := by
  rw [State.tile, State.tile, State.modSlice_slice]
  split
  · next h => rw [Slice.tile, Slice.tile, hb, ht, h]
  · rfl

/-- A value that every step of a fold keeps is kept by the fold. -/
theorem State.foldl_value {ι : Type} {k : State → ι → State} (g : Nat) (h : ∀ t x, f ((k t x).tile g) = f (t.tile g)) (l : List ι) (s : State) :
    f ((l.foldl k s).tile g) = f (s.tile g) :=
  foldl_eq (fun t => f (State.tile t g)) h l s

namespace Tile.AnswerFree

theorem dropAcc (h : AnswerFree f) (T : Tile) (id : Nat) : f (T.dropAcc id) = f T := h.accs T _

theorem modAcc (h : AnswerFree f) (T : Tile) (id : Nat) (k : Access → Access) : f (T.modAcc id k) = f T := h.accs T _

theorem countDeed (h : AnswerFree f) (T : Tile) : f T.countDeed = f T := h.deedFlt T _

end Tile.AnswerFree

namespace Tile.DeliverFree

theorem setChan (h : DeliverFree f) (T : Tile) (n : Nat) (c : Channel) : f (T.setChan n c) = f T := h.chans T _

theorem setEp (h : DeliverFree f) (T : Tile) (e : Nat) (E : Endpoint) : f (T.setEp e E) = f T := h.eps T _

theorem tagBlock (h : DeliverFree f) (T : Tile) (b : Nat) (l dem : Bool) : f (T.tagBlock b l dem) = f T := by
  unfold Tile.tagBlock
  split
  · rfl
  · exact h.setChan _ _ _

theorem burstServed (h : DeliverFree f) (T : Tile) (iss : Issuer) (bstart : Nat) (write : Bool) (n : Nat) :
    f (T.burstServed iss bstart write n) = f T := by
  unfold Tile.burstServed
  dsimp only
  split
  · rfl
  · split
    · exact h.bursts T _
    · exact (h.gates _ _).trans (h.bursts T _)

theorem pieceEnded (h : DeliverFree f) (T : Tile) (m : MsgIn) (st : Status) (l : Bool) : f (T.pieceEnded m st l) = f T := by
  unfold Tile.pieceEnded
  extract_lets bad T' m'
  have discarded : f T' = f T := by
    by_cases hb : bad
    · exact (congrArg f (if_pos hb)).trans (h.setEp _ _ _)
    · exact congrArg f (if_neg hb)
  clear_value T'
  split
  · split
    · exact (h.setEp _ _ _).trans ((h.msgs T' _).trans discarded)
    · exact (h.msgs T' _).trans discarded
  · exact (h.msgs T' _).trans discarded

end Tile.DeliverFree

theorem Slice.hostFault_tile (S : Slice) (now h kind ds g : Nat) (st : Status) (i : Nat) : (S.hostFault now h kind ds g st).tile i = S.tile i := by
  unfold Slice.hostFault
  rw [Slice.tile, Slice.tile, Slice.raise_base, Slice.raise_tiles]

theorem State.pieceEnd_tile (s : State) (p : Packet) (k : Nat) (st : Status) (dem : Bool) (g : Nat) : (s.pieceEnd p k st dem).tile g = s.tile g := by
  rw [State.tile, State.pieceEnd, State.modSlice_slice]
  split
  · next h =>
    rw [h]
    extract_lets S q S'
    have tagged : S'.tile (g % 256) = (s.slice (tileDie g)).tile (g % 256) := by
      cases dem <;> rfl
    clear_value S'
    split
    · exact tagged
    · exact (Slice.hostFault_tile ..).trans tagged
  · rfl

/-- The answer to an access is not seen. -/
theorem State.deliver_value (h : Tile.DeliverFree f) (s : State) (tile : Nat) (a : Access) (st : Status) (g : Nat) :
    f ((s.deliver tile a st).tile g) = f (s.tile g) := by
  unfold State.deliver
  extract_lets data l
  cases a.dest with
  | port => rfl
  | burst ch unit first => exact State.modTile_value s tile g (h.setChan _ _ _)
  | fetch ch => exact State.modTile_value s tile g (h.setChan _ _ _)
  | index b => exact State.modTile_value s tile g ((h.blocks _ _).trans (h.tagBlock _ _ _ _))
  | sendRead e unit => exact State.modTile_value s tile g (h.sends _ _)
  | packet id =>
    dsimp only
    split
    · rfl
    · next p _ =>
      have served := State.modTile_value (f := f) (k := fun T => T.burstServed a.iss p.bstart p.write (p.size / 64)) s tile g (h.burstServed (s.tile tile) a.iss p.bstart p.write (p.size / 64))
      generalize s.modTile tile (fun T => T.burstServed a.iss p.bstart p.write (p.size / 64)) = t at served ⊢
      split
      · exact (congrArg f (t.pieceEnd_tile p _ st a.demoted g)).trans served
      · split
        · exact served
        · next m _ =>
          exact (State.modTile_value (f := f) (k := fun T => T.pieceEnded m st l) t tile g (h.pieceEnded _ _ _ _)).trans served
      · split
        · exact served
        · exact served
  | flush b r => rfl
  | dropped => rfl

theorem State.refuseDeed_value (h : Tile.AnswerFree f) (s : State) (tile : Nat) (a : Access) (g : Nat) :
    f ((s.refuseDeed tile a).tile g) = f (s.tile g) :=
  (State.deliver_value h.toDeliverFree _ _ _ _ _).trans ((State.modTile_value _ _ _ (h.dropAcc _ _)).trans (State.modTile_value _ _ _ (h.countDeed _)))

/-- An access that reaches its banks is not seen, whatever they answer. -/
theorem State.offer_value (h : Tile.AnswerFree f) (s : State) (tile : Nat) (a : Access) (g : Nat) :
    f ((s.offer tile a).tile g) = f (s.tile g) := by
  unfold State.offer
  extract_lets T put adm
  have put_value : ∀ b, f ((put b).tile g) = f (s.tile g) := fun b => State.modTile_value s tile g (h.accs _ _)
  clear_value put adm
  cases adm with
  | refuse => exact State.refuseDeed_value h s tile a g
  | hold => exact put_value _
  | allow =>
    dsimp only
    split
    · exact put_value _
    · split
      · exact put_value _
      · exact put_value _

theorem State.stopCommons_value (h : Tile.AnswerFree f) (s : State) (tile : Nat) (banks : List Nat) (g : Nat) :
    f ((s.stopCommons tile banks).tile g) = f (s.tile g) := by
  unfold State.stopCommons
  extract_lets T hit
  refine State.foldl_value g (fun t a => ?_) _ _
  split
  · rfl
  · split
    · rfl
    · split
      · exact State.modTile_value t tile g (h.modAcc _ _ _)
      · split
        · exact State.refuseDeed_value h t tile a g
        · split
          · exact State.offer_value h t tile a g
          · rfl

/-- Requests that take freed request registers are not seen. -/
theorem State.promote_value (h : Tile.AnswerFree f) (s : State) (tile g : Nat) : f ((s.promote tile).tile g) = f (s.tile g) := by
  refine State.modTile_value s tile g ?_
  refine foldl_eq f (fun T a => ?_) _ _
  split
  · exact h.modAcc _ _ _
  · rfl

/-! ## The merge buffer -/

theorem State.startFlush_value (h : Tile.NarrowFree f) (s : State) (tile bank row : Nat) (evict : Bool) (g : Nat) :
    f ((s.startFlush tile bank row evict).tile g) = f (s.tile g) := by
  unfold State.startFlush
  dsimp only
  split
  · rfl
  · split
    · refine (State.modTile_value _ tile g (h.accs _ _)).trans ?_
      rw [State.takeId_tile]
      exact State.modTile_value s tile g (h.merge _ _)
    · exact State.modTile_value s tile g (h.merge _ _)

theorem Tile.mergeInto_value (h : Tile.NarrowFree f) (T : Tile) (bank row : Nat) (m : ByteMask) (d : RowData) (qos now : Nat) (lp : Bool) :
    f (T.mergeInto bank row m d qos now lp) = f T := by
  unfold Tile.mergeInto
  split
  · exact h.merge _ _
  · exact h.merge _ _

theorem State.narrowMerge_value (h : Tile.NarrowFree f) (s : State) (tile : Nat) (n : NarrowWrite) (g : Nat) :
    f ((s.narrowMerge tile n).tile g) = f (s.tile g) := by
  unfold State.narrowMerge
  extract_lets T b r filling wait enter
  have wait_value : f (wait.tile g) = f (s.tile g) := State.modTile_value s tile g (h.narrow _ _)
  have enter_value : ∀ t, f ((enter t).tile g) = f (t.tile g) := fun t => by
    dsimp only [enter]
    rw [State.narrowAnswer, State.emit_tile]
    split
    · refine (State.startFlush_value h _ tile b r false g).trans ?_
      exact State.modTile_value t tile g (Tile.mergeInto_value h _ _ _ _ _ _ _ _)
    · exact State.modTile_value t tile g (Tile.mergeInto_value h _ _ _ _ _ _ _ _)
  clear_value wait enter
  split
  · exact enter_value s
  · split
    · exact wait_value
    · split
      · exact enter_value s
      · exact (enter_value _).trans (State.startFlush_value h s tile _ _ true g)
      · exact wait_value

theorem State.narrowWrite_value (h : Tile.NarrowFree f) (s : State) (tile : Nat) (n : NarrowWrite) (g : Nat) :
    f ((s.narrowWrite tile n).tile g) = f (s.tile g) := by
  unfold State.narrowWrite
  dsimp only
  iterate 5
    split
    · rfl
  split
  · exact State.modTile_value s tile g (h.countDeed _)
  · exact State.modTile_value s tile g (h.narrow _ _)
  · exact State.narrowMerge_value h s tile n g

theorem State.drainNarrow_value (h : Tile.NarrowFree f) (s : State) (tile g : Nat) : f ((s.drainNarrow tile).tile g) = f (s.tile g) := by
  refine (State.foldl_value g (fun t n => ?_) _ _).trans (State.modTile_value s tile g (h.narrow _ _))
  split
  · exact State.narrowMerge_value h t tile n g
  · exact State.narrowWrite_value h t tile n g

theorem State.flushBanks_value (h : Tile.NarrowFree f) (s : State) (tile : Nat) (banks : List Nat) (g : Nat) :
    f ((s.flushBanks tile banks).tile g) = f (s.tile g) := by
  unfold State.flushBanks
  exact State.foldl_value g (fun t (e : MergeEntry) => State.startFlush_value h t tile e.bank e.row false g) _ s

end Sys2Proof.Machine
end

section
/-!
The steps of a deed operation and rotations: settles O19 and O20.
-/

namespace Sys2Proof.Machine

variable {s : State} {tile : Nat}

/-! ## Step 2: the merge buffer of the stopped banks -/

/-- An element with a property that `updWhere` takes from every element it changes was there before, and is none of those. -/
theorem mem_updWhere_of_kept {α : Type} {p : α → Bool} {f : α → α} {l : List α} {a : α} (h : a ∈ updWhere p f l) (hf : ∀ b, p b = true → f b ≠ a) :
    a ∈ l ∧ p a = false := by
  obtain ⟨b, hb, e⟩ := List.mem_map.mp h
  by_cases hp : p b = true
  · rw [if_pos hp] at e; exact absurd e (hf b hp)
  · rw [if_neg hp] at e
    exact e ▸ ⟨hb, Bool.eq_false_iff.mpr hp⟩

theorem updWhere_none {α : Type} {p : α → Bool} {l : List α} (f : α → α) (h : l.find? p = none) : updWhere p f l = l := by
  rw [List.find?_eq_none] at h
  exact (List.map_congr_left fun a ha => if_neg (h a ha)).trans (List.map_id' l)

/-- The entries of a tile once a flush has begun. -/
theorem State.startFlush_merge (s : State) (tile bank row : Nat) (evict : Bool) :
    ((s.startFlush tile bank row evict).tile tile).merge =
      updWhere (fun k => k.bank == bank && k.row == row && !k.flushing)
        (fun k => { k with flushing := true, evicted := evict, flushAt := s.nextId }) (s.tile tile).merge := by
  unfold State.startFlush
  dsimp only
  split
  · next h => exact (updWhere_none _ h).symm
  · split
    · rw [State.modTile_tile, if_pos rfl]
      dsimp only
      rw [State.takeId_tile, State.modTile_tile, if_pos rfl]
    · rw [State.modTile_tile, if_pos rfl]

/-- An entry that still fills once a flush has begun did so before, and is of another row. -/
theorem State.startFlush_fills {e : MergeEntry} {bank row : Nat} {evict : Bool} (he : e ∈ ((s.startFlush tile bank row evict).tile tile).merge)
    (hf : e.flushing = false) : e ∈ (s.tile tile).merge ∧ ¬(e.bank = bank ∧ e.row = row) := by
  rw [State.startFlush_merge] at he
  obtain ⟨hm, hp⟩ := mem_updWhere_of_kept he (fun b _ h => by rw [← h] at hf; simp at hf)
  exact ⟨hm, by simpa [hf] using hp⟩

theorem State.foldl_startFlush_fills {e : MergeEntry} (l : List MergeEntry) (s : State)
    (he : e ∈ ((l.foldl (fun s k => s.startFlush tile k.bank k.row false) s).tile tile).merge) (hf : e.flushing = false) :
    e ∈ (s.tile tile).merge ∧ e ∉ l := by
  induction l generalizing s with
  | nil => exact ⟨he, List.not_mem_nil⟩
  | cons k l ih =>
    obtain ⟨hm, hl⟩ := ih _ he
    obtain ⟨hm, hk⟩ := State.startFlush_fills hm hf
    refine ⟨hm, fun h => ?_⟩
    rcases List.mem_cons.mp h with rfl | h
    · exact hk ⟨rfl, rfl⟩
    · exact hl h

/-- Every entry of the banks flushes. -/
theorem State.flushBanks_flushing {e : MergeEntry} {banks : List Nat} (he : e ∈ ((s.flushBanks tile banks).tile tile).merge) (hb : e.bank ∈ banks) :
    e.flushing = true := by
  by_contra hf
  rw [Bool.not_eq_true] at hf
  obtain ⟨hm, hl⟩ := State.foldl_startFlush_fills _ s he hf
  exact hl (List.mem_filter.mpr ⟨hm, by simp [hf, hb]⟩)

/-! ## The effect point -/

theorem Tile.ownerOf_lt (T : Tile) (b : Nat) : T.ownerOf b < 8 := (Tbl.get 0 T.owner b).isLt

theorem Tile.newOwner_lt (T : Tile) (op : DeedOp) (b : Nat) : T.newOwner op b < 8 := by
  have set : ∀ m, T.setOwner m < 8 := fun m => by
    unfold Tile.setOwner
    split
    · omega
    · exact T.ownerOf_lt _
  cases op with
  | deed k o => exact iteInduction (motive := (· < 8)) (fun _ => o.isLt) (fun _ => T.ownerOf_lt b)
  | commons m => exact T.ownerOf_lt b
  | rotate x y w =>
    exact iteInduction (motive := (· < 8)) (fun _ => set y) (fun _ => iteInduction (motive := (· < 8)) (fun _ => set x) (fun _ => T.ownerOf_lt b))
  | retire m => exact iteInduction (motive := (· < 8)) (fun _ => by omega) (fun _ => T.ownerOf_lt b)

/-- A bank that the operation does not name keeps its owner. -/
theorem Tile.newOwner_of_not_mem {T : Tile} {op : DeedOp} {b : Nat} (h : b ∉ T.opBanks op) : T.newOwner op b = T.ownerOf b := by
  cases op with
  | deed k o => exact if_neg (by simpa [Tile.opBanks] using h)
  | commons m => rfl
  | rotate x y w =>
    have hb : ¬(bit x b = true) ∧ ¬(bit y b = true) := by simpa [Tile.opBanks, bit] using h
    exact (if_neg hb.1).trans (if_neg hb.2)
  | retire m => exact if_neg (by simpa [Tile.opBanks] using h)

theorem Tbl.get_foldl_set {α : Type} (d : α) (v : Nat → α) (l : List Nat) (m : Tbl α) (k : Nat) :
    Tbl.get d (l.foldl (fun o b => Tbl.set o b (v b)) m) k = if k ∈ l then v k else Tbl.get d m k := by
  induction l generalizing m with
  | nil => simp
  | cons b l ih =>
    rw [List.foldl_cons, ih, Tbl.get_set]
    by_cases hk : k ∈ l
    · simp [hk]
    · by_cases hb : b = k
      · simp [hb]
      · simp [hk, hb, Ne.symm hb]

/-- The owners that an operation leaves, whichever banks it names. -/
theorem Tile.deedEffect_ownerOf (T : Tile) (op : DeedOp) (b : Nat) : (T.deedEffect op).ownerOf b = T.newOwner op b := by
  have value : (BitVec.ofNat 3 (T.newOwner op b)).toNat = T.newOwner op b := Nat.mod_eq_of_lt (T.newOwner_lt op b)
  refine (congrArg BitVec.toNat (Tbl.get_foldl_set 0 (fun b => BitVec.ofNat 3 (T.newOwner op b)) (T.opBanks op) T.owner b)).trans ?_
  split
  · exact value
  · next h => exact (Tile.newOwner_of_not_mem h).symm

/-- What the effect point of an operation leaves in a tile's registers. -/
structure Tile.Effected (T U : Tile) (op : DeedOp) : Prop where
  owner : ∀ b, T.ownerOf b = U.newOwner op b
  commons : T.commons = U.newMask op
  deedOp : T.deedOp = none
  pend : T.pend = 0
  rotBusy : T.rotBusy = false

/-- The registers of `Tile.Effected`, and the accesses that wait at the block. -/
def Tile.deeds (T : Tile) : Tbl (BitVec 3) × BitVec 6 × Option DeedOp × Bool × BitVec 16 × Bool × List RegAcc :=
  (T.owner, T.commons, T.deedOp, T.deedStop, T.pend, T.rotBusy, T.regWait)

theorem Tile.deeds_free : Tile.NarrowFree Tile.deeds where
  accs _ _ := rfl
  deedFlt _ _ := rfl
  chans _ _ := rfl
  blocks _ _ := rfl
  sends _ _ := rfl
  eps _ _ := rfl
  msgs _ _ := rfl
  bursts _ _ := rfl
  gates _ _ := rfl
  merge _ _ := rfl
  narrow _ _ := rfl

theorem State.deedEffectOp_deeds (s : State) (tile : Nat) (op : DeedOp) :
    ((s.deedEffectOp tile op).tile tile).deeds = ((s.tile tile).deedEffect op).deeds := by
  unfold State.deedEffectOp
  have first : (((s.modTile tile (fun T => (T.deedEffect op).admitHeld)).promote tile).tile tile).deeds = ((s.tile tile).deedEffect op).deeds := by
    rw [State.promote_value Tile.deeds_free.toAnswerFree, State.modTile_tile, if_pos rfl]
    exact Tile.deeds_free.accs _ _
  generalize (s.modTile tile (fun T => (T.deedEffect op).admitHeld)).promote tile = t at first ⊢
  dsimp only
  rw [State.drainNarrow_value Tile.deeds_free, ← first]
  split
  · rw [State.rotateAnswered_tile]
  · rfl

/-- The effect point of a pending operation at a block at which no access waits. -/
theorem State.effectPoint_effected {op : DeedOp} (hop : (s.tile tile).deedOp = some op) (hr : (s.tile tile).deedReady op = true)
    (hw : (s.tile tile).regWait = []) :
    s.effectPoint tile op.isRotate = s.deedEffectOp tile op ∧ ((s.deedEffectOp tile op).tile tile).Effected (s.tile tile) op := by
  have effective : (s.tile tile).effective = some op := by rw [Tile.effective, hop]; exact Option.filter_some_pos hr
  have deeds := s.deedEffectOp_deeds tile op
  simp only [Tile.deeds, Prod.mk.injEq] at deeds
  obtain ⟨owner, commons, deedOp, -, pend, rotBusy, regWait⟩ := deeds
  refine ⟨?_, ⟨fun b => ?_, commons, deedOp, pend, rotBusy⟩⟩
  · rw [State.effectPoint, effective]
    dsimp only
    rw [if_pos rfl]
    exact State.freed_none (regWait.trans hw)
  · rw [← Tile.deedEffect_ownerOf]
    exact congrArg (fun o => (Tbl.get 0 o b).toNat) owner

/-- Settles O19: step 2 of an operation, and its effect point. -/
theorem deedSteps : Obligations.DeedSteps := by
  refine ⟨fun s tile op ht hl hop hs => ?_, fun s tile op ht hl hop hr hrot hw => ?_⟩
  · have run : s.deedStopOp tile = ((s.modTile tile (fun T => ({ T with deedStop := true } : Tile).flushDirect ((s.tile tile).opBanks op))).stopCommons
        tile ((s.tile tile).opBanks op)).flushBanks tile ((s.tile tile).opBanks op) := by
      rw [State.deedStopOp, hop]
      exact if_neg (by simp [hs])
    have deeds : ((s.deedStopOp tile).tile tile).deeds = ({ s.tile tile with deedStop := true } : Tile).deeds := by
      rw [run, State.flushBanks_value Tile.deeds_free, State.stopCommons_value Tile.deeds_free.toAnswerFree, State.modTile_tile, if_pos rfl]
      exact Tile.deeds_free.accs _ _
    simp only [Tile.deeds, Prod.mk.injEq] at deeds
    obtain ⟨owner, commons, deedOp, deedStop, -⟩ := deeds
    exact ⟨_, State.atTile_next ht hl, deedStop, deedOp.trans hop, owner, commons, fun e he hb => State.flushBanks_flushing (run ▸ he) hb⟩
  · obtain ⟨run, ⟨owner, commons, deedOp, pend, -⟩⟩ := State.effectPoint_effected hop hr hw
    rw [hrot] at run
    refine ⟨_, (State.atTile_next ht hl).trans (congrArg Host.Outcome.next run), deedOp, pend, fun b _ => ?_⟩
    cases op with
    | deed k o => exact ⟨commons, owner b⟩
    | commons m => exact ⟨commons, owner b⟩
    | retire m => exact ⟨commons, owner b⟩
    | rotate x y w => trivial

/-! ## Rotation -/

/-- The owner of a set whose banks hold one owner. -/
theorem Tile.setOwner_eq {T : Tile} {m : BitVec 16} {x : Nat} (hm : m ≠ 0) (h : ∀ b, b < 16 → bit m b = true → T.ownerOf b = x) : T.setOwner m = x := by
  unfold Tile.setOwner
  split
  · next he =>
    refine absurd ((eq_zero_iff_bit m).mpr fun k _ => Bool.eq_false_iff.mpr fun hk => ?_) hm
    rw [← mem_bitsOf, he] at hk
    exact absurd hk List.not_mem_nil
  · next b l he =>
    have hb : bit m b = true := mem_bitsOf.mp (he ▸ List.mem_cons_self)
    exact h b (lt_of_bit hb) hb

/-- Of every slice only tiles have changed. -/
def State.TilesOnly (t s : State) : Prop := ∀ d, ∃ l, t.slice d = { s.slice d with tiles := l }

theorem State.tilesOnly_refl (s : State) : s.TilesOnly s := fun _ => ⟨_, rfl⟩

theorem State.TilesOnly.trans {u t s : State} (h : u.TilesOnly t) (h' : t.TilesOnly s) : u.TilesOnly s := fun d => by
  obtain ⟨l, hl⟩ := h d
  obtain ⟨l', hl'⟩ := h' d
  exact ⟨l, by rw [hl, hl']⟩

theorem State.modTile_tilesOnly (s : State) (g : Nat) (k : Tile → Tile) : (s.modTile g k).TilesOnly s := fun d => s.modTile_slice g k d

theorem State.takeId_tilesOnly (s : State) : s.takeId.TilesOnly s := fun _ => ⟨_, rfl⟩

theorem State.emit_tilesOnly (s : State) (o : Output) : (s.emit o).TilesOnly s := fun _ => ⟨_, rfl⟩

theorem State.foldl_tilesOnly {ι : Type} {k : State → ι → State} (h : ∀ t x, (k t x).TilesOnly t) (l : List ι) (s : State) :
    (l.foldl k s).TilesOnly s := by
  induction l generalizing s with
  | nil => exact s.tilesOnly_refl
  | cons x l ih => exact (ih _).trans (h s x)

theorem State.startFlush_tilesOnly (s : State) (tile bank row : Nat) (evict : Bool) : (s.startFlush tile bank row evict).TilesOnly s := by
  unfold State.startFlush
  dsimp only
  split
  · exact s.tilesOnly_refl
  · split
    · exact ((State.modTile_tilesOnly _ _ _).trans (State.takeId_tilesOnly _)).trans (s.modTile_tilesOnly tile _)
    · exact s.modTile_tilesOnly tile _

theorem State.narrowMerge_tilesOnly (s : State) (tile : Nat) (n : NarrowWrite) : (s.narrowMerge tile n).TilesOnly s := by
  unfold State.narrowMerge
  extract_lets T b r filling wait enter
  have waits : wait.TilesOnly s := s.modTile_tilesOnly tile _
  have enters : ∀ t, (enter t).TilesOnly t := fun t => by
    refine State.TilesOnly.trans (t := _) (State.emit_tilesOnly _ _) ?_
    split
    · exact (State.startFlush_tilesOnly _ _ _ _ _).trans (t.modTile_tilesOnly tile _)
    · exact t.modTile_tilesOnly tile _
  clear_value wait enter
  split
  · exact enters s
  · split
    · exact waits
    · split
      · exact enters s
      · exact (enters _).trans (s.startFlush_tilesOnly tile _ _ true)
      · exact waits

theorem State.narrowWrite_tilesOnly (s : State) (tile : Nat) (n : NarrowWrite) : (s.narrowWrite tile n).TilesOnly s := by
  unfold State.narrowWrite
  dsimp only
  iterate 5
    split
    · exact s.tilesOnly_refl
  split
  · exact s.modTile_tilesOnly tile _
  · exact s.modTile_tilesOnly tile _
  · exact s.narrowMerge_tilesOnly tile n

/-- Narrow writes that are taken again change nothing of a slice but its tiles. -/
theorem State.drainNarrow_tilesOnly (s : State) (tile : Nat) : (s.drainNarrow tile).TilesOnly s := by
  refine State.TilesOnly.trans (State.foldl_tilesOnly (fun t n => ?_) _ _) (s.modTile_tilesOnly tile _)
  split
  · exact t.narrowMerge_tilesOnly tile n
  · exact t.narrowWrite_tilesOnly tile n

/-- The answer of the tile to a slice-wide rotation. -/
theorem State.deedEffectOp_rotLeft (s : State) (tile : Nat) (A B : BitVec 16) :
    bit ((s.deedEffectOp tile (.rotate A B true)).slice (tileDie tile)).rotLeft (tile % 256) = false := by
  unfold State.deedEffectOp
  dsimp only
  obtain ⟨l, hl⟩ := State.drainNarrow_tilesOnly (((s.modTile tile (fun T => (T.deedEffect (.rotate A B true)).admitHeld)).promote tile).modSlice
    (tileDie tile) (fun S => S.rotateAnswered (tile % 256) false)) tile (tileDie tile)
  rw [hl, State.modSlice_slice, if_pos rfl]
  exact bit_setBit_false _ _

/-- Settles O20: the effect point of a rotation gives each set the owner of the other. -/
theorem rotationSwapsOwners : Obligations.RotationSwapsOwners := by
  intro s tile A B bySlice x y ht hl hop hr hw _ hA hB hx hy
  obtain ⟨run, ⟨owner, commons, deedOp, pend, rotBusy⟩⟩ := State.effectPoint_effected hop hr hw
  have step : exec (.rotationEffectPoint tile) s = .next (s.deedEffectOp tile (.rotate A B bySlice)) :=
    (State.atTile_next ht hl).trans (congrArg Host.Outcome.next run)
  have keeps : s.Keeps true (s.deedEffectOp tile (.rotate A B bySlice)) := State.deedEffectOp_keeps State.keeps_refl
  obtain ⟨mem, poison, valid⟩ := keeps.banks rfl
  refine ⟨_, step, deedOp, rotBusy, pend, commons, mem, poison, valid, fun b _ => ?_, fun hs => ?_⟩
  · rw [owner, Tile.newOwner, Tile.setOwner_eq hB hy, Tile.setOwner_eq hA hx]
  · subst hs; exact s.deedEffectOp_rotLeft tile A B

end Sys2Proof.Machine
end

section
/-!
Narrow writes in the merge buffer (spec/02_banks_deeds.md R67 to R70): O16.
-/

namespace Sys2Proof.Machine

open Host

/-- Bank 0 of tile 0 is commons, the scalar core may use it, and it has the two entries that a bank may have, both filling. -/
def twoEntries : Tile where
  remap := true
  owner := [(0, 6)]
  commons := 0x08
  merge := [{ bank := 0, row := 1, image := 0, mask := 1, qos := 0, flushing := false },
    { bank := 0, row := 2, image := 0, mask := 1, qos := 0, flushing := false }]

def evicting : State := { pkg := .yx2, slices := [(0, { power := true, step := 9, tiles := [(0, twoEntries)] })] }

/-- Refutes O16: it names the answer to a narrow write by the identity that is next before the write. Where the write evicts an entry of a
commons bank, the flush of that entry is a request of its own and takes this identity; in `evicting` the answer has the identity 1. -/
theorem not_mergeBufferWrites : ¬ Obligations.MergeBufferWrites := by
  unfold Obligations.MergeBufferWrites
  rintro ⟨narrow, -, -⟩
  obtain ⟨t, ht, out, -⟩ := narrow evicting 0 0 1 0 0 (by decide) (by decide) (by decide) (by decide) (by decide) (by decide) (by decide) (by decide)
    (.inr (by decide)) (by decide) (.inr (by decide))
  have step : exec (.narrowWrite 0 0 1 0 0) evicting = .next (evicting.narrowWrite 0 { off := 0, size := 1, data := 0, qos := 0 }).takeId := by rfl
  have answered : (evicting.narrowWrite 0 { off := 0, size := 1, data := 0, qos := 0 }).takeId.out = [Output.access 0 .sc 1 .ok [] false false] := by rfl
  have ht := Outcome.next.inj (step.symm.trans ht)
  rw [← ht, answered] at out
  exact absurd out (by decide)

end Sys2Proof.Machine
end

section
/-!
Flits in the lanes and packets at the slice matrix: settles O23 and O24.
-/

namespace Sys2Proof.Machine

open Host

variable {s : State} {id d x y : Nat} {p : Packet}

/-! ## Grants -/

theorem firstBy_eq_none {rank : Packet → Nat} {l : List Packet} (h : firstBy rank l = none) : l = [] := by
  unfold firstBy at h
  split at h
  · next hn => exact argMin_eq_none hn
  · next q hq =>
    obtain ⟨hmem, -⟩ := argMin_eq_some hq
    have hnil := argMin_eq_none h
    rw [List.filter_eq_nil_iff] at hnil
    exact absurd (beq_self_eq_true _) (hnil q hmem)

theorem firstBy_eq_some {rank : Packet → Nat} {l : List Packet} {q : Packet} (h : firstBy rank l = some q) :
    q ∈ l ∧ ∀ r, r ∈ l → rank q ≤ rank r := by
  unfold firstBy at h
  split at h
  · nomatch h
  · next b hb =>
    obtain ⟨hmem, -⟩ := argMin_eq_some h
    obtain ⟨hq, he⟩ := List.mem_filter.mp hmem
    rw [beq_iff_eq] at he
    exact ⟨hq, fun r hr => he ▸ (argMin_eq_some hb).2 r hr⟩

/-- An order by two keys of which the second is bounded. -/
theorem lt_or_eq_and_le {a b c e n : Nat} (_ : c < n) (he : e < n) (h : a * n + c ≤ b * n + e) : a < b ∨ a = b ∧ c ≤ e := by
  rcases Nat.lt_trichotomy a b with hab | hab | hab
  · exact .inl hab
  · subst hab; exact .inr ⟨rfl, by omega⟩
  · have : (b + 1) * n ≤ a * n := Nat.mul_le_mul_right n hab
    rw [Nat.add_mul, Nat.one_mul] at this
    omega

theorem turnDist_lt {n last code : Nat} (hn : 0 < n) : turnDist n last code < n := Nat.mod_lt _ hn

/-- The packets on one lane that a router sends out by one output. -/
def State.laneHere (s : State) (d x y out lane : Nat) : List Packet :=
  s.net.filter (fun p => p.loc == .lane d x y && routeOut x y (p.goal d) == out && p.lane == lane)

theorem State.mem_laneHere {d x y out lane : Nat} {q : Packet} :
    q ∈ s.laneHere d x y out lane ↔ q ∈ s.net ∧ q.loc = .lane d x y ∧ routeOut x y (q.goal d) = out ∧ q.lane = lane := by
  simp [State.laneHere, and_assoc]

/-- The flit granted is there, and comes before every other that no earlier packet of its transaction ID holds back. -/
theorem State.laneGrant_first {out lane : Nat} {q : Packet} (h : s.laneGrant d x y out lane = some q) :
    q ∈ s.laneHere d x y out lane ∧ ∀ r, r ∈ s.laneHere d x y out lane →
      (∀ o, o ∈ s.laneHere d x y out lane → o.sameTxn r = true → r.ord ≤ o.ord) →
      q.laneRank < r.laneRank ∨ q.laneRank = r.laneRank ∧
        turnDist 6 (Tbl.get 5 (s.slice d).routers (routerKey x y out lane)) q.side ≤
          turnDist 6 (Tbl.get 5 (s.slice d).routers (routerKey x y out lane)) r.side := by
  obtain ⟨hq, hle⟩ := firstBy_eq_some h
  have lt : ∀ last code, turnDist 6 last code < 8 := fun _ _ => (turnDist_lt (by omega)).trans (by omega)
  refine ⟨(List.mem_filter.mp hq).1, fun r hr hfirst => lt_or_eq_and_le (lt _ _) (lt _ _) (hle r ?_)⟩
  refine List.mem_filter.mpr ⟨hr, ?_⟩
  rw [Bool.not_eq_true', List.any_eq_false]
  intro o ho hc
  rw [Bool.and_eq_true, decide_eq_true_eq] at hc
  exact absurd (hfirst o ho hc.2) (by omega)

theorem turnPick_first {last : Nat} {l : List Packet} {q : Packet} (h : turnPick last l = some q) :
    q ∈ l ∧ ∀ r, r ∈ l → r.qosNow ≤ 7 → q.qosNow ≤ 7 →
      r.qosNow < q.qosNow ∨ r.qosNow = q.qosNow ∧ turnDist 128 last q.port ≤ turnDist 128 last r.port := by
  obtain ⟨hq, hle⟩ := firstBy_eq_some h
  have lt : ∀ p : Packet, turnDist 128 last p.port < 256 := fun p => (turnDist_lt (by omega)).trans (by omega)
  refine ⟨hq, fun r hr h7 hq7 => ?_⟩
  rcases lt_or_eq_and_le (lt q) (lt r) (hle r hr) with h | h
  · exact .inl (by omega)
  · exact .inr ⟨by omega, h.2⟩

/-! ## Moves of packets -/

theorem State.move_pkt (h : s.pkt id = some p) (l : Loc) : (s.move id l).pkt id = some { p with loc := l, came := s.nextId } :=
  State.modPkt_pkt_self h (fun _ => rfl)

theorem State.move_slice (s : State) (id : Nat) (l : Loc) (e : Nat) : (s.move id l).slice e = s.slice e := rfl

theorem State.modPkt_slice (s : State) (id : Nat) (f : Packet → Packet) (e : Nat) : (s.modPkt id f).slice e = s.slice e := rfl

/-- Packets that join the network come behind those that are there. -/
theorem State.pkt_append {t : State} {l : List Packet} (ht : t.net = s.net ++ l) (h : s.pkt id = some p) : t.pkt id = some p := by
  rw [State.pkt, ht, List.find?_append, ← State.pkt, h]; rfl

/-- The flits into which a multicast flit parts stand where it stands. -/
theorem State.fork_loc (h : s.pkt id = some p) (u v : Nat) : ((s.fork id u v).pkt id).map (·.loc) = some p.loc := by
  unfold State.fork
  rw [h]
  dsimp only
  split
  · split
    · rw [h]; rfl
    · next l rest _ =>
      have first : (s.modPkt id (fun p => p.toward l)).pkt id = some (p.toward l) := State.modPkt_pkt_self h (fun _ => rfl)
      generalize s.modPkt id (fun p => p.toward l) = t at first
      have joined : ∀ (rest : List (List (Nat × Nat))) (t : State), t.pkt id = some (p.toward l) →
          (rest.foldl (fun s q => { s.takeId with net := s.net ++ [{ p.toward q with id := s.nextId }] }) t).pkt id = some (p.toward l) := by
        intro rest
        induction rest with
        | nil => exact fun t ht => ht
        | cons q rest ih => exact fun t ht => ih _ (State.pkt_append rfl ht)
      rw [joined rest t first]; rfl
  · rw [h]; rfl

theorem State.fork_slice (s : State) (id u v e : Nat) : (s.fork id u v).slice e = s.slice e := by
  unfold State.fork
  split
  · rfl
  · split
    · split
      · rfl
      · next l rest _ =>
        refine (foldl_eq (fun t => State.slice t e) ?_ rest _).trans rfl
        exact fun _ _ => rfl
    · rfl

/-! ## Hops (spec/01_architecture.md R24, R25) -/

/-- A flit that its router forwards to the router beside an output stands there next; the output remembers the input that it came from. -/
theorem State.laneHop_next {out : Nat} (h : s.pkt id = some p) (ho : routeOut x y (p.goal d) = out) (h0 : out ≠ 0) (h5 : out ≠ 5) :
    ((s.laneHop p d x y).pkt id).map (·.loc) = some (.lane d (nextRouter x y out).1.1 (nextRouter x y out).1.2) ∧
      Tbl.get 5 ((s.laneHop p d x y).slice d).routers (routerKey x y out p.lane) = p.side := by
  have hid := State.pkt_id h
  unfold State.laneHop
  dsimp only
  rw [ho, if_neg h0, if_neg h5, hid]
  generalize ht : s.modSlice d (fun S => { S with routers := S.routers.set (routerKey x y out p.lane) p.side }) = t
  have ht' : t.pkt id = some p := by rw [← ht]; exact h
  constructor
  · have sent := State.modPkt_pkt_self (f := fun q => { q with side := (nextRouter x y out).2 }) ht' (fun _ => rfl)
    have moved := State.move_pkt sent (.lane d (nextRouter x y out).1.1 (nextRouter x y out).1.2)
    exact State.fork_loc moved _ _
  · rw [State.fork_slice, State.move_slice, State.modPkt_slice, ← ht, State.modSlice_slice, if_pos rfl]
    exact (Tbl.get_set ..).trans (if_pos rfl)

theorem State.flitMove_granted (h : s.pkt id = some p) (hloc : p.loc = .lane d x y) (hl : s.live d = true)
    (hg : (s.laneGrant d x y (routeOut x y (p.goal d)) p.lane).map (·.id) = some id) : exec (.laneFlit id) s = .next (s.laneHop p d x y) := by
  refine congrArg Outcome.next ?_
  rw [State.flitMove, h]
  dsimp only
  rw [hloc]
  exact if_pos (by simp [hl, hg])

theorem tileX_lt (g : Nat) : tileX g < 16 := Nat.mod_lt _ (by omega)

theorem tileY_lt (g : Nat) : tileY g < 16 := Nat.mod_lt _ (by omega)

/-- The output that leads nearer a router, and the step that it makes: first along x, then along y. -/
theorem outTo_step {gx gy : Nat} (h : x ≠ gx ∨ y ≠ gy) :
    outTo x y gx gy ≠ 0 ∧ outTo x y gx gy ≠ 5 ∧
      (x ≠ gx → (nextRouter x y (outTo x y gx gy)).1.2 = y ∧
        ((x < gx ∧ (nextRouter x y (outTo x y gx gy)).1.1 = x + 1) ∨ (gx < x ∧ (nextRouter x y (outTo x y gx gy)).1.1 = x - 1))) ∧
      (x = gx → (nextRouter x y (outTo x y gx gy)).1.1 = x ∧
        ((y < gy ∧ (nextRouter x y (outTo x y gx gy)).1.2 = y + 1) ∨ (gy < y ∧ (nextRouter x y (outTo x y gx gy)).1.2 = y - 1))) := by
  unfold outTo
  split
  · next hlt => exact ⟨by decide, by decide, fun _ => ⟨rfl, .inl ⟨hlt, rfl⟩⟩, fun e => absurd e (by omega)⟩
  · split
    · next hlt => exact ⟨by decide, by decide, fun _ => ⟨rfl, .inr ⟨hlt, rfl⟩⟩, fun e => absurd e (by omega)⟩
    · split
      · next hlt => exact ⟨by decide, by decide, fun e => absurd e (by omega), fun _ => ⟨rfl, .inl ⟨hlt, rfl⟩⟩⟩
      · split
        · next hlt => exact ⟨by decide, by decide, fun e => absurd e (by omega), fun _ => ⟨rfl, .inr ⟨hlt, rfl⟩⟩⟩
        · omega

/-- Whichever edge is nearest, the perimeter router shares a coordinate with the router, and the distance to it is the least to an edge. -/
theorem perimeter_edge (hx : x < 16) (hy : y < 16) :
    ((perimeter x y).2 = y ∧ ((perimeter x y).1 = 0 ∧ x = min (min x (15 - x)) (min y (15 - y)) ∨
        (perimeter x y).1 = 15 ∧ 15 - x = min (min x (15 - x)) (min y (15 - y)))) ∨
      ((perimeter x y).1 = x ∧ ((perimeter x y).2 = 0 ∧ y = min (min x (15 - x)) (min y (15 - y)) ∨
        (perimeter x y).2 = 15 ∧ 15 - y = min (min x (15 - x)) (min y (15 - y)))) := by
  unfold perimeter
  dsimp only
  split
  · exact .inl ⟨rfl, .inl ⟨rfl, by assumption⟩⟩
  · split
    · exact .inl ⟨rfl, .inr ⟨rfl, by assumption⟩⟩
    · split
      · exact .inr ⟨rfl, .inl ⟨rfl, by assumption⟩⟩
      · exact .inr ⟨rfl, .inr ⟨rfl, by omega⟩⟩

/-- One step toward the nearer of two opposite edges, at most as far as the others are. -/
theorem min_edge_step {x u k : Nat} (h0 : 0 < x) (h15 : x < 15)
    (h : x = min (min x (15 - x)) k ∧ u = x - 1 ∨ 15 - x = min (min x (15 - x)) k ∧ u = x + 1) :
    min (min u (15 - u)) k + 1 = min (min x (15 - x)) k := by omega

/-- Settles O23: the grant of a lane, a hop toward a tile, and a hop toward the perimeter. -/
theorem laneFlitRoutes : Obligations.LaneFlitRoutes := by
  refine ⟨?_, fun s id d x y g p h hloc hl hx hy hgoal hg => ?_, fun s id d x y p h hloc hl hx hy hgoal hg => ?_⟩
  · intro s id d x y p h hloc hl out last
    refine ⟨fun hne => congrArg Outcome.next ?_, fun q hq => ?_⟩
    · rw [State.flitMove, h]
      dsimp only
      rw [hloc]
      exact if_neg (by simpa [hl] using hne)
    · obtain ⟨here, first⟩ := State.laneGrant_first hq
      obtain ⟨hmem, hql, hqo, hqn⟩ := State.mem_laneHere.mp here
      refine ⟨hmem, hql, hqo, hqn, fun r hr hrl hro hrn hfirst => first r (State.mem_laneHere.mpr ⟨hr, hrl, hro, hrn⟩) fun o ho ht => ?_⟩
      obtain ⟨hom, hol, hoo, hon⟩ := State.mem_laneHere.mp ho
      exact hfirst o hom hol hoo hon ht
  · rw [← hgoal] at hg
    have run := State.flitMove_granted h hloc hl hg
    have route : routeOut x y (p.goal d) = outTo x y (tileX g) (tileY g) := by rw [hgoal]; rfl
    refine ⟨fun ex ey => ?_, fun hne => ?_⟩
    · have out0 : routeOut x y (p.goal d) = 0 := by rw [route, outTo, ← ex, ← ey]; simp
      rw [run, State.laneHop]
      dsimp only
      rw [out0, if_pos rfl]
    · obtain ⟨h0, h5, alongX, alongY⟩ := outTo_step hne
      obtain ⟨loc, turn⟩ := State.laneHop_next h route h0 h5
      refine ⟨_, _, _, run, loc, turn, fun hx => ?_, fun hx => ?_⟩
      · obtain ⟨hv, hu⟩ := alongX hx
        exact ⟨hv, by omega⟩
      · obtain ⟨hu, hv⟩ := alongY hx
        exact ⟨hu, by omega⟩
  · rw [← hgoal] at hg
    have run := State.flitMove_granted h hloc hl hg
    have edge := perimeter_edge hx hy
    refine ⟨fun hedge => ?_, fun hx0 hx15 hy0 hy15 => ?_⟩
    · have here : (x, y) = perimeter x y := Prod.ext (by omega) (by omega)
      have out5 : routeOut x y (p.goal d) = 5 := by rw [hgoal]; exact if_pos here
      refine ⟨_, run, ?_⟩
      unfold State.laneHop
      dsimp only
      rw [out5, if_neg (by omega), if_pos rfl, State.pkt_id h]
      generalize ht : s.modSlice d (fun S => { S with routers := S.routers.set (routerKey x y 5 p.lane) p.side }) = t
      have ht' : t.pkt id = some p := by rw [← ht]; exact h
      have sent := State.modPkt_pkt_self (f := fun q => { q with port := attachment x y }) ht' (fun _ => rfl)
      rw [State.move_pkt sent]
      rfl
    · have there : (x, y) ≠ perimeter x y := fun e => by
        rw [← e] at edge
        dsimp only at edge
        omega
      have route : routeOut x y (p.goal d) = outTo x y (perimeter x y).1 (perimeter x y).2 := by rw [hgoal]; exact if_neg there
      obtain ⟨h0, h5, alongX, alongY⟩ := outTo_step (x := x) (y := y) (gx := (perimeter x y).1) (gy := (perimeter x y).2) (by
        by_contra hc
        rw [not_or, not_not, not_not] at hc
        exact there (Prod.ext hc.1 hc.2))
      obtain ⟨loc, -⟩ := State.laneHop_next h route h0 h5
      refine ⟨_, _, _, run, loc, ?_⟩
      rcases edge with ⟨ey, ex⟩ | ⟨ex, ey⟩
      · obtain ⟨hv, hu⟩ := alongX (fun e => there (Prod.ext e ey.symm))
        rw [hv]
        exact ⟨min_edge_step hx0 hx15 (by omega), .inr rfl⟩
      · obtain ⟨hu, hv⟩ := alongY ex.symm
        rw [hu, min_comm, min_comm (min x (15 - x))]
        rw [min_comm (min x (15 - x))] at ey
        exact ⟨min_edge_step hy0 hy15 (by omega), .inl rfl⟩

/-! ## The slice matrix (spec/04_fabric_arbitration.md R115 to R121) -/

theorem Slice.portGrant_free {S : Slice} {target : Nat} {l : List Packet}
    (h : S.parkedOn target = none ∨ S.unparked.contains target = true ∨ ∀ p, p ∈ l → S.parkedOn target = some p.port) :
    (S.portGrant target l).1 = turnPick (Tbl.get 127 S.turn target) l := by
  unfold Slice.portGrant
  dsimp only
  split
  · rfl
  · next c hc =>
    refine congrArg Prod.fst (if_pos ?_)
    rw [Bool.or_eq_true, List.all_eq_true]
    rcases h with h | h | h
    · rw [h] at hc; nomatch hc
    · exact .inl h
    · refine .inr fun p hp => beq_iff_eq.mpr ?_
      rw [h p hp] at hc
      exact Option.some.inj hc

theorem Slice.portGrant_parked {S : Slice} {target c : Nat} {l : List Packet} (h : S.parkedOn target = some c)
    (hu : S.unparked.contains target = false) (hp : p ∈ l) (hne : p.port ≠ c) : S.portGrant target l = (none, S.unparked.add target) := by
  unfold Slice.portGrant
  rw [h]
  refine if_neg ?_
  rw [hu, Bool.false_or, List.all_eq_true]
  exact fun hall => hne (beq_iff_eq.mp (hall p hp))

/-- A packet that a target port grants, as it passes. -/
theorem State.matrixPass_outcome {target : Nat} (h : s.pkt p.id = some p) :
    (16 ≤ target → ((s.matrixPass d target p).pkt p.id).map (·.loc) = some (.lane d (attachRouter (target - 16)).1 (attachRouter (target - 16)).2)) ∧
    (target < 16 → p.resp = none → ∃ q : Packet, (s.matrixPass d target p).pkt p.id = some q ∧
      q.loc = .arrived ∧ q.iss = p.iss ∧ q.resp = none ∧ q.place = p.place ∧ q.size = p.size ∧ q.write = p.write ∧ q.data = p.data) ∧
    Tbl.get 127 ((s.matrixPass d target p).slice d).turn target = p.port ∧
    (∀ k, ((s.matrixPass d target p).slice d).bind k = (s.slice d).bind k) ∧ (s.matrixPass d target p).out = s.out := by
  unfold State.matrixPass
  dsimp only
  generalize ht : s.modSlice d (fun S => { S with turn := S.turn.set target p.port }) = t
  have ht' : t.pkt p.id = some p := by rw [← ht]; exact h
  have turn : Tbl.get 127 (t.slice d).turn target = p.port := by
    rw [← ht, State.modSlice_slice, if_pos rfl]
    exact (Tbl.get_set ..).trans (if_pos rfl)
  have binds : ∀ k, (t.slice d).bind k = (s.slice d).bind k := fun k => by rw [← ht, State.modSlice_slice, if_pos rfl]; rfl
  have out : t.out = s.out := by rw [← ht]; rfl
  have marked := State.modPkt_pkt_self (f := fun q => { q with entered := if q.resp.isNone then (q.entered || q.iss.die == d) else q.entered })
    ht' (fun _ => rfl)
  generalize hu : t.modPkt p.id (fun q => { q with entered := if q.resp.isNone then (q.entered || q.iss.die == d) else q.entered }) = u at marked ⊢
  have turn' : Tbl.get 127 (u.slice d).turn target = p.port := by rw [← hu]; exact turn
  have binds' : ∀ k, (u.slice d).bind k = (s.slice d).bind k := fun k => by rw [← hu]; exact binds k
  have out' : u.out = s.out := by rw [← hu]; exact out
  rw [marked]
  dsimp only
  by_cases h16 : 16 ≤ target
  · rw [if_pos h16]
    refine ⟨fun _ => ?_, fun hlt => absurd hlt (by omega), turn', binds', out'⟩
    have left := State.modPkt_pkt_self (f := fun q => { q with side := 5, entered := if q.resp.isNone then q.entered else false }) marked
      (fun _ => rfl)
    rw [State.move_pkt left]
    rfl
  · rw [if_neg h16]
    generalize hp' : ({ p with entered := if p.resp.isNone then (p.entered || p.iss.die == d) else p.entered } : Packet) = p' at marked ⊢
    have id' : p'.id = p.id := by rw [← hp']
    have resp' : p'.resp = p.resp := by rw [← hp']
    refine ⟨fun h => absurd h h16, fun _ hresp => ⟨{ p' with loc := .arrived, came := u.nextId }, ?_, ?_⟩, ?_, ?_, ?_⟩
    · rw [State.landed, if_pos (by rw [resp', hresp]; rfl)]
      exact (congrArg (fun i => (u.move i .arrived).pkt p.id) id').trans (State.move_pkt marked .arrived)
    · rw [← hp']; exact ⟨rfl, rfl, hresp, rfl, rfl, rfl, rfl⟩
    · unfold State.landed; split; exacts [turn', by split <;> exact turn']
    · unfold State.landed; split; exacts [binds', by split <;> exact binds']
    · unfold State.landed; split; exacts [out', by split <;> exact out']

theorem State.hostSide_request (h : s.pkt id = some p) (hr : p.resp = none) :
    (s.hostSide d id).out = s.out ++ [Output.hostRequest d ((s.slice d).bind p.iss.hh).fn.toNat p.place p.size p.write p.data] := by
  unfold State.hostSide
  rw [h]
  dsimp only
  rw [if_pos (by rw [hr]; rfl)]
  split
  · rfl
  · split
    · rfl
    · rfl

theorem State.matrixGrant_none {target : Nat}
    (h : (((s.holdBackAll d).slice d).portGrant target ((s.holdBackAll d).atPort d target)).1 = none) :
    s.matrixGrant d target = (s.holdBackAll d).modSlice d (fun S => { S with
      unparked := (((s.holdBackAll d).slice d).portGrant target ((s.holdBackAll d).atPort d target)).2 }) := by
  unfold State.matrixGrant
  dsimp only
  rw [h]

/-- The state in which the packet granted passes its port. -/
theorem State.matrixGrant_some {target : Nat}
    (h : (((s.holdBackAll d).slice d).portGrant target ((s.holdBackAll d).atPort d target)).1 = some p) (hp : (s.holdBackAll d).pkt p.id = some p) :
    ∃ t : State, t.pkt p.id = some p ∧ (∀ k, (t.slice d).bind k = (s.slice d).bind k) ∧ t.out = s.out ∧
      s.matrixGrant d target = if target = 0 then (t.matrixPass d target p).hostSide d p.id else t.matrixPass d target p := by
  unfold State.matrixGrant
  dsimp only
  rw [h]
  refine ⟨_, ?_, ?_, ?_, rfl⟩
  · exact hp
  · intro k
    rw [State.modSlice_slice, if_pos rfl]; rfl
  · rfl

theorem State.holdRelease_held (h : s.pkt id = some p) (hl : p.loc = .held d) :
    s.holdRelease d id = if s.heldBack p then s else s.move id (.matrix d) := by
  unfold State.holdRelease
  rw [h]
  dsimp only
  rw [hl, State.release, State.pkt_id h]
  cases s.heldBack p <;> simp

theorem State.mem_ringReady {port : Nat} :
    p ∈ s.ringReady d port ↔ p ∈ s.net ∧ p.loc = .ring d port ∧ s.outOfTurn p = false ∧
      (if p.transit then 1 else 2) + (s.bridge d port).used ≤ 16 := by
  have slots : (if p.transit then 1 else 2) ≤ 16 - (s.bridge d port).used ↔ (if p.transit then 1 else 2) + (s.bridge d port).used ≤ 16 := by
    split <;> omega
  simp only [State.ringReady, List.mem_filter, Bool.and_eq_true, beq_iff_eq, decide_eq_true_eq, Bool.not_eq_true', slots]
  tauto

theorem State.slotAdmit_some {port : Nat} (h : ((s.slice d).portGrant (80 + port) (s.ringReady d port)).1 = some p) (hp : p ∈ s.net) :
    ((s.slotAdmit d port).bridge d port).queue = (s.bridge d port).queue ++ [p.id] ∧
      Tbl.get 127 ((s.slotAdmit d port).slice d).turn (80 + port) = p.port ∧
      ((s.slotAdmit d port).pkt p.id).map (·.loc) = some (.bridge d port) := by
  obtain ⟨q, hq⟩ := Option.isSome_iff_exists.mp (State.pkt_isSome_of_mem hp)
  unfold State.slotAdmit
  dsimp only
  rw [h]
  dsimp only
  generalize ht : (s.modSlice d _).modSlice d _ = t
  have slice : t.slice d = { s.slice d with
      unparked := ((s.slice d).portGrant (80 + port) (s.ringReady d port)).2, turn := (s.slice d).turn.set (80 + port) p.port } := by
    rw [← ht, State.modSlice_slice, if_pos rfl, State.modSlice_slice, if_pos rfl]
  have pkt : t.pkt p.id = some q := by rw [← ht]; exact hq
  have moved : ((t.move p.id (.bridge d port)).modBridge d port (fun B => { B with queue := B.queue ++ [p.id] })).slice d =
      { t.slice d with bridges := (t.slice d).bridges.set port { (t.slice d).bridge port with queue := ((t.slice d).bridge port).queue ++ [p.id] } } :=
    (State.modSlice_slice ..).trans (if_pos rfl)
  refine ⟨?_, ?_, ?_⟩
  · rw [State.bridge, moved, slice, Slice.bridge]
    exact congrArg Bridge.queue ((Tbl.get_set ..).trans (if_pos rfl))
  · rw [moved, slice]
    exact (Tbl.get_set ..).trans (if_pos rfl)
  · exact congrArg (Option.map (·.loc)) (State.move_pkt pkt _)

/-- Settles O24: the grant of a port, the choice by QoS and turn, the way of the packet granted, hold-back and the ring's slots. -/
theorem sliceMatrix : Obligations.SliceMatrix := by
  refine ⟨fun S target l => ⟨Slice.portGrant_free, fun c p h hu hp hne => Slice.portGrant_parked h hu hp hne⟩,
    fun last l => ⟨firstBy_eq_none, fun p => turnPick_first⟩, ?_, fun s d id p hd hl h hloc => ?_, ?_⟩
  · intro s d target hd hl m
    refine ⟨fun h => (State.atDie_next hd hl).trans (congrArg Outcome.next (State.matrixGrant_none h)), fun p h hp => ?_⟩
    obtain ⟨t, pkt, binds, out, run⟩ := State.matrixGrant_some h hp
    obtain ⟨lane, arrived, turn, binds', out'⟩ := t.matrixPass_outcome (d := d) (target := target) pkt
    refine ⟨fun h16 => ?_, fun h0 h16 hr => ?_, fun h0 hr => ?_⟩
    · rw [if_neg (by omega)] at run
      exact ⟨_, (State.atDie_next hd hl).trans (congrArg Outcome.next run), turn, lane h16⟩
    · rw [if_neg (by omega)] at run
      obtain ⟨q, hq, loc, -⟩ := arrived h16 hr
      exact ⟨_, (State.atDie_next hd hl).trans (congrArg Outcome.next run), turn, by rw [hq, Option.map_some, loc]⟩
    · rw [if_pos h0] at run
      obtain ⟨q, hq, -, iss, resp, place, size, write, data⟩ := arrived (by omega) hr
      refine ⟨_, (State.atDie_next hd hl).trans (congrArg Outcome.next run), ?_⟩
      rw [State.hostSide_request hq resp, out', out, binds', binds]
      simp only [iss, place, size, write, data]
  · exact (State.atDie_next hd hl).trans (congrArg Outcome.next (State.holdRelease_held h hloc))
  · intro s d port hd hl h8 g
    have step : exec (.bridgeSlotAdmit d port) s = .next (s.slotAdmit d port) := by
      refine Eq.trans ?_ (State.atDie_next hd hl)
      exact if_pos (by simp [h8])
    refine ⟨fun p => State.mem_ringReady, fun hg => ?_, fun p hg => ⟨_, step, State.slotAdmit_some hg ?_⟩⟩
    · rw [step, State.slotAdmit]
      dsimp only
      rw [show ((s.slice d).portGrant (80 + port) (s.ringReady d port)).1 = none from hg]
    · have hmem : p ∈ s.ringReady d port := by
        have pick := hg
        simp only [g, Slice.portGrant] at pick
        split at pick
        · exact (turnPick_first pick).1
        · split at pick
          · exact (turnPick_first pick).1
          · nomatch pick
      exact (State.mem_ringReady.mp hmem).1

end Sys2Proof.Machine
end

section
/-!
The arbiters' decision and the deadline set: settles O28.
-/

namespace Sys2Proof.Machine

variable {T : Tile} {k id : Nat} {a : Access}

/-! ## Accesses of a tile -/

theorem Tile.acc_id (h : T.acc id = some a) : a.id = id := by simpa using List.find?_some h

/-- A change of the accesses of one identity that keeps the identity. -/
theorem find?_updWhere {α : Type} {p q : α → Bool} {f : α → α} (hf : ∀ b, q (f b) = q b) (l : List α) :
    (updWhere p f l).find? q = (l.find? q).map (fun b => if p b then f b else b) := by
  have same : (q ∘ fun b => if p b then f b else b) = q := by
    funext b
    simp only [Function.comp_apply]
    split
    · exact hf b
    · rfl
  rw [updWhere, List.find?_map, same]

theorem Tile.modAcc_acc (h : T.acc id = some a) {f : Access → Access} (hf : ∀ b, (f b).id = b.id) : (T.modAcc id f).acc id = some (f a) := by
  rw [Tile.acc, Tile.modAcc, find?_updWhere (fun b => by rw [hf b]), ← Tile.acc, h, Option.map_some, if_pos (by simp [Tile.acc_id h])]

/-! ## A boundary -/

theorem Tile.countConf_eq (T : Tile) (k : Nat) (x : Option Access) : ∃ c : Tbl Word, T.countConf k x = { T with conf := c } := by
  unfold Tile.countConf
  split
  · split
    · exact ⟨_, rfl⟩
    · exact ⟨T.conf, rfl⟩
  · dsimp only
    refine List.foldlRecOn (motive := fun U => ∃ c : Tbl Word, U = { T with conf := c }) _ _ ⟨T.conf, rfl⟩ fun U hU m _ => ?_
    obtain ⟨c, rfl⟩ := hU
    split
    · exact ⟨_, rfl⟩
    · exact ⟨c, rfl⟩

theorem Access.revoke_fields (k : Nat) (a : Access) :
    (a.revoke k).id = a.id ∧ (a.revoke k).master = a.master ∧ (a.revoke k).iss = a.iss ∧ (a.revoke k).stage = a.stage := by
  unfold Access.revoke
  split <;> exact ⟨rfl, rfl, rfl, rfl⟩

/-- The access that a boundary starts. -/
def Tile.startedAt (T : Tile) (k : Nat) : Option Access :=
  ((T.cleanSlots k).next).bind (fun id => T.accs.find? (fun a => a.id == id && a.raised k))

/-- What a boundary does to one access: a revocation where the beat it starts interrupts the tenure, and the start itself. -/
def Access.boundary (A : Arb) (x : Option Access) (k now : Nat) (a : Access) : Access :=
  let a := match x, A.tenure with
    | some b, some (id, _) => if (b.deadline && b.inSet) && a.id == id then a.revoke k else a
    | _, _ => a
  match x with
  | some b => if a.id == b.id then { a with stage := if k = 20 then .portGranted else .granted, since := now } else a
  | none => a

theorem Access.boundary_fields (A : Arb) (x : Option Access) (k now : Nat) (a : Access) :
    (a.boundary A x k now).id = a.id ∧ (a.boundary A x k now).master = a.master ∧ (a.boundary A x k now).iss = a.iss := by
  unfold Access.boundary
  extract_lets b
  have hb : b.id = a.id ∧ b.master = a.master ∧ b.iss = a.iss := by
    dsimp only [b]
    split
    · split
      · obtain ⟨h1, h2, h3, -⟩ := a.revoke_fields k
        exact ⟨h1, h2, h3⟩
      · exact ⟨rfl, rfl, rfl⟩
    · exact ⟨rfl, rfl, rfl⟩
  clear_value b
  split
  · split
    · exact hb
    · exact hb
  · exact hb

/-- The tile once the beat of a boundary has started, before the beat after is decided. -/
def Tile.atBoundary (T : Tile) (k now : Nat) : Tile :=
  { T.countConf k (T.startedAt k) with accs := T.accs.map (Access.boundary (T.cleanSlots k) (T.startedAt k) k now) }

theorem Tile.atBoundary_eq (T : Tile) (k now : Nat) :
    ∃ c : Tbl Word, T.atBoundary k now =
      { T with conf := c, accs := T.accs.map (Access.boundary (T.cleanSlots k) (T.startedAt k) k now) } := by
  obtain ⟨c, hc⟩ := T.countConf_eq k (T.startedAt k)
  exact ⟨c, by rw [Tile.atBoundary, hc]⟩

theorem Tile.atBoundary_acc (k now : Nat) (h : T.acc id = some a) :
    (T.atBoundary k now).acc id = some (a.boundary (T.cleanSlots k) (T.startedAt k) k now) := by
  have same : ((fun b : Access => b.id == id) ∘ Access.boundary (T.cleanSlots k) (T.startedAt k) k now) = fun b => b.id == id := by
    funext b
    rw [Function.comp_apply, (b.boundary_fields _ _ _ _).1]
  refine (List.find?_map ..).trans ?_
  rw [same, ← Tile.acc, h]
  rfl

theorem updWhere_eq_map {α : Type} (p : α → Bool) (f : α → α) (l : List α) : updWhere p f l = l.map (fun a => if p a then f a else a) := rfl

/-- A tile whose arbiter `k`, in the state `A`, has decided the beat after the one it has started, that of the access `sid`. -/
def Tile.decided (U : Tile) (k : Nat) (A : Arb) (sid : Option Nat) : Tile :=
  { U with arbs := U.arbs.set k (U.decide A k (U.accs.filter (U.nextRaised A k sid))) }

/-- A boundary starts its beat, and decides among the requests that are raised then. -/
theorem Tile.boundary_eq (T : Tile) (k now : Nat) :
    ∃ A : Arb, A.beat = (T.startedAt k).map (·.id) ∧
      T.boundary k now = (T.atBoundary k now).decided k A ((T.startedAt k).map (·.id)) := by
  obtain ⟨c, hc⟩ := T.countConf_eq k (T.startedAt k)
  unfold Tile.boundary
  extract_lets A x sDl U V ten W sid A'
  refine ⟨A', rfl, ?_⟩
  have hU : U = { T with conf := c } := hc
  have hW : W = T.atBoundary k now := by
    have begun : T.atBoundary k now = { T with conf := c, accs := T.accs.map (Access.boundary A x k now) } := by
      rw [Tile.atBoundary, hc]; rfl
    rw [begun]
    dsimp only [W, V, sDl]
    rw [hU]
    clear_value A x
    cases x with
    | none =>
      rw [show Access.boundary A none k now = id from funext fun a => rfl, List.map_id]
      rfl
    | some b =>
      have noTenure : A.tenure = none ∨ (b.deadline && b.inSet) = false →
          ({ T with conf := c } : Tile).modAcc b.id (fun a => { a with stage := if k = 20 then .portGranted else .granted, since := now }) =
            { T with conf := c, accs := T.accs.map (Access.boundary A (some b) k now) } := by
        intro h
        refine congrArg (fun l => ({ T with conf := c, accs := l } : Tile)) (List.map_congr_left fun a _ => ?_)
        unfold Access.boundary
        rcases h with h | h
        · rw [h]
        · cases A.tenure <;> simp [h]
      dsimp only
      by_cases hd : (b.deadline && b.inSet) = true
      · rw [if_pos hd]
        cases ht : A.tenure with
        | none => exact noTenure (.inl ht)
        | some p =>
          dsimp only
          refine congrArg (fun l => ({ T with conf := c, accs := l } : Tile)) ?_
          dsimp only
          rw [updWhere_eq_map, updWhere_eq_map, List.map_map]
          refine List.map_congr_left fun a _ => ?_
          unfold Access.boundary
          obtain ⟨i, n⟩ := p
          rw [ht]
          dsimp only [Function.comp_apply]
          rw [hd, Bool.true_and]
      · rw [if_neg hd]
        exact noTenure (.inr (Bool.eq_false_iff.mpr hd))
  clear_value W
  subst hW
  rfl

/-- An access of a boundary that neither starts nor stands in the tenure stays as it is. -/
theorem Access.boundary_still {A : Arb} {x : Option Access} {now : Nat} (hx : ∀ b, x = some b → b.id ≠ a.id) (ht : ∀ n, A.tenure ≠ some (a.id, n)) :
    a.boundary A x k now = a := by
  unfold Access.boundary
  cases x with
  | none => rfl
  | some b =>
    have hb : ¬((a.id == b.id) = true) := by simpa using Ne.symm (hx b rfl)
    cases h : A.tenure with
    | none => exact if_neg hb
    | some p =>
      have hp : (a.id == p.1) = false := by
        rw [beq_eq_false_iff_ne]
        intro e
        exact ht p.2 (h.trans (by rw [e]))
      obtain ⟨i, n⟩ := p
      dsimp only at hp ⊢
      simp only [hp, Bool.and_false, Bool.false_eq_true, if_false]
      exact if_neg hb

/-- The access that a boundary starts is granted. -/
theorem Access.boundary_started (A : Arb) (k now : Nat) (a : Access) :
    (a.boundary A (some a) k now).stage = if k = 20 then .portGranted else .granted := by
  unfold Access.boundary
  extract_lets b
  have hb : b.id = a.id := by
    dsimp only [b]
    split
    · split
      · exact (a.revoke_fields k).1
      · rfl
    · rfl
  clear_value b
  exact congrArg Access.stage (if_pos (by rw [hb, beq_self_eq_true]))

/-- The first element with a property, where it has another, is the first with both. -/
theorem find?_and {α : Type} {p q : α → Bool} {l : List α} {b : α} (h : l.find? p = some b) (hq : q b = true) :
    l.find? (fun a => p a && q a) = some b := by
  obtain ⟨hp, as, bs, rfl, hn⟩ := List.find?_eq_some_iff_append.mp h
  exact List.find?_eq_some_iff_append.mpr ⟨by rw [hp, hq]; rfl, as, bs, rfl, fun a ha => by simp [by simpa using hn a ha]⟩

/-- What a decision leaves of an arbiter's state besides the grant. -/
theorem Tile.decide_beat (T : Tile) (A : Arb) (k : Nat) (l : List Access) : (T.decide A k l).beat = A.beat := by
  unfold Tile.decide
  split
  · rfl
  · extract_lets bulk cont
    clear_value cont
    split
    · rfl
    · split
      · rfl
      · rfl

/-- An admitted deadline request that is raised is granted, itself or another. -/
theorem Tile.decide_deadline (T : Tile) (A : Arb) (k : Nat) {l : List Access} (ha : a ∈ l) (hd : a.deadline = true) (hs : a.inSet = true) :
    ∃ b, b ∈ l ∧ b.deadline = true ∧ b.inSet = true ∧ (T.decide A k l).next = some b.id := by
  unfold Tile.decide
  have hmem : a ∈ l.filter (fun a => a.deadline && a.inSet) := List.mem_filter.mpr ⟨ha, by simp [hd, hs]⟩
  split
  · next b hb =>
    obtain ⟨hb, -⟩ := argMin_eq_some hb
    obtain ⟨hl, hq⟩ := List.mem_filter.mp hb
    obtain ⟨h1, h2⟩ := Bool.and_eq_true_iff.mp hq
    exact ⟨b, hl, h1, h2, rfl⟩
  · next hn =>
    rw [argMin_eq_none hn] at hmem
    exact absurd hmem List.not_mem_nil

theorem Tile.decided_arb (U : Tile) (k : Nat) (A : Arb) (sid : Option Nat) :
    (U.decided k A sid).arb k = U.decide A k (U.accs.filter (U.nextRaised A k sid)) :=
  (Tbl.get_set ..).trans (if_pos rfl)

/-- What keeps an access from a grant is the same while the accesses of the tile keep their identities, masters and issuers. -/
theorem Tile.mayCompete_atBoundary (T : Tile) (k now : Nat) (a : Access) : (T.atBoundary k now).mayCompete k a = T.mayCompete k a := by
  obtain ⟨c, hc⟩ := T.atBoundary_eq k now
  rw [hc]
  unfold Tile.mayCompete
  split
  · rw [List.any_map]
    refine congrArg (!·) (List.any_congr rfl fun b => ?_)
    obtain ⟨hid, hm, hi⟩ := b.boundary_fields (T.cleanSlots k) (T.startedAt k) k now
    simp only [Function.comp_apply, hid, hm, hi]
  · rfl

/-! ## The deadline set -/

/-- The requester has its place in the deadline set already. -/
def Arb.placed (A : Arb) (k : Nat) (a : Access) : Bool :=
  A.slots.any (fun p => if k = 20 then sameRequester p.2 a.iss else p.1 == masterCode a.master)

theorem Tile.admitDeadline_acc {lp : Bool} (h : T.acc id = some a) :
    (T.admitDeadline k a lp).acc id = some (if (T.cleanSlots k).slots.length < 4 ∨ (T.cleanSlots k).placed k a = true
      then { a with inSet := true, lapse := a.lapse || lp } else { a with demoted := true }) := by
  have set : ∀ (A : Arb) (f : Access → Access), (∀ b, (f b).id = b.id) →
      (({ T with arbs := T.arbs.set k A } : Tile).modAcc a.id f).acc id = some (f a) := fun A f hf => by
    rw [Tile.acc_id h]
    exact Tile.modAcc_acc (T := { T with arbs := T.arbs.set k A }) h hf
  unfold Tile.admitDeadline
  dsimp only
  by_cases hm : (T.cleanSlots k).placed k a = true
  · have hm' := hm
    rw [Arb.placed] at hm'
    rw [if_pos hm', if_pos (Or.inr hm)]
    exact set _ _ fun _ => rfl
  · have hm' := hm
    rw [Arb.placed] at hm'
    rw [if_neg hm']
    by_cases hl : (T.cleanSlots k).slots.length < 4
    · rw [if_pos hl, if_pos (Or.inl hl)]
      exact set _ _ fun _ => rfl
    · rw [if_neg hl, if_neg (by tauto)]
      exact set _ _ fun _ => rfl

theorem State.admittedPkt_tile (s : State) (tile acc g : Nat) : (s.admittedPkt tile acc).tile g = s.tile g := by
  unfold State.admittedPkt
  split
  · rfl
  · split <;> rfl

theorem State.decideAt_free {s : State} {tile : Nat} (harb : (s.tile tile).hasArb k = true) (hbusy : (s.tile tile).arbBusy k = false) :
    s.decideAt tile k = s.modTile tile (fun T => T.boundary k (s.paceNat tile)) := by
  rw [State.decideAt, if_pos (by simp [harb, hbusy])]

/-- Settles O28: the beat that a boundary starts, its decision, and the deadline set. -/
theorem arbiterRules : Obligations.ArbiterRules := by
  refine ⟨fun s tile k id a ht hl harb hbusy hnext ha hr => ?_, fun s tile k a ht hl harb hbusy ha hr hq hdem hset hmay hnext hten => ?_, ?_⟩
  · have run := State.decideAt_free harb hbusy
    obtain ⟨A, beat, boundary⟩ := (s.tile tile).boundary_eq k (s.paceNat tile)
    have hid := Tile.acc_id ha
    have started : (s.tile tile).startedAt k = some a := by
      rw [Tile.startedAt, show ((s.tile tile).cleanSlots k).next = some id from hnext, Option.bind_some]
      exact find?_and ha hr
    have tile' : (s.decideAt tile k).tile tile = ((s.tile tile).atBoundary k (s.paceNat tile)).decided k A (some id) := by
      rw [run, State.modTile_tile, if_pos rfl, boundary, started, Option.map_some, hid]
    refine ⟨_, a.boundary ((s.tile tile).cleanSlots k) (some a) k (s.paceNat tile), State.atTile_next ht hl, ?_, ?_, ?_⟩
    · rw [tile']
      have kept := Tile.atBoundary_acc k (s.paceNat tile) ha
      rw [started] at kept
      exact kept
    · exact Access.boundary_started _ _ _ _
    · rw [tile', Tile.decided_arb, Tile.decide_beat, beat, started, Option.map_some, hid]
  · have run := State.decideAt_free harb hbusy
    obtain ⟨A, -, boundary⟩ := (s.tile tile).boundary_eq k (s.paceNat tile)
    obtain ⟨c, begun⟩ := (s.tile tile).atBoundary_eq k (s.paceNat tile)
    have other : ∀ b, (s.tile tile).startedAt k = some b → b.id ≠ a.id := fun b hb e => by
      obtain ⟨id, hid, hf⟩ := Option.bind_eq_some_iff.mp hb
      have hb : b.id = id := by
        have h := List.find?_some hf
        rw [Bool.and_eq_true, beq_iff_eq] at h
        exact h.1
      exact hnext (hid.trans (by rw [← hb, e]))
    have still : a.boundary ((s.tile tile).cleanSlots k) ((s.tile tile).startedAt k) k (s.paceNat tile) = a := Access.boundary_still other hten
    have there : a ∈ ((s.tile tile).atBoundary k (s.paceNat tile)).accs := by
      rw [begun]
      exact List.mem_map.mpr ⟨a, ha, still⟩
    have raised : a.atArb k = true := (Bool.and_eq_true_iff.mp hr).1
    have asked : ((s.tile tile).atBoundary k (s.paceNat tile)).nextRaised A k (((s.tile tile).startedAt k).map (·.id)) a = true := by
      rw [Tile.nextRaised, Tile.mayCompete_atBoundary, raised, hmay, hr]; rfl
    obtain ⟨b, hb, hdl, hin, grant⟩ := Tile.decide_deadline ((s.tile tile).atBoundary k (s.paceNat tile)) A k
      (List.mem_filter.mpr ⟨there, asked⟩) (by simp [Access.deadline, hq, hdem]) hset
    have tile' : (s.decideAt tile k).tile tile =
        ((s.tile tile).atBoundary k (s.paceNat tile)).decided k A (((s.tile tile).startedAt k).map (·.id)) := by
      rw [run, State.modTile_tile, if_pos rfl, boundary]
    simp only [Access.deadline, Bool.and_eq_true, beq_iff_eq, Bool.not_eq_true'] at hdl
    refine ⟨_, b, State.atTile_next ht hl, ?_, ?_, hdl.1, hdl.2, hin⟩
    · rw [tile']
      exact (List.mem_filter.mp hb).1
    · rw [tile', Tile.decided_arb]
      exact grant
  · intro s tile id k a ht hl ha hk hq hdem hset hlock A
    have asks : (s.tile tile).asksAt a = some k := by
      rw [Tile.asksAt, hk]
      refine Option.filter_some_pos ?_
      rcases hlock with h | h <;> simp [Access.deadline, hq, hdem, hset, h]
    refine ⟨_, State.atTile_next ht hl, ?_⟩
    rw [State.askDeadline, ha]
    dsimp only
    rw [asks]
    dsimp only
    rw [State.admittedPkt_tile, State.modTile_tile, if_pos rfl]
    exact Tile.admitDeadline_acc ha

end Sys2Proof.Machine
end

section
/-!
The watchdog: settles O30.
-/

namespace Sys2Proof.Machine

open Host

variable {α : Type} {f : Tile → α} {s : State} {tile : Nat}

/-! ## What a refusal leaves as it is -/

theorem Tile.NarrowFree.flushGone (h : Tile.NarrowFree f) (T : Tile) (bank row : Nat) : f (T.flushGone bank row) = f T :=
  (h.accs { T with merge := (T.flushGone bank row).merge } (T.flushGone bank row).accs).trans (h.merge T _)

theorem State.refuseAcc_value (h : Tile.NarrowFree f) (s : State) (tile : Nat) (st : Status) (a : Access) (g : Nat) :
    f ((s.refuseAcc tile st a).tile g) = f (s.tile g) := by
  unfold State.refuseAcc
  split
  · rw [State.refuseFlush, State.emit_tile]
    exact State.modTile_value s tile g (h.flushGone _ _ _)
  · exact (State.deliver_value h.toDeliverFree _ _ _ _ _).trans (State.modTile_value s tile g (h.dropAcc _ _))

theorem State.refuseNarrow_tile (s : State) (tile : Nat) (st : Status) (p : NarrowWrite → Bool) (g : Nat) :
    (s.refuseNarrow tile st p).tile g = (s.modTile tile (fun T => { T with narrow := T.narrow.filter (fun n => !p n) })).tile g :=
  foldl_eq (fun t => State.tile t g) (g := fun s _ => s.narrowAnswer tile st) (fun _ _ => rfl) _ _

theorem State.refuseNarrow_value (h : ∀ T l, f { T with narrow := l } = f T) (s : State) (tile : Nat) (st : Status) (p : NarrowWrite → Bool)
    (g : Nat) : f ((s.refuseNarrow tile st p).tile g) = f (s.tile g) := by
  rw [State.refuseNarrow_tile]
  exact State.modTile_value s tile g (h _ _)

theorem State.breakLock_value (h : ∀ T l, f { T with locks := l } = f T) (s : State) (tile bank cause g : Nat) :
    f ((s.breakLock tile bank cause).tile g) = f (s.tile g) := by
  unfold State.breakLock
  dsimp only
  split
  · rfl
  · rw [State.record_tile]
    exact State.modTile_value s tile g (h _ _)

theorem State.breakLocks_value (h : ∀ T l, f { T with locks := l } = f T) (s : State) (tile cause : Nat) (p : Holder → Bool) (g : Nat) :
    f ((s.breakLocks tile cause p).tile g) = f (s.tile g) := by
  unfold State.breakLocks
  exact State.foldl_value g (fun t (q : Nat × Lock) => State.breakLock_value h t tile q.1 cause g) _ s

/-- A value of a tile that neither refusals nor broken locks change. -/
structure Tile.RefuseFree (f : Tile → α) : Prop extends Tile.NarrowFree f where
  locks : ∀ T l, f { T with locks := l } = f T

/-- The tile whose quarantine bits have a master's set. -/
def Tile.quarantine (m : Nat) (T : Tile) : Tile := if m ≤ 5 then { T with quar := setBit T.quar m true } else T

theorem State.quarantine_value (h : Tile.RefuseFree f) (s : State) (tile m : Nat) :
    f ((s.quarantine tile m).tile tile) = f ((s.tile tile).quarantine m) := by
  unfold State.quarantine
  dsimp only
  rw [State.breakLocks_value h.locks]
  have first : f ((if m ≤ 5 then s.modTile tile (fun T => { T with quar := setBit T.quar m true }) else s).tile tile) =
      f ((s.tile tile).quarantine m) := by
    unfold Tile.quarantine
    split
    · rw [State.modTile_tile, if_pos rfl]
    · rfl
  have refused := State.foldl_value (f := f) (k := fun t a => t.refuseAcc tile .wdog a) tile
    (fun t a => State.refuseAcc_value h.toNarrowFree t tile .wdog a tile)
    (((if m ≤ 5 then s.modTile tile (fun T => { T with quar := setBit T.quar m true }) else s).tile tile).accs.filter
      (fun a => masterCode a.master == m && a.waitsAny && !a.isFlush))
    (if m ≤ 5 then s.modTile tile (fun T => { T with quar := setBit T.quar m true }) else s)
  rw [← first, ← refused]
  split
  · exact State.refuseNarrow_value h.narrow _ _ _ _ _
  · rfl

/-! ## The accesses that stay -/

theorem State.deliver_accs (s : State) (tile : Nat) (a : Access) (st : Status) (g : Nat) : ((s.deliver tile a st).tile g).accs = (s.tile g).accs :=
  State.deliver_value (f := Tile.accs)
    { chans := fun _ _ => rfl, blocks := fun _ _ => rfl, sends := fun _ _ => rfl, eps := fun _ _ => rfl, msgs := fun _ _ => rfl,
      bursts := fun _ _ => rfl, gates := fun _ _ => rfl } s tile a st g

/-- A refusal takes accesses from the tile and adds none. -/
theorem State.refuseAcc_mem {st : Status} {a b : Access} (h : b ∈ ((s.refuseAcc tile st a).tile tile).accs) : b ∈ (s.tile tile).accs := by
  unfold State.refuseAcc at h
  split at h
  · rw [State.refuseFlush, State.emit_tile, State.modTile_tile, if_pos rfl] at h
    exact (List.mem_filter.mp h).1
  · rw [State.deliver_accs, State.modTile_tile, if_pos rfl] at h
    exact (List.mem_filter.mp h).1

/-- An access that is no flush leaves with its refusal. -/
theorem State.refuseAcc_gone {st : Status} {a b : Access} (hf : a.isFlush = false) (h : b ∈ ((s.refuseAcc tile st a).tile tile).accs) :
    b.id ≠ a.id := by
  unfold State.refuseAcc at h
  split at h
  · next e => rw [Access.isFlush, e] at hf; nomatch hf
  · rw [State.deliver_accs, State.modTile_tile, if_pos rfl] at h
    simpa using (List.mem_filter.mp h).2

theorem State.foldl_refuseAcc_mem {st : Status} {b : Access} (l : List Access) (s : State)
    (h : b ∈ ((l.foldl (fun s a => s.refuseAcc tile st a) s).tile tile).accs) : b ∈ (s.tile tile).accs := by
  induction l generalizing s with
  | nil => exact h
  | cons a l ih => exact State.refuseAcc_mem (ih _ h)

theorem State.quarantine_mem {m : Nat} {b : Access} (h : b ∈ ((s.quarantine tile m).tile tile).accs) : b ∈ (s.tile tile).accs := by
  unfold State.quarantine at h
  dsimp only at h
  rw [State.breakLocks_value (f := Tile.accs) (fun _ _ => rfl)] at h
  have h : b ∈ (((((if m ≤ 5 then s.modTile tile (fun T => { T with quar := setBit T.quar m true }) else s).tile tile).accs.filter
      (fun a => masterCode a.master == m && a.waitsAny && !a.isFlush)).foldl (fun s a => s.refuseAcc tile .wdog a)
      (if m ≤ 5 then s.modTile tile (fun T => { T with quar := setBit T.quar m true }) else s)).tile tile).accs := by
    split at h
    · rwa [State.refuseNarrow_value (f := Tile.accs) (fun _ _ => rfl)] at h
    · exact h
  have h := State.foldl_refuseAcc_mem _ _ h
  split at h
  · rwa [State.modTile_tile, if_pos rfl] at h
  · exact h

/-- Request registers that are taken change no identity. -/
theorem Tile.promote_ids (T : Tile) (lp : Bool) (now : Nat) : (T.promote lp now).accs.map (·.id) = T.accs.map (·.id) := by
  refine foldl_eq (fun T : Tile => T.accs.map (·.id)) (fun U a => ?_) _ _
  split
  · rw [Tile.modAcc, updWhere_eq_map, List.map_map]
    refine List.map_congr_left fun b _ => ?_
    simp only [Function.comp_apply]
    split <;> rfl
  · rfl

/-! ## What has been put out stays -/

theorem State.deliver_out (s : State) (tile : Nat) (a : Access) (st : Status) : ∃ l, (s.deliver tile a st).out = s.out ++ l := by
  unfold State.deliver
  extract_lets data l
  cases a.dest with
  | port => exact ⟨_, rfl⟩
  | packet id =>
    dsimp only
    split
    · exact ⟨[], (List.append_nil _).symm⟩
    · split
      · exact ⟨[], (List.append_nil _).symm⟩
      · split
        · exact ⟨[], (List.append_nil _).symm⟩
        · exact ⟨[], (List.append_nil _).symm⟩
      · split
        · exact ⟨[], (List.append_nil _).symm⟩
        · exact ⟨[], (List.append_nil _).symm⟩
  | _ => exact ⟨[], (List.append_nil _).symm⟩

theorem State.refuseAcc_out {st : Status} {a : Access} {o : Output} (h : o ∈ s.out) : o ∈ (s.refuseAcc tile st a).out := by
  unfold State.refuseAcc
  split
  · exact List.mem_append_left _ h
  · obtain ⟨l, hl⟩ := (s.modTile tile (fun T => T.dropAcc a.id)).deliver_out tile a st
    rw [hl]
    exact List.mem_append_left _ h

/-- An access of an engine is answered with the status that it is refused with, and without data. -/
theorem State.refuseAcc_port {a : Access} (h : a.dest = .port) :
    .access tile a.master a.id .wdog [] (a.l || (s.slice (tileDie tile)).lpActive) a.demoted ∈ (s.refuseAcc tile .wdog a).out := by
  rw [State.refuseAcc, h]
  dsimp only
  rw [State.deliver, h, State.modTile_lpActive]
  refine List.mem_append_right _ (List.mem_singleton.mpr ?_)
  cases a.write
  · cases a.master <;> rfl
  · rfl

theorem State.foldl_out {ι : Type} {o : Output} {k : State → ι → State} (hk : ∀ t x, o ∈ t.out → o ∈ (k t x).out) (l : List ι) {s : State}
    (h : o ∈ s.out) : o ∈ (l.foldl k s).out :=
  List.foldlRecOn (motive := fun t : State => o ∈ t.out) l k h fun t ht x _ => hk t x ht

theorem State.refuseNarrow_out {st : Status} {p : NarrowWrite → Bool} {o : Output} (h : o ∈ s.out) : o ∈ (s.refuseNarrow tile st p).out :=
  State.foldl_out (fun _ _ ht => List.mem_append_left _ ht) _ (s := s.modTile tile _) h

theorem State.breakLocks_out (s : State) (tile cause : Nat) (p : Holder → Bool) : (s.breakLocks tile cause p).out = s.out := by
  unfold State.breakLocks
  refine foldl_eq State.out (fun t q => ?_) _ s
  unfold State.breakLock
  dsimp only
  split
  · rfl
  · rfl

theorem State.quarantine_out {m : Nat} {o : Output} (h : o ∈ s.out) : o ∈ (s.quarantine tile m).out := by
  unfold State.quarantine
  dsimp only
  rw [State.breakLocks_out]
  have h' : o ∈ (if m ≤ 5 then s.modTile tile (fun T => { T with quar := setBit T.quar m true }) else s).out := by
    split
    · exact h
    · exact h
  split
  · exact State.refuseNarrow_out (State.foldl_out (fun _ _ => State.refuseAcc_out) _ h')
  · exact State.foldl_out (fun _ _ => State.refuseAcc_out) _ h'

/-! ## A bite -/

/-- The state in which a bite on a hung handshake is reported. -/
def State.bitten (s : State) (tile res m : Nat) (a : Access) : State :=
  let s := s.refuseAcc tile .wdog a
  let s := ((s.tile tile).accs.filter (fun b => b.waitsOn res)).foldl (fun s b => s.refuseAcc tile .wdog b) s
  let s := if res = 16 then s else s.refuseNarrow tile .wdog (fun n => viewBank .bank n.off == res)
  (s.quarantine tile m).promote tile

/-- TL_STATUS, the cause WDOG of H0 and the record of a bite. -/
def State.biteReport (s : State) (tile res m : Nat) (det : BitVec 352) : State :=
  ((s.modTile tile (fun T => { T with biteRes := BitVec.ofNat 5 res, biteMaster := BitVec.ofNat 3 m, bite := true })).raise (tileDie tile) 0
    7).record (tileDie tile) 4 tile det

theorem State.bite_eq (s : State) (tile res : Nat) (a : Access) :
    ∃ det, s.bite tile res a = (s.bitten tile res (if res = 16 then 5 else masterCode a.master) a).biteReport tile res
      (if res = 16 then 5 else masterCode a.master) det := ⟨_, rfl⟩

theorem State.biteReport_tile (s : State) (tile res m : Nat) (det : BitVec 352) :
    (s.biteReport tile res m det).tile tile =
      { s.tile tile with biteRes := BitVec.ofNat 5 res, biteMaster := BitVec.ofNat 3 m, bite := true } := by
  rw [State.biteReport, State.record_tile, State.raise_tile, State.modTile_tile, if_pos rfl]

theorem State.biteReport_out (s : State) (tile res m : Nat) (det : BitVec 352) : (s.biteReport tile res m det).out = s.out := rfl

theorem State.biteReport_cause (s : State) (tile res m : Nat) (det : BitVec 352) :
    bit (((s.biteReport tile res m det).slice (tileDie tile)).irq 0).cause 7 = true := by
  rw [State.biteReport, State.record_slice, if_pos rfl, Slice.irq, Slice.holdRecord_irqs]
  exact State.raise_cause _ _ 0 (by decide)

/-- TL_STATUS.QUAR is not among what refusals change. -/
theorem Tile.quar_free : Tile.RefuseFree Tile.quar where
  accs _ _ := rfl
  deedFlt _ _ := rfl
  chans _ _ := rfl
  blocks _ _ := rfl
  sends _ _ := rfl
  eps _ _ := rfl
  msgs _ _ := rfl
  bursts _ _ := rfl
  gates _ _ := rfl
  merge _ _ := rfl
  narrow _ _ := rfl
  locks _ _ := rfl

theorem Tile.quarantine_bit (T : Tile) {m : Nat} (hm : m ≤ 5) : bit (T.quarantine m).quar m = true := by
  rw [Tile.quarantine, if_pos hm]
  exact (bit_setBit_true _ _ (by omega)).mpr (.inl rfl)

theorem State.bitten_outcome (s : State) (tile res m : Nat) {a : Access} (hf : a.isFlush = false) :
    (∀ b, b ∈ ((s.bitten tile res m a).tile tile).accs → b.id ≠ a.id) ∧ (m ≤ 5 → bit ((s.bitten tile res m a).tile tile).quar m = true) ∧
      ∀ o, o ∈ (s.refuseAcc tile .wdog a).out → o ∈ (s.bitten tile res m a).out := by
  unfold State.bitten
  extract_lets u v w
  have hv : ∀ b, b ∈ (v.tile tile).accs → b ∈ (u.tile tile).accs := fun b => State.foldl_refuseAcc_mem _ u
  have hw : ∀ b, b ∈ (w.tile tile).accs → b ∈ (v.tile tile).accs := fun b hb => by
    dsimp only [w] at hb
    split at hb
    · exact hb
    · rwa [State.refuseNarrow_value (f := Tile.accs) (fun _ _ => rfl)] at hb
  have ow : ∀ o, o ∈ u.out → o ∈ w.out := fun o ho => by
    have ho : o ∈ v.out := State.foldl_out (fun _ _ => State.refuseAcc_out) _ ho
    dsimp only [w]
    split
    · exact ho
    · exact State.refuseNarrow_out ho
  refine ⟨fun b hb => ?_, fun hm => ?_, fun o ho => State.quarantine_out (ow o ho)⟩
  · have ids : b.id ∈ (((w.quarantine tile m).promote tile).tile tile).accs.map (·.id) := List.mem_map_of_mem hb
    rw [State.promote, State.modTile_tile, if_pos rfl, Tile.promote_ids] at ids
    obtain ⟨c, hc, he⟩ := List.mem_map.mp ids
    rw [← he]
    exact State.refuseAcc_gone hf (hv c (hw c (State.quarantine_mem hc)))
  · rw [State.promote_value Tile.quar_free.toAnswerFree, State.quarantine_value Tile.quar_free]
    exact Tile.quarantine_bit _ hm

/-! ## A bite on a lock -/

theorem Tile.setLocks_lock (T : Tile) (b : Nat) (L : Lock) (k : Nat) :
    ({ T with locks := T.locks.set b L } : Tile).lock k = if b = k then L else T.lock k := Tbl.get_set _ _ _ _ _

/-- A broken lock is free and suspect; the lock of a free bank is not touched. -/
theorem State.breakLock_lock (s : State) (tile bank cause k : Nat) :
    ((s.breakLock tile bank cause).tile tile).lock k =
      if k = bank ∧ ((s.tile tile).lock bank).holder.isSome then { holder := none, suspect := true } else (s.tile tile).lock k := by
  unfold State.breakLock
  dsimp only
  cases h : ((s.tile tile).lock bank).holder with
  | none => simp
  | some g =>
    dsimp only
    rw [State.record_tile, State.modTile_tile, if_pos rfl, Tile.setLocks_lock]
    by_cases hk : bank = k
    · subst hk; simp
    · rw [if_neg hk, if_neg (by rintro ⟨e, -⟩; exact hk e.symm)]

/-- A lock that is free stays as it is while others are broken. -/
theorem State.breakLocks_free {k : Nat} (s : State) (tile cause : Nat) (p : Holder → Bool) (h : ((s.tile tile).lock k).holder = none) :
    ((s.breakLocks tile cause p).tile tile).lock k = (s.tile tile).lock k := by
  unfold State.breakLocks
  refine List.foldlRecOn (motive := fun t : State => (t.tile tile).lock k = (s.tile tile).lock k) _ _ rfl fun t ht q _ => ?_
  rw [State.breakLock_lock]
  split
  · next hq =>
    obtain ⟨rfl, hs⟩ := hq
    rw [ht, h] at hs
    nomatch hs
  · exact ht

theorem State.quarantine_free {k m : Nat} (h : ((s.tile tile).lock k).holder = none) :
    ((s.quarantine tile m).tile tile).lock k = (s.tile tile).lock k := by
  have free : Tile.NarrowFree (fun T : Tile => T.lock k) :=
    { accs := fun _ _ => rfl, deedFlt := fun _ _ => rfl, chans := fun _ _ => rfl, blocks := fun _ _ => rfl, sends := fun _ _ => rfl,
      eps := fun _ _ => rfl, msgs := fun _ _ => rfl, bursts := fun _ _ => rfl, gates := fun _ _ => rfl, merge := fun _ _ => rfl,
      narrow := fun _ _ => rfl }
  unfold State.quarantine
  extract_lets u l v w
  have hu : (u.tile tile).lock k = (s.tile tile).lock k := by
    dsimp only [u]
    split
    · rw [State.modTile_tile, if_pos rfl]; rfl
    · rfl
  have hv : (v.tile tile).lock k = (u.tile tile).lock k :=
    State.foldl_value (f := fun T : Tile => T.lock k) (k := fun t a => t.refuseAcc tile .wdog a) tile
      (fun t a => State.refuseAcc_value free t tile .wdog a tile) l u
  have hw : (w.tile tile).lock k = (v.tile tile).lock k := by
    dsimp only [w]
    split
    · exact State.refuseNarrow_value (f := fun T : Tile => T.lock k) (fun _ _ => rfl) v tile .wdog _ tile
    · rfl
  have all : (w.tile tile).lock k = (s.tile tile).lock k := hw.trans (hv.trans hu)
  rw [State.breakLocks_free _ _ _ _ (by rw [all]; exact h), all]

/-- The state in which a bite on a lock is reported. -/
def State.lockBitten (s : State) (tile bank : Nat) (h : Holder) : State :=
  match h with
  | .master k => (s.breakLock tile bank 3).quarantine tile k
  | .core _ _ => s.breakLock tile bank 3

theorem State.lockBite_eq (s : State) (tile bank : Nat) (h : Holder) :
    ∃ m det, s.lockBite tile bank h = (s.lockBitten tile bank h).biteReport tile bank m det := by
  cases h <;> exact ⟨_, _, rfl⟩

theorem State.lockBitten_outcome {bank : Nat} {h : Holder} (hh : ((s.tile tile).lock bank).holder = some h) :
    ((s.lockBitten tile bank h).tile tile).lock bank = { holder := none, suspect := true } ∧
      (match h with
        | .master m => m ≤ 5 → bit ((s.lockBitten tile bank h).tile tile).quar m = true
        | .core _ _ => ((s.lockBitten tile bank h).tile tile).quar = (s.tile tile).quar) := by
  have broken : ((s.breakLock tile bank 3).tile tile).lock bank = { holder := none, suspect := true } := by
    rw [State.breakLock_lock, if_pos ⟨rfl, by rw [hh]; rfl⟩]
  cases h with
  | master m =>
    refine ⟨?_, fun hm => ?_⟩
    · exact (State.quarantine_free (by rw [broken])).trans broken
    · rw [State.lockBitten, State.quarantine_value Tile.quar_free]
      exact Tile.quarantine_bit _ hm
  | core t g => exact ⟨broken, State.breakLock_value (f := Tile.quar) (fun _ _ => rfl) s tile bank 3 tile⟩

/-! ## The obligation -/

theorem State.biteAt_early {res : Nat} (h : ∀ a, (s.tile tile).hung res = some a → s.paceNat tile < a.since + (s.tile tile).wdog.toNat) :
    s.biteAt tile res = s := by
  unfold State.biteAt
  split
  · rfl
  · next a ha => exact if_neg (by rw [State.paceOver, decide_eq_true_eq]; exact Nat.not_le.mpr (h a ha))

theorem State.lockBiteAt_early {bank : Nat} (h : ∀ n, (s.tile tile).lockWaitFrom bank = some n → s.paceNat tile < n + (s.tile tile).wdog.toNat) :
    s.lockBiteAt tile bank = s := by
  unfold State.lockBiteAt
  split
  · next n _ hn => exact if_neg (by rw [State.paceOver, decide_eq_true_eq]; exact Nat.not_le.mpr (h n hn))
  · rfl

theorem State.named_atTile_same (b : Bool) {r : State} (h : r = s) : s.named b (s.atTile tile r) = .next s := by
  rw [State.named, State.atTile, h, ite_self, ite_self]

/-- A write of a tile register that is performed at once. -/
theorem State.tileReg_now_of_eq {off : Nat} {v : Word} {t : State} {st : Status} (h : s.tileTakes w tile off v) {o : State × Status}
    (ho : o = (t, st)) : s.tileReg w tile off v (RegRes.now o) = .next (s.answered t w tile off v st) := by
  subst ho; exact State.tileReg_now h

theorem quar_mask (v : Word) : BitVec.ofNat 8 (v.toNat &&& 0x3E) = v.truncate 8 &&& 0x3E := by
  refine BitVec.eq_of_toNat_eq ?_
  have small : v.toNat &&& 62 ≤ 62 := Nat.and_le_right
  rw [BitVec.toNat_ofNat, Nat.mod_eq_of_lt (by omega), BitVec.toNat_and, BitVec.toNat_setWidth]
  change v.toNat &&& 62 = v.toNat % 2 ^ 8 &&& 62
  rw [← Nat.and_two_pow_sub_one_eq_mod, Nat.and_assoc]
  rfl

theorem State.statusOp_manager {v : Word} (h : s.isManager w = true) : s.statusOp w tile v =
    (s.modTile tile (fun T => { T with quar := T.quar &&& ~~~ (v.truncate 8 &&& 0x3E), bite := T.bite && !bit v 16 }), .ok) := by
  simp only [State.statusOp, h, Bool.not_true, Bool.false_eq_true, if_false, w1c, quar_mask]

theorem State.wdogOp_manager {v : Word} (h : s.isManager w = true) : s.wdogOp w tile v =
    (s.modTile tile (fun T => { T with wdog := BitVec.ofNat 24 (max 1024 (v.toNat % 2 ^ 24)) }), .ok) := by
  simp only [State.wdogOp, h, Bool.not_true, Bool.false_eq_true, if_false, bits_zero]

/-- Settles O30: the two bites, the wait before them, and the manager's writes. -/
theorem watchdog : Obligations.Watchdog := by
  refine ⟨?_, fun s tile bank h ht hl hb hh hn => ?_, fun s tile res bank => ⟨fun h => ?_, fun h => ?_⟩, fun s w tile v => ⟨fun h => ?_, fun h => ?_⟩⟩
  · intro s tile res a ht hl hres hhung hover m
    have hf : a.isFlush = false := by
      have := List.find?_some hhung
      rw [Bool.and_eq_true, Bool.not_eq_true'] at this
      exact this.1
    have step : exec (.watchdogBite tile res) s = .next (s.bite tile res a) := by
      refine ((if_pos (decide_eq_true hres)).trans (State.atTile_next ht hl)).trans (congrArg Outcome.next ?_)
      rw [State.biteAt, hhung]
      exact if_pos (by rw [State.paceOver, decide_eq_true_eq]; exact hover)
    obtain ⟨det, run⟩ := s.bite_eq tile res a
    obtain ⟨gone, quar, out⟩ := s.bitten_outcome tile res m hf
    have hm : m < 8 := by
      dsimp only [m]
      split
      · omega
      · cases a.master <;> decide
    refine ⟨_, step, ?_, fun h5 => ?_, ?_, ?_, ?_, ?_, fun hp => ?_⟩
    · rw [run, State.biteReport_tile]; exact gone
    · rw [run, State.biteReport_tile]; exact quar h5
    · rw [run, State.biteReport_tile]
    · rw [run, State.biteReport_tile]
      exact Nat.mod_eq_of_lt (by omega)
    · rw [run, State.biteReport_tile]
      exact Nat.mod_eq_of_lt hm
    · rw [run]; exact State.biteReport_cause _ _ _ _ _
    · rw [run, State.biteReport_out]
      exact out _ (State.refuseAcc_port hp)
  · obtain ⟨n, hn, hover⟩ := hn
    have step : exec (.watchdogLockBite tile bank) s = .next (s.lockBite tile bank h) := by
      refine ((if_pos (decide_eq_true hb)).trans (State.atTile_next ht hl)).trans (congrArg Outcome.next ?_)
      rw [State.lockBiteAt, hh, hn]
      exact if_pos (by rw [State.paceOver, decide_eq_true_eq]; exact hover)
    obtain ⟨m, det, run⟩ := s.lockBite_eq tile bank h
    obtain ⟨lock, quar⟩ := State.lockBitten_outcome hh
    refine ⟨_, step, ?_, ?_, ?_, ?_, ?_⟩
    · rw [run, State.biteReport_tile]; exact lock
    · rw [run, State.biteReport_tile]
    · rw [run, State.biteReport_tile]
      exact Nat.mod_eq_of_lt (by omega)
    · rw [run]; exact State.biteReport_cause _ _ _ _ _
    · rw [run, State.biteReport_tile]
      cases h with
      | master k => exact quar
      | core c g => exact quar
  · exact State.named_atTile_same _ (State.biteAt_early h)
  · exact State.named_atTile_same _ (State.lockBiteAt_early h)
  · split
    · next hm => exact State.tileReg_now_of_eq h (State.statusOp_manager hm)
    · next hm => exact State.tileReg_now_of_eq (o := s.statusOp w tile v) h (by simp [State.statusOp, hm])
  · split
    · next hm => exact State.tileReg_now_of_eq h (State.wdogOp_manager hm)
    · next hm => exact State.tileReg_now_of_eq (o := s.wdogOp w tile v) h (by simp [State.wdogOp, hm])

end Sys2Proof.Machine
end

section
/-!
The tally boundary (spec/08_tallies_bells_channels.md R262 to R282): what its steps leave alone, and what each gives.
-/

namespace Sys2Proof.Machine

/-! ## Two changes of one tile -/

theorem Tbl.set_set {α : Type} (m : Tbl α) (k : Nat) (a b : α) : (m.set k a).set k b = m.set k b := by
  induction m with
  | nil => simp [Tbl.set]
  | cons p m ih =>
    obtain ⟨j, c⟩ := p
    by_cases h : k < j
    · simp [Tbl.set, h]
    · by_cases e : j = k <;> simp [Tbl.set, h, e, ih]

theorem Slice.setTile_setTile (S : Slice) (i : Nat) (T U : Tile) : (S.setTile i T).setTile i U = S.setTile i U := by
  rw [Slice.setTile, Slice.setTile, Tbl.set_set]; rfl

theorem State.setSlice_setSlice (s : State) (d : Nat) (S R : Slice) : (s.setSlice d S).setSlice d R = s.setSlice d R := by
  rw [State.setSlice, State.setSlice, Tbl.set_set]; rfl

theorem State.setTile_setTile (s : State) (t : Nat) (T U : Tile) : (s.setTile t T).setTile t U = s.setTile t U := by
  rw [State.setTile, State.setTile, State.setTile, State.modSlice, State.modSlice, State.setSlice_slice, if_pos rfl, State.modSlice,
    State.setSlice_setSlice, Slice.setTile_setTile]

/-- Two changes of a tile in one. -/
theorem State.modTile_modTile (s : State) (t : Nat) (f g : Tile → Tile) : (s.modTile t f).modTile t g = s.modTile t (fun T => g (f T)) := by
  rw [State.modTile, State.modTile_tile, if_pos rfl, State.modTile, State.setTile_setTile]; rfl

/-! ## Engines and the watchman -/

section
variable {α : Type} {f : Tile → α} {s : State} {tile : Nat} {e g : Engine}

theorem State.watch_value (hf : ∀ (T : Tile) n w, f { T with wmFrom := n, wmNow := w } = f T) (u : Nat) :
    f ((s.watch tile).tile u) = f (s.tile u) :=
  State.modTile_value s tile u (by
    unfold Tile.watch
    split
    · exact hf _ _ _
    · exact hf _ _ _)

@[simp] theorem State.watch_out (s : State) (tile : Nat) : (s.watch tile).out = s.out := rfl
@[simp] theorem State.watch_net (s : State) (tile : Nat) : (s.watch tile).net = s.net := rfl

theorem engineKey_inj (h : engineKey e = engineKey g) : e = g := by cases e <;> cases g <;> simp_all [engineKey]

theorem Tile.setEngine_engine (T : Tile) (e g : Engine) (q : EngState) : (T.setEngine e q).engine g = if e = g then q else T.engine g := by
  refine (Tbl.get_set _ _ _ _ _).trans ?_
  by_cases h : e = g
  · rw [if_pos h, if_pos (congrArg engineKey h)]
  · rw [if_neg h, if_neg fun k => h (engineKey_inj k)]; rfl

theorem State.byEngine_issues {r : State} (h : s.issues tile e) : s.byEngine tile e r = .next (r.watch tile) := by
  rw [State.byEngine, State.atCore, State.atTile_next h.place (State.live_of_ready h.ready)]
  simp [State.issue, h.running, h.ready, h.given]

theorem State.named_byEngine {b : Bool} {r : State} (h : s.issues tile e) (hb : b = true) :
    s.named b (s.byEngine tile e r) = .next (r.watch tile) := (if_pos hb).trans (State.byEngine_issues h)

/-- Settles O31. -/
theorem syncOperationsIssued : Obligations.SyncOperationsIssued := by
  intro s tile e t b g v h ht hb
  have ht := decide_eq_true ht
  have hb := decide_eq_true hb
  refine ⟨State.named_byEngine h ht, State.named_byEngine h ht, State.named_byEngine h hb, State.named_byEngine h ht, State.named_byEngine h ht,
    State.named_byEngine h hb, _, State.named_byEngine h hb, ?_, ?_⟩
  · rw [State.watch_value (f := Tile.tops) (fun _ _ _ => rfl), State.enqueue, State.startWait, State.modTile_modTile, State.modTile_tile, if_pos rfl]
    rfl
  · rw [State.watch_value (f := fun T => T.engine e) (fun _ _ _ => rfl), State.enqueue, State.startWait, State.modTile_modTile, State.modTile_tile,
      if_pos rfl]
    exact (Tile.setEngine_engine _ e e _).trans (if_pos rfl)

end

/-! ## The steps of a boundary -/

section
variable {α : Type} {f : Tile → α} {s : State} {tile : Nat} {e g : Engine} {lp : Bool} {ops : List TOp}

/-- The tile once its register writes and ADDs have been performed. -/
def Tile.summed (T : Tile) (lp : Bool) : Tile :=
  T.bellAdds.foldl (fun U p => U.addTally p.1 1 (p.2 || lp))
    (T.tops.foldl (Tile.tallyStep2 lp) (T.tops.foldl Tile.tallyStep1 { T with tops := [], bellAdds := [] }))

/-- The tallies whose mode the boundary changes. -/
def Tile.flips (T : Tile) : BitVec 48 :=
  T.tallyMode ^^^ (T.tops.foldl Tile.tallyStep1 { T with tops := [], bellAdds := [] }).tallyMode

/-- Step 4 of a boundary. -/
def State.boundaryWaits (s : State) (tile : Nat) (fl : BitVec 48) : State :=
  ((List.range 8).foldl (fun s n => s.chanWait tile fl n) ((s.engineWait tile fl .mx).engineWait tile fl .vx)).engineWait tile fl .sc

/-- Steps 2 to 4 of a boundary, from the state in which the arrivals have been taken. -/
def State.boundaryRest (s : State) (tile : Nat) (lp : Bool) (ops : List TOp) (fl : BitVec 48) : State :=
  (allEngines.foldl (fun s e => ops.foldl (tallyDec tile e) s) (s.modTile tile (fun T => T.ringBells lp ops))).boundaryWaits tile fl

theorem State.boundary_eq (s : State) (tile : Nat) :
    s.boundary tile =
      let lp := (s.slice (tileDie tile)).lpActive
      let p := (s.tile tile).tops.foldl (tallyArrive tile) (s.setTile tile ((s.tile tile).summed lp), .ok)
      (p.1.boundaryRest tile lp (s.tile tile).tops (s.tile tile).flips, p.2) := rfl

/-! ### Waits -/

/-- No engine waits but `e`, and no WAITT. -/
structure Tile.waitsOnly (T : Tile) (e : Option Engine) : Prop where
  engines : ∀ g, some g ≠ e → T.engine g = .running ∨ T.engine g = .stopped
  chans : ∀ n, n < 8 → (T.chan n).waitTally = false

theorem Tile.calm.waits {T : Tile} {e : Option Engine} (h : T.calm e) : T.waitsOnly e := ⟨h.engines, h.chans⟩

theorem Tile.waitsOnly.congr {T U : Tile} {o : Option Engine} (h : T.waitsOnly o) (he : U.engines = T.engines) (hc : U.chans = T.chans) :
    U.waitsOnly o := by
  obtain ⟨engines, chans⟩ := h
  refine ⟨fun g hg => ?_, fun n hn => ?_⟩
  · rw [Tile.engine, he]; exact engines g hg
  · rw [Tile.chan, hc]; exact chans n hn

theorem State.engineWait_rest {fl : BitVec 48} (h : (s.tile tile).engine g = .running ∨ (s.tile tile).engine g = .stopped) :
    s.engineWait tile fl g = s := by
  rcases h with h | h <;> simp [State.engineWait, h]

theorem State.chanWait_rest {fl : BitVec 48} {n : Nat} (h : ((s.tile tile).chan n).waitTally = false) : s.chanWait tile fl n = s := by
  unfold State.chanWait
  dsimp only
  split
  · rfl
  · simp [h]

/-- What an engine's faults and ends of operations change of a tile. -/
structure Tile.WaitFree (e : Engine) (f : Tile → α) : Prop where
  fault : ∀ (T : Tile) w, f { T with syncFault := w } = f T
  engine : ∀ (T : Tile) q, f (T.setEngine e q) = f T

theorem State.syncFaultOp_value (hf : ∀ (T : Tile) w, f { T with syncFault := w } = f T) (s : State) (t c o n m u : Nat) :
    f ((s.syncFaultOp t c o n m).tile u) = f (s.tile u) := by
  rw [State.syncFaultOp, State.raise_tile]
  exact State.modTile_value s t u (hf _ _)

theorem State.endOp_value (hf : Tile.WaitFree e f) (s : State) (t : Nat) (st : Status) (l : Bool) (v u : Nat) :
    f ((s.endOp t e st l v).tile u) = f (s.tile u) := by
  rw [State.endOp, State.emit_tile]
  exact State.modTile_value s t u (hf.engine _ _)

theorem State.engFault_value (hf : Tile.WaitFree e f) (s : State) (t c o u : Nat) : f ((s.engFault t c o e).tile u) = f (s.tile u) :=
  (State.endOp_value hf _ t _ _ _ u).trans (State.syncFaultOp_value hf.fault s t c o _ _ u)

theorem State.engineWait_value (hf : Tile.WaitFree e f) (ht : ∀ (T : Tile) k v, f (T.setTally k v) = f T) (s : State) (t : Nat) (fl : BitVec 48)
    (u : Nat) : f ((s.engineWait t fl e).tile u) = f (s.tile u) := by
  unfold State.engineWait
  dsimp only
  split
  · split
    · exact State.engFault_value hf s t _ _ u
    · split
      · exact State.endOp_value hf s t _ _ _ u
      · rfl
  · split
    · exact State.engFault_value hf s t _ _ u
    · split
      · rfl
      · exact (State.endOp_value hf _ t _ _ _ u).trans (State.modTile_value s t u (ht _ _ _))
  · split
    · exact State.endOp_value hf s t _ _ _ u
    · rfl
  · rfl

/-- The wait of one engine leaves the others and the WAITTs as they are. -/
theorem State.engineWait_waits {fl : BitVec 48} (h : (s.tile tile).waitsOnly (some e)) :
    ((s.engineWait tile fl e).tile tile).waitsOnly (some e) where
  engines g hg := by
    have other : Tile.WaitFree e (fun T : Tile => T.engine g) :=
      { fault := fun _ _ => rfl, engine := fun T q => by rw [Tile.setEngine_engine, if_neg fun k => hg (congrArg some k.symm)] }
    rw [State.engineWait_value (f := fun T : Tile => T.engine g) other fun _ _ _ => rfl]
    exact h.engines g hg
  chans n hn := by
    rw [State.engineWait_value (f := fun T : Tile => (T.chan n).waitTally) ⟨fun _ _ => rfl, fun _ _ => rfl⟩ fun _ _ _ => rfl]
    exact h.chans n hn

theorem foldl_fixed {σ ι : Type} {k : σ → ι → σ} {t : σ} {l : List ι} (h : ∀ x, x ∈ l → k t x = t) : l.foldl k t = t :=
  List.foldlRecOn (motive := fun u => u = t) l k rfl fun u hu x hx => by rw [hu]; exact h x hx

theorem State.chanWaits_rest {fl : BitVec 48} {o : Option Engine} (h : (s.tile tile).waitsOnly o) :
    (List.range 8).foldl (fun s n => s.chanWait tile fl n) s = s :=
  foldl_fixed fun n hn => State.chanWait_rest (h.chans n (List.mem_range.mp hn))

/-- Where one engine alone may wait, step 4 is its wait. -/
theorem State.boundaryWaits_only {fl : BitVec 48} (h : (s.tile tile).waitsOnly (some e)) : s.boundaryWaits tile fl = s.engineWait tile fl e := by
  have rest {t : State} {g : Engine} (ht : (t.tile tile).waitsOnly (some e)) (hg : g ≠ e) : t.engineWait tile fl g = t :=
    State.engineWait_rest (ht.engines g fun k => hg (Option.some.inj k))
  have after := State.engineWait_waits (fl := fl) h
  rw [State.boundaryWaits]
  cases e with
  | mx => rw [rest after (by decide), State.chanWaits_rest after, rest after (by decide)]
  | vx => rw [rest h (by decide), State.chanWaits_rest after, rest after (by decide)]
  | sc => rw [rest h (by decide), rest h (by decide), State.chanWaits_rest h]

theorem State.boundaryWaits_rest {fl : BitVec 48} (h : (s.tile tile).waitsOnly none) : s.boundaryWaits tile fl = s := by
  have rest (g : Engine) := State.engineWait_rest (fl := fl) (h.engines g (Option.some_ne_none g))
  rw [State.boundaryWaits, rest, rest, State.chanWaits_rest h, rest]

/-! ### Bells -/

/-- The bell completes at this boundary. -/
def Tile.due (T : Tile) (ops : List TOp) (b : Nat) : Bool :=
  ((T.bell b).mask ≠ 0 && (T.bell b).arrived == (T.bell b).mask) || ops.any (fun o => match o with | .force _ k => k == b | _ => false)

def Tile.ringDue (lp : Bool) (ops : List TOp) (T : Tile) (b : Nat) : Tile := if T.due ops b then T.ringBell lp b else T

theorem Tile.ringBells_eq (lp : Bool) (ops : List TOp) (T : Tile) : T.ringBells lp ops = (List.range 8).foldl (Tile.ringDue lp ops) T := rfl

/-- A bell that has completed (R277). -/
def Bell.rung (B : Bell) (lp : Bool) : Bell := { B with gen := B.gen + 1, arrived := 0, l := lp }

theorem Tile.ringDue_bell (T : Tile) (b c : Nat) :
    (T.ringDue lp ops b).bell c = if b = c ∧ T.due ops b then (T.bell b).rung lp else T.bell c := by
  unfold Tile.ringDue
  by_cases hd : T.due ops b = true
  · rw [if_pos hd]
    exact (Tbl.get_set _ _ _ _ _).trans (by simp [hd, Bell.rung]; rfl)
  · rw [if_neg hd, if_neg fun h => hd h.2]

theorem Tile.ringDue_due (T : Tile) {b c : Nat} (h : b ≠ c) : (T.ringDue lp ops b).due ops c = T.due ops c := by
  rw [Tile.due, Tile.due, Tile.ringDue_bell, if_neg fun k => h k.1]

/-- Each bell of the list that is due rings once. -/
theorem Tile.foldl_ringDue_bell {c : Nat} {l : List Nat} (hl : l.Nodup) (T : Tile) :
    (l.foldl (Tile.ringDue lp ops) T).bell c = if c ∈ l ∧ T.due ops c then (T.bell c).rung lp else T.bell c := by
  induction l generalizing T with
  | nil => simp
  | cons b l ih =>
    obtain ⟨hb, hl⟩ := List.nodup_cons.mp hl
    rw [List.foldl_cons, ih hl, Tile.ringDue_bell]
    by_cases hc : b = c
    · subst hc
      simp [hb]
    · rw [Tile.ringDue_due _ hc]
      simp [hc, Ne.symm hc]

theorem Tile.ringBells_bell (T : Tile) (c : Nat) :
    (T.ringBells lp ops).bell c = if c < 8 ∧ T.due ops c then (T.bell c).rung lp else T.bell c := by
  rw [Tile.ringBells_eq, Tile.foldl_ringDue_bell List.nodup_range]
  simp only [List.mem_range]

theorem Tile.ringDue_adds (T : Tile) {b : Nat} {x : Nat × Bool} (h : x ∈ T.bellAdds) : x ∈ (T.ringDue lp ops b).bellAdds := by
  unfold Tile.ringDue
  split
  · unfold Tile.ringBell
    dsimp only
    split
    · exact h
    · exact List.mem_append_left _ h
  · exact h

/-- The ADD of a bell that completes is due at the next boundary. -/
theorem Tile.foldl_ringDue_adds {c : Nat} {l : List Nat} (hc : c ∈ l) (hl : l.Nodup) {T : Tile} (hd : T.due ops c = true)
    (ht : (T.bell c).tally ≠ 63) : ((T.bell c).tally.toNat, lp) ∈ (l.foldl (Tile.ringDue lp ops) T).bellAdds := by
  induction l generalizing T with
  | nil => nomatch hc
  | cons b l ih =>
    obtain ⟨hb, hl⟩ := List.nodup_cons.mp hl
    rw [List.foldl_cons]
    by_cases he : b = c
    · subst he
      refine List.foldlRecOn (motive := fun U : Tile => ((T.bell b).tally.toNat, lp) ∈ U.bellAdds) _ _ ?_ fun U hU a _ => Tile.ringDue_adds U hU
      rw [Tile.ringDue, if_pos hd, Tile.ringBell, if_neg ht]
      exact List.mem_append_right _ (List.mem_singleton.mpr rfl)
    · have same : (T.ringDue lp ops b).bell c = T.bell c := by rw [Tile.ringDue_bell, if_neg fun k => he k.1]
      have := ih ((List.mem_cons.mp hc).resolve_left fun k => he k.symm) hl (T := T.ringDue lp ops b) ((Tile.ringDue_due T he).trans hd)
        (same ▸ ht)
      rwa [same] at this

theorem Tile.ringBells_adds {T : Tile} {c : Nat} (hc : c < 8) (hd : T.due ops c = true) (ht : (T.bell c).tally ≠ 63) :
    ((T.bell c).tally.toNat, lp) ∈ (T.ringBells lp ops).bellAdds := by
  rw [Tile.ringBells_eq]
  exact Tile.foldl_ringDue_adds (List.mem_range.mpr hc) List.nodup_range hd ht

theorem Tile.ringBells_value (hf : ∀ (T : Tile) b a, f { T with bells := b, bellAdds := a } = f T) (T : Tile) : f (T.ringBells lp ops) = f T := by
  rw [Tile.ringBells_eq]
  refine foldl_eq f (fun U b => ?_) _ T
  unfold Tile.ringDue
  split
  · exact hf U _ _
  · rfl

/-- The bells wake no engine. -/
theorem State.ringBells_waits {o : Option Engine} (h : (s.tile tile).waitsOnly o) :
    ((s.modTile tile (fun T => T.ringBells lp ops)).tile tile).waitsOnly o := by
  rw [State.modTile_tile, if_pos rfl]
  exact ⟨fun g hg => by rw [Tile.ringBells_value (f := fun T : Tile => T.engine g) fun _ _ _ => rfl]; exact h.engines g hg,
    fun n hn => by rw [Tile.ringBells_value (f := fun T : Tile => T.chan n) fun _ _ _ => rfl]; exact h.chans n hn⟩

theorem State.decs_none (ho : ∀ o, o ∈ ops → ∀ g k, o ≠ .dec g k) : allEngines.foldl (fun s e => ops.foldl (tallyDec tile e) s) s = s :=
  foldl_fixed fun e _ => foldl_fixed fun o hm => by
    have := ho o hm
    unfold tallyDec
    split
    · exact absurd rfl (this _ _)
    · rfl

/-! ### The operations of the channels, and the register access that waited -/

/-- The operation is one of the tally block's own. -/
def TOp.ofTallies : TOp → Bool
  | .pop _ _ | .send .. | .fill .. | .homeAdd .. | .done .. => false
  | _ => true

theorem State.channelOps_rest (ho : ∀ o, o ∈ ops → o.ofTallies = true) (he : ∀ g k, (s.tile tile).engine g ≠ .recv k) :
    s.channelOps tile ops = s := by
  unfold State.channelOps
  rw [foldl_fixed (t := s)]
  · exact foldl_fixed fun g _ => by
      split
      · next k h => exact absurd h (he g k)
      · rfl
  · intro o hm
    have := ho o hm
    cases o <;> simp_all [TOp.ofTallies]

theorem Tile.waitsOnly.noRecv {T : Tile} (h : T.waitsOnly none) (g : Engine) (k : Nat) : T.engine g ≠ .recv k := by
  rcases h.engines g (Option.some_ne_none g) with h | h <;> rw [h] <;> exact EngState.noConfusion

/-- A boundary at a register block that no access waits at. -/
theorem State.exec_boundary {u r : State} {st : Status} (hp : s.hasTile tile = true) (hl : s.live (tileDie tile) = true)
    (hb : s.boundary tile = (u, st)) (hc : u.channelOps tile (s.tile tile).tops = r) (busy : (s.tile tile).regBusy = none)
    (first : (r.tile tile).regWait = []) : exec (.tallyBoundary tile) s = .next (r.watch tile) := by
  refine (State.atTile_next hp hl).trans (congrArg (fun t : State => Host.Outcome.next (t.watch tile)) ?_)
  rw [State.boundaryOp, hb, busy]
  dsimp only
  rw [hc, State.freed_none first]


/-- Without DECs, and with no wait but that of one engine, the rest of a boundary rings the bells and serves that wait. -/
theorem State.boundaryRest_only {fl : BitVec 48} (h : (s.tile tile).waitsOnly (some e)) (ho : ∀ o, o ∈ ops → ∀ g k, o ≠ .dec g k) :
    s.boundaryRest tile lp ops fl = (s.modTile tile (fun T => T.ringBells lp ops)).engineWait tile fl e := by
  rw [State.boundaryRest, State.decs_none ho, State.boundaryWaits_only (State.ringBells_waits h)]

theorem State.boundaryRest_quiet {fl : BitVec 48} (h : (s.tile tile).waitsOnly none) (ho : ∀ o, o ∈ ops → ∀ g k, o ≠ .dec g k) :
    s.boundaryRest tile lp ops fl = s.modTile tile (fun T => T.ringBells lp ops) := by
  rw [State.boundaryRest, State.decs_none ho, State.boundaryWaits_rest (State.ringBells_waits h)]

/-- A boundary at which no DEC waits, no engine, and no register access: the arrivals are taken, and the bells ring. -/
theorem State.exec_boundary_quiet {u : State} {st : Status} (hp : s.hasTile tile = true) (hl : s.live (tileDie tile) = true)
    (arr : (s.tile tile).tops.foldl (tallyArrive tile) (s.setTile tile ((s.tile tile).summed (s.slice (tileDie tile)).lpActive), .ok) = (u, st))
    (ho : ∀ o, o ∈ (s.tile tile).tops → o.ofTallies = true ∧ ∀ g k, o ≠ .dec g k) (waits : (u.tile tile).waitsOnly none)
    (busy : (s.tile tile).regBusy = none) (first : (u.tile tile).regWait = []) :
    exec (.tallyBoundary tile) s =
      .next ((u.modTile tile (fun T => T.ringBells (s.slice (tileDie tile)).lpActive (s.tile tile).tops)).watch tile) := by
  refine State.exec_boundary hp hl (st := st) ?_
    (State.channelOps_rest (fun o hm => (ho o hm).1) (State.ringBells_waits waits).noRecv) busy ?_
  · rw [State.boundary_eq]
    dsimp only
    rw [arr, State.boundaryRest_quiet waits fun o hm => (ho o hm).2]
  · rw [State.modTile_tile, if_pos rfl, Tile.ringBells_value (f := Tile.regWait) fun _ _ _ => rfl, first]

/-- What the rest of such a boundary leaves of the tile. -/
theorem State.rung_value {u : State} (hb : ∀ (T : Tile) b a, f { T with bells := b, bellAdds := a } = f T)
    (hw : ∀ (T : Tile) n w, f { T with wmFrom := n, wmNow := w } = f T) :
    f (((u.modTile tile (fun T => T.ringBells lp ops)).watch tile).tile tile) = f (u.tile tile) := by
  rw [State.watch_value hw, State.modTile_tile, if_pos rfl, Tile.ringBells_value hb]

/-! ## ADDs -/

theorem Tile.addTally_tallyOf (T : Tile) (t k : Nat) (a : Word) (l : Bool) :
    (T.addTally t a l).tallyOf k = T.tallyOf k + if t = k then a else 0 := by
  refine (Tbl.get_set _ _ _ _ _).trans ?_
  split
  · next h => rw [h]
  · exact (BitVec.add_zero _).symm

theorem Tile.foldl_addTally_tallyOf (l : List (Nat × Word)) (T : Tile) (k : Nat) :
    (l.foldl (fun U p => U.addTally p.1 p.2 lp) T).tallyOf k = T.tallyOf k + ((l.filter (fun p => p.1 == k)).map Prod.snd).sum := by
  induction l generalizing T with
  | nil => simp
  | cons p l ih =>
    rw [List.foldl_cons, ih, Tile.addTally_tallyOf]
    by_cases h : p.1 = k
    · simp [h, BitVec.add_assoc]
    · simp [h]

theorem Tile.summed_adds {T : Tile} {l : List (Nat × Word)} (h : T.tops = l.map (fun p => .add p.1 p.2 false)) (ha : T.bellAdds = []) :
    T.summed lp = l.foldl (fun U p => U.addTally p.1 p.2 lp) { T with tops := [], bellAdds := [] } := by
  rw [Tile.summed, h, ha, List.foldl_map, List.foldl_map, foldl_fixed (k := fun U (p : Nat × Word) => Tile.tallyStep1 U _) fun _ _ => rfl]
  simp [Tile.tallyStep2]

/-- Settles O32. -/
theorem boundaryAddsAll : Obligations.BoundaryAddsAll := by
  intro s tile l hp hl calm htops
  set T := s.tile tile with hT
  have adds : ∀ o, o ∈ T.tops → ∃ t a, o = .add t a false := fun o ho => by
    rw [htops] at ho
    obtain ⟨p, -, rfl⟩ := List.mem_map.mp ho
    exact ⟨_, _, rfl⟩
  set lp := (s.slice (tileDie tile)).lpActive
  have summed := Tile.summed_adds (lp := lp) htops calm.adds
  have keep {α : Type} (f : Tile → α) (hf : ∀ (T : Tile) t m, f { T with tally := t, tallyL := m } = f T)
      (h0 : ∀ (T : Tile), f { T with tops := [], bellAdds := [] } = f T) : f (T.summed lp) = f T := by
    rw [summed]
    exact (foldl_eq f (fun U p => hf U _ _) l _).trans (h0 T)
  have tops : (T.summed lp).tops = [] := by
    rw [summed]
    exact foldl_eq Tile.tops (g := fun (U : Tile) (p : Nat × Word) => U.addTally p.1 p.2 lp) (fun _ _ => rfl) l _
  have waits : (T.summed lp).waitsOnly none :=
    ⟨fun g hg => by rw [keep (fun T => T.engine g) (fun _ _ _ => rfl) fun _ => rfl]; exact calm.engines g hg,
      fun n hn => by rw [keep (fun T => T.chan n) (fun _ _ _ => rfl) fun _ => rfl]; exact calm.chans n hn⟩
  have hu : (s.setTile tile (T.summed lp)).tile tile = T.summed lp := by rw [State.setTile_tile, if_pos rfl]
  refine ⟨_, State.exec_boundary_quiet hp hl (foldl_fixed fun o ho => ?_) (fun o ho => ?_) (by rw [hu]; exact waits) calm.busy ?_, ?_, rfl,
    fun k => ?_⟩
  · obtain ⟨t, a, rfl⟩ := adds o ho
    rfl
  · obtain ⟨t, a, rfl⟩ := adds o ho
    exact ⟨rfl, fun _ _ => TOp.noConfusion⟩
  · rw [hu, keep Tile.regWait (fun _ _ _ => rfl) fun _ => rfl]
    exact calm.first
  · rw [State.rung_value (f := Tile.tops) (fun _ _ _ => rfl) fun _ _ _ => rfl, hu, tops]
  · rw [State.rung_value (f := fun T => T.tallyOf k) (fun _ _ _ => rfl) fun _ _ _ => rfl, hu, summed, Tile.foldl_addTally_tallyOf]
    rfl

/-! ## Waits -/

theorem Tile.summed_none {T : Tile} (h : T.tops = []) (ha : T.bellAdds = []) : T.summed lp = { T with tops := [], bellAdds := [] } := by
  rw [Tile.summed, h, ha]; rfl

theorem Tile.flips_none {T : Tile} (h : T.tops.foldl Tile.tallyStep1 { T with tops := [], bellAdds := [] } = { T with tops := [], bellAdds := [] }) :
    T.flips = 0 := by
  rw [Tile.flips, h]
  exact BitVec.xor_self

theorem bit_zero48 (k : Nat) : bit 0#48 k = false := by simp [bit]

/-- A WAIT_GE on a MONO tally ends once it is met. -/
theorem State.engineWait_ge {k : Nat} {v : Word} (h : (s.tile tile).engine e = .waitGe k v) (hm : bit (s.tile tile).tallyMode k = false) :
    s.engineWait tile 0 e =
      if monoMet ((s.tile tile).tallyOf k) v then s.endOp tile e .ok (bit (s.tile tile).tallyL k) 0 else s := by
  rw [State.engineWait, h]
  exact if_neg (by simp [Tile.isCount, hm, bit_zero48])

/-- A WAIT_DEC on a COUNT tally ends once it is not 0. -/
theorem State.engineWait_dec {k : Nat} (h : (s.tile tile).engine e = .waitDec k) (hm : bit (s.tile tile).tallyMode k = true) :
    s.engineWait tile 0 e =
      if (s.tile tile).tallyOf k = 0 then s
      else (s.modTile tile (fun T => T.setTally k (T.tallyOf k - 1))).endOp tile e .ok (bit (s.tile tile).tallyL k) 0 := by
  rw [State.engineWait, h]
  exact if_neg (by simp [Tile.isCount, hm, bit_zero48])

theorem State.endOp_engine (s : State) (tile : Nat) (e : Engine) (st : Status) (l : Bool) (v : Nat) :
    ((s.endOp tile e st l v).tile tile).engine e = .running := by
  rw [State.endOp, State.emit_tile, State.modTile_tile, if_pos rfl, Tile.setEngine_engine, if_pos rfl]

/-- The state in which a boundary without operations serves the waits. -/
def State.atWaits (s : State) (tile : Nat) : State :=
  let lp := (s.slice (tileDie tile)).lpActive
  (s.setTile tile { s.tile tile with tops := [], bellAdds := [] }).modTile tile (fun T => T.ringBells lp [])

theorem State.atWaits_value (ho : ∀ (T : Tile) o a, f { T with tops := o, bellAdds := a } = f T)
    (hb : ∀ (T : Tile) b a, f { T with bells := b, bellAdds := a } = f T) : f ((s.atWaits tile).tile tile) = f (s.tile tile) := by
  rw [State.atWaits, State.modTile_tile, if_pos rfl, Tile.ringBells_value hb, State.setTile_tile, if_pos rfl]
  exact ho _ _ _

/-- A boundary without operations serves the one wait that there is. -/
theorem State.exec_boundary_wait (hp : s.hasTile tile = true) (hl : s.live (tileDie tile) = true) (calm : (s.tile tile).calm (some e))
    (htops : (s.tile tile).tops = []) (he : ∀ k, ((s.atWaits tile).engineWait tile 0 e |>.tile tile).engine e ≠ .recv k) :
    exec (.tallyBoundary tile) s = .next (((s.atWaits tile).engineWait tile 0 e).watch tile) := by
  have waits : (s.atWaits tile |>.tile tile).waitsOnly (some e) :=
    ⟨fun g hg => by rw [State.atWaits_value (f := fun T => T.engine g) (fun _ _ _ => rfl) fun _ _ _ => rfl]; exact calm.engines g hg,
      fun n hn => by rw [State.atWaits_value (f := fun T => T.chan n) (fun _ _ _ => rfl) fun _ _ _ => rfl]; exact calm.chans n hn⟩
  refine State.exec_boundary hp hl (st := .ok) ?_ (State.channelOps_rest ?_ fun g k => ?_) calm.busy ?_
  · rw [State.boundary_eq]
    dsimp only
    rw [Tile.summed_none htops calm.adds, Tile.flips_none (by rw [htops]; rfl), htops, List.foldl_nil, State.boundaryRest_only _ fun o ho => absurd ho List.not_mem_nil]
    · rfl
    · rw [State.setTile_tile, if_pos rfl]
      exact calm.waits.congr rfl rfl
  · rw [htops]
    exact fun o ho => absurd ho List.not_mem_nil
  · by_cases hg : g = e
    · rw [hg]
      exact he k
    · rcases (State.engineWait_waits waits).engines g (fun h => hg (Option.some.inj h)) with h | h <;> rw [h] <;> exact EngState.noConfusion
  · rw [State.engineWait_value (f := Tile.regWait) ⟨fun _ _ => rfl, fun _ _ => rfl⟩ fun _ _ _ => rfl,
      State.atWaits_value (f := Tile.regWait) (fun _ _ _ => rfl) fun _ _ _ => rfl]
    exact calm.first

/-- The state once the wait of an engine has been served, as its watchman leaves it. -/
theorem State.boundary_waitGe {k : Nat} {v : Word} (hp : s.hasTile tile = true) (hl : s.live (tileDie tile) = true)
    (calm : (s.tile tile).calm (some e)) (htops : (s.tile tile).tops = []) (he : (s.tile tile).engine e = .waitGe k v)
    (hm : bit (s.tile tile).tallyMode k = false) :
    ∃ t : State, exec (.tallyBoundary tile) s = .next t ∧ (t.tile tile).tally = (s.tile tile).tally ∧
      (if ((s.tile tile).tallyOf k - v).toNat < 2 ^ 31 then
        (t.tile tile).engine e = .running ∧ t.out = s.out ++ [Output.op tile e .ok (bit (s.tile tile).tallyL k) 0]
       else (t.tile tile).engine e = .waitGe k v ∧ t.out = s.out) := by
  have val {β : Type} (f : Tile → β) := State.atWaits_value (s := s) (tile := tile) (f := f)
  have eng : ((s.atWaits tile).tile tile).engine e = .waitGe k v := (val (fun T => T.engine e) (fun _ _ _ => rfl) fun _ _ _ => rfl).trans he
  have wait := State.engineWait_ge eng ((val (fun T => bit T.tallyMode k) (fun _ _ _ => rfl) fun _ _ _ => rfl).trans hm)
  rw [val (fun T => T.tallyOf k) (fun _ _ _ => rfl) fun _ _ _ => rfl, val (fun T => bit T.tallyL k) (fun _ _ _ => rfl) fun _ _ _ => rfl] at wait
  have tally : ((s.atWaits tile).tile tile).tally = (s.tile tile).tally := val Tile.tally (fun _ _ _ => rfl) fun _ _ _ => rfl
  by_cases hmet : ((s.tile tile).tallyOf k - v).toNat < 2 ^ 31
  · rw [if_pos (show monoMet _ v = true from decide_eq_true hmet)] at wait
    simp only [hmet, if_true]
    refine ⟨_, State.exec_boundary_wait hp hl calm htops fun j => by rw [wait, State.endOp_engine]; exact EngState.noConfusion, ?_, ?_, ?_⟩
    · rw [State.watch_value (f := Tile.tally) (fun _ _ _ => rfl), wait, State.endOp_value (f := Tile.tally) ⟨fun _ _ => rfl, fun _ _ => rfl⟩, tally]
    · rw [State.watch_value (f := fun T => T.engine e) (fun _ _ _ => rfl), wait, State.endOp_engine]
    · rw [State.watch_out, wait]; rfl
  · rw [if_neg fun h : monoMet _ v = true => hmet (of_decide_eq_true h)] at wait
    simp only [hmet, if_false]
    refine ⟨_, State.exec_boundary_wait hp hl calm htops fun j => by rw [wait, eng]; exact EngState.noConfusion, ?_, ?_, ?_⟩
    · rw [State.watch_value (f := Tile.tally) (fun _ _ _ => rfl), wait, tally]
    · rw [State.watch_value (f := fun T => T.engine e) (fun _ _ _ => rfl), wait, eng]
    · rw [State.watch_out, wait]; rfl

theorem State.boundary_waitDec {k : Nat} (hp : s.hasTile tile = true) (hl : s.live (tileDie tile) = true)
    (calm : (s.tile tile).calm (some e)) (htops : (s.tile tile).tops = []) (he : (s.tile tile).engine e = .waitDec k)
    (hm : bit (s.tile tile).tallyMode k = true) :
    ∃ t : State, exec (.tallyBoundary tile) s = .next t ∧
      (if (s.tile tile).tallyOf k = 0 then (t.tile tile).engine e = .waitDec k ∧ t.out = s.out ∧ (t.tile tile).tallyOf k = 0
       else (t.tile tile).engine e = .running ∧ t.out = s.out ++ [Output.op tile e .ok (bit (s.tile tile).tallyL k) 0] ∧
         (t.tile tile).tallyOf k = (s.tile tile).tallyOf k - 1) := by
  have val {β : Type} (f : Tile → β) := State.atWaits_value (s := s) (tile := tile) (f := f)
  have eng : ((s.atWaits tile).tile tile).engine e = .waitDec k := (val (fun T => T.engine e) (fun _ _ _ => rfl) fun _ _ _ => rfl).trans he
  have wait := State.engineWait_dec eng ((val (fun T => bit T.tallyMode k) (fun _ _ _ => rfl) fun _ _ _ => rfl).trans hm)
  have tally : ((s.atWaits tile).tile tile).tallyOf k = (s.tile tile).tallyOf k := val (fun T => T.tallyOf k) (fun _ _ _ => rfl) fun _ _ _ => rfl
  rw [tally, val (fun T => bit T.tallyL k) (fun _ _ _ => rfl) fun _ _ _ => rfl] at wait
  by_cases h0 : (s.tile tile).tallyOf k = 0
  · rw [if_pos h0] at wait
    simp only [h0, if_true]
    refine ⟨_, State.exec_boundary_wait hp hl calm htops fun j => by rw [wait, eng]; exact EngState.noConfusion, ?_, ?_, ?_⟩
    · rw [State.watch_value (f := fun T => T.engine e) (fun _ _ _ => rfl), wait, eng]
    · rw [State.watch_out, wait]; rfl
    · rw [State.watch_value (f := fun T => T.tallyOf k) (fun _ _ _ => rfl), wait, tally, h0]
  · rw [if_neg h0] at wait
    simp only [h0, if_false]
    refine ⟨_, State.exec_boundary_wait hp hl calm htops fun j => by rw [wait, State.endOp_engine]; exact EngState.noConfusion, ?_, ?_, ?_⟩
    · rw [State.watch_value (f := fun T => T.engine e) (fun _ _ _ => rfl), wait, State.endOp_engine]
    · rw [State.watch_out, wait]; rfl
    · rw [State.watch_value (f := fun T => T.tallyOf k) (fun _ _ _ => rfl), wait,
        State.endOp_value (f := fun T : Tile => T.tallyOf k) ⟨fun _ _ => rfl, fun _ _ => rfl⟩, State.modTile_tile, if_pos rfl, tally]
      exact (Tbl.get_set _ _ _ _ _).trans (if_pos rfl)


/-! ## Decrements, bells, arrivals -/

theorem State.opFault_value (hf : ∀ (T : Tile) w, f { T with syncFault := w } = f T) (s : State) (t c o u : Nat) :
    f ((s.opFault t c o e).tile u) = f (s.tile u) := by
  rw [State.opFault, State.emit_tile]
  exact State.syncFaultOp_value hf s t c o _ _ u

/-- The word of TL_SYNC_FAULT of a first fault. -/
theorem syncFault_word {c : Nat} (hc : c < 16) (o eng ch : Nat) :
    bits (put 0 c ||| put 4 o ||| put 10 eng ||| put 13 ch ||| flag 16 true) 0 4 = c ∧
      bit (put 0 c ||| put 4 o ||| put 10 eng ||| put 13 ch ||| flag 16 true) 16 = true := by
  have high (lo v : Nat) (h : 4 ≤ lo) : (put lo v).toNat % 2 ^ 4 = 0 := by
    rw [put, BitVec.toNat_ofNat, Nat.mod_mod_of_dvd _ (by decide), Nat.shiftLeft_eq]
    exact Nat.mod_eq_zero_of_dvd ((Nat.pow_dvd_pow 2 h).trans (Nat.dvd_mul_left _ _))
  have low : (put 0 c).toNat % 2 ^ 4 = c := by
    rw [put, BitVec.toNat_ofNat, Nat.shiftLeft_zero]
    omega
  constructor
  · rw [bits_zero]
    simp only [BitVec.toNat_or, Nat.or_mod_two_pow, low, flag, if_true, high _ _ (Nat.le_refl 4), high 10 _ (by decide), high 13 _ (by decide),
      high 16 _ (by decide), Nat.or_zero]
  · rw [bit, BitVec.getLsbD_or]
    simp [flag, put]

theorem State.syncFaultOp_first {c : Nat} (hc : c < 16) (o n m : Nat) (h : bit (s.tile tile).syncFault 16 = false) :
    bits ((s.syncFaultOp tile c o n m).tile tile).syncFault 0 4 = c ∧ bit ((s.syncFaultOp tile c o n m).tile tile).syncFault 16 = true := by
  rw [State.syncFaultOp, State.raise_tile, State.modTile_tile, if_pos rfl]
  dsimp only
  rw [h, if_neg (by decide)]
  exact syncFault_word hc o n m

/-- Of one DEC each engine's turn but its own is empty. -/
theorem State.decs_one (k : Nat) : allEngines.foldl (fun s g => [TOp.dec e k].foldl (tallyDec tile g) s) s = tallyDec tile e s (.dec e k) := by
  cases e <;> rfl

theorem tallyDec_own (k : Nat) : tallyDec tile e s (.dec e k) =
    if bit (s.tile tile).tallyMode k = true ∧ (s.tile tile).tallyOf k ≠ 0 then
      (s.modTile tile (fun T => T.setTally k (T.tallyOf k - 1))).emit (.op tile e .ok false 0)
    else s.opFault tile (if bit (s.tile tile).tallyMode k then 1 else 2) k e := by
  rw [tallyDec, if_neg fun h => h rfl]
  dsimp only
  rw [Tile.isCount]
  cases bit (s.tile tile).tallyMode k
  · rfl
  · by_cases h : (s.tile tile).tallyOf k = 0 <;> simp [h]

theorem tallyDec_value (hf : ∀ (T : Tile) w, f { T with syncFault := w } = f T) (ht : ∀ (T : Tile) k v, f (T.setTally k v) = f T) (k u : Nat) :
    f ((tallyDec tile e s (.dec e k)).tile u) = f (s.tile u) := by
  rw [tallyDec_own]
  split
  · rw [State.emit_tile]
    exact State.modTile_value s tile u (ht _ _ _)
  · exact State.opFault_value hf s tile _ _ u

/-- A boundary at which one DEC is all that waits. -/
theorem State.exec_boundary_dec {k : Nat} (hp : s.hasTile tile = true) (hl : s.live (tileDie tile) = true)
    (calm : (s.tile tile).calm none) (htops : (s.tile tile).tops = [.dec e k]) :
    exec (.tallyBoundary tile) s = .next ((tallyDec tile e ((s.setTile tile { s.tile tile with tops := [], bellAdds := [] }).modTile tile
      (fun T => T.ringBells (s.slice (tileDie tile)).lpActive [.dec e k])) (.dec e k)).watch tile) := by
  set u := (s.setTile tile { s.tile tile with tops := [], bellAdds := [] }).modTile tile
      (fun T => T.ringBells (s.slice (tileDie tile)).lpActive [.dec e k]) with hu
  have waits : (u.tile tile).waitsOnly none := State.ringBells_waits (by
    rw [State.setTile_tile, if_pos rfl]
    exact calm.waits.congr rfl rfl)
  have after : ((tallyDec tile e u (.dec e k)).tile tile).waitsOnly none :=
    waits.congr (tallyDec_value (f := Tile.engines) (fun _ _ => rfl) (fun _ _ _ => rfl) k tile)
      (tallyDec_value (f := Tile.chans) (fun _ _ => rfl) (fun _ _ _ => rfl) k tile)
  refine State.exec_boundary hp hl (st := .ok) ?_ (State.channelOps_rest ?_ after.noRecv) calm.busy ?_
  · have summed : (s.tile tile).summed (s.slice (tileDie tile)).lpActive = { s.tile tile with tops := [], bellAdds := [] } := by
      rw [Tile.summed, htops, calm.adds]; rfl
    rw [State.boundary_eq]
    dsimp only
    rw [summed, htops, List.foldl_cons, List.foldl_nil, State.boundaryRest]
    change ((List.foldl _ u allEngines).boundaryWaits tile _, _) = _
    rw [State.decs_one, State.boundaryWaits_rest after]
    rfl
  · rw [htops]
    intro o ho
    rw [List.mem_singleton.mp ho]
    rfl
  · rw [tallyDec_value (f := Tile.regWait) (fun _ _ => rfl) fun _ _ _ => rfl, hu, State.modTile_tile, if_pos rfl,
      Tile.ringBells_value (f := Tile.regWait) fun _ _ _ => rfl, State.setTile_tile, if_pos rfl]
    exact calm.first

theorem State.boundary_dec {k : Nat} (hp : s.hasTile tile = true) (hl : s.live (tileDie tile) = true)
    (calm : (s.tile tile).calm none) (htops : (s.tile tile).tops = [.dec e k]) :
    ∃ t : State, exec (.tallyBoundary tile) s = .next t ∧
      (if bit (s.tile tile).tallyMode k = true ∧ (s.tile tile).tallyOf k ≠ 0 then
        (t.tile tile).tallyOf k = (s.tile tile).tallyOf k - 1 ∧ t.out = s.out ++ [Output.op tile e .ok false 0]
       else (t.tile tile).tallyOf k = (s.tile tile).tallyOf k ∧ t.out = s.out ++ [Output.op tile e .decerr false 0] ∧
         (bit (s.tile tile).syncFault 16 = false → bits (t.tile tile).syncFault 0 4 = (if bit (s.tile tile).tallyMode k then 1 else 2) ∧
           bit (t.tile tile).syncFault 16 = true)) := by
  refine ⟨_, State.exec_boundary_dec hp hl calm htops, ?_⟩
  generalize hu : (s.setTile tile { s.tile tile with tops := [], bellAdds := [] }).modTile tile
      (fun T => T.ringBells (s.slice (tileDie tile)).lpActive [.dec e k]) = u
  have val {β : Type} (f : Tile → β) (ho : ∀ (T : Tile) o a, f { T with tops := o, bellAdds := a } = f T)
      (hb : ∀ (T : Tile) b a, f { T with bells := b, bellAdds := a } = f T) : f (u.tile tile) = f (s.tile tile) := by
    rw [← hu, State.modTile_tile, if_pos rfl, Tile.ringBells_value hb, State.setTile_tile, if_pos rfl]
    exact ho _ _ _
  have mode : bit (u.tile tile).tallyMode k = bit (s.tile tile).tallyMode k := val (fun T => bit T.tallyMode k) (fun _ _ _ => rfl) fun _ _ _ => rfl
  have tally : (u.tile tile).tallyOf k = (s.tile tile).tallyOf k := val (fun T => T.tallyOf k) (fun _ _ _ => rfl) fun _ _ _ => rfl
  have fault : (u.tile tile).syncFault = (s.tile tile).syncFault := val Tile.syncFault (fun _ _ _ => rfl) fun _ _ _ => rfl
  have out : u.out = s.out := by rw [← hu]; rfl
  rw [State.watch_value (f := fun T => T.tallyOf k) (fun _ _ _ => rfl), State.watch_value (f := Tile.syncFault) (fun _ _ _ => rfl), State.watch_out,
    tallyDec_own, mode, tally]
  split
  · refine ⟨?_, ?_⟩
    · rw [State.emit_tile, State.modTile_tile, if_pos rfl, ← tally]
      exact (Tbl.get_set _ _ _ _ _).trans (if_pos rfl)
    · rw [State.emit_out, State.modTile_out, out]
  · refine ⟨?_, ?_, fun h16 => ?_⟩
    · rw [State.opFault_value (f := fun T => T.tallyOf k) fun _ _ => rfl, tally]
    · rw [← out]; rfl
    · rw [State.opFault, State.emit_tile]
      exact State.syncFaultOp_first (by split <;> decide) _ _ _ (by rw [fault]; exact h16)


/-- What ADDs leave of a tile. -/
theorem Tile.foldl_addTally_value (hf : ∀ (T : Tile) t m, f { T with tally := t, tallyL := m } = f T) (g : Nat × Bool → Bool) (l : List (Nat × Bool))
    (T : Tile) : f (l.foldl (fun U p => U.addTally p.1 1 (g p)) T) = f T :=
  foldl_eq f (fun U _ => hf U _ _) l T

theorem State.boundary_bell {b : Nat} (hp : s.hasTile tile = true) (hl : s.live (tileDie tile) = true) (hb : b < 8)
    (htops : (s.tile tile).tops = []) (waits : (s.tile tile).waitsOnly none) (busy : (s.tile tile).regBusy = none)
    (first : (s.tile tile).regWait = []) (mask : ((s.tile tile).bell b).mask ≠ 0) (arrived : ((s.tile tile).bell b).arrived = ((s.tile tile).bell b).mask) :
    ∃ t : State, exec (.tallyBoundary tile) s = .next t ∧ ((t.tile tile).bell b).gen = ((s.tile tile).bell b).gen + 1 ∧
      ((t.tile tile).bell b).arrived = 0 ∧ ((t.tile tile).bell b).mask = ((s.tile tile).bell b).mask ∧
      (((s.tile tile).bell b).tally ≠ 63 →
        (((s.tile tile).bell b).tally.toNat, (s.slice (tileDie tile)).lpActive) ∈ (t.tile tile).bellAdds) := by
  set lp := (s.slice (tileDie tile)).lpActive
  have value {β : Type} (f : Tile → β) (hf : ∀ (T : Tile) t m, f { T with tally := t, tallyL := m } = f T)
      (h0 : ∀ (T : Tile), f { T with tops := [], bellAdds := [] } = f T) : f ((s.tile tile).summed lp) = f (s.tile tile) := by
    rw [Tile.summed, htops]
    exact (Tile.foldl_addTally_value hf _ _ _).trans (h0 _)
  have hu : (s.setTile tile ((s.tile tile).summed lp)).tile tile = (s.tile tile).summed lp := by rw [State.setTile_tile, if_pos rfl]
  have bell : ((s.tile tile).summed lp).bell b = (s.tile tile).bell b := value (fun T => T.bell b) (fun _ _ _ => rfl) fun _ => rfl
  have due : ((s.tile tile).summed lp).due (s.tile tile).tops b = true := by
    rw [Tile.due, bell, arrived, decide_eq_true mask, beq_self_eq_true]
    rfl
  have rung : (((s.tile tile).summed lp).ringBells lp (s.tile tile).tops).bell b = ((s.tile tile).bell b).rung lp := by
    rw [Tile.ringBells_bell, if_pos ⟨hb, due⟩, bell]
  have final : ((((s.setTile tile ((s.tile tile).summed lp)).modTile tile (fun T => T.ringBells lp (s.tile tile).tops)).watch tile).tile tile).bell b =
      ((s.tile tile).bell b).rung lp := by
    rw [State.watch_value (f := fun T => T.bell b) fun _ _ _ => rfl, State.modTile_tile, if_pos rfl, hu, rung]
  refine ⟨_, State.exec_boundary_quiet hp hl (st := .ok) (u := s.setTile tile ((s.tile tile).summed lp)) (by rw [htops]; rfl)
    (by rw [htops]; exact fun o ho => absurd ho List.not_mem_nil) ?_ busy ?_, by rw [final]; rfl, by rw [final]; rfl, by rw [final]; rfl, fun ht => ?_⟩
  · rw [hu]
    exact waits.congr (value Tile.engines (fun _ _ _ => rfl) fun _ => rfl) (value Tile.chans (fun _ _ _ => rfl) fun _ => rfl)
  · rw [hu, value Tile.regWait (fun _ _ _ => rfl) fun _ => rfl, first]
  · rw [State.watch_value (f := Tile.bellAdds) fun _ _ _ => rfl, State.modTile_tile, if_pos rfl, hu, ← bell]
    exact Tile.ringBells_adds hb due (by rw [bell]; exact ht)

theorem Tile.calm.notDue {T : Tile} {o : Option Engine} (h : T.calm o) {b : Nat} (hb : b < 8) (hn : ∀ p, p ∈ ops → ∀ w k, p ≠ .force w k)
    {U : Tile} (hU : U.bell b = T.bell b) : U.due ops b = false := by
  have force : ops.any (fun o => match o with | .force _ k => k == b | _ => false) = false := by
    rw [List.any_eq_false]
    intro _ hp
    have := hn _ hp
    split
    · exact absurd rfl (this _ _)
    · exact Bool.false_ne_true
  rw [Tile.due, hU, force, Bool.or_false, Bool.and_eq_false_iff]
  rcases h.bells b hb with m | m
  · exact .inl (by simp [m])
  · exact .inr (beq_eq_false_iff_ne.mpr m)

/-- An arrival that its bell does not take. -/
theorem Bell.refuses_some {B : Bell} {k : Nat} (h : bit B.mask k = false ∨ bit B.arrived k = true) :
    B.refuses k = some (if bit B.mask k then 3 else 4) := by
  rw [Bell.refuses]
  rcases h with h | h
  · simp [h]
  · cases hm : bit B.mask k <;> simp [h]

theorem Bell.refuses_none {B : Bell} {k : Nat} (hm : bit B.mask k = true) (ha : bit B.arrived k = false) : B.refuses k = none := by
  simp [Bell.refuses, hm, ha]

theorem State.boundary_arrive {b : Nat} (hp : s.hasTile tile = true) (hl : s.live (tileDie tile) = true) (hb : b < 8)
    (calm : (s.tile tile).calm none) (htops : (s.tile tile).tops = [.arrive e b false]) :
    let B := (s.tile tile).bell b
    let k := engineBell e
    ∃ t : State, exec (.tallyBoundary tile) s = .next t ∧
      ((bit B.mask k = false ∨ bit B.arrived k = true) → t.out = s.out ++ [Output.op tile e .decerr false 0] ∧ (t.tile tile).bell b = B ∧
        (bit (s.tile tile).syncFault 16 = false → bits (t.tile tile).syncFault 0 4 = (if bit B.mask k then 3 else 4))) ∧
      (bit B.mask k = true → bit B.arrived k = false → t.out = s.out ++ [Output.op tile e .ok false B.gen.toNat] ∧
        (((t.tile tile).bell b).gen = B.gen ∧ bit ((t.tile tile).bell b).arrived k = true ∨
         ((t.tile tile).bell b).gen = B.gen + 1 ∧ ((t.tile tile).bell b).arrived = 0)) := by
  intro B k
  set lp := (s.slice (tileDie tile)).lpActive
  have summed : (s.tile tile).summed lp = { s.tile tile with tops := [], bellAdds := [] } := by rw [Tile.summed, htops, calm.adds]; rfl
  set u := s.setTile tile ((s.tile tile).summed lp)
  have hu : u.tile tile = { s.tile tile with tops := [], bellAdds := [] } := by rw [State.setTile_tile, if_pos rfl, summed]
  have bell : (u.tile tile).bell b = B := by rw [hu]; rfl
  have one (o : TOp) (ho : o ∈ (s.tile tile).tops) : o = .arrive e b false := List.mem_singleton.mp (htops ▸ ho)
  have own (o : TOp) (ho : o ∈ (s.tile tile).tops) : o.ofTallies = true ∧ ∀ g k, o ≠ .dec g k := by
    rw [one o ho]
    exact ⟨rfl, fun _ _ => TOp.noConfusion⟩
  have arrive : (s.tile tile).tops.foldl (tallyArrive tile) (u, .ok) = tallyArrive tile (u, .ok) (.arrive e b false) := by rw [htops]; rfl
  have waits : (u.tile tile).waitsOnly none := by
    rw [hu]
    exact calm.waits.congr rfl rfl
  by_cases hr : bit B.mask k = false ∨ bit B.arrived k = true
  · have arr : (s.tile tile).tops.foldl (tallyArrive tile) (u, .ok) = (u.opFault tile (if bit B.mask k then 3 else 4) b e, .ok) := by
      rw [arrive, tallyArrive]
      dsimp only
      rw [bell, Bell.refuses_some hr]
      rfl
    have same : ((u.opFault tile (if bit B.mask k then 3 else 4) b e).tile tile).bell b = B := by
      rw [State.opFault_value (f := fun T => T.bell b) fun _ _ => rfl, bell]
    refine ⟨_, State.exec_boundary_quiet hp hl arr own ?_ calm.busy ?_, fun _ => ⟨rfl, ?_, fun h16 => ?_⟩, fun hm ha => ?_⟩
    · exact waits.congr (State.opFault_value (f := Tile.engines) (fun _ _ => rfl) u tile _ b tile)
        (State.opFault_value (f := Tile.chans) (fun _ _ => rfl) u tile _ b tile)
    · rw [State.opFault_value (f := Tile.regWait) fun _ _ => rfl, hu]
      exact calm.first
    · rw [State.watch_value (f := fun T => T.bell b) fun _ _ _ => rfl, State.modTile_tile, if_pos rfl, Tile.ringBells_bell, if_neg, same]
      rintro ⟨-, hd⟩
      rw [calm.notDue hb (fun o ho _ _ => by rw [one o ho]; exact TOp.noConfusion) same] at hd
      nomatch hd
    · rw [State.rung_value (f := Tile.syncFault) (fun _ _ _ => rfl) fun _ _ _ => rfl, State.opFault, State.emit_tile]
      exact (State.syncFaultOp_first (by split <;> decide) _ _ _ (by rw [hu]; exact h16)).1
    · exact absurd hr (by simp [hm, ha])
  · obtain ⟨hm, ha⟩ : bit B.mask k = true ∧ bit B.arrived k = false := by simpa using hr
    have arr : (s.tile tile).tops.foldl (tallyArrive tile) (u, .ok) =
        ((u.modTile tile (fun T => T.setArrived b k)).emit (.op tile e .ok false B.gen.toNat), .ok) := by
      rw [arrive, tallyArrive]
      dsimp only
      rw [bell, Bell.refuses_none hm ha]
      rfl
    have now : (((u.modTile tile (fun T => T.setArrived b k)).emit (.op tile e .ok false B.gen.toNat)).tile tile).bell b =
        { B with arrived := setBit B.arrived k true } := by
      rw [State.emit_tile, State.modTile_tile, if_pos rfl, ← bell]
      exact (Tbl.get_set _ _ _ _ _).trans (if_pos rfl)
    refine ⟨_, State.exec_boundary_quiet hp hl arr own ?_ calm.busy ?_, fun h => absurd h hr, fun _ _ => ⟨rfl, ?_⟩⟩
    · rw [State.emit_tile, State.modTile_tile, if_pos rfl]
      exact waits.congr rfl rfl
    · rw [State.emit_tile, State.modTile_tile, if_pos rfl, hu]
      exact calm.first
    · rw [State.watch_value (f := fun T => T.bell b) fun _ _ _ => rfl, State.modTile_tile, if_pos rfl, Tile.ringBells_bell, now]
      split
      · exact .inr ⟨rfl, rfl⟩
      · exact .inl ⟨rfl, (bit_setBit_true _ _ (by dsimp only [k]; cases e <;> decide)).mpr (.inl rfl)⟩

/-- Settles O33. -/
theorem boundaryWaitsAndBells : Obligations.BoundaryWaitsAndBells :=
  ⟨fun _ _ _ _ _ hp hl calm htops he hm => State.boundary_waitGe hp hl calm htops he hm,
    fun _ _ _ _ hp hl calm htops he hm => State.boundary_waitDec hp hl calm htops he hm,
    fun _ _ _ _ hp hl calm htops _ => State.boundary_dec hp hl calm htops,
    fun _ _ _ hp hl hb htops engines chans busy first mask arrived =>
      State.boundary_bell hp hl hb htops ⟨fun g _ => engines g, chans⟩ busy first mask arrived,
    fun _ _ _ _ hp hl hb calm htops _ => State.boundary_arrive hp hl hb calm htops⟩

end
end Sys2Proof.Machine
end

section
/-!
Register writes that wait for a tally boundary, fences and the watchman (spec/08_tallies_bells_channels.md R269, R270, R273 to R286).
-/

namespace Sys2Proof.Machine

section
variable {s : State} {w : Src} {tile k b : Nat} {v : Word} {e : Engine}

/-! ## Writes that act at the boundary -/

/-- A write that joins the operations of the next boundary keeps its block busy. -/
theorem State.tileReg_enqueued {off : Nat} {o : TOp} {x : RegRes} (h : s.tileTakes w tile off v) (hx : x = some (s.enqueue tile o, none)) :
    s.tileReg w tile off v x = .next (s.taken (s.modTile tile (fun T =>
      { T with tops := T.tops ++ [o], regBusy := some (s.accOf w tile off v) })) w tile off v) := by
  rw [hx, State.tileReg_later h, State.enqueue, State.modTile_modTile]

/-- A stream engine writes the registers of its own tile with the tile's right. -/
theorem State.mayWrite_own (s : State) (tile n : Nat) : s.mayWrite .hm (.st tile n) tile = true := by
  rw [State.mayWrite, State.hhOf]
  dsimp only
  rw [beq_self_eq_true, Bool.or_true]

theorem State.bellArriveOp_own (s : State) (tile n b : Nat) :
    s.bellArriveOp (.st tile n) tile b = some (s.enqueue tile (.stArrive (.st tile n) n b), none) := by
  rw [State.bellArriveOp, State.mayWrite_own]
  exact if_pos rfl

/-- A write of ARRIVE from elsewhere has no effect (R280). -/
theorem State.bellArriveOp_other (hw : ∀ n, w ≠ .st tile n) (hm : s.mayWrite .hm w tile = true) : s.bellArriveOp w tile b = some (s, some .ok) := by
  unfold State.bellArriveOp
  rw [hm]
  cases w with
  | st t n => exact if_neg fun h : t = tile => hw n (by rw [h])
  | sc t => rfl
  | host d fn => rfl

/-- A boundary at which the register access that waited for it is answered. -/
theorem State.exec_boundary_busy {u : State} {st : Status} {a : RegAcc} (hp : s.hasTile tile = true) (hl : s.live (tileDie tile) = true)
    (hb : s.boundary tile = (u, st)) (hc : u.channelOps tile (s.tile tile).tops = u) (busy : (s.tile tile).regBusy = some a)
    (first : (((u.modTile tile (fun T => { T with regBusy := none })).answerAcc (tileDie tile) (tileRegAddr tile 0) a st 0).tile tile).regWait = []) :
    exec (.tallyBoundary tile) s = .next (((u.modTile tile (fun T => { T with regBusy := none })).answerAcc (tileDie tile) (tileRegAddr tile 0) a
      st 0).watch tile) := by
  refine (State.atTile_next hp hl).trans (congrArg (fun t : State => Host.Outcome.next (t.watch tile)) ?_)
  rw [State.boundaryOp, hb, busy]
  dsimp only
  rw [hc, State.freed_none first]

/-- What an answer to a whole register access leaves of a tile. -/
theorem State.answerAcc_value {α : Type} {f : Tile → α} (hf : ∀ (T : Tile) c, f { T with chans := c } = f T) (s : State) (d base : Nat) (a : RegAcc)
    (hh : a.half = 0) (st : Status) (v : Word) (g : Nat) : f ((s.answerAcc d base a st v).tile g) = f (s.tile g) := by
  cases hp : a.pkt with
  | none =>
    by_cases hd : a.dropped = true
    · simp [State.answerAcc, hp, hd]
    · rw [State.answerAcc_local hp (by simpa using hd)]
      obtain ⟨cs, h⟩ := State.answerReg_tile s a.src (base + a.off) st (if st = .ok then v else 0) g
      rw [h]
      exact hf _ _
  | some id => rw [State.answerAcc_bus hp hh, State.answerAt_tile]

/-- A TL_TALLY write takes effect at a boundary at which nothing else waits. -/
theorem State.boundary_write (htops : (s.tile tile).tops = [.write w k v])
    (hadds : (s.tile tile).bellAdds = []) (waits : (s.tile tile).waitsOnly none) :
    ∃ u : State, s.boundary tile = (u, .ok) ∧ u.channelOps tile (s.tile tile).tops = u ∧ (u.tile tile).tallyOf k = v ∧
      (u.tile tile).regWait = (s.tile tile).regWait ∧ u.out = s.out ∧ u.net = s.net := by
  set lp := (s.slice (tileDie tile)).lpActive
  have summed : (s.tile tile).summed lp = ({ s.tile tile with tops := [], bellAdds := [] } : Tile).setTally k v := by
    rw [Tile.summed, htops, hadds]; rfl
  have hu : (s.setTile tile ((s.tile tile).summed lp)).tile tile = ({ s.tile tile with tops := [], bellAdds := [] } : Tile).setTally k v := by
    rw [State.setTile_tile, if_pos rfl, summed]
  have rest : ((s.setTile tile ((s.tile tile).summed lp)).tile tile).waitsOnly none := by
    rw [hu]
    exact waits.congr rfl rfl
  have one (o : TOp) (ho : o ∈ (s.tile tile).tops) : o = .write w k v := List.mem_singleton.mp (htops ▸ ho)
  refine ⟨(s.setTile tile ((s.tile tile).summed lp)).modTile tile (fun T => T.ringBells lp (s.tile tile).tops), ?_, ?_, ?_, ?_, rfl, rfl⟩
  · rw [State.boundary_eq]
    dsimp only
    rw [foldl_fixed (k := tallyArrive tile) fun o ho => by rw [one o ho]; rfl]
    rw [State.boundaryRest_quiet rest fun o ho g j => by rw [one o ho]; exact TOp.noConfusion]
  · exact State.channelOps_rest (fun o ho => by rw [one o ho]; rfl) (State.ringBells_waits rest).noRecv
  · rw [State.modTile_tile, if_pos rfl, Tile.ringBells_value (f := fun T => T.tallyOf k) fun _ _ _ => rfl, hu]
    exact (Tbl.get_set _ _ _ _ _).trans (if_pos rfl)
  · rw [State.modTile_tile, if_pos rfl, Tile.ringBells_value (f := Tile.regWait) fun _ _ _ => rfl, hu]
    rfl

theorem tileRegAddr_add (tile off : Nat) : tileRegAddr tile 0 + off = tileRegAddr tile off := by
  rw [tileRegAddr, tileRegAddr, Nat.add_zero]

/-- Settles O34. -/
theorem tallyRegisterWrites : Obligations.TallyRegisterWrites := by
  refine ⟨fun s w tile k b v hk hb => ?_, ?_⟩
  · have hk' := decide_eq_true hk
    have hb' := decide_eq_true hb
    intro later
    refine ⟨fun h hm => ?_, fun h hm hk2 => ?_, fun h hm => ?_, fun n hw h => ?_, fun hw h hm => ?_⟩
    · exact (if_pos hk').trans (State.tileReg_enqueued h (by simp [State.tallyOp, hm]))
    · exact (if_pos (decide_eq_true hk2)).trans (State.tileReg_enqueued h (by simp [State.tallyModeOp, hm]))
    · exact (if_pos hb').trans (State.tileReg_enqueued h (by simp [State.bellForceOp, hm]))
    · subst hw
      exact (if_pos hb').trans (State.tileReg_enqueued h (s.bellArriveOp_own tile n b))
    · refine (if_pos hb').trans ?_
      rw [State.bellArriveOp_other hw hm]
      exact State.tileReg_now h
  · intro s w tile k v a hp hl _ htops hadds first busy hsrc hoff hw hh hd engines chans _
    obtain ⟨u, hb, hc, tally, wait, out, net⟩ := State.boundary_write htops hadds ⟨fun g _ => engines g, chans⟩
    set t := u.modTile tile (fun T => { T with regBusy := none })
    have value {α : Type} (f : Tile → α) (hf : ∀ (T : Tile) c, f { T with chans := c } = f T) :=
      State.answerAcc_value hf t (tileDie tile) (tileRegAddr tile 0) a hh .ok 0 tile
    have ht : t.tile tile = { u.tile tile with regBusy := none } := by rw [State.modTile_tile, if_pos rfl]
    refine ⟨_, State.exec_boundary_busy hp hl hb hc busy ?_, ?_, ?_, fun hn => ?_, fun id p hi hpk => ⟨?_, ?_⟩⟩
    · rw [value Tile.regWait fun _ _ => rfl, ht]
      exact wait.trans first
    · rw [State.watch_value (f := fun T => T.tallyOf k) (fun _ _ _ => rfl), value (fun T => T.tallyOf k) fun _ _ => rfl, ht]
      exact tally
    · rw [State.watch_value (f := Tile.regBusy) (fun _ _ _ => rfl), value Tile.regBusy fun _ _ => rfl, ht]
    · rw [State.watch_out, State.answerAcc_local hn hd, (State.answerReg_rest t _ _ _ _).1, hsrc, hoff, tileRegAddr_add, ← out]
      rfl
    · rw [State.watch_out, State.answerAcc_bus hi hh, (State.answerAt_rest t _ _ _ _).1, ← out]
      rfl
    · rw [State.answerAcc_bus hi hh]
      have same : t.pkt id = s.pkt id := by rw [State.pkt, State.pkt, State.modTile_net, net]
      change ((t.answerAt _ id .ok _).pkt id).map _ = _
      rw [State.answerAt_resp, same, hpk]
      simp


/-! ## Fences -/

theorem State.startFlush_out (s : State) (tile bank row : Nat) (evict : Bool) :
    (s.startFlush tile bank row evict).out = s.out ∧ (s.startFlush tile bank row evict).net = s.net := by
  unfold State.startFlush
  dsimp only
  split
  · exact ⟨rfl, rfl⟩
  · split
    · exact ⟨rfl, rfl⟩
    · exact ⟨rfl, rfl⟩

theorem State.flushBanks_out (s : State) (tile : Nat) (banks : List Nat) :
    (s.flushBanks tile banks).out = s.out ∧ (s.flushBanks tile banks).net = s.net :=
  ⟨foldl_eq State.out (fun t (m : MergeEntry) => (t.startFlush_out tile m.bank m.row false).1) _ s,
    foldl_eq State.net (fun t (m : MergeEntry) => (t.startFlush_out tile m.bank m.row false).2) _ s⟩

/-- Of a tile, the flushes that begin change its merge buffer and its accesses. -/
theorem State.flushBanks_rest {α : Type} {f : Tile → α} (hf : ∀ (T : Tile) m a, f { T with merge := m, accs := a } = f T) (s : State) (tile : Nat)
    (banks : List Nat) (g : Nat) : f ((s.flushBanks tile banks).tile g) = f (s.tile g) := by
  refine State.foldl_value (k := fun t (m : MergeEntry) => t.startFlush tile m.bank m.row false) g (fun t m => ?_) _ s
  unfold State.startFlush
  dsimp only
  split
  · rfl
  · split
    · refine (State.modTile_value _ tile g (hf _ _ _)).trans ?_
      rw [State.takeId_tile]
      exact State.modTile_value t tile g (hf _ _ _)
    · exact State.modTile_value t tile g (hf _ _ _)

/-- The bank writes of an engine that its fence waits for (R273). -/
def Tile.fenced (T : Tile) (e : Engine) : List Nat :=
  (T.accs.filter (fun a => a.master == engineMaster e && a.write && !(match a.dest with | .flush _ _ => true | _ => false))).map (·.id)

theorem Tile.fenced_mem {T : Tile} {a : Access} (ha : a ∈ T.accs) (hm : a.master = engineMaster e) (hw : a.write = true)
    (hd : ∀ b r, a.dest ≠ .flush b r) : a.id ∈ T.fenced e := by
  refine List.mem_map_of_mem (List.mem_filter.mpr ⟨ha, ?_⟩)
  rw [hm, hw, beq_self_eq_true]
  cases h : a.dest with
  | flush b r => exact absurd h (hd b r)
  | _ => rfl

theorem State.fenceOp_core (he : e ≠ .sc) : s.fenceOp tile e = s.modTile tile (fun T => T.setEngine e (.fence ((s.tile tile).fenced e) false)) :=
  if_neg he

theorem State.fenceOp_sc : s.fenceOp tile .sc =
    (s.modTile tile (fun T => T.setEngine .sc (.fence ((s.tile tile).fenced .sc) false))).flushBanks tile (List.range 16) := rfl

/-- Of the state that a fence of the scalar core leaves, what is not of its merge buffer. -/
theorem State.fenceOp_sc_value {α : Type} {f : Tile → α} (hf : ∀ (T : Tile) m a, f { T with merge := m, accs := a } = f T) :
    f ((s.fenceOp tile .sc).tile tile) = f ((s.tile tile).setEngine .sc (.fence ((s.tile tile).fenced .sc) false)) := by
  rw [State.fenceOp_sc, State.flushBanks_rest hf, State.modTile_tile, if_pos rfl]

/-- The read-back of a register that the scalar core has written (R273). -/
def State.backOf (s : State) (tile : Nat) (a : Addr) : Packet :=
  s.newPacket (s.issuer (.sc tile)) .regBack 6 (.regs (if space a = 2 then tileDie (addrTile a) else addrDie a)) a 0 4 false []

theorem State.readBack_eq (s : State) (tile : Nat) : s.readBack tile =
    (s.tile tile).regSent.foldl (fun t a => t.launch (t.backOf tile a)) (s.modTile tile (fun T => { T with regSent := [] })) := rfl

theorem State.launch_tile (s : State) (p : Packet) (t : Nat) : (s.launch p).tile t = s.tile t := rfl

/-- The read-backs of a fence: one packet for each register, in order. -/
theorem State.foldl_launch_back (l : List Addr) (s : State) :
    ∃ ps, (l.foldl (fun t a => t.launch (t.backOf tile a)) s).net = s.net ++ ps ∧ ps.map (·.addr) = l ∧
      ∀ p, p ∈ ps → p.kind = .regBack ∧ p.iss = s.issuer (.sc tile) := by
  induction l generalizing s with
  | nil => exact ⟨[], (List.append_nil _).symm, rfl, fun p hp => absurd hp List.not_mem_nil⟩
  | cons a l ih =>
    obtain ⟨ps, net, addrs, props⟩ := ih (s.launch (s.backOf tile a))
    obtain ⟨p, hp, addr, kind, iss⟩ : ∃ p, (s.launch (s.backOf tile a)).net = s.net ++ [p] ∧ p.addr = a ∧ p.kind = .regBack ∧
        p.iss = s.issuer (.sc tile) := ⟨_, State.launch_net _ _, rfl, rfl, rfl⟩
    refine ⟨p :: ps, ?_, ?_, fun q hq => ?_⟩
    · rw [List.foldl_cons, net, hp, List.append_assoc, List.singleton_append]
    · rw [List.map_cons, addrs, addr]
    · rcases List.mem_cons.mp hq with rfl | hq
      · exact ⟨kind, iss⟩
      · exact props q hq

theorem State.readBack_tile (s : State) (tile : Nat) : (s.readBack tile).tile tile = { s.tile tile with regSent := [] } := by
  rw [State.readBack_eq]
  refine (foldl_eq (fun t : State => t.tile tile) (g := fun t a => t.launch (t.backOf tile a)) (fun _ _ => rfl) _ _).trans ?_
  rw [State.modTile_tile, if_pos rfl]

theorem State.readBack_out (s : State) (tile : Nat) : (s.readBack tile).out = s.out :=
  foldl_eq State.out (g := fun t a => t.launch (t.backOf tile a)) (fun _ _ => rfl) (s.tile tile).regSent
    (s.modTile tile (fun T => { T with regSent := [] }))

theorem State.readBack_net (s : State) (tile : Nat) : ∃ l, (s.readBack tile).net = s.net ++ l ∧ l.map (·.addr) = (s.tile tile).regSent ∧
    ∀ p, p ∈ l → p.kind = .regBack ∧ p.iss = s.issuer (.sc tile) := by
  have hh : (s.modTile tile (fun T => { T with regSent := [] })).issuer (.sc tile) = s.issuer (.sc tile) := by
    simp only [State.issuer, State.modTile_tile, if_true]
  rw [← hh]
  exact State.foldl_launch_back (s.tile tile).regSent (s.modTile tile (fun T => { T with regSent := [] }))

theorem State.fenceDone_settled {ids : List Nat} (ha : ∀ a : Access, a ∈ (s.tile tile).accs → a.id ∉ ids)
    (hs : e = .sc → (s.tile tile).merge = [] ∧ (s.tile tile).narrow = [] ∧ s.regPending tile = false) : s.fenceDone tile e ids = true := by
  rw [State.fenceDone, Bool.and_eq_true, List.all_eq_true]
  refine ⟨fun id hid => ?_, ?_⟩
  · rw [Option.isNone_iff_eq_none, Tile.acc, List.find?_eq_none]
    intro a hm he
    exact ha a hm (by rwa [eq_of_beq he])
  · cases e with
    | sc =>
      obtain ⟨merge, narrow, pending⟩ := hs rfl
      rw [merge, narrow, pending]
      rfl
    | _ => rfl

/-! ## The watchman -/

theorem Tile.watch_kept {T : Tile} {n : Nat} (he : T.wmEn = true) (hq : T.quiet = true) : T.watch n = { T with wmFrom := some (T.wmFrom.getD n) } := by
  rw [Tile.watch, he, hq]
  rfl

theorem State.mayStill_of {p : Nat} (hr : s.ready (tileDie tile) = true) (en : (s.tile tile).wmEn = true) (quiet : (s.tile tile).quiet = true)
    (now : (s.tile tile).wmNow = false) (given : (s.tile tile).reassign = none) (from' : (s.tile tile).wmFrom = some p)
    (due : p + 4096 ≤ s.paceNat tile) : s.mayStill tile = true := by
  rw [State.mayStill, hr, en, quiet, now, given, from']
  simp only [State.paceOver, Bool.not_false, Option.isNone_none, Bool.and_true, Bool.true_and]
  exact decide_eq_true due

/-- STILL, with the snapshot that the watchman takes. -/
theorem State.stillOp_outcome (s : State) (tile : Nat) :
    (∃ snap, (s.stillOp tile).tile tile =
      { s.tile tile with wmNow := true, wmStill := true, wmRaises := satInc (s.tile tile).wmRaises,
                         wmSnap := if (s.tile tile).wmStill then (s.tile tile).wmSnap else snap }) ∧
      bit (((s.stillOp tile).slice (tileDie tile)).irq (s.tile tile).hh).cause 4 = true := by
  unfold State.stillOp
  extract_lets u T snap v kept
  refine ⟨⟨snap.zipIdx.map (fun p => (p.2, p.1)), ?_⟩, ?_⟩
  · rw [State.record_tile, State.raise_tile, State.modTile_tile, if_pos rfl]
    rfl
  · rw [State.record_slice, if_pos rfl, Slice.irq, Slice.holdRecord_irqs]
    exact State.raise_cause _ _ _ (by decide)

/-- Settles O35. -/
theorem fencesAndWatchman : Obligations.FencesAndWatchman := by
  refine ⟨fun s tile e h => ?_, fun s tile e ids bad hp hl he ha hs => ?_, fun s tile p hp hr en quiet now given from' due => ?_,
    fun s tile e hp hl => ⟨fun he => ?_, fun he => ?_⟩⟩
  · have ids : ∀ a : Access, a ∈ (s.tile tile).accs → a.master = engineMaster e → a.write = true → (∀ b r, a.dest ≠ .flush b r) →
        a.id ∈ (s.tile tile).fenced e := fun a => Tile.fenced_mem
    have step : exec (.fence tile e) s = .next ((if e = .sc then (s.fenceOp tile e).readBack tile else s.fenceOp tile e).watch tile) :=
      State.byEngine_issues h
    by_cases hsc : e = .sc
    · subst hsc
      rw [if_pos rfl] at step
      have sent : ((s.fenceOp tile .sc).tile tile).regSent = (s.tile tile).regSent := State.fenceOp_sc_value (f := Tile.regSent) fun _ _ _ => rfl
      have hh : ((s.fenceOp tile .sc).tile tile).hh = (s.tile tile).hh := State.fenceOp_sc_value (f := Tile.hh) fun _ _ _ => rfl
      have fence : ((s.fenceOp tile .sc).tile tile).engine .sc = .fence ((s.tile tile).fenced .sc) false :=
        (State.fenceOp_sc_value (f := fun T => T.engine .sc) fun _ _ _ => rfl).trans ((Tile.setEngine_engine _ .sc .sc _).trans (if_pos rfl))
      obtain ⟨flushOut, flushNet⟩ := State.flushBanks_out (s.modTile tile (fun T => T.setEngine .sc (.fence ((s.tile tile).fenced .sc) false))) tile
        (List.range 16)
      obtain ⟨l, net, addrs, props⟩ := State.readBack_net (s.fenceOp tile .sc) tile
      refine ⟨_, _, step, ?_, ids, fun _ => ⟨fun m hm hb => ?_, ?_, l, ?_, ?_, ?_⟩, fun hn => absurd rfl hn, ?_⟩
      · rw [State.watch_value (f := fun T => T.engine .sc) fun _ _ _ => rfl, State.readBack_tile]
        exact fence
      · rw [State.watch_value (f := Tile.merge) fun _ _ _ => rfl, State.readBack_tile] at hm
        exact State.flushBanks_flushing hm (List.mem_range.mpr hb)
      · rw [State.watch_value (f := Tile.regSent) fun _ _ _ => rfl, State.readBack_tile]
      · rw [State.watch_net, net, State.fenceOp_sc, flushNet]
        rfl
      · rw [addrs, sent]
      · have same : (s.fenceOp tile .sc).issuer (.sc tile) = s.issuer (.sc tile) := by simp only [State.issuer, hh]
        rw [← same]
        exact props
      · rw [State.watch_out, State.readBack_out, State.fenceOp_sc, flushOut]
        rfl
    · rw [if_neg hsc, State.fenceOp_core hsc] at step
      refine ⟨_, _, step, ?_, ids, fun he => absurd he hsc, fun _ => rfl, rfl⟩
      rw [State.watch_value (f := fun T => T.engine e) fun _ _ _ => rfl, State.modTile_tile, if_pos rfl, Tile.setEngine_engine, if_pos rfl]
  · refine (State.atTile_next hp hl).trans (congrArg (fun t : State => Host.Outcome.next (t.watch tile)) ?_)
    rw [State.fenceEnd, he]
    exact if_pos (State.fenceDone_settled ha hs)
  · obtain ⟨⟨snap, still⟩, cause⟩ := State.stillOp_outcome s tile
    refine ⟨_, (State.atTile_next hp (State.live_of_ready hr)).trans (congrArg (fun t : State => Host.Outcome.next (t.watch tile))
      (if_pos (State.mayStill_of hr en quiet now given from' due))), ?_⟩
    have kept : ((s.stillOp tile).watch tile).tile tile =
        { (s.stillOp tile).tile tile with wmFrom := some (((s.stillOp tile).tile tile).wmFrom.getD ((s.stillOp tile).paceNat tile)) } := by
      rw [State.watch, State.modTile_tile, if_pos rfl]
      exact Tile.watch_kept (by rw [still]; exact en) (by rw [still]; exact quiet)
    rw [kept, still]
    refine ⟨rfl, rfl, rfl, ?_, fun h => if_pos h⟩
    rw [State.watch]
    obtain ⟨l, hsl⟩ := State.modTile_slice (s.stillOp tile) tile (fun T => T.watch ((s.stillOp tile).paceNat tile)) (tileDie tile)
    rw [hsl]
    exact cause
  · refine (State.atTile_next hp hl).trans (congrArg (fun t : State => Host.Outcome.next (t.watch tile)) ?_)
    unfold State.stopEngine
    rw [he]
    rfl
  · refine (State.atTile_next hp hl).trans (congrArg (fun t : State => Host.Outcome.next (t.watch tile)) ?_)
    unfold State.stopEngine
    rw [he]
    rfl

end
end Sys2Proof.Machine
end

section
/-!
Sends (spec/08_tallies_bells_channels.md R263, R290 to R294).
-/

namespace Sys2Proof.Machine

/-! ## Packets that set out one after another -/

/-- Packets launched one after another stand in the network in their order. -/
theorem State.foldl_launch {ι : Type} (mk : State → ι → Packet) (P : ι → Packet → Prop) (l : List ι) (s : State)
    (h : ∀ t x lp, (∀ u, t.tile u = s.tile u) → P x { mk t x with lapse := lp }) :
    ∃ ps, (l.foldl (fun t x => t.launch (mk t x)) s).net = s.net ++ ps ∧ List.Forall₂ P l ps := by
  induction l generalizing s with
  | nil => exact ⟨[], (List.append_nil _).symm, .nil⟩
  | cons x l ih =>
    obtain ⟨ps, net, all⟩ := ih (s.launch (mk s x)) h
    obtain ⟨p, hp, hP⟩ : ∃ p, (s.launch (mk s x)).net = s.net ++ [p] ∧ P x p := ⟨_, State.launch_net _ _, h s x _ fun _ => rfl⟩
    exact ⟨p :: ps, by rw [List.foldl_cons, net, hp, List.append_assoc, List.singleton_append], .cons hP all⟩

theorem map_eq_of_forall₂ {α β γ : Type} {f : α → γ} {g : β → γ} {l : List α} {ps : List β} (h : List.Forall₂ (fun x p => g p = f x) l ps) :
    ps.map g = l.map f := by
  induction h with
  | nil => rfl
  | cons hp _ ih => rw [List.map_cons, List.map_cons, hp, ih]

theorem forall_of_forall₂ {α β : Type} {Q : β → Prop} {l : List α} {ps : List β} (h : List.Forall₂ (fun _ p => Q p) l ps) : ∀ p, p ∈ ps → Q p := by
  induction h with
  | nil => exact fun p hp => absurd hp List.not_mem_nil
  | cons hq _ ih =>
    intro p hp
    rcases List.mem_cons.mp hp with rfl | hp
    · exact hq
    · exact ih p hp

section
variable {s : State} {tile : Nat} {e : Engine}

/-! ## A boundary that performs operations of the channels -/

/-- The tally block waits for nothing on behalf of an engine in this state. -/
def EngState.free : EngState → Bool
  | .waitGe _ _ | .waitDec _ | .waitBell _ _ => false
  | _ => true

theorem State.engineWait_free {fl : BitVec 48} {g : Engine} (h : ((s.tile tile).engine g).free = true) : s.engineWait tile fl g = s := by
  unfold State.engineWait
  dsimp only
  split
  · next he => rw [he] at h; nomatch h
  · next he => rw [he] at h; nomatch h
  · next he => rw [he] at h; nomatch h
  · rfl

theorem State.boundaryWaits_free {fl : BitVec 48} (h : ∀ g, ((s.tile tile).engine g).free = true)
    (hc : ∀ n, n < 8 → ((s.tile tile).chan n).waitTally = false) : s.boundaryWaits tile fl = s := by
  rw [State.boundaryWaits, State.engineWait_free (h _), State.engineWait_free (h _),
    foldl_fixed fun n hn => State.chanWait_rest (hc n (List.mem_range.mp hn)), State.engineWait_free (h _)]

/-- The operation is one of the channels' own: POP or SEND. -/
def TOp.ofChannels : TOp → Bool
  | .pop _ _ | .send .. => true
  | _ => false

/-- Operations of the channels pass through a step of the tally block that passes over them. -/
theorem foldl_ofChannels {σ : Type} {ops : List TOp} (ho : ∀ o, o ∈ ops → o.ofChannels = true) {k : σ → TOp → σ} {x : σ}
    (hp : ∀ g e, k x (.pop g e) = x) (hs : ∀ g a u t e q, k x (.send g a u t e q) = x) : ops.foldl k x = x := by
  refine foldl_fixed fun o hm => ?_
  have hk := ho o hm
  cases o with
  | pop g e => exact hp g e
  | send g a u t e q => exact hs g a u t e q
  | _ => nomatch hk

/-- The state in which the operations of the channels take effect. -/
def State.afterTallies (s : State) (tile : Nat) : State :=
  (s.setTile tile { s.tile tile with tops := [], bellAdds := [] }).modTile tile
    (fun T => T.ringBells (s.slice (tileDie tile)).lpActive (s.tile tile).tops)

theorem State.afterTallies_value {α : Type} {f : Tile → α} (ho : ∀ (T : Tile) o a, f { T with tops := o, bellAdds := a } = f T)
    (hb : ∀ (T : Tile) b a, f { T with bells := b, bellAdds := a } = f T) : f ((s.afterTallies tile).tile tile) = f (s.tile tile) := by
  rw [State.afterTallies, State.modTile_tile, if_pos rfl, Tile.ringBells_value hb, State.setTile_tile, if_pos rfl]
  exact ho _ _ _

/-- The engines after a step that only the bells may see. -/
theorem State.afterTallies_engine (g : Engine) : ((s.afterTallies tile).tile tile).engine g = (s.tile tile).engine g :=
  State.afterTallies_value (f := fun T => T.engine g) (fun _ _ _ => rfl) fun _ _ _ => rfl

theorem State.boundary_channels (ho : ∀ o, o ∈ (s.tile tile).tops → o.ofChannels = true) (he : ∀ g, ((s.tile tile).engine g).free = true)
    (hc : ∀ n, n < 8 → ((s.tile tile).chan n).waitTally = false) (ha : (s.tile tile).bellAdds = []) :
    s.boundary tile = (s.afterTallies tile, .ok) := by
  have summed (lp : Bool) : (s.tile tile).summed lp = { s.tile tile with tops := [], bellAdds := [] } := by
    rw [Tile.summed, ha, foldl_ofChannels ho (k := Tile.tallyStep1) (fun _ _ => rfl) fun _ _ _ _ _ _ => rfl,
      foldl_ofChannels ho (k := Tile.tallyStep2 lp) (fun _ _ => rfl) fun _ _ _ _ _ _ => rfl]
    rfl
  rw [State.boundary_eq]
  dsimp only
  rw [summed, foldl_ofChannels ho (k := tallyArrive tile) (fun _ _ => rfl) (fun _ _ _ _ _ _ => rfl), State.boundaryRest]
  change ((List.foldl _ (s.afterTallies tile) allEngines).boundaryWaits tile _, _) = _
  have noDec : ∀ o, o ∈ (s.tile tile).tops → ∀ g k, o ≠ .dec g k := fun o hm g k h => by
    have := ho o hm
    rw [h] at this
    exact Bool.false_ne_true this
  rw [State.decs_none noDec, State.boundaryWaits_free]
  · exact fun g => by rw [State.afterTallies_engine]; exact he g
  · exact fun n hn => by rw [State.afterTallies_value (f := fun T => T.chan n) (fun _ _ _ => rfl) fun _ _ _ => rfl]; exact hc n hn

theorem Tile.calm.free {T : Tile} (h : T.calm (some e)) (he : (T.engine e).free = true) (g : Engine) : (T.engine g).free = true := by
  by_cases hg : g = e
  · rw [hg, he]
  · rcases h.engines g (fun k => hg (Option.some.inj k)) with h | h <;> rw [h] <;> rfl

/-! ## A SEND takes effect -/

/-- What the boundary makes of one SEND, no RECV being due. -/
theorem State.exec_boundary_send {src u g ep q : Nat} (hp : s.hasTile tile = true) (hl : s.live (tileDie tile) = true)
    (htops : (s.tile tile).tops = [.send e src u g ep q]) (he : (s.tile tile).engine e = .sending) (calm : (s.tile tile).calm (some e))
    {r : State} (hr : (s.afterTallies tile).sendOp tile e src u g ep q = r) (engine : (r.tile tile).engine e = .running ∨ (r.tile tile).engine e = .sending)
    (others : ∀ f, f ≠ e → (r.tile tile).engine f = ((s.afterTallies tile).tile tile).engine f)
    (first : (r.tile tile).regWait = ((s.afterTallies tile).tile tile).regWait) : exec (.tallyBoundary tile) s = .next (r.watch tile) := by
  refine State.exec_boundary hp hl (State.boundary_channels ?_ (calm.free (by rw [he]; rfl)) calm.chans calm.adds) ?_ calm.busy ?_
  · rw [htops]
    intro o ho
    rw [List.mem_singleton.mp ho]
    rfl
  · rw [htops, State.channelOps, List.foldl_cons, List.foldl_nil]
    dsimp only
    rw [hr]
    refine foldl_fixed fun f _ => ?_
    have quiet : ∀ k, (r.tile tile).engine f ≠ .recv k := fun k hk => by
      by_cases hf : f = e
      · rw [hf] at hk
        rcases engine with h | h <;> rw [h] at hk <;> nomatch hk
      · rw [others f hf, State.afterTallies_engine] at hk
        rcases calm.engines f (fun h => hf (Option.some.inj h)) with h | h <;> rw [h] at hk <;> nomatch hk
    split
    · next k hk => exact absurd hk (quiet k)
    · rfl
  · rw [first, State.afterTallies_value (f := Tile.regWait) (fun _ _ _ => rfl) fun _ _ _ => rfl]
    exact calm.first

/-- A SEND that cannot be sent ends at the boundary. -/
theorem State.exec_boundary_sendEnds {src u g ep q : Nat} {st : Status} (hp : s.hasTile tile = true) (hl : s.live (tileDie tile) = true)
    (htops : (s.tile tile).tops = [.send e src u g ep q]) (he : (s.tile tile).engine e = .sending) (calm : (s.tile tile).calm (some e))
    (hr : (s.afterTallies tile).sendOp tile e src u g ep q = (s.afterTallies tile).endOp tile e st false 0) :
    ∃ t : State, exec (.tallyBoundary tile) s = .next t ∧ (t.tile tile).engine e = .running ∧ t.out = s.out ++ [Output.op tile e st false 0] := by
  refine ⟨_, State.exec_boundary_send hp hl htops he calm hr (.inl (State.endOp_engine ..)) (fun f hf => ?_) ?_, ?_, rfl⟩
  · exact State.endOp_value (e := e) (f := fun T : Tile => T.engine f)
      ⟨fun _ _ => rfl, fun T q => by rw [Tile.setEngine_engine, if_neg (Ne.symm hf)]⟩ _ tile st false 0 tile
  · exact State.endOp_value (e := e) (f := Tile.regWait) ⟨fun _ _ => rfl, fun _ _ => rfl⟩ _ tile st false 0 tile
  · rw [State.watch_value (f := fun T => T.engine e) fun _ _ _ => rfl, State.endOp_engine]

/-- A SEND whose units are to be read. -/
def sendBegun (e : Engine) (src u g ep q : Nat) : SendState :=
  { e := e, src := src, units := u, target := g, endpoint := ep, qos := q, rows := [], asked := false, issued := false, full := false, status := none }

theorem State.exec_boundary_sendBegins {src u g ep q : Nat} (hp : s.hasTile tile = true) (hl : s.live (tileDie tile) = true)
    (htops : (s.tile tile).tops = [.send e src u g ep q]) (he : (s.tile tile).engine e = .sending) (calm : (s.tile tile).calm (some e))
    (hs : (s.tile tile).send? e = none) (h64 : src % 64 = 0) (h1 : 1 ≤ u) (hu : u ≤ 64) :
    ∃ t : State, exec (.tallyBoundary tile) s = .next t ∧ (t.tile tile).engine e = .sending ∧
      (t.tile tile).send? e = some (sendBegun e src u g ep q) ∧ t.out = s.out := by
  have op : (s.afterTallies tile).sendOp tile e src u g ep q =
      (s.afterTallies tile).modTile tile (fun T => ({ T with sends := T.sends ++ [sendBegun e src u g ep q] } : Tile).awake) := by
    rw [State.sendOp, if_neg (by omega), if_neg (by omega)]
    rfl
  have tile' : (((s.afterTallies tile).modTile tile (fun T => ({ T with sends := T.sends ++ [sendBegun e src u g ep q] } : Tile).awake)).tile tile) =
      ({ (s.afterTallies tile).tile tile with sends := ((s.afterTallies tile).tile tile).sends ++ [sendBegun e src u g ep q] } : Tile).awake := by
    rw [State.modTile_tile, if_pos rfl]
  have engine (f : Engine) : (((s.afterTallies tile).modTile tile (fun T => ({ T with sends := T.sends ++ [sendBegun e src u g ep q] } : Tile).awake)).tile
      tile).engine f = ((s.afterTallies tile).tile tile).engine f := by rw [tile']; rfl
  have sending : ((s.afterTallies tile).tile tile).engine e = .sending := State.afterTallies_engine e |>.trans he
  refine ⟨_, State.exec_boundary_send hp hl htops he calm op (.inr ((engine e).trans sending)) (fun f _ => engine f) (by rw [tile']; rfl), ?_, ?_, rfl⟩
  · rw [State.watch_value (f := fun T => T.engine e) fun _ _ _ => rfl, engine, sending]
  · have none' : ((s.afterTallies tile).tile tile).send? e = none :=
      (State.afterTallies_value (f := fun T => T.send? e) (fun _ _ _ => rfl) fun _ _ _ => rfl).trans hs
    rw [State.watch_value (f := fun T => T.send? e) fun _ _ _ => rfl, tile']
    change (((s.afterTallies tile).tile tile).sends ++ [sendBegun e src u g ep q]).find? (fun q => q.e == e) = _
    rw [List.find?_append, show List.find? _ ((s.afterTallies tile).tile tile).sends = none from none', Option.none_or]
    exact List.find?_cons_of_pos (beq_self_eq_true e)

/-! ## A SEND ends -/

/-- No unit of an engine's send is being read. -/
theorem Tile.noReads {T : Tile} (ha : ∀ a : Access, a ∈ T.accs → ∀ u, a.dest ≠ .sendRead e u) :
    T.accs.any (fun a => match a.dest with | .sendRead g _ => g == e | _ => false) = false := by
  rw [List.any_eq_false]
  intro a hm
  cases hd : a.dest with
  | sendRead g u =>
    dsimp only
    intro h
    exact ha a hm u (by rw [hd, eq_of_beq h])
  | _ => exact Bool.false_ne_true

section
variable {q : SendState} (hq : (s.tile tile).send? e = some q) (ha : ∀ a : Access, a ∈ (s.tile tile).accs → ∀ u, a.dest ≠ .sendRead e u)
include hq ha

theorem State.sendStatusOp_told {st : Status} (hs : q.status = some st) :
    s.sendStatusOp tile e = (s.modTile tile (fun T => T.dropSend e)).endOp tile e st (q.l || s.lapsed tile) 0 := by
  rw [State.sendStatusOp]
  dsimp only
  rw [hq]
  refine (if_neg (Bool.eq_false_iff.mp (Tile.noReads ha))).trans ?_
  rw [hs]

/-- Once every piece is back, *full* keeps the send and any other answer ends it. -/
theorem State.sendStatusOp_back (hs : q.status = none) (hne : s.sendPkts tile e ≠ []) (home : ∀ p : Packet, p ∈ s.sendPkts tile e → p.loc = .home) :
    s.sendStatusOp tile e =
      let l := s.sendPkts tile e
      let gone : State := { s with net := s.net.filter (fun p => !p.isPieceOf tile e) }
      if l.any (·.full) then
        gone.modTile tile (fun T => (T.modSend e (fun q => { q with full := true, since := s.paceNat tile })).setEngine e (.sendFull q.endpoint q.target))
      else
        (gone.modTile tile (fun T => T.dropSend e)).endOp tile e (((l.filterMap (·.resp)).find? (fun st => st != .ok)).getD .ok)
          (l.any (·.l) || s.lapsed tile) (if l.any (·.demoted) then 1 else 0) := by
  have away : (s.sendPkts tile e).any (fun p => p.loc != .home) = false := by
    rw [List.any_eq_false]
    intro p hp
    rw [home p hp]
    decide
  rw [State.sendStatusOp]
  dsimp only
  rw [hq]
  refine (if_neg (Bool.eq_false_iff.mp (Tile.noReads ha))).trans ?_
  rw [hs]
  dsimp only
  rw [away, List.isEmpty_eq_false_iff.mpr hne, Bool.or_false, if_neg Bool.false_ne_true]

end

/-- Of responses that are OK or one other status, that status is found. -/
theorem find_resp_of_one {ps : List Packet} {st : Status} (hst : st ≠ .ok) (hex : ∃ p : Packet, p ∈ ps ∧ p.resp = some st)
    (hall : ∀ p : Packet, p ∈ ps → p.resp = some .ok ∨ p.resp = some st) :
    ((ps.filterMap (·.resp)).find? (fun x => x != .ok)).getD .ok = st := by
  cases h : (ps.filterMap (·.resp)).find? (fun x => x != .ok) with
  | none =>
    obtain ⟨p, hp, hr⟩ := hex
    exact absurd (List.find?_eq_none.mp h st (List.mem_filterMap.mpr ⟨p, hp, hr⟩)) (by simpa using hst)
  | some x =>
    obtain ⟨p, hp, hr⟩ := List.mem_filterMap.mp (List.mem_of_find?_eq_some h)
    have hx : x ≠ .ok := by simpa using List.find?_some h
    rcases hall p hp with ho | ho
    · rw [ho] at hr
      exact absurd (Option.some.inj hr).symm hx
    · rw [ho] at hr
      exact (Option.some.inj hr).symm

theorem find_resp_of_ok {ps : List Packet} (hall : ∀ p : Packet, p ∈ ps → p.resp = some .ok) :
    ((ps.filterMap (·.resp)).find? (fun x => x != .ok)).getD .ok = .ok := by
  rw [List.find?_eq_none.mpr]
  · rfl
  · intro x hx
    obtain ⟨p, hp, hr⟩ := List.mem_filterMap.mp hx
    rw [hall p hp] at hr
    rw [← Option.some.inj hr]
    decide

/-! ## A message sets out again -/

/-- A piece of a message as it sets out (R291). -/
def State.pieceOf (s : State) (tile : Nat) (q : SendState) (k : Nat) : Packet :=
  let rows := (q.data.drop (4 * k)).take 4
  let p := s.newPacket (s.sender tile q.e) (.message q.endpoint q.units k) q.qos (.tile q.target) (BitVec.ofNat 48 (tileMemAddr q.target 0)) 0
    (64 * rows.length) true rows
  { p with l := p.l || q.l, demoted := q.demoted }

theorem State.pieceOf_iss (s : State) (tile : Nat) (q : SendState) (k : Nat) : (s.pieceOf tile q k).iss = s.sender tile q.e := rfl

theorem State.launchSend_net (s : State) (tile : Nat) (q : SendState) : ∃ l, (s.launchSend tile q).net = s.net ++ l ∧
    l.map (·.kind) = (List.range (pieces q.units)).map (fun k => .message q.endpoint q.units k) ∧
    l.map (·.data) = (List.range (pieces q.units)).map (fun k => (q.data.drop (4 * k)).take 4) ∧
    ∀ p, p ∈ l → p.target = .tile q.target ∧ p.qos = q.qos ∧ p.iss = s.sender tile q.e ∧ p.write = true := by
  obtain ⟨l, net, all⟩ := State.foldl_launch (fun t k => t.pieceOf tile q k)
    (fun k p => p.kind = .message q.endpoint q.units k ∧ p.data = (q.data.drop (4 * k)).take 4 ∧
      p.target = .tile q.target ∧ p.qos = q.qos ∧ p.iss = s.sender tile q.e ∧ p.write = true) (List.range (pieces q.units)) s
    fun t k lp ht => ⟨rfl, rfl, rfl, rfl, by rw [State.pieceOf_iss, State.sender, State.sender, ht], rfl⟩
  exact ⟨l, net, map_eq_of_forall₂ (all.imp fun _ _ h => h.1), map_eq_of_forall₂ (all.imp fun _ _ h => h.2.1),
    forall_of_forall₂ (all.imp fun _ _ h => h.2.2)⟩

theorem Tile.modSend_send {T : Tile} {q : SendState} {n : Nat} {x : EngState} (hq : T.send? e = some q) :
    (((T.modSend e (fun q => { q with full := true, since := n })).setEngine e x).send? e).map (fun x => (x.full, x.since)) = some (true, n) := by
  have found : ((T.modSend e (fun q => { q with full := true, since := n })).setEngine e x).send? e =
      (T.send? e).map (fun b => if b.e == e then { b with full := true, since := n } else b) := 
    find?_updWhere (p := fun b : SendState => b.e == e) (f := fun b : SendState => { b with full := true, since := n })
      (q := fun b : SendState => b.e == e) (fun _ => rfl) T.sends
  rw [found, hq, Option.map_some, Option.map_some, if_pos (List.find?_some (p := fun b : SendState => b.e == e) hq)]

/-- Settles O36. -/
theorem sends : Obligations.Sends := by
  refine ⟨fun s tile e src u g ep q h hsrc hep hq => ?_, fun s tile e src u g ep q hp hl htops he calm hs => ⟨fun h64 => ?_, fun h64 hu => ?_,
    fun h64 h1 hu => ?_⟩, fun s tile q hp hl busy hq => ?_, fun s tile e q hp hl hq ha => ?_, fun s tile e q hp hl hq full none' => ?_⟩
  · exact State.named_byEngine h (by rw [decide_eq_true hsrc, decide_eq_true hep, decide_eq_true hq]; rfl)
  · exact State.exec_boundary_sendEnds hp hl htops he calm (if_pos h64)
  · exact State.exec_boundary_sendEnds hp hl htops he calm ((if_neg (by omega)).trans (if_pos hu))
  · obtain ⟨t, run, engine, send, out⟩ := State.exec_boundary_sendBegins hp hl htops he calm hs h64 h1 hu
    exact ⟨t, _, run, engine, send, rfl, rfl, rfl, rfl, rfl, rfl, out⟩
  · refine (State.atTile_next hp hl).trans (congrArg (fun t : State => Host.Outcome.next (t.watch tile)) ?_)
    rw [State.burstSelectOp]
    dsimp only
    rw [busy, hq]
    rfl
  · intro ended ps gone
    have run {r : State} (hr : s.sendStatusOp tile e = r) : exec (.sendStatus tile e) s = .next (r.watch tile) :=
      (State.atTile_next hp hl).trans (congrArg (fun t : State => Host.Outcome.next (t.watch tile)) hr)
    refine ⟨fun st hs => run (State.sendStatusOp_told hq ha hs), fun hs hne home => ⟨fun notFull => ?_, fun full => ?_⟩⟩
    · have op := State.sendStatusOp_back hq ha hs hne home
      have none' : (s.sendPkts tile e).any (·.full) = false := by
        rw [List.any_eq_false]
        intro p hp'
        rw [notFull p hp']
        exact Bool.false_ne_true
      dsimp only at op
      rw [none', if_neg Bool.false_ne_true] at op
      refine ⟨fun hok => run ?_, fun st hst hex hall => run ?_⟩
      · rw [op, find_resp_of_ok (ps := s.sendPkts tile e) hok]
        rfl
      · rw [op, find_resp_of_one (ps := s.sendPkts tile e) hst hex hall]
        rfl
    · have op := State.sendStatusOp_back hq ha hs hne home
      obtain ⟨p, hp', hf⟩ := full
      have some' : (s.sendPkts tile e).any (·.full) = true := List.any_eq_true.mpr ⟨p, hp', hf⟩
      dsimp only at op
      rw [some', if_pos rfl] at op
      refine ⟨_, run op, ?_, rfl, rfl, ?_⟩
      · rw [State.watch_value (f := fun T => T.engine e) fun _ _ _ => rfl, State.modTile_tile, if_pos rfl, Tile.setEngine_engine, if_pos rfl]
      · rw [State.watch_value (f := fun T => T.send? e) fun _ _ _ => rfl, State.modTile_tile, if_pos rfl]
        exact Tile.modSend_send hq
  · have none'' : (s.sendPkts tile e).isEmpty = true := by
      rw [List.isEmpty_iff, State.sendPkts, List.filter_eq_nil_iff]
      intro p hp'
      rw [none' p hp']
      exact Bool.false_ne_true
    have run {r : State} (hr : s.sendRetryOp tile e = r) : exec (.sendRetry tile e) s = .next (r.watch tile) :=
      (State.atTile_next hp hl).trans (congrArg (fun t : State => Host.Outcome.next (t.watch tile)) hr)
    have op : s.sendRetryOp tile e = if s.paceOver tile q.since 64 then s.launchSend tile q else s := by
      rw [State.sendRetryOp, hq]
      dsimp only
      rw [full, none'']
      rfl
    refine ⟨fun early => run ?_, fun due => ?_⟩
    · rw [op, if_neg]
      rw [State.paceOver, decide_eq_true_eq]
      omega
    · rw [if_pos (by rw [State.paceOver, decide_eq_true_eq]; exact due)] at op
      obtain ⟨l, net, kinds, data, rest⟩ := s.launchSend_net tile q
      exact ⟨_, l, run op, net, kinds, data, rest⟩

end
end Sys2Proof.Machine
end

section
/-!
Messages at their endpoint (spec/08_tallies_bells_channels.md R289 to R295).
-/

namespace Sys2Proof.Machine

section
variable {s : State} {tile : Nat} {p : Packet} {m : MsgIn} {st : Status}

/-! ## A piece that is not written -/

/-- The piece of a message goes back with the message's outcome, marked where it was answered full. -/
theorem State.pieceRefused_pkt (h : s.pkt p.id = some p) :
    ((s.pieceRefused tile p m st).pkt p.id).map (fun r => (r.resp, r.full)) = some (some (m.outcome st), m.full) := by
  have h' : (s.modTile tile (fun T => T.pieceEnded m st false)).pkt p.id = some p := h
  have responded := State.modPkt_pkt_self h' (f := fun q => q.respond tile (s.modTile tile (fun T => T.pieceEnded m st false)).nextId (m.outcome st) []
    ((s.modTile tile (fun T => T.pieceEnded m st false)).slice (tileDie tile)).lpActive false) fun _ => rfl
  rw [State.pieceRefused, State.respondAt, State.modPkt_pkt_self (f := fun q => { q with full := m.full }) responded fun _ => rfl]
  rfl

/-- A piece that ends without storing anything leaves the endpoints as they are. -/
theorem Tile.pieceEnded_eps {T : Tile} {l : Bool} (hbad : ¬(m.status = .ok ∧ st ≠ .ok)) (hm : m.status ≠ .ok ∨ m.full = true) :
    (T.pieceEnded m st l).eps = T.eps := by
  unfold Tile.pieceEnded
  dsimp only
  rw [if_neg hbad]
  split
  · rw [if_neg]
    rcases hm with h | h
    · simp [h]
    · simp [h]
  · rfl

theorem State.pieceRefused_eps (hbad : ¬(m.status = .ok ∧ st ≠ .ok)) (hm : m.status ≠ .ok ∨ m.full = true) :
    ((s.pieceRefused tile p m st).tile tile).eps = (s.tile tile).eps := by
  change ((s.modTile tile (fun T => T.pieceEnded m st false)).tile tile).eps = _
  rw [State.modTile_tile, if_pos rfl, Tile.pieceEnded_eps hbad hm]

theorem State.pieceRefused_mem : (s.pieceRefused tile p m st).mem = s.mem := rfl

/-! ## The first piece of a message -/

/-- The tile once a message has entered that an earlier one of its issuer has not left unfinished. -/
def State.entered (s : State) (tile : Nat) (p : Packet) (f : Tile → Tile) (m : MsgIn) : State :=
  ((s.modTile tile (fun T => T.forgetMsg p.iss)).modTile tile f).modTile tile (fun T => { T with msgs := T.msgs ++ [m] })

theorem State.entered_rest (f : Tile → Tile) : (s.entered tile p f m).net = s.net ∧ (s.entered tile p f m).mem = s.mem := ⟨rfl, rfl⟩

theorem State.entered_tile (f : Tile → Tile) (hm : (s.tile tile).msgOf p.iss = none) :
    (s.entered tile p f m).tile tile = { f (s.tile tile) with msgs := (f (s.tile tile)).msgs ++ [m] } := by
  have forget : (s.tile tile).forgetMsg p.iss = s.tile tile := by rw [Tile.forgetMsg, hm]
  simp only [State.entered, State.modTile_tile, if_true, forget]

section
variable {e u : Nat} (hm : (s.tile tile).msgOf p.iss = none) (hr : s.ready (tileDie tile) = true)
include hm hr

theorem State.messageOp_check : ((s.modTile tile (fun T => T.forgetMsg p.iss)).tile tile).checkMsg
    ((s.modTile tile (fun T => T.forgetMsg p.iss)).ready (tileDie tile)) e u p.iss.hh = (s.tile tile).checkMsg true e u p.iss.hh := by
  rw [State.modTile_ready, hr, State.modTile_tile, if_pos rfl, Tile.forgetMsg, hm]

/-- A message that is refused: a closed endpoint counts it. -/
theorem State.messageOp_refused (hc : (s.tile tile).checkMsg true e u p.iss.hh = .refuse st) :
    ∃ r m, s.messageOp tile p e u 0 = State.pieceRefused r tile p m st ∧ r.net = s.net ∧ r.mem = s.mem ∧ m.status = st ∧ m.full = false ∧
      (r.tile tile).eps = (if st = .closed then
        (s.tile tile).eps.set e { (s.tile tile).ep e with drop := satInc ((s.tile tile).ep e).drop } else (s.tile tile).eps) := by
  have check := State.messageOp_check (e := e) (u := u) hm hr
  rw [hc] at check
  rw [State.messageOp]
  dsimp only
  rw [if_pos rfl, check]
  dsimp only
  let m : MsgIn := { iss := p.iss, endpoint := e, pos := 0, left := pieces u, status := st, full := false, l := p.l || s.lapsed tile }
  by_cases h : st = .closed
  · rw [if_pos h, if_pos h]
    let f : Tile → Tile := fun T => T.setEp e { T.ep e with drop := satInc (T.ep e).drop }
    obtain ⟨net, mem⟩ := State.entered_rest (s := s) (tile := tile) (p := p) (m := m) f
    exact ⟨s.entered tile p f m, m, rfl, net, mem, rfl, rfl, congrArg Tile.eps (State.entered_tile f hm)⟩
  · rw [if_neg h, if_neg h]
    have forget : (s.tile tile).forgetMsg p.iss = s.tile tile := by rw [Tile.forgetMsg, hm]
    refine ⟨_, m, rfl, rfl, rfl, rfl, rfl, ?_⟩
    rw [State.modTile_tile, if_pos rfl, State.modTile_tile, if_pos rfl, forget]

/-- A message without room is answered full. -/
theorem State.messageOp_full (hc : (s.tile tile).checkMsg true e u p.iss.hh = .full) :
    ∃ r m, s.messageOp tile p e u 0 = State.pieceRefused r tile p m .ok ∧ r.net = s.net ∧ r.mem = s.mem ∧ m.status = .ok ∧ m.full = true ∧
      (r.tile tile).eps = (s.tile tile).eps := by
  have check := State.messageOp_check (e := e) (u := u) hm hr
  rw [hc] at check
  have forget : (s.tile tile).forgetMsg p.iss = s.tile tile := by rw [Tile.forgetMsg, hm]
  rw [State.messageOp]
  dsimp only
  rw [if_pos rfl, check]
  refine ⟨_, _, rfl, rfl, rfl, rfl, rfl, ?_⟩
  rw [State.modTile_tile, if_pos rfl, State.modTile_tile, if_pos rfl, forget]

/-- A message that takes its place in the queue. -/
theorem State.messageOp_placed {pad : Option Nat} {pos : Nat} (hc : (s.tile tile).checkMsg true e u p.iss.hh = .place pad pos) :
    ∃ r m, s.messageOp tile p e u 0 = State.pieceWrite r tile p m 0 ∧ r.net = s.net ∧ r.mem = s.mem ∧ m.endpoint = e ∧ m.pos = pos ∧
      (r.tile tile).ep e = ((s.tile tile).ep e).enqueue u pos pad p.iss.tile p.iss.master ∧ (r.tile tile).accs = (s.tile tile).accs := by
  have check := State.messageOp_check (e := e) (u := u) hm hr
  rw [hc] at check
  rw [State.messageOp]
  dsimp only
  rw [if_pos rfl, check]
  let f : Tile → Tile := fun T => T.setEp e ((T.ep e).enqueue u pos pad p.iss.tile p.iss.master)
  let m : MsgIn := { iss := p.iss, endpoint := e, pos := pos, left := pieces u, status := .ok, full := false, l := p.l || s.lapsed tile }
  obtain ⟨net, mem⟩ := State.entered_rest (s := s) (tile := tile) (p := p) (m := m) f
  have tile' := State.entered_tile (m := m) f hm
  refine ⟨s.entered tile p f m, m, rfl, net, mem, rfl, rfl, ?_, by rw [tile']; rfl⟩
  rw [tile']
  exact (Tbl.get_set _ _ _ _ _).trans (if_pos rfl)

end

/-- A piece waits at the NW port, to be written where its message lies in the ring. -/
theorem State.pieceWrite_outcome {k : Nat} (h : s.pkt p.id = some p) :
    ∃ a : Access, ((s.pieceWrite tile p m k).tile tile).accs = (s.tile tile).accs ++ [a] ∧ a.master = .nw ∧ a.write = true ∧ a.stage = .atPort ∧
      a.dest = .packet p.id ∧ a.off = 64 * (((s.tile tile).ep m.endpoint).off.toNat + m.pos + 4 * k) ∧ a.data = p.data ∧
      ((s.pieceWrite tile p m k).pkt p.id).map (fun r => (r.loc, r.resp)) = some (.served, p.resp) ∧
      ((s.pieceWrite tile p m k).tile tile).eps = (s.tile tile).eps ∧ (s.pieceWrite tile p m k).mem = s.mem := by
  let a := { s.newAccess .nw .bank true (64 * (((s.tile tile).ep m.endpoint).off.toNat + m.pos + 4 * k)) 64 (p.size / 64) p.qosNow p.data p.iss
    (.packet p.id) .atPort with demoted := p.demoted, l := p.l, since := s.paceNat tile }
  have tile' : (s.pieceWrite tile p m k).tile tile = { s.tile tile with accs := (s.tile tile).accs ++ [a] } := by
    change ((s.takeId.modTile tile (fun T => { T with accs := T.accs ++ [a] })).tile tile) = _
    rw [State.modTile_tile, if_pos rfl, State.takeId_tile]
  refine ⟨a, by rw [tile'], rfl, rfl, rfl, rfl, rfl, rfl, ?_, by rw [tile'], rfl⟩
  exact congrArg (Option.map fun r : Packet => (r.loc, r.resp)) (State.modPkt_pkt_self (k := p) (f := fun q => { q with loc := .served })
    (s := s.takeId.modTile tile (fun T => { T with accs := T.accs ++ [a] })) h fun _ => rfl)

/-! ## The checks (R292) -/

section
variable {T : Tile} {e u hh : Nat} (hq : T.quarantined .nw = false)
include hq

theorem Tile.checkMsg_closed (h : (T.ep e).isOpen = false ∨ T.reassign ≠ none) : T.checkMsg true e u hh = .refuse .closed := by
  rw [Tile.checkMsg]
  simp only [Bool.not_true, Bool.false_eq_true, if_false, hq]
  refine if_pos ?_
  rcases h with h | h
  · simp [h]
  · simp [Option.isSome_iff_ne_none.mpr h]

/-- The checks of an open endpoint of a tile that is not being given away. -/
theorem Tile.checkMsg_open (ho : (T.ep e).isOpen = true) (hr : T.reassign = none) : T.checkMsg true e u hh =
    if (T.ep e).hh.toNat ≠ hh then .refuse .gate else if (T.ep e).units < u then .refuse .size
    else match (T.ep e).place u with
      | none => .full
      | some (pad, pos) => .place pad pos := by
  rw [Tile.checkMsg]
  simp only [Bool.not_true, Bool.false_eq_true, if_false, hq, ho, hr, Option.isSome_none, Bool.or_false] <;> rfl

end

theorem State.exec_messageArrival {id e u k : Nat} (hp : s.hasTile tile = true) (hl : s.live (tileDie tile) = true) (ha : s.atHome tile id = some p)
    (hk : p.kind = .message e u k) : exec (.messageArrival tile id) s = .next ((s.messageOp tile p e u k).watch tile) := by
  refine (State.atTile_next hp hl).trans (congrArg (fun t : State => Host.Outcome.next (t.watch tile)) ?_)
  rw [State.messageIn, ha]
  dsimp only
  rw [hk]

theorem State.atHome_pkt {id : Nat} (ha : s.atHome tile id = some p) : s.pkt id = some p ∧ p.id = id ∧ p.resp = none := by
  obtain ⟨h, hc⟩ := Option.filter_eq_some_iff.mp ha
  simp only [Bool.and_eq_true, Option.isNone_iff_eq_none] at hc
  exact ⟨h, State.pkt_id h, hc.1.2⟩

theorem Endpoint.enqueue_recs (E : Endpoint) (u pos : Nat) (pad : Option Nat) (t m : Nat) :
    (E.enqueue u pos pad t m).recs.length = E.recs.length + (if pad.isSome then 2 else 1) ∧
      (E.enqueue u pos pad t m).recs.getLast?.map (fun r => (r.pad, r.whole, r.units, r.pos, r.tile, r.master)) = some (false, false, u, pos, t, m) := by
  cases pad <;> simp [Endpoint.enqueue]

/-! ## The last piece of a message -/

theorem Tile.burstServed_rest {α : Type} {f : Tile → α} (hf : ∀ (T : Tile) b g, f { T with bursts := b, gates := g } = f T) (T : Tile) (i : Issuer)
    (b : Nat) (w : Bool) (n : Nat) : f (T.burstServed i b w n) = f T := by
  unfold Tile.burstServed
  dsimp only
  split
  · rfl
  · split
    · exact hf T _ _
    · exact hf T _ _

/-- The record of a message of which the last piece has been written. -/
theorem Tile.pieceEnded_whole {T : Tile} {l : Bool} (hs : m.status = .ok) (hleft : m.left = 1) (hfull : m.full = false) :
    (T.pieceEnded m .ok l).msgs = T.msgs.filter (fun k => k.iss != m.iss) ∧
      ((T.pieceEnded m .ok l).ep m.endpoint).recs = (T.ep m.endpoint).recs.map (fun r =>
        if !r.pad && !r.whole && r.pos = m.pos then { r with whole := true, l := r.l || (m.l || l) } else r) := by
  unfold Tile.pieceEnded
  dsimp only
  have good : ¬(m.status = .ok ∧ Status.ok ≠ .ok) := fun h => h.2 rfl
  rw [if_neg good, if_neg good, if_pos (by rw [hleft]), hs, hfull]
  refine ⟨rfl, congrArg Endpoint.recs ((Tbl.get_set _ _ _ _ _).trans (if_pos rfl))⟩

/-- Rows are written without a change of any tile or packet. -/
theorem writeCells_rest (tile : Nat) (l : List (Nat × Nat)) (d : List RowData) (s : State) :
    (writeCells tile l d s).slices = s.slices ∧ (writeCells tile l d s).net = s.net := by
  induction l generalizing d s with
  | nil => exact ⟨rfl, rfl⟩
  | cons c l ih => exact ih _ _

theorem State.writeCommit_last {a : Access} (hacc : (s.tile tile).acc a.id = some a) (hst : a.stage = .beat) (hw : a.write = true)
    (hlast : a.done + 1 = a.beats) (hbad : a.badAt = none) (hrom : a.rom = false) (hf : a.isFlush = false) :
    ∃ u : State, u.slices = s.slices ∧ u.net = s.net ∧
      s.writeCommit tile a.id = (u.modTile tile (fun T => T.dropAcc a.id)).deliver tile { a with done := a.done + 1 } .ok := by
  have beat : (s.tile tile).inBeat a.id = some a := by rw [Tile.inBeat, hacc]; simp [hst]
  obtain ⟨slices, net⟩ := writeCells_rest tile a.cells ((a.data.drop (a.done * (a.size / 64))).take (a.size / 64)) s
  refine ⟨_, slices, net, ?_⟩
  rw [State.writeCommit, beat]
  dsimp only
  rw [if_neg (by simp [hf, hrom, hw]), State.beatDone]
  dsimp only
  rw [if_neg (by omega), hbad]
  rfl

/-- The last piece of a message is answered with the message's outcome. -/
theorem State.deliver_lastPiece {a : Access} {e u k : Nat} (hdest : a.dest = .packet p.id) (hpkt : s.pkt p.id = some p) (hk : p.kind = .message e u k)
    (hmsg : (s.tile tile).msgOf p.iss = some m) (hleft : m.left = 1) (hs : m.status = .ok) (hfull : m.full = false) :
    ((s.deliver tile a .ok).pkt p.id).map (fun r => (r.resp, r.full)) = some (some .ok, false) ∧
      ((s.deliver tile a .ok).tile tile).msgs = (s.tile tile).msgs.filter (fun k => k.iss != m.iss) ∧
      ∃ l, (((s.deliver tile a .ok).tile tile).ep m.endpoint).recs = ((s.tile tile).ep m.endpoint).recs.map (fun r =>
        if !r.pad && !r.whole && r.pos = m.pos then { r with whole := true, l := r.l || (m.l || l) } else r) := by
  let l := a.l || (s.slice (tileDie tile)).lpActive
  let served : State := s.modTile tile (fun T => T.burstServed a.iss p.bstart p.write (p.size / 64))
  have rest {α : Type} (f : Tile → α) (hf : ∀ (T : Tile) b g, f { T with bursts := b, gates := g } = f T) : f (served.tile tile) = f (s.tile tile) := by
    rw [State.modTile_tile, if_pos rfl, Tile.burstServed_rest hf]
  have found : (served.tile tile).msgOf p.iss = some m := (rest (fun T => T.msgOf p.iss) fun _ _ _ => rfl).trans hmsg
  have run : s.deliver tile a .ok = (served.modTile tile (fun T => T.pieceEnded m .ok l)).modPkt p.id (fun q =>
      { q.respond tile (served.modTile tile (fun T => T.pieceEnded m .ok l)).nextId (m.outcome .ok) [] l a.demoted with full := m.full }) := by
    rw [State.deliver, hdest]
    dsimp only
    rw [hpkt]
    dsimp only
    rw [hk]
    dsimp only
    rw [found]
    rfl
  obtain ⟨msgs, recs⟩ := Tile.pieceEnded_whole (T := served.tile tile) (l := l) hs hleft hfull
  have tile' : ((s.deliver tile a .ok).tile tile) = (served.tile tile).pieceEnded m .ok l := by
    rw [run]
    change ((served.modTile tile (fun T => T.pieceEnded m .ok l)).tile tile) = _
    rw [State.modTile_tile, if_pos rfl]
  refine ⟨?_, ?_, l, ?_⟩
  · rw [run, State.modPkt_pkt_self (k := p) (s := served.modTile tile (fun T => T.pieceEnded m .ok l)) (f := fun q =>
      { q.respond tile (served.modTile tile (fun T => T.pieceEnded m .ok l)).nextId (m.outcome .ok) [] l a.demoted with full := m.full }) hpkt fun _ => rfl,
      hfull, MsgIn.outcome, hs]
    rfl
  · rw [tile', msgs, rest Tile.msgs fun _ _ _ => rfl]
  · rw [tile', recs, rest (fun T => T.ep m.endpoint) fun _ _ _ => rfl]

/-- Settles O37. -/
theorem messagesArrive : Obligations.MessagesArrive := by
  refine ⟨fun s tile id e u p hp hr ha hk hq hm => ?_, fun s tile e u k a p m hp hl hacc hst hw hlast hbad hrom hdest hpkt hk hmsg he hleft hs hfull => ?_⟩
  · obtain ⟨hpkt, hid, hresp⟩ := State.atHome_pkt ha
    subst hid
    have run {r : State} (h : s.messageOp tile p e u 0 = r) : exec (.messageArrival tile p.id) s = .next (r.watch tile) :=
      h ▸ State.exec_messageArrival hp (State.live_of_ready hr) ha hk
    have refused {r : State} {m : MsgIn} {st : Status} (op : s.messageOp tile p e u 0 = r.pieceRefused tile p m st) (net : r.net = s.net)
        (mem : r.mem = s.mem) (hbad : ¬(m.status = .ok ∧ st ≠ .ok)) (hm : m.status ≠ .ok ∨ m.full = true) :
        ∃ t : State, exec (.messageArrival tile p.id) s = .next t ∧
          (t.pkt p.id).map (fun q => (q.resp, q.full)) = some (some (m.outcome st), m.full) ∧ (t.tile tile).eps = (r.tile tile).eps ∧ t.mem = s.mem := by
      refine ⟨_, run op, State.pieceRefused_pkt (by rw [State.pkt, net]; exact hpkt), ?_, mem⟩
      rw [State.watch_value (f := Tile.eps) fun _ _ _ => rfl, State.pieceRefused_eps hbad hm]
    have resp {t : State} {st : Status} {b : Bool} (h : (t.pkt p.id).map (fun q => (q.resp, q.full)) = some (some st, b)) :
        (t.pkt p.id).map (·.resp) = some (some st) := by
      have := congrArg (Option.map Prod.fst) h
      rwa [Option.map_map] at this
    have answer {st : Status} (hst : st ≠ .ok) (hc : (s.tile tile).checkMsg true e u p.iss.hh = .refuse st) :
        ∃ t : State, exec (.messageArrival tile p.id) s = .next t ∧ (t.pkt p.id).map (·.resp) = some (some st) ∧
          (t.tile tile).eps = (if st = .closed then
            (s.tile tile).eps.set e { (s.tile tile).ep e with drop := satInc ((s.tile tile).ep e).drop } else (s.tile tile).eps) ∧ t.mem = s.mem := by
      obtain ⟨r, m, op, net, mem, status, -, eps⟩ := State.messageOp_refused hm hr hc
      obtain ⟨t, step, pkt, eps', mem'⟩ := refused op net mem (fun h => hst (status.symm.trans h.1)) (.inl fun h => hst (status.symm.trans h))
      refine ⟨t, step, ?_, eps'.trans eps, mem'⟩
      rw [resp pkt, MsgIn.outcome, status, if_neg hst]
    intro E
    refine ⟨fun hc => ?_, fun ho hg => ?_⟩
    · obtain ⟨t, step, pkt, eps, mem⟩ := answer (by decide) (Tile.checkMsg_closed hq hc)
      refine ⟨t, step, ?_, pkt, mem⟩
      rw [Tile.ep, eps]
      exact congrArg Endpoint.drop ((Tbl.get_set _ _ _ _ _).trans (if_pos rfl))
    · have check := Tile.checkMsg_open (u := u) (hh := p.iss.hh) hq ho hg
      refine ⟨fun hh => ?_, fun hh hu => ?_, fun hh hu hpl => ?_, fun pad pos hh hu hpl => ?_⟩
      · rw [if_pos hh] at check
        exact answer (by decide) check
      · rw [if_neg (not_not_intro hh), if_pos hu] at check
        exact answer (by decide) check
      · rw [if_neg (not_not_intro hh), if_neg (Nat.not_lt.mpr hu), hpl] at check
        obtain ⟨r, m, op, net, mem, status, full, eps⟩ := State.messageOp_full hm hr check
        obtain ⟨t, step, pkt, eps', mem'⟩ := refused op net mem (fun h => h.2 rfl) (.inr full)
        refine ⟨t, step, ?_, eps'.trans eps, mem'⟩
        rw [pkt, MsgIn.outcome, status, full, if_pos rfl]
      · rw [if_neg (not_not_intro hh), if_neg (Nat.not_lt.mpr hu), hpl] at check
        obtain ⟨r, m, op, net, mem, endpoint, pos', ep, accs⟩ := State.messageOp_placed hm hr check
        obtain ⟨a, accs', master, write, stage, dest, off, data, pkt, eps, mem'⟩ :=
          State.pieceWrite_outcome (s := r) (tile := tile) (m := m) (k := 0) (by rw [State.pkt, net]; exact hpkt)
        have ep' : (((r.pieceWrite tile p m 0).watch tile).tile tile).ep e = E.enqueue u pos pad p.iss.tile p.iss.master := by
          rw [State.watch_value (f := fun T => T.ep e) fun _ _ _ => rfl, Tile.ep, eps]
          exact ep
        obtain ⟨length, last⟩ := E.enqueue_recs u pos pad p.iss.tile p.iss.master
        refine ⟨_, a, run op, mem'.trans mem, by rw [ep', length], by rw [ep', last], ?_, master, write, stage, dest, ?_, data, ?_⟩
        · rw [State.watch_value (f := Tile.accs) fun _ _ _ => rfl, accs', accs]
        · rw [off, endpoint, ep, pos']
          rfl
        · rw [← hresp]
          exact pkt
  · have hf : a.isFlush = false := by rw [Access.isFlush, hdest]
    obtain ⟨v, slices, net, op⟩ := State.writeCommit_last hacc hst hw hlast hbad hrom hf
    have tileV (g : Nat) : v.tile g = s.tile g := by rw [State.tile, State.tile, State.slice, State.slice, slices]
    have dropped {α : Type} (f : Tile → α) (hf : ∀ (T : Tile) l, f { T with accs := l } = f T) :
        f ((v.modTile tile (fun T => T.dropAcc a.id)).tile tile) = f (s.tile tile) := by
      rw [State.modTile_tile, if_pos rfl, tileV]
      exact hf _ _
    obtain ⟨pkt, msgs, l, recs⟩ := State.deliver_lastPiece (s := v.modTile tile (fun T => T.dropAcc a.id)) (a := { a with done := a.done + 1 }) hdest
      (by rw [State.pkt, State.modTile_net, net]; exact hpkt) hk ((dropped (fun T => T.msgOf p.iss) fun _ _ => rfl).trans hmsg) hleft hs hfull
    rw [dropped Tile.msgs fun _ _ => rfl] at msgs
    rw [dropped (fun T => T.ep m.endpoint) (fun _ _ => rfl), he] at recs
    have iss : m.iss = p.iss := eq_of_beq (List.find?_some (p := fun k : MsgIn => k.iss == p.iss) hmsg)
    refine ⟨_, (State.atTile_next hp hl).trans (congrArg Host.Outcome.next op), pkt, ?_, ?_, fun r hr hpad hpos => ?_⟩
    · rw [Tile.msgOf, msgs, List.find?_eq_none]
      intro k hk'
      have := (List.mem_filter.mp hk').2
      rw [iss] at this
      simpa using this
    · rw [recs, List.map_map]
      refine List.map_congr_left fun r _ => ?_
      rw [Function.comp_apply]
      split <;> rfl
    · rw [recs] at hr
      obtain ⟨r0, -, rfl⟩ := List.mem_map.mp hr
      by_cases h : (!r0.pad && !r0.whole && decide (r0.pos = m.pos)) = true
      · rw [if_pos h]
      · rw [if_neg h] at hpad hpos ⊢
        simpa [hpad, hpos] using h

end
end Sys2Proof.Machine
end

section
/-!
Endpoints and RECV (spec/08_tallies_bells_channels.md R263, R287, R297 to R299).
-/

namespace Sys2Proof.Machine

section
variable {s : State} {tile e : Nat} {g : Engine} {v : Word} {w : Src}

/-! ## A tally boundary at an endpoint -/

/-- A POP takes effect at the boundary; no RECV is due. -/
theorem State.exec_boundary_pop (hp : s.hasTile tile = true) (hl : s.live (tileDie tile) = true) (htops : (s.tile tile).tops = [.pop g e])
    (calm : (s.tile tile).calm none) : ∃ t : State, exec (.tallyBoundary tile) s = .next t ∧ (t.tile tile).ep e = ((s.tile tile).ep e).pop := by
  have idle (f : Engine) := calm.engines f (Option.some_ne_none f)
  let r := (s.afterTallies tile).modTile tile (fun T => T.setEp e (T.ep e).pop)
  have engine (f : Engine) : (r.tile tile).engine f = (s.tile tile).engine f := by
    rw [State.modTile_tile, if_pos rfl]
    exact s.afterTallies_engine f
  refine ⟨_, State.exec_boundary (r := r) hp hl (State.boundary_channels ?_ (fun f => ?_) calm.chans calm.adds) ?_ calm.busy ?_, ?_⟩
  · rw [htops]
    intro o ho
    rw [List.mem_singleton.mp ho]
    rfl
  · rcases idle f with h | h <;> rw [h] <;> rfl
  · rw [htops, State.channelOps, List.foldl_cons, List.foldl_nil]
    refine foldl_fixed (t := r) fun f _ => ?_
    split
    · next k hk =>
      rw [engine] at hk
      rcases idle f with h | h <;> rw [h] at hk <;> nomatch hk
    · rfl
  · rw [State.modTile_tile, if_pos rfl]
    exact (State.afterTallies_value (f := Tile.regWait) (fun _ _ _ => rfl) fun _ _ _ => rfl).trans calm.first
  · rw [State.watch_value (f := fun T => T.ep e) fun _ _ _ => rfl, State.modTile_tile, if_pos rfl]
    refine (Tbl.get_set _ _ _ _ _).trans ((if_pos rfl).trans ?_)
    rw [State.afterTallies_value (f := fun T => T.ep e) (fun _ _ _ => rfl) fun _ _ _ => rfl]

/-- The RECV of an engine at a boundary. -/
def State.recvStep (tile : Nat) (s : State) (f : Engine) : State :=
  match (s.tile tile).engine f with
  | .recv k => s.recvMeets tile k f
  | _ => s

theorem State.channelOps_nil (s : State) (tile : Nat) :
    s.channelOps tile [] = ((s.recvStep tile .mx).recvStep tile .vx).recvStep tile .sc := rfl

theorem State.recvStep_none (h : ∀ k, (s.tile tile).engine g ≠ .recv k) : s.recvStep tile g = s := by
  unfold State.recvStep
  split
  · next k hk => exact absurd hk (h k)
  · rfl

theorem State.recvStep_recv (h : (s.tile tile).engine g = .recv e) : s.recvStep tile g = s.recvMeets tile e g := by
  rw [State.recvStep, h]

theorem State.recvMeets_engine {f : Engine} (hf : f ≠ g) : ((s.recvMeets tile e g).tile tile).engine f = (s.tile tile).engine f := by
  unfold State.recvMeets
  dsimp only
  split
  · split
    · exact State.endOp_value (e := g) (f := fun T : Tile => T.engine f)
        ⟨fun _ _ => rfl, fun T q => by rw [Tile.setEngine_engine, if_neg (Ne.symm hf)]⟩ s tile _ _ _ tile
    · rfl
  · rfl

/-- The RECVs of a boundary at which one engine waits with one. -/
theorem State.recvs_one (hg : (s.tile tile).engine g = .recv e) (others : ∀ f, f ≠ g → (s.tile tile).engine f = .running ∨ (s.tile tile).engine f = .stopped) :
    s.channelOps tile [] = s.recvMeets tile e g := by
  have idle {f : Engine} (hf : f ≠ g) (k : Nat) : (s.tile tile).engine f ≠ .recv k := by
    rcases others f hf with h | h <;> rw [h] <;> exact EngState.noConfusion
  have after {f : Engine} (hf : f ≠ g) : (s.recvMeets tile e g).recvStep tile f = s.recvMeets tile e g :=
    State.recvStep_none fun k => by rw [State.recvMeets_engine hf]; exact idle hf k
  rw [State.channelOps_nil]
  cases g with
  | mx => rw [State.recvStep_recv hg, after (by decide), after (by decide)]
  | vx => rw [State.recvStep_none (idle (by decide)), State.recvStep_recv hg, after (by decide)]
  | sc => rw [State.recvStep_none (idle (by decide)), State.recvStep_none (idle (by decide)), State.recvStep_recv hg]

theorem State.recvMeets_eq (hg : (s.tile tile).engine g = .recv e) : s.recvMeets tile e g =
    match ((s.tile tile).ep e).head? with
    | some r => s.endOp tile g .ok r.l ((s.tile tile).ep e).headWord.toNat
    | none => s := by
  rw [State.recvMeets, hg]
  cases ((s.tile tile).ep e).head? with
  | none => rfl
  | some r => exact if_pos rfl

/-! ## An endpoint closes -/

theorem Tile.closeMsgs_ep (T : Tile) (e : Nat) : ((T.closeMsgs e).ep e).isOpen = (T.ep e).isOpen ∧ ((T.closeMsgs e).ep e).recs = (T.ep e).recs := by
  have counted (l : List MsgIn) : ∀ U : Tile, ((l.foldl (fun (T : Tile) _ => T.setEp e { T.ep e with drop := satInc (T.ep e).drop }) U).ep e).isOpen =
      (U.ep e).isOpen ∧ ((l.foldl (fun (T : Tile) _ => T.setEp e { T.ep e with drop := satInc (T.ep e).drop }) U).ep e).recs = (U.ep e).recs := by
    have one (U : Tile) : (U.setEp e { U.ep e with drop := satInc (U.ep e).drop }).ep e = { U.ep e with drop := satInc (U.ep e).drop } :=
      (Tbl.get_set _ _ _ _ _).trans (if_pos rfl)
    exact fun U => ⟨foldl_eq (fun T : Tile => (T.ep e).isOpen) (fun U _ => by dsimp only; rw [one]) l U,
      foldl_eq (fun T : Tile => (T.ep e).recs) (fun U _ => by dsimp only; rw [one]) l U⟩
  exact counted _ T

theorem Tile.closeMsgs_engine (T : Tile) (e : Nat) (f : Engine) : (T.closeMsgs e).engine f = T.engine f :=
  foldl_eq (fun T : Tile => T.engine f) (g := fun (T : Tile) (_ : MsgIn) => T.setEp e { T.ep e with drop := satInc (T.ep e).drop }) (fun _ _ => rfl)
    (T.msgs.filter (fun m => m.endpoint == e && m.status == .ok && !m.full)) T

theorem Tile.shutEp_ep (T : Tile) (e : Nat) : ((T.shutEp e).ep e).isOpen = false ∧ ((T.shutEp e).ep e).recs = [] := by
  have read : (T.setEp e { T.ep e with isOpen := false, recs := [] }).ep e = { T.ep e with isOpen := false, recs := [] } :=
    (Tbl.get_set ..).trans (if_pos rfl)
  obtain ⟨isOpen, recs⟩ := Tile.closeMsgs_ep (T.setEp e { T.ep e with isOpen := false, recs := [] }) e
  rw [read] at isOpen recs
  exact ⟨isOpen, recs⟩

theorem State.endRecv_value {α : Type} {f : Tile → α} (hf : ∀ (T : Tile) g q, f (T.setEngine g q) = f T) (s : State) (tile e : Nat) (g : Engine) (u : Nat) :
    f ((s.endRecv tile e g).tile u) = f (s.tile u) := by
  unfold State.endRecv
  split
  · rw [State.endOp, State.emit_tile]
    exact State.modTile_value s tile u (hf _ _ _)
  · rfl

theorem State.endRecv_engine (s : State) (tile e : Nat) (g f : Engine) : ((s.endRecv tile e g).tile tile).engine f =
    if f = g ∧ (s.tile tile).engine g = .recv e then .running else (s.tile tile).engine f := by
  unfold State.endRecv
  by_cases h : (s.tile tile).engine g = .recv e
  · rw [if_pos (beq_iff_eq.mpr h), State.endOp, State.emit_tile, State.modTile_tile, if_pos rfl, Tile.setEngine_engine]
    by_cases hf : g = f
    · rw [if_pos hf, if_pos ⟨hf.symm, h⟩]
    · rw [if_neg hf, if_neg fun k => hf k.1.symm]
  · rw [if_neg fun k => h (eq_of_beq k), if_neg fun k => h k.2]

theorem State.endRecv_out {o : Output} (s : State) (tile e : Nat) (g : Engine) (h : o ∈ s.out) : o ∈ (s.endRecv tile e g).out := by
  unfold State.endRecv
  split
  · exact List.mem_append_left _ h
  · exact h

theorem State.endRecv_ends (h : (s.tile tile).engine g = .recv e) : .op tile g .aborted false 0 ∈ (s.endRecv tile e g).out := by
  rw [State.endRecv, if_pos (beq_iff_eq.mpr h)]
  exact List.mem_append_right _ (List.mem_singleton.mpr rfl)

/-- The RECVs that wait at an endpoint which closes end with ABORTED; no other engine is touched. -/
theorem State.endRecvs_outcome (s : State) (tile e : Nat) (f : Engine) :
    ((allEngines.foldl (State.endRecv tile e) s).tile tile).engine f =
        (if (s.tile tile).engine f = .recv e then .running else (s.tile tile).engine f) ∧
      ((s.tile tile).engine f = .recv e → .op tile f .aborted false 0 ∈ (allEngines.foldl (State.endRecv tile e) s).out) := by
  rw [allEngines, List.foldl_cons, List.foldl_cons, List.foldl_cons, List.foldl_nil]
  constructor
  · simp only [State.endRecv_engine]
    cases f <;> simp
  · intro h
    cases f with
    | mx => exact State.endRecv_out _ _ _ _ (State.endRecv_out _ _ _ _ (State.endRecv_ends h))
    | vx => exact State.endRecv_out _ _ _ _ (State.endRecv_ends (by rw [State.endRecv_engine]; exact h))
    | sc => exact State.endRecv_ends (by
        rw [State.endRecv_engine, if_neg fun k => Engine.noConfusion k.1, State.endRecv_engine, if_neg fun k => Engine.noConfusion k.1, h])

theorem State.closeEp_outcome (s : State) (tile e : Nat) :
    (((s.closeEp tile e).tile tile).ep e).isOpen = false ∧ (((s.closeEp tile e).tile tile).ep e).recs = [] ∧
      (∀ f, (s.tile tile).engine f = .recv e → ((s.closeEp tile e).tile tile).engine f = .running ∧ .op tile f .aborted false 0 ∈ (s.closeEp tile e).out) ∧
      ∀ f, (s.tile tile).engine f ≠ .recv e → ((s.closeEp tile e).tile tile).engine f = (s.tile tile).engine f := by
  rw [State.closeEp_eq]
  have ep {α : Type} (h : Tile → α) (hh : ∀ (T : Tile) g q, h (T.setEngine g q) = h T) :
      h ((allEngines.foldl (State.endRecv tile e) (s.modTile tile (fun T => T.shutEp e))).tile tile) = h ((s.tile tile).shutEp e) := by
    rw [foldl_eq (fun t : State => h (t.tile tile)) (g := State.endRecv tile e) (fun t g => t.endRecv_value hh tile e g tile), State.modTile_tile, if_pos rfl]
  have engine (f : Engine) : ((s.modTile tile (fun T => T.shutEp e)).tile tile).engine f = (s.tile tile).engine f := by
    rw [State.modTile_tile, if_pos rfl]
    exact Tile.closeMsgs_engine _ e f
  refine ⟨?_, ?_, fun f hf => ?_, fun f hf => ?_⟩
  · rw [ep (fun T => (T.ep e).isOpen) fun _ _ _ => rfl, (Tile.shutEp_ep _ e).1]
  · rw [ep (fun T => (T.ep e).recs) fun _ _ _ => rfl, (Tile.shutEp_ep _ e).2]
  · obtain ⟨run, out⟩ := State.endRecvs_outcome (s.modTile tile (fun T => T.shutEp e)) tile e f
    rw [engine] at run out
    exact ⟨run.trans (if_pos hf), out hf⟩
  · have run := (State.endRecvs_outcome (s.modTile tile (fun T => T.shutEp e)) tile e f).1
    rw [engine] at run
    exact run.trans (if_neg hf)

/-! ## CH_CTRL -/

theorem bit0_withField (v : Word) : bit (withField v 0 1 1) 0 = true ∧ bit (withField v 0 1 0) 0 = false := by
  constructor
  · rw [bit_withField]
    simp [bit, put]
  · rw [bit_withField]
    simp [bit, put]

theorem bits4_withField (v : Word) (x : Nat) (hx : x < 2) : bits (withField v 0 1 x) 4 4 = bits v 4 4 :=
  bits_withField_beside v hx (.inr (by decide))

theorem State.chCtrlOp_opens (hm : s.mayWrite .hm w tile = true) (ho : ((s.tile tile).ep e).isOpen = false) :
    s.chCtrlOp w tile e (withField v 0 1 1) =
      if ((s.tile tile).ep e).baseValid then (s.modTile tile (fun T => T.setEp e
        { (s.tile tile).ep e with isOpen := true, hh := BitVec.ofNat 4 (bits v 4 4), recs := [], tail := 0 }), .ok)
      else (s, .size) := by
  rw [State.chCtrlOp]
  simp only [hm, ho, (bit0_withField v).1, bits4_withField v 1 (by decide), Bool.not_true, Bool.false_eq_true, if_false, if_true]
  split
  · exact congrArg (·, Status.ok) (State.modTile_congr rfl)
  · rfl

theorem State.chCtrlOp_closes (hm : s.mayWrite .hm w tile = true) (ho : ((s.tile tile).ep e).isOpen = true)
    (hh : ((s.tile tile).ep e).hh.toNat = bits v 4 4) : s.chCtrlOp w tile e (withField v 0 1 0) = (s.closeEp tile e, .ok) := by
  have same : ((s.tile tile).ep e).hh = BitVec.ofNat 4 (bits v 4 4) := by rw [← hh, BitVec.ofNat_toNat, BitVec.setWidth_eq]
  rw [State.chCtrlOp]
  simp only [hm, ho, (bit0_withField v).2, bits4_withField v 0 (by decide), same, Bool.not_true, Bool.not_false, Bool.false_eq_true, if_false, if_true,
    ne_eq, not_true]

theorem State.endOp_out (s : State) (tile : Nat) (e : Engine) (st : Status) (l : Bool) (v : Nat) :
    (s.endOp tile e st l v).out = s.out ++ [.op tile e st l v] := rfl

theorem State.afterTallies_out (s : State) (tile : Nat) : (s.afterTallies tile).out = s.out := rfl

/-- What the answer to a write leaves of a tile. -/
theorem State.answered_value {α : Type} {f : Tile → α} (hf : ∀ (T : Tile) c, f { T with chans := c } = f T) (s t : State) (w : Src) (tile off : Nat)
    (v : Word) (st : Status) (u : Nat) : f ((s.answered t w tile off v st).tile u) = f (t.tile u) := by
  obtain ⟨cs, h⟩ := s.answered_tile t w tile off v st u
  rw [h]
  exact hf _ _

/-- Settles O38. -/
theorem endpointsAndReceive : Obligations.EndpointsAndReceive := by
  refine ⟨fun s tile e g h he => ?_, fun s tile e g hp hl he => ⟨fun htops calm => ?_, fun htops hg calm => ?_⟩,
    fun s w tile e v hm he => ⟨fun h ho => ?_, fun h ho hh => ?_⟩⟩
  · exact ⟨State.named_byEngine h (decide_eq_true he), State.named_byEngine h (decide_eq_true he)⟩
  · obtain ⟨t, run, ep⟩ := State.exec_boundary_pop hp hl htops calm
    refine ⟨t, run, ?_⟩
    rw [ep, Endpoint.pop]
    cases ((s.tile tile).ep e).head? <;> rfl
  · have others : ∀ f, f ≠ g → ((s.afterTallies tile).tile tile).engine f = .running ∨ ((s.afterTallies tile).tile tile).engine f = .stopped :=
      fun f hf => by rw [State.afterTallies_engine]; exact calm.engines f fun h => hf (Option.some.inj h)
    have recv : ((s.afterTallies tile).tile tile).engine g = .recv e := State.afterTallies_engine g |>.trans hg
    have ep : ((s.afterTallies tile).tile tile).ep e = (s.tile tile).ep e :=
      State.afterTallies_value (f := fun T => T.ep e) (fun _ _ _ => rfl) fun _ _ _ => rfl
    have first : ((s.afterTallies tile).tile tile).regWait = [] :=
      (State.afterTallies_value (f := Tile.regWait) (fun _ _ _ => rfl) fun _ _ _ => rfl).trans calm.first
    have run {r : State} (hr : (s.afterTallies tile).recvMeets tile e g = r) (hf : (r.tile tile).regWait = []) :
        exec (.tallyBoundary tile) s = .next (r.watch tile) :=
      State.exec_boundary hp hl (State.boundary_channels (by rw [htops]; exact fun o ho => absurd ho List.not_mem_nil) (calm.free (by rw [hg]; rfl))
        calm.chans calm.adds) (by rw [htops, State.recvs_one recv others, hr]) calm.busy hf
    have meets := State.recvMeets_eq recv
    rw [ep] at meets
    refine ⟨fun hnone => ?_, fun r hr => ?_⟩
    · rw [hnone] at meets
      refine ⟨_, run meets first, ?_, rfl⟩
      rw [State.watch_value (f := fun T => T.engine g) fun _ _ _ => rfl, recv]
    · rw [hr] at meets
      refine ⟨_, run meets ?_, ?_, ?_, ?_⟩
      · rw [State.endOp_value (f := Tile.regWait) ⟨fun _ _ => rfl, fun _ _ => rfl⟩, first]
      · rw [State.watch_value (f := fun T => T.engine g) fun _ _ _ => rfl, State.endOp_engine]
      · rw [State.watch_value (f := Tile.eps) fun _ _ _ => rfl, State.endOp_value (f := Tile.eps) ⟨fun _ _ => rfl, fun _ _ => rfl⟩]
        exact State.afterTallies_value (f := Tile.eps) (fun _ _ _ => rfl) fun _ _ _ => rfl
      · rw [State.watch_out, State.endOp_out, State.afterTallies_out]
  · refine (if_pos (decide_eq_true he)).trans ?_
    have op := State.chCtrlOp_opens (v := v) hm ho
    by_cases hb : ((s.tile tile).ep e).baseValid = true
    · rw [if_pos hb] at op
      simp only [hb, if_true]
      exact State.tileReg_now_of_eq h op
    · rw [if_neg hb] at op
      simp only [hb]
      exact State.tileReg_now_of_eq h op
  · refine ⟨_, (if_pos (decide_eq_true he)).trans (State.tileReg_now_of_eq h (State.chCtrlOp_closes hm ho hh)), ?_⟩
    obtain ⟨isOpen, recs, ended, others⟩ := s.closeEp_outcome tile e
    rw [State.answered_value (f := fun T => T.ep e) fun _ _ => rfl]
    refine ⟨isOpen, recs, fun f hf => ⟨?_, ?_⟩, fun f hf => ?_⟩
    · rw [State.answered_value (f := fun T => T.engine f) fun _ _ => rfl, (ended f hf).1]
    · rw [State.answered_out]
      split
      · exact (ended f hf).2
      · exact List.mem_append_left _ (ended f hf).2
    · rw [State.answered_value (f := fun T => T.engine f) fun _ _ => rfl, others f hf]

end
end Sys2Proof.Machine
end

section
/-!
The end of a march (spec/10_integrity.md R357 to R360): O41.
-/

namespace Sys2Proof.Machine

open Host

/-- March C− runs on bank 0 of tile 0. -/
def marchingTile : Tile := { march := some { banks := 1, mode := false, bg := false, startup := false } }

def marching : State := { pkg := .yx2, slices := [(0, { power := true, step := 9, tiles := [(0, marchingTile)] })] }

/-- A failing signature comparison on bank 0. -/
def signatureFail : MarchFail := { bank := 0, row := 0, element := 0, kind := 3 }

/-- Refutes O41: it has every failing read of a march set its bank's bit. A signature is compared by the transparent march alone (R359), so March
C− passes over a failure of that kind: in `marching` the bit of bank 0 stays 0. -/
theorem not_marches : ¬ Obligations.Marches := by
  unfold Obligations.Marches
  rintro ⟨-, ends⟩
  obtain ⟨t, ht, -, -, -, -, fails, -⟩ := ends marching 0 _ [signatureFail] (by decide) (by decide) rfl rfl
  have step : exec (.marchEnd 0 [signatureFail]) marching = .next (marching.marchEnd 0 [signatureFail]) := by rfl
  have kept : ((marching.marchEnd 0 [signatureFail]).tile 0).failBanks = 0 := by rfl
  have ht := Outcome.next.inj (step.symm.trans ht)
  have set := fails 0 (by decide)
  rw [← ht, kept] at set
  exact absurd set (by decide)

end Sys2Proof.Machine
end

section
/-!
The gleaner, the check-bit tests and row repair (spec/10_integrity.md R350 to R355, R362, R363): O40.
-/

namespace Sys2Proof.Machine

section
variable {s : State} {tile b row : Nat} {w : Src} {v : Word} {u1 u2 : ByteMask}

/-! ## The checks of a row -/

theorem State.checkRow_right {phys master : Nat} {iss : Option Issuer} (hp : s.poisoned tile b phys = false)
    (h1 : missMask (s.stored tile b phys) ^^^ u1 = 0) :
    s.checkRow tile b row phys master iss u1 u2 = (s, .ok, (s.stored tile b phys).data, 0, false) := by
  rw [State.checkRow]
  dsimp only
  rw [if_neg (by simp [hp]), if_pos h1]

theorem State.checkRow_replayed {phys master : Nat} {iss : Option Issuer} (hp : s.poisoned tile b phys = false)
    (h1 : missMask (s.stored tile b phys) ^^^ u1 ≠ 0) (h2 : missMask (s.stored tile b phys) ^^^ u2 = 0) :
    s.checkRow tile b row phys master iss u1 u2 =
      (s.corrected tile b row phys master (missMask (s.stored tile b phys) ^^^ u1), .ok, (s.stored tile b phys).data, 0, true) := by
  rw [State.checkRow]
  dsimp only
  rw [if_neg (by simp [hp]), if_neg h1, if_pos h2]

theorem State.checkRow_failed {phys master : Nat} {iss : Option Issuer} (hp : s.poisoned tile b phys = false)
    (h1 : missMask (s.stored tile b phys) ^^^ u1 ≠ 0) (h2 : missMask (s.stored tile b phys) ^^^ u2 ≠ 0) :
    s.checkRow tile b row phys master iss u1 u2 =
      (s.uncorrected tile b row phys master (missMask (s.stored tile b phys) ^^^ u2) iss, .uncorr, 0, missMask (s.stored tile b phys) ^^^ u2, true) := by
  rw [State.checkRow]
  dsimp only
  rw [if_neg (by simp [hp]), if_neg h1, if_neg h2]

theorem State.uncorrected_cause (s : State) (tile b row phys master : Nat) (m : ByteMask) (iss : Option Issuer) :
    bit (((s.uncorrected tile b row phys master m iss).slice (tileDie tile)).irq 0).cause 6 = true := State.raise_cause _ _ 0 (by decide)

theorem State.uncorrected_mem (s : State) (tile b row phys master : Nat) (m : ByteMask) (iss : Option Issuer) :
    (s.uncorrected tile b row phys master m iss).mem = s.mem := rfl

/-- An uncorrected event leaves the gleaner's rows. -/
theorem State.uncorrected_glean (s : State) (tile b row phys master : Nat) (m : ByteMask) (iss : Option Issuer) :
    ((s.uncorrected tile b row phys master m iss).tile tile).gleanRow = (s.tile tile).gleanRow := by
  unfold State.uncorrected
  dsimp only
  rw [State.raise_tile, State.record_tile, State.modTile_tile, if_pos rfl]
  rfl

/-! ## The gleaner -/

/-- The rows that the gleaner has still to pass in its lap. -/
theorem gleanRows_find_none {q : Nat → Bool} {r : Nat} (h : ∀ j, r ≤ j → j < 1024 → q j = false) :
    ((List.range (1024 - r)).map (fun k => r + k)).find? q = none := by
  rw [List.find?_eq_none]
  intro j hj
  obtain ⟨k, hk, rfl⟩ := List.mem_map.mp hj
  rw [h _ (Nat.le_add_right r k) (by have := List.mem_range.mp hk; omega)]
  exact Bool.false_ne_true

theorem gleanRows_find_some {q : Nat → Bool} {r row : Nat} (hr : r ≤ row) (h1024 : row < 1024) (h : ∀ j, r ≤ j → j < row → q j = false)
    (hq : q row = true) : ((List.range (1024 - r)).map (fun k => r + k)).find? q = some row := by
  obtain ⟨k, rfl⟩ := Nat.exists_eq_add_of_le hr
  rw [List.find?_map, List.find?_range_eq_some.mpr]
  · rfl
  · exact ⟨hq, List.mem_range.mpr (by omega), fun j hj => by
      rw [Function.comp_apply, h _ (Nat.le_add_right r j) (by omega)]; rfl⟩

theorem Tile.gleanPast_last (T : Tile) (b : Nat) {row : Nat} (h : row = 1023) :
    T.gleanPast b row = { T with gleanRow := T.gleanRow.set b 0, lap := setBit T.lap b true } := if_pos (by omega)

theorem Tile.gleanPast_next (T : Tile) (b : Nat) {row : Nat} (h : row < 1024) (hn : row ≠ 1023) :
    T.gleanPast b row = { T with gleanRow := T.gleanRow.set b (row + 1) } := if_neg (by omega)

theorem Tile.gleanPast_gleanRow (T : Tile) (b : Nat) {row : Nat} (h : row < 1024) :
    Tbl.get 0 (T.gleanPast b row).gleanRow b = if row = 1023 then 0 else row + 1 := by
  by_cases hr : row = 1023
  · rw [T.gleanPast_last b hr, if_pos hr]
    exact (Tbl.get_set _ _ _ _ _).trans (if_pos rfl)
  · rw [T.gleanPast_next b h hr, if_neg hr]
    exact (Tbl.get_set _ _ _ _ _).trans (if_pos rfl)

theorem Tile.gleanPast_poisons (T : Tile) (b row : Nat) : (T.gleanPast b row).poisons = T.poisons := by
  unfold Tile.gleanPast
  split <;> rfl

theorem State.exec_gleanerBeat (hp : s.hasTile tile = true) (hr : s.ready (tileDie tile) = true) (hb : b < 16) (hg : bit (s.tile tile).glean b = true) :
    exec (.gleanerBeat tile b u1 u2) s = .next (s.gleanBeat tile b u1 u2) := by
  refine (State.atTile_next hp (State.live_of_ready hr)).trans (congrArg Host.Outcome.next ?_)
  rw [State.gleanAt, hr, hg, decide_eq_true hb]
  rfl

/-- The gleaner comes to a row that it does not pass over. -/
theorem State.gleanBeat_row (hr : Tbl.get 0 (s.tile tile).gleanRow b ≤ row) (h1024 : row < 1024)
    (skips : ∀ j, Tbl.get 0 (s.tile tile).gleanRow b ≤ j → j < row → s.gleanSkips tile b j = true) (stays : s.gleanSkips tile b row = false) :
    s.gleanBeat tile b u1 u2 = if (s.tile tile).gleanFree b && s.paceDue tile (Tbl.find (s.tile tile).gleanAt b) 64 then
      (s.checkRow tile b row ((s.tile tile).physRow b row) 7 none u1 u2).1.modTile tile
        (fun T => { T.gleanPast b row with gleanAt := T.gleanAt.set b (s.paceNat tile) }) else s := by
  rw [State.gleanBeat]
  dsimp only
  rw [gleanRows_find_some (q := fun k => !s.gleanSkips tile b k) hr h1024 (fun j h1 h2 => by rw [skips j h1 h2]; rfl) (by rw [stays]; rfl)]

theorem State.paceDue_iff (s : State) (tile n : Nat) (last : Option Nat) :
    s.paceDue tile last n = true ↔ ∀ k, last = some k → k + n ≤ s.paceNat tile := by
  cases last with
  | none => simp [State.paceDue]
  | some p => simp [State.paceDue]

/-! ## The check-bit tests -/

section
variable (hm : s.isManager w = true)
include hm

theorem State.testRefused_foreign (h : (s.tile tile).ownerOf (bits v 4 4) ≠ 7) : s.testRefused w tile v = some .deed := by
  rw [State.testRefused]
  rw [hm, if_neg (by decide), if_pos h]

theorem State.testRefused_none (h : (s.tile tile).ownerOf (bits v 4 4) = 7) (hb : (s.tile tile).testBusy = false)
    (ht : (s.tile tile).underTest (bits v 4 4) = false) : s.testRefused w tile v = none := by
  rw [State.testRefused]
  rw [hm, if_neg (by decide), if_neg (not_not_intro h), hb, ht]
  rfl

end

/-- OP of a TL_TEST word leaves its bank, row and flags. -/
theorem withField_test (v : Word) {op : Nat} (ho : op < 4) : bits (withField v 0 2 op) 4 4 = bits v 4 4 ∧
    bits (withField v 0 2 op) 8 10 = bits v 8 10 ∧ bits (withField v 0 2 op) 8 4 = bits v 8 4 ∧
    bit (withField v 0 2 op) 3 = bit v 3 ∧ bit (withField v 0 2 op) 2 = bit v 2 := by
  have flag {k : Nat} (hk : 2 ≤ k) : bit (withField v 0 2 op) k = bit v k := by
    rw [bit_withField, bit_put_outside (len := 2) (x := 2 ^ 2 - 1) (by decide) (.inr hk), bit_put_outside (len := 2) ho (.inr hk)]
    simp
  exact ⟨bits_withField_beside v ho (.inr (by decide)), bits_withField_beside v ho (.inr (by decide)), bits_withField_beside v ho (.inr (by decide)),
    flag (by decide), flag (by decide)⟩

theorem Tile.testPhys_withField (T : Tile) (v : Word) {op : Nat} (ho : op < 4) : T.testPhys (withField v 0 2 op) = T.testPhys v := by
  obtain ⟨hb, hr, hs, h3, -⟩ := withField_test v ho
  rw [Tile.testPhys, Tile.testPhys, hb, hr, hs, h3]

theorem State.stored_congr {t : State} (hm : t.mem = s.mem) (hb : ∀ g, (t.tile g).bg = (s.tile g).bg)
    (he : ∀ d, (t.slice d).epoch = (s.slice d).epoch) (g c q : Nat) :
    t.stored g c q = s.stored g c q := by
  rw [State.stored, State.stored, hm, hb, he]

/-! ## Row repair -/

theorem Tbl.get_of_find {α : Type} {m : Tbl α} {k : Nat} {a d : α} (h : Tbl.find m k = some a) : Tbl.get d m k = a := by
  induction m with
  | nil => nomatch h
  | cons p m ih =>
    obtain ⟨j, b⟩ := p
    by_cases hj : j = k
    · simp only [Tbl.find, hj, if_true, Option.some.injEq] at h
      simp [Tbl.get, hj, h]
    · simp only [Tbl.find, hj, if_false] at h
      simp [Tbl.get, hj, ih h]

/-- A search that neither the new entry nor the one it replaces answers is not touched. -/
theorem Tbl.find?_set_other {α : Type} {m : Tbl α} {k : Nat} {a : α} {q : Nat × α → Bool} (hq : q (k, a) = false)
    (ho : ∀ c, Tbl.find m k = some c → q (k, c) = false) : (m.set k a).find? q = m.find? q := by
  induction m with
  | nil => simp [Tbl.set, hq]
  | cons p m ih =>
    obtain ⟨j, c⟩ := p
    by_cases hk : k < j
    · simp [Tbl.set, hk, hq]
    · by_cases hj : j = k
      · subst hj
        have old := ho c (by simp [Tbl.find])
        simp [Tbl.set, hq, old]
      · have rest := ih fun x hx => ho x (by simp [Tbl.find, hj, hx])
        simp [Tbl.set, hk, hj, List.find?_cons, rest]

/-- A search that the new entry alone answers finds it. -/
theorem Tbl.find?_set_new {α : Type} {m : Tbl α} {k : Nat} {a : α} {q : Nat × α → Bool} (hq : q (k, a) = true) (ho : ∀ p, p ∈ m → q p = false) :
    (m.set k a).find? q = some (k, a) := by
  induction m with
  | nil => simp [Tbl.set, hq]
  | cons p m ih =>
    obtain ⟨j, c⟩ := p
    by_cases hk : k < j
    · simp [Tbl.set, hk, hq]
    · by_cases hj : j = k
      · simp [Tbl.set, hj, hq]
      · have rest := ih fun x hx => ho x (List.mem_cons_of_mem _ hx)
        simp [Tbl.set, hk, hj, ho (j, c) List.mem_cons_self, rest]

/-- The fields of a remap entry are among the bits that it stores. -/
theorem bits_remapEntry (v : Word) {lo len : Nat} (h : lo + len ≤ 18) : bits (v &&& 0x8003FFFF) lo len = bits v lo len := by
  refine Nat.eq_of_testBit_eq fun k => ?_
  rw [bits, bits, Nat.testBit_mod_two_pow, Nat.testBit_mod_two_pow, Nat.testBit_shiftRight, Nat.testBit_shiftRight, BitVec.toNat_and, Nat.testBit_and]
  by_cases hk : k < len
  · have mask : ∀ j, j < 18 → Nat.testBit 0x8003FFFF j = true := by decide
    rw [show (0x8003FFFF : Word).toNat = 0x8003FFFF from rfl, mask (lo + k) (by omega), Bool.and_true]
  · simp [hk]

theorem bit_remapEntry (v : Word) : bit (v &&& 0x8003FFFF) 31 = bit v 31 := by
  rw [bit, bit, BitVec.getLsbD_and]
  simp

/-- A free entry puts its spare row in the place of its row, and nothing else elsewhere. -/
theorem Tile.remapRow_set {T : Tile} {i : Nat} (hi : bit (Tbl.get 0 T.remapRow i) 31 = false) (hv : bit v 31 = true)
    (clash : T.remapRow.any (fun p => bit p.2 31 && bits p.2 10 4 == bits v 10 4 && (bits p.2 0 10 == bits v 0 10 || bits p.2 14 4 == bits v 14 4)) = false) :
    ({ T with remapRow := T.remapRow.set i (v &&& 0x8003FFFF) } : Tile).physRow (bits v 10 4) (bits v 0 10) = 1024 + bits v 14 4 ∧
      ∀ c q, c ≠ bits v 10 4 ∨ q ≠ bits v 0 10 →
        ({ T with remapRow := T.remapRow.set i (v &&& 0x8003FFFF) } : Tile).physRow c q = T.physRow c q := by
  have bank := bits_remapEntry v (lo := 10) (len := 4) (by decide)
  have row := bits_remapEntry v (lo := 0) (len := 10) (by decide)
  have spare := bits_remapEntry v (lo := 14) (len := 4) (by decide)
  constructor
  · rw [Tile.physRow, Tile.spareOf, Tbl.find?_set_new]
    · exact congrArg (1024 + ·) spare
    · simp only [bank, row, bit_remapEntry, hv, beq_self_eq_true, Bool.and_true]
    · intro p hp
      have := (List.any_eq_false.mp clash) p hp
      by_contra hq
      rw [Bool.not_eq_false, Bool.and_eq_true, Bool.and_eq_true] at hq
      obtain ⟨⟨h31, hb⟩, hr⟩ := hq
      exact this (by rw [h31, hb, hr]; rfl)
  · intro c q hcq
    rw [Tile.physRow, Tile.physRow, Tile.spareOf, Tile.spareOf, Tbl.find?_set_other]
    · simp only [bank, row]
      rcases hcq with h | h
      · simp [beq_eq_false_iff_ne.mpr (Ne.symm h)]
      · simp [beq_eq_false_iff_ne.mpr (Ne.symm h)]
    · intro x hx
      rw [Tbl.get_of_find hx] at hi
      simp [hi]


/-- Of a row that a test operation may act on, CHECK reads and checks the row. -/
theorem State.checkOp_reads (hn : s.testRefused w tile v = none) (hu : bit v 3 = true ∨ s.unswept tile (bits v 4 4) (bits v 8 10) = false)
    {x : State × Status × RowData × ByteMask × Bool}
    (hx : s.checkRow tile (bits v 4 4) (bits v 8 10) ((s.tile tile).testPhys v) 7 none
      (if bit v 2 then missMask (s.stored tile (bits v 4 4) ((s.tile tile).testPhys v)) ^^^ BitVec.allOnes 64 else u1) u2 = x) :
    s.checkOp w tile v u1 u2 =
      (x.1.modTile tile (fun T => { T.testFields v with testStatus := x.2.1, testPar := x.2.2.2.1, testReplayed := x.2.2.2.2 }), .ok) := by
  rw [State.checkOp, hn]
  dsimp only
  rw [if_neg, hx]
  rcases hu with h | h <;> simp [h]

/-- The first check of a row with INJ misses on every byte. -/
theorem injected_miss (k : ByteMask) : k ^^^ (k ^^^ BitVec.allOnes 64) ≠ 0 := by
  rw [← BitVec.xor_assoc, BitVec.xor_self, BitVec.zero_xor]
  decide

theorem State.writeparOp_stores (hn : s.testRefused w tile v = none) : s.writeparOp w tile v =
    ((s.putRow tile (bits v 4 4) ((s.tile tile).testPhys v)
      { data := (s.stored tile (bits v 4 4) ((s.tile tile).testPhys v)).data, par := (s.tile tile).testPar }).modTile tile
        (fun T => { T.testFields v with testStatus := .ok }), .ok) := by
  rw [State.writeparOp, hn]

theorem State.readrawOp_reads (hn : s.testRefused w tile v = none) : s.readrawOp w tile v =
    (s.modTile tile (fun T => { T.testFields v with testStatus := .ok, testPar := (s.stored tile (bits v 4 4) ((s.tile tile).testPhys v)).par }), .ok) := by
  rw [State.readrawOp, hn]

/-- Every row after a WRITEPAR. -/
theorem State.writepar_stored {c p : Nat} (r : Row) (off : Nat) (x : Word) (st : Status) (g d q : Nat) :
    (s.answered ((s.putRow tile c p r).modTile tile (fun T => { T.testFields v with testStatus := .ok })) w tile off x st).stored g d q =
      if rowKey g d q = rowKey tile c p then r else s.stored g d q := by
  have eq := State.stored_congr (t := s.answered ((s.putRow tile c p r).modTile tile (fun T => { T.testFields v with testStatus := .ok })) w tile off x st)
    (s := s.putRow tile c p r) (State.answered_rest s _ w tile off x st).1
    (fun g => by
      rw [State.answered_value (f := Tile.bg) fun _ _ => rfl]
      exact State.modTile_value _ tile g rfl)
    (fun d => by
      obtain ⟨ts, h⟩ := s.answered_slice ((s.putRow tile c p r).modTile tile (fun T => { T.testFields v with testStatus := .ok })) w tile off x st d
      obtain ⟨l, h'⟩ := State.modTile_slice (s.putRow tile c p r) tile (fun T => { T.testFields v with testStatus := .ok }) d
      rw [h, h']) g d q
  rw [eq, State.putRow_stored]
  exact if_congr eq_comm rfl rfl

/-- Settles O40. -/
theorem rowChecksAndRepair : Obligations.RowChecksAndRepair := by
  refine ⟨fun s tile b u1 u2 hp hr hb hg => ?_, fun s w tile v u1 u2 hm => ?_, fun s w tile i v h hm hi => ?_⟩
  · intro r past read may
    have run := State.exec_gleanerBeat (u1 := u1) (u2 := u2) hp hr hb hg
    refine ⟨fun skips => run.trans ?_, fun row hrow h1024 skips stays => ?_⟩
    · rw [State.gleanBeat]
      dsimp only
      rw [gleanRows_find_none (q := fun k => !s.gleanSkips tile b k) fun j h1 h2 => by rw [skips j h1 h2]; rfl]
      exact congrArg Host.Outcome.next (State.modTile_congr ((Tile.gleanPast_last _ b rfl).trans (if_pos rfl).symm))
    · intro p k
      have beat := State.gleanBeat_row (u1 := u1) (u2 := u2) hrow h1024 skips stays
      have due : ((s.tile tile).gleanFree b && s.paceDue tile (Tbl.find (s.tile tile).gleanAt b) 64) = true ↔ may := by
        rw [Bool.and_eq_true, State.paceDue_iff]
      have clean : s.poisoned tile b p = false := by
        rw [State.gleanSkips, Bool.or_eq_false_iff, Bool.or_eq_false_iff] at stays
        exact stays.1.2
      refine ⟨fun hmay => ?_, fun hmay hk => ?_, fun hmay hk1 hk2 => ?_⟩
      · rw [if_neg (fun h => hmay (due.mp h))] at beat
        exact run.trans (congrArg Host.Outcome.next beat)
      · rw [if_pos (due.mpr hmay), State.checkRow_right clean hk] at beat
        refine run.trans (congrArg Host.Outcome.next (beat.trans (State.modTile_congr ?_)))
        by_cases hl : row = 1023
        · rw [Tile.gleanPast_last _ b hl]
          dsimp only [read, past]
          rw [if_pos hl]
        · rw [Tile.gleanPast_next _ b h1024 hl]
          dsimp only [read, past]
          rw [if_neg hl]
      · rw [if_pos (due.mpr hmay), State.checkRow_failed clean hk1 hk2] at beat
        obtain ⟨poisoned, poisons⟩ := s.uncorrected_outcome tile b row p 7 (missMask (s.stored tile b p) ^^^ u2) none
        refine ⟨_, run.trans (congrArg Host.Outcome.next beat), poisoned, ?_, ?_, ?_, s.uncorrected_mem tile b row p 7 (missMask (s.stored tile b p) ^^^ u2) none⟩
        · rw [State.modTile_tile, if_pos rfl, ← poisons]
          exact Tile.gleanPast_poisons _ b row
        · obtain ⟨l, hl⟩ := State.modTile_slice (s.uncorrected tile b row p 7 (missMask (s.stored tile b p) ^^^ u2) none) tile
            (fun T => { T.gleanPast b row with gleanAt := T.gleanAt.set b (s.paceNat tile) }) (tileDie tile)
          rw [hl]
          exact s.uncorrected_cause tile b row p 7 (missMask (s.stored tile b p) ^^^ u2) none
        · rw [State.modTile_tile, if_pos rfl]
          exact Tile.gleanPast_gleanRow _ b h1024
  · intro takes b p k
    have fields {op : Nat} (ho : op < 4) := withField_test v ho
    have phys {op : Nat} (ho : op < 4) : (s.tile tile).testPhys (withField v 0 2 op) = p := Tile.testPhys_withField _ v ho
    refine ⟨fun foreign => ?_, fun own busy test => ?_⟩
    · have deed {op : Nat} (ho : op < 4) : s.testRefused w tile (withField v 0 2 op) = some .deed :=
        State.testRefused_foreign hm (by rw [(fields ho).1]; exact foreign)
      refine ⟨fun h => State.tileReg_now_of_eq h ?_, fun h => State.tileReg_now_of_eq h ?_, fun h => State.tileReg_now_of_eq h ?_⟩
      · rw [State.writeparOp, deed (by decide)]
      · rw [State.readrawOp, deed (by decide)]
      · rw [State.checkOp, deed (by decide)]
    · have free {op : Nat} (ho : op < 4) : s.testRefused w tile (withField v 0 2 op) = none :=
        State.testRefused_none hm (by rw [(fields ho).1]; exact own) busy (by rw [(fields ho).1]; exact test)
      refine ⟨fun h => ?_, fun h => ?_, fun h clean swept => ?_⟩
      · have op := State.writeparOp_stores (free (op := 1) (by decide))
        rw [(fields (by decide)).1, phys (by decide)] at op
        refine ⟨_, State.tileReg_now_of_eq h op, ?_, fun g c q => State.writepar_stored _ _ _ _ g c q⟩
        exact (State.answered_rest s _ w tile 0x840 (withField v 0 2 1) .ok).2.1
      · have op := State.readrawOp_reads (free (op := 2) (by decide))
        rw [(fields (by decide)).1, phys (by decide)] at op
        refine ⟨_, State.tileReg_now_of_eq h op, ?_, (State.answered_rest s _ w tile 0x840 (withField v 0 2 2) .ok).1⟩
        rw [State.answered_value (f := Tile.testPar) fun _ _ => rfl, State.modTile_tile, if_pos rfl]
      · obtain ⟨hb, hr, -, h3, h2⟩ := fields (op := 3) (by decide)
        have op {x : State × Status × RowData × ByteMask × Bool}
            (hx : s.checkRow tile b (bits v 8 10) p 7 none (if bit v 2 then k ^^^ BitVec.allOnes 64 else u1) u2 = x) :
            exec (.check w tile v u1 u2) s = .next (s.answered (x.1.modTile tile (fun T =>
              { T.testFields (withField v 0 2 3) with testStatus := x.2.1, testPar := x.2.2.2.1, testReplayed := x.2.2.2.2 })) w tile 0x840
              (withField v 0 2 3) .ok) :=
          State.tileReg_now_of_eq h (State.checkOp_reads (free (by decide)) (by rw [hb, hr, h3]; exact swept) (by
            rw [hb, hr, h2, phys (by decide)]
            exact hx))
        have tile' (u : State) (f : Tile → Tile) : (s.answered (u.modTile tile f) w tile 0x840 (withField v 0 2 3) .ok).tile tile =
            { f (u.tile tile) with chans := ((s.answered (u.modTile tile f) w tile 0x840 (withField v 0 2 3) .ok).tile tile).chans } := by
          obtain ⟨cs, hcs⟩ := s.answered_tile (u.modTile tile f) w tile 0x840 (withField v 0 2 3) .ok tile
          rw [State.modTile_tile, if_pos rfl] at hcs
          rw [hcs]
        refine ⟨fun inj hk => ?_, fun inj hk => ?_, fun inj hk => ?_⟩
        · rw [inj] at op
          refine ⟨_, op (State.checkRow_right clean hk), ?_, ?_, ?_, ?_⟩ <;> rw [tile']
          rfl
        · rw [inj] at op
          obtain ⟨replays, -⟩ := s.corrected_outcome tile b (bits v 8 10) p 7 (missMask (s.stored tile b p) ^^^ (k ^^^ BitVec.allOnes 64))
          refine ⟨_, op (State.checkRow_replayed clean (injected_miss k) hk), ?_, ?_, ?_⟩ <;> rw [tile']
          exact replays
        · rw [inj] at op
          obtain ⟨poisoned, -⟩ := s.uncorrected_outcome tile b (bits v 8 10) p 7 (missMask (s.stored tile b p) ^^^ u2) none
          refine ⟨_, op (State.checkRow_failed clean (injected_miss k) hk), ?_, ?_, ?_⟩
          · rw [tile']
          · rw [tile']
          · rw [State.poisoned, (State.answered_rest s _ w tile 0x840 (withField v 0 2 3) .ok).2.1]
            exact poisoned
  · intro b clash
    have run {t : State} {st : Status} (ho : s.remapRowOp w tile i v = (t, st)) :
        exec (.remapRowWrite w tile i v) s = .next (s.answered t w tile (0x880 + 4 * i) v st) :=
      (if_pos (decide_eq_true hi)).trans (State.tileReg_now_of_eq h ho)
    have op {T : Tile} {st : Status} (hT : (s.tile tile).remapWrite i v = (T, st)) : s.remapRowOp w tile i v = (s.setTile tile T, st) := by
      rw [State.remapRowOp, hm, hT]
      rfl
    refine ⟨fun valid => run (op ?_), fun free hv owner hclash => ?_, fun free hv h0 h7 => run (op ?_)⟩
    · exact if_pos (by rw [valid]; rfl)
    · have write : (s.tile tile).remapWrite i v = ({ s.tile tile with remapRow := (s.tile tile).remapRow.set i (v &&& 0x8003FFFF) }, .ok) := by
        rw [Tile.remapWrite]
        dsimp only
        rw [free, hv, if_neg (by decide), if_neg, if_neg]
        · exact Bool.eq_false_iff.mp hclash
        · rcases owner with ho | ho <;> simp [b, ho]
      obtain ⟨phys, others⟩ := Tile.remapRow_set free hv hclash
      refine ⟨_, run (op write), rfl, ?_, fun c q hcq => ?_⟩
      · rw [State.setTile_tile, if_pos rfl]
        exact phys
      · rw [State.setTile_tile, if_pos rfl]
        exact others c q hcq
    · rw [Tile.remapWrite, free, hv, if_neg (by decide), if_pos]
      · rfl
      · rw [Bool.and_eq_true, bne_iff_ne, bne_iff_ne]
        exact ⟨h0, h7⟩

end
end Sys2Proof.Machine
end

section
/-!
What the stream engine of a tile changes as it fetches, looks up and issues (spec/05_stream_engine.md R155 to R167): its requests, its
local accesses and what their answers bring, and the watchman.
-/

namespace Sys2Proof.Machine

/-! ## What requests and their answers leave alone -/

/-- `k` depends on nothing of a channel that the answer to a request, or a failure, changes. -/
def Channel.AnswerFree {β : Type} (k : Channel → β) : Prop :=
  ∀ (c : Channel) l d b x o n q i, k { c with l := l, demoted := d, fetching := b, fetched := x, outst := o, need := n, fail := q, inBuf := i } = k c

/-- `f` depends on nothing of a tile that its stream engine's requests, their answers or its watchman change. -/
def Tile.StreamFree {β : Type} (f : Tile → β) : Prop :=
  ∀ (T : Tile) c b q a n i m w v,
    f { T with chans := c, blocks := b, sends := q, accs := a, deedFlt := n, idxWant := i, mcLag := m, wmFrom := w, wmNow := v } = f T

/-- `g` depends neither on the tiles of a slice nor on its default target. -/
def Slice.StreamFree {β : Type} (g : Slice → β) : Prop := ∀ (S : Slice) l a w, g { S with tiles := l, decAddr := a, decSrc := w } = g S

/-- From `s` to `t` only the stream engine of a tile has changed, and default targets. -/
structure State.EngineOnly (t s : State) : Prop where
  out : t.out = s.out
  slice : ∀ {β : Type} (g : Slice → β), Slice.StreamFree g → ∀ d, g (t.slice d) = g (s.slice d)
  tiles : ∀ {β : Type} (f : Tile → β), Tile.StreamFree f → ∀ u, f (t.tile u) = f (s.tile u)

/-- From `s` to `t` the stream engine of a tile has issued requests, and taken answers. -/
structure State.Streams (g : Nat) (t s : State) : Prop extends State.EngineOnly t s where
  chan : ∀ {β : Type} (k : Channel → β), Channel.AnswerFree k → ∀ m, k (t.chan g m) = k (s.chan g m)

/-- A change of a tile that its stream engine makes. -/
structure Tile.StreamStep (h : Tile → Tile) : Prop where
  tile : ∀ {β : Type} (f : Tile → β), Tile.StreamFree f → ∀ T, f (h T) = f T
  chan : ∀ {β : Type} (k : Channel → β), Channel.AnswerFree k → ∀ T m, k ((h T).chan m) = k (T.chan m)

variable {s t u : State} {tile n : Nat}

theorem State.EngineOnly.trans (h : u.EngineOnly t) (h' : t.EngineOnly s) : u.EngineOnly s :=
  ⟨h.out.trans h'.out, fun g hg d => (h.slice g hg d).trans (h'.slice g hg d), fun f hf v => (h.tiles f hf v).trans (h'.tiles f hf v)⟩

theorem State.streams_refl (s : State) : s.Streams tile s := ⟨⟨rfl, fun _ _ _ => rfl, fun _ _ _ => rfl⟩, fun _ _ _ => rfl⟩

theorem State.Streams.trans (h : u.Streams tile t) (h' : t.Streams tile s) : u.Streams tile s :=
  ⟨h.toEngineOnly.trans h'.toEngineOnly, fun k hk m => (h.chan k hk m).trans (h'.chan k hk m)⟩

theorem Tile.StreamStep.comp {h g : Tile → Tile} (hh : Tile.StreamStep h) (hg : Tile.StreamStep g) : Tile.StreamStep (fun T => h (g T)) :=
  ⟨fun f hf T => (hh.tile f hf _).trans (hg.tile f hf T), fun k hk T m => (hh.chan k hk _ m).trans (hg.chan k hk T m)⟩

/-- A change of a tile that does not touch its channels. -/
theorem Tile.StreamStep.of_chans {h : Tile → Tile} (hc : ∀ T, (h T).chans = T.chans) (hf : ∀ {β : Type} (f : Tile → β), Tile.StreamFree f → ∀ T, f (h T) = f T) :
    Tile.StreamStep h :=
  ⟨hf, fun k _ T m => by rw [Tile.chan, hc]; rfl⟩

/-- A change of a channel that answers and failures make. -/
theorem Tile.StreamStep.setChan {q : Channel → Channel} (n : Nat) (hq : ∀ {β : Type} (k : Channel → β), Channel.AnswerFree k → ∀ c, k (q c) = k c) :
    Tile.StreamStep (fun T => T.setChan n (q (T.chan n))) :=
  ⟨fun f hf T => hf T _ T.blocks T.sends T.accs T.deedFlt T.idxWant T.mcLag T.wmFrom T.wmNow, fun k hk T m => by
    rw [Tile.setChan_chan]
    split
    · next h => rw [hq k hk, h]
    · rfl⟩

theorem State.EngineOnly.of_modTile {h : Tile → Tile} (hh : ∀ {β : Type} (f : Tile → β), Tile.StreamFree f → ∀ T, f (h T) = f T) (s : State) (tile : Nat) :
    (s.modTile tile h).EngineOnly s where
  out := rfl
  slice g hg d := by
    obtain ⟨l, hl⟩ := s.modTile_slice tile h d
    rw [hl]
    exact hg _ l _ _
  tiles f hf u := State.modTile_value s tile u (hh f hf _)

theorem State.Streams.of_modTile {h : Tile → Tile} (hh : Tile.StreamStep h) (s : State) (tile : Nat) : (s.modTile tile h).Streams tile s where
  toEngineOnly := .of_modTile hh.tile s tile
  chan k hk m := by
    rw [State.chan, State.modTile_tile, if_pos rfl]
    exact hh.chan k hk _ m

theorem State.Streams.of_modChan {q : Channel → Channel} (hq : ∀ {β : Type} (k : Channel → β), Channel.AnswerFree k → ∀ c, k (q c) = k c)
    (s : State) (tile n : Nat) : (s.modChan tile n q).Streams tile s :=
  State.Streams.of_modTile (Tile.StreamStep.setChan n hq) s tile

theorem State.takeId_streams (s : State) : s.takeId.Streams tile s :=
  ⟨⟨rfl, fun _ _ _ => rfl, fun _ _ _ => rfl⟩, fun _ _ _ => rfl⟩

theorem State.launch_streams (s : State) (p : Packet) : (s.launch p).Streams tile s :=
  ⟨⟨rfl, fun _ _ _ => rfl, fun _ _ _ => rfl⟩, fun _ _ _ => rfl⟩

theorem State.Streams.foldl {ι : Type} {k : State → ι → State} (h : ∀ t x, (k t x).Streams tile t) (l : List ι) (s : State) :
    (l.foldl k s).Streams tile s := by
  induction l generalizing s with
  | nil => exact s.streams_refl
  | cons x l ih => exact (ih _).trans (h s x)

theorem State.watch_streams (s : State) (tile : Nat) : (s.watch tile).Streams tile s :=
  State.Streams.of_modTile (.of_chans (fun T => by unfold Tile.watch; split <;> rfl)
    (fun f hf T => by
      unfold Tile.watch
      split
      · exact hf T T.chans T.blocks T.sends T.accs T.deedFlt T.idxWant T.mcLag _ T.wmNow
      · exact hf T T.chans T.blocks T.sends T.accs T.deedFlt T.idxWant T.mcLag _ _)) s tile

/-! ## Accesses of the local side -/

/-- An access whose outcome the stream engine takes. -/
def Dest.ofStream : Dest → Bool
  | .burst _ _ _ | .fetch _ | .index _ | .sendRead _ _ => true
  | _ => false

theorem Channel.addFail_free {β : Type} {k : Channel → β} (hk : Channel.AnswerFree k) (c : Channel) (f : ChFail) : k (c.addFail f) = k c := by
  have failed : ∀ q, k { c with fail := q } = k c := fun q => hk c c.l c.demoted c.fetching c.fetched c.outst c.need q c.inBuf
  unfold Channel.addFail
  split
  · exact failed _
  · split
    · exact failed _
    · rfl

theorem Channel.tagged_free {β : Type} {k : Channel → β} (hk : Channel.AnswerFree k) (c : Channel) (l d : Bool) : k (c.tagged l d) = k c :=
  hk c _ _ c.fetching c.fetched c.outst c.need c.fail c.inBuf

theorem Channel.burstAnswer_free {β : Type} {k : Channel → β} (hk : Channel.AnswerFree k) (c : Channel) (ord unit first : Nat) (write : Bool) (addr : Nat)
    (st : Status) (data : List RowData) (l d : Bool) : k (c.burstAnswer ord unit first write addr st data l d) = k c := by
  unfold Channel.burstAnswer
  extract_lets c'
  have h : k c' = k c := hk c _ _ c.fetching c.fetched _ _ c.fail c.inBuf
  clear_value c'
  split
  · exact (Channel.addFail_free hk _ _).trans h
  · split
    · exact h
    · exact (hk c' c'.l c'.demoted c'.fetching c'.fetched c'.outst c'.need c'.fail _).trans h

theorem Tile.tagBlock_step (b : Nat) (l d : Bool) : Tile.StreamStep (fun T => T.tagBlock b l d) where
  tile f hf T := by
    unfold Tile.tagBlock
    split
    · rfl
    · next q _ => exact (Tile.StreamStep.setChan (q := fun c => c.tagged l d) q.chan (fun k hk c => Channel.tagged_free hk c l d)).tile f hf T
  chan k hk T m := by
    unfold Tile.tagBlock
    split
    · rfl
    · next q _ => exact (Tile.StreamStep.setChan (q := fun c => c.tagged l d) q.chan (fun k hk c => Channel.tagged_free hk c l d)).chan k hk T m

theorem Tile.StreamStep.blocks (g : List IndexBlock → List IndexBlock) : Tile.StreamStep (fun T => { T with blocks := g T.blocks }) :=
  .of_chans (fun _ => rfl) fun _ hf T => hf T T.chans _ T.sends T.accs T.deedFlt T.idxWant T.mcLag T.wmFrom T.wmNow

theorem Tile.StreamStep.accs (g : Tile → List Access) : Tile.StreamStep (fun T => { T with accs := g T }) :=
  .of_chans (fun _ => rfl) fun _ hf T => hf T T.chans T.blocks T.sends _ T.deedFlt T.idxWant T.mcLag T.wmFrom T.wmNow

theorem Tile.StreamStep.wants (g : Tile → List (Nat × Nat)) : Tile.StreamStep (fun T => { T with idxWant := g T }) :=
  .of_chans (fun _ => rfl) fun _ hf T => hf T T.chans T.blocks T.sends T.accs T.deedFlt _ T.mcLag T.wmFrom T.wmNow

/-- The outcome of an access of the stream engine is a change of its tile. -/
theorem State.deliver_stream (s : State) (tile : Nat) (a : Access) (st : Status) (h : a.dest.ofStream = true) :
    ∃ q, s.deliver tile a st = s.modTile tile q ∧ Tile.StreamStep q := by
  unfold State.deliver
  extract_lets data l
  cases hd : a.dest with
  | burst ch unit first => exact ⟨_, rfl, .setChan ch fun k hk c => Channel.burstAnswer_free hk ..⟩
  | fetch ch =>
    exact ⟨_, rfl, .setChan (q := fun c => { c.tagged l a.demoted with fetched := some (st, data.headD 0), fetching := false }) ch
      fun k hk c => hk c _ _ _ _ c.outst c.need c.fail c.inBuf⟩
  | index b =>
    refine ⟨_, rfl, fun f hf T => ?_, fun k hk T m => (Tile.tagBlock_step b l a.demoted).chan k hk T m⟩
    exact ((Tile.StreamStep.blocks (fun _ => updWhere (fun q => q.id == b) (fun q => q.answer 0 st data) T.blocks)).tile f hf _).trans
      ((Tile.tagBlock_step b l a.demoted).tile f hf T)
  | sendRead e unit =>
    exact ⟨_, rfl, .of_chans (fun _ => rfl) fun f hf T => hf T T.chans T.blocks _ T.accs T.deedFlt T.idxWant T.mcLag T.wmFrom T.wmNow⟩
  | port => simp [Dest.ofStream, hd] at h
  | packet => simp [Dest.ofStream, hd] at h
  | flush => simp [Dest.ofStream, hd] at h
  | dropped => simp [Dest.ofStream, hd] at h

/-- A request reaches its bank, or is answered at once: a change of its tile, as its outcome is one. -/
theorem State.reach_modTile {P : (Tile → Tile) → Prop} (s : State) (tile : Nat) (a : Access) (hput : ∀ g : Tile → List Access, P fun T => { T with accs := g T })
    (hdeny : ∀ (t : State) st, ∃ q, t.deliver tile a st = t.modTile tile q ∧ P q) (hdeed : ∀ q, P q → P fun T => q (T.countDeed.dropAcc a.id)) :
    ∃ q, s.reach tile a = s.modTile tile q ∧ P q := by
  unfold State.reach
  split
  · exact hdeny s _
  · split
    · exact hdeny s _
    · unfold State.offer
      extract_lets T put adm
      have puts : ∀ b, ∃ q, put b = s.modTile tile q ∧ P q := fun b => ⟨_, rfl, hput _⟩
      clear_value put adm
      cases adm with
      | hold => exact puts _
      | refuse =>
        obtain ⟨q, hq, step⟩ := hdeny ((s.modTile tile Tile.countDeed).modTile tile (fun T => T.dropAcc a.id)) .deed
        refine ⟨_, ?_, hdeed q step⟩
        unfold State.refuseDeed
        rw [hq, State.modTile_modTile, State.modTile_modTile]
      | allow =>
        dsimp only
        split
        · exact puts _
        · split
          · exact puts _
          · exact puts _

/-- A request of the stream engine is a change of its tile. -/
theorem State.reach_stream (s : State) (tile : Nat) (a : Access) (h : a.dest.ofStream = true) :
    ∃ q, s.reach tile a = s.modTile tile q ∧ Tile.StreamStep q :=
  s.reach_modTile tile a Tile.StreamStep.accs (fun t st => t.deliver_stream tile a st h) fun _ step => step.comp (g := fun T => T.countDeed.dropAcc a.id)
    (.of_chans (fun _ => rfl) fun _ hf T => hf T T.chans T.blocks T.sends _ _ T.idxWant T.mcLag T.wmFrom T.wmNow)

theorem State.reach_streams (s : State) (tile : Nat) (a : Access) (h : a.dest.ofStream = true) :
    (s.reach tile a).Streams tile s ∧ (s.reach tile a).net = s.net := by
  obtain ⟨q, hq, step⟩ := s.reach_stream tile a h
  rw [hq]
  exact ⟨.of_modTile step s tile, rfl⟩

theorem State.stRead_streams (s : State) (tile off m qos : Nat) (iss : Issuer) {dest : Dest} (h : dest.ofStream = true) :
    (s.stRead tile off m qos iss dest).Streams tile s :=
  (State.reach_streams s.takeId tile _ h).1.trans s.takeId_streams

/-! ## Lookups and fetches -/

theorem State.lookup_streams (h : s.lookup tile n dir a qos tag = some t) : t.Streams tile s := by
  obtain ⟨e, _, rfl⟩ := Option.map_eq_some_iff.mp h
  exact State.launch_streams _ _

theorem State.failNow_streams (s : State) (tile n : Nat) (a : Addr) (dir : Nat) (st : Status) (unit : Nat) :
    (s.failNow tile n a dir st unit).Streams tile s :=
  .of_modChan (fun _ hk c => Channel.addFail_free hk c _) s tile n

theorem State.latchDecerr_streams (s : State) (d : Nat) (a : Addr) (i : Issuer) : (s.latchDecerr d a i).Streams tile s where
  out := rfl
  slice g hg e := by
    rw [State.latchDecerr, State.modSlice_slice]
    split
    · next h =>
      rw [h]
      unfold Slice.latchDecerr
      split
      · exact hg _ (s.slice e).tiles (s.slice e).decAddr _
      · exact hg _ (s.slice e).tiles _ _
    · rfl
  tiles f hf u := congrArg f (State.modSlice_tile s d u (fun S => by unfold Slice.latchDecerr; split <;> rfl) (fun S => by unfold Slice.latchDecerr; split <;> rfl))
  chan k hk m := congrArg (fun T : Tile => k (T.chan m))
    (State.modSlice_tile s d tile (fun S => by unfold Slice.latchDecerr; split <;> rfl) (fun S => by unfold Slice.latchDecerr; split <;> rfl))

theorem State.failDefault_streams (s : State) (tile n : Nat) (a : Addr) (dir unit : Nat) : (s.failDefault tile n a dir unit).Streams tile s :=
  (State.failNow_streams _ tile n a dir .decerr unit).trans (s.latchDecerr_streams (tileDie tile) a _)

/-- A channel fetches the entry at HEAD: of the channel, and of the tile, only requests and answers change. -/
theorem State.fetch_streams (s : State) (tile n : Nat) : (s.fetch tile n).Streams tile s := by
  have marked : ∀ (u : State) b x, (u.modChan tile n (fun c => { c with fetching := b, fetched := x })).Streams tile u := fun u b x =>
    .of_modChan (fun k hk c => hk c c.l c.demoted b x c.outst c.need c.fail c.inBuf) u tile n
  unfold State.fetch
  extract_lets c a s'
  have step : s'.Streams tile s := marked s true none
  clear_value s'
  split
  · exact (State.stRead_streams s' tile _ _ _ _ rfl).trans step
  · split
    · next h => exact (State.lookup_streams h).trans step
    · exact (marked s' _ _).trans step

/-- The channel that goes to its next descriptor, as its fetch leaves it. -/
theorem State.fetchNext_chan {β : Type} {k : Channel → β} (hk : Channel.AnswerFree k) (s : State) (tile n : Nat) (st : ChState) :
    k ((s.fetchNext tile n st).chan tile n) = k { s.chan tile n with state := st, snap := none } := by
  rw [State.fetchNext, (State.fetch_streams _ tile n).chan k hk, State.chan, State.modTile_tile, if_pos rfl]
  refine (congrArg k ((Tile.setChan_chan (s.tile tile) n n _).trans (if_pos rfl))).trans ?_
  exact hk { s.chan tile n with state := st, snap := none } false false _ _ _ _ none _

theorem Tile.StreamFree.chans {β : Type} {f : Tile → β} (hf : Tile.StreamFree f) (T : Tile) (l : Tbl Channel) : f { T with chans := l } = f T :=
  hf T l T.blocks T.sends T.accs T.deedFlt T.idxWant T.mcLag T.wmFrom T.wmNow

theorem State.EngineOnly.of_modChan (q : Channel → Channel) (s : State) (tile n : Nat) : (s.modChan tile n q).EngineOnly s :=
  .of_modTile (fun _ hf T => hf.chans T _) s tile

theorem State.fetchNext_engine (s : State) (tile n : Nat) (st : ChState) : (s.fetchNext tile n st).EngineOnly s :=
  (State.fetch_streams _ tile n).toEngineOnly.trans
    (.of_modTile (fun _ hf T => hf T _ T.blocks T.sends T.accs T.deedFlt T.idxWant _ T.wmFrom T.wmNow) s tile)

theorem State.dropBlocks_streams (s : State) (tile n : Nat) : (s.modTile tile (fun T => T.dropBlocks n)).Streams tile s :=
  .of_modTile (h := fun T => T.dropBlocks n)
    (.of_chans (fun _ => rfl) fun _ hf T => hf T T.chans _ T.sends T.accs T.deedFlt _ T.mcLag T.wmFrom T.wmNow) s tile

/-- A change of a tile that leaves its channels. -/
theorem State.modTile_chan {h : Tile → Tile} (hc : ∀ T, (h T).chans = T.chans) (s : State) (g u m : Nat) : (s.modTile g h).chan u m = s.chan u m :=
  State.modTile_value (f := fun T => T.chan m) s g u (by rw [Tile.chan, hc]; rfl)

theorem State.watch_chan (s : State) (tile u m : Nat) : (s.watch tile).chan u m = s.chan u m :=
  State.modTile_chan (h := fun T => T.watch (s.paceNat tile)) (fun T => by unfold Tile.watch; split <;> rfl) s tile u m

/-! ## How a channel goes on -/

theorem State.toIdle_engine (s : State) (tile n : Nat) : (s.toIdle tile n).EngineOnly s := by
  unfold State.toIdle
  extract_lets s'
  have step : s'.EngineOnly s := .of_modChan _ s tile n
  clear_value s'
  split
  · exact (s'.fetchNext_engine tile n .run).trans step
  · exact step

theorem State.toIdle_head (s : State) (tile n : Nat) : ((s.toIdle tile n).chan tile n).head = (s.chan tile n).head := by
  unfold State.toIdle
  extract_lets s'
  have step : (s'.chan tile n).head = (s.chan tile n).head := by rw [State.modChan_chan, if_pos rfl]
  clear_value s'
  split
  · exact (State.fetchNext_chan (k := fun c : Channel => c.head) (fun _ _ _ _ _ _ _ _ _ => rfl) s' tile n .run).trans step
  · exact step

/-- A channel enters IDLE and stays there if its ring is local, or empty. -/
theorem State.toIdle_idle {s : State} (h : (s.chan tile n).hhRing = false ∨ (s.chan tile n).head = (s.chan tile n).tail) :
    s.toIdle tile n = s.modChan tile n (fun c => { c with state := .idle }) := by
  refine if_neg fun q => ?_
  rw [State.modChan_chan, if_pos rfl, Bool.and_eq_true, bne_iff_ne] at q
  exact h.elim (fun e => Bool.false_ne_true (e.symm.trans q.1)) q.2

/-- The channel whose descriptor has ended, its work cleared. -/
def State.worked (s : State) (tile n : Nat) : State := (s.modChan tile n Channel.cleared).modTile tile (fun T => T.dropBlocks n)

theorem State.worked_chan (s : State) (tile n : Nat) : (s.worked tile n).chan tile n = (s.chan tile n).cleared := by
  rw [State.worked, State.modTile_chan (h := fun T => T.dropBlocks n) fun _ => rfl, State.modChan_chan, if_pos rfl]

theorem State.proceed_eq (s : State) (tile n : Nat) (k : Cont) : s.proceed tile n k =
    let u := s.worked tile n
    if k = .idle then u.toIdle tile n
    else if (u.chan tile n).head ≠ (u.chan tile n).tail then u.fetchNext tile n (if k = .nextArm then .arming else .run)
    else if (u.chan tile n).localRing tile && (u.chan tile n).rep && (u.chan tile n).armPoint != (u.chan tile n).tail then
      (u.modChan tile n (fun c => { c with head := c.armPoint })).fetchNext tile n .arming
    else u.toIdle tile n := rfl

theorem State.worked_engine (s : State) (tile n : Nat) : (s.worked tile n).EngineOnly s :=
  (State.dropBlocks_streams _ tile n).toEngineOnly.trans (.of_modChan _ s tile n)

theorem State.proceed_engine (s : State) (tile n : Nat) (k : Cont) : (s.proceed tile n k).EngineOnly s := by
  refine State.EngineOnly.trans (t := s.worked tile n) ?_ (s.worked_engine tile n)
  rw [State.proceed_eq]
  dsimp only
  split
  · exact State.toIdle_engine _ tile n
  · split
    · exact State.fetchNext_engine _ tile n _
    · split
      · exact (State.fetchNext_engine _ tile n _).trans (.of_modChan _ _ tile n)
      · exact State.toIdle_engine _ tile n

/-- A channel without REPEAT keeps HEAD as it goes on. -/
theorem State.proceed_head {s : State} {k : Cont} (hr : (s.chan tile n).rep = false ∨ k = .idle) :
    ((s.proceed tile n k).chan tile n).head = (s.chan tile n).head := by
  have cleared : ((s.worked tile n).chan tile n).head = (s.chan tile n).head := by rw [State.worked_chan]; rfl
  refine Eq.trans ?_ cleared
  rw [State.proceed_eq]
  dsimp only
  split
  · exact State.toIdle_head _ tile n
  · next hk =>
    split
    · exact State.fetchNext_chan (k := fun c : Channel => c.head) (fun _ _ _ _ _ _ _ _ _ => rfl) _ tile n _
    · split
      · next q =>
        have rep : (s.chan tile n).rep = true := by
          rw [State.worked_chan, Bool.and_eq_true, Bool.and_eq_true] at q
          exact q.1.2
        exact absurd (rep.symm.trans (hr.resolve_right hk)) Bool.true_eq_false.mp
      · exact State.toIdle_head _ tile n

/-- A channel without REPEAT whose ring is empty enters IDLE as it goes on. -/
theorem State.proceed_idle {s : State} {k : Cont} (hr : (s.chan tile n).rep = false ∨ k = .idle) (he : (s.chan tile n).head = (s.chan tile n).tail) :
    ((s.proceed tile n k).chan tile n).state = .idle := by
  have empty : ((s.worked tile n).chan tile n).head = ((s.worked tile n).chan tile n).tail := by rw [State.worked_chan]; exact he
  have idle : (((s.worked tile n).toIdle tile n).chan tile n).state = .idle := by
    rw [State.toIdle_idle (.inr empty), State.modChan_chan, if_pos rfl]
  rw [State.proceed_eq]
  dsimp only
  split
  · exact idle
  · next hk =>
    refine (congrArg (fun t : State => (t.chan tile n).state) ((if_neg fun q => q empty).trans (if_neg fun q => ?_))).trans idle
    have rep : (s.chan tile n).rep = true := by
      rw [State.worked_chan, Bool.and_eq_true, Bool.and_eq_true] at q
      exact q.1.2
    exact absurd (rep.symm.trans (hr.resolve_right hk)) Bool.true_eq_false.mp

end Sys2Proof.Machine
end

section
/-!
The commands of a channel: EN, TAIL, ARM, GO, RESUME, SKIP, ABORT (spec/05_stream_engine.md R159 to R166, R191 to R195).
-/

namespace Sys2Proof.Machine

variable {s t : State} {w : Src} {tile n : Nat} {v : Word}

/-! ## Rings -/

/-- A ring is local or a household's, never both. -/
theorem Channel.not_hhRing {c : Channel} (h : c.localRing tile = true) : c.hhRing = false := by
  simp only [Channel.localRing, Bool.and_eq_true, beq_iff_eq] at h
  simp [Channel.hhRing, h.1.1.1.1.1.1]

theorem Channel.not_localRing {c : Channel} (h : c.hhRing = true) : c.localRing tile = false :=
  Bool.eq_false_iff.mpr fun q => Bool.false_ne_true ((Channel.not_hhRing q).symm.trans h)

/-! ## EN and TAIL -/

theorem State.cmdOp_none (s : State) (tile n : Nat) : s.cmdOp tile n 0 = (s, .ok) := rfl

theorem State.enOp_false (s : State) (tile n : Nat) (h : (s.chan tile n).state = .idle ∨ (s.chan tile n).state = .armed ∨ (s.chan tile n).state = .halt) :
    s.enOp tile n false = ((s.modTile tile (fun T => T.dropBlocks n)).modChan tile n
      (fun c => { c.cleared with en := false, state := .disabled, recWait := none }), .ok) := by
  unfold State.enOp
  rcases h with h | h | h <;> simp [h]

/-- The channel with REPEAT as a write to ST_CTRL gives it. -/
def State.withRep (s : State) (tile n : Nat) (b : Bool) : State := s.modChan tile n (fun c => { c with rep := b })

theorem State.withRep_chan (s : State) (tile n : Nat) (b : Bool) : (s.withRep tile n b).chan tile n = { s.chan tile n with rep := b } := by
  rw [State.withRep, State.modChan_chan, if_pos rfl]

/-- A write to ST_CTRL of EN = 1 without a command. -/
theorem State.chanCtrlOp_enable {st : Status} (hm : s.mayWrite .hm w tile = true) (hc : bits v 4 3 = 0) (he : bit v 0 = true)
    (h : (s.withRep tile n (bit v 8)).enOp tile n true = (t, st)) : s.chanCtrlOp w tile n v = if st = .ok then (t, .ok) else (s, st) := by
  rw [State.withRep] at h
  unfold State.chanCtrlOp
  extract_lets s0 andThen c r
  have hr : r = if st = .ok then (t, .ok) else (t, st) := by
    refine (if_pos he).trans ?_
    change (if (s0.enOp tile n true).2 = .ok then State.cmdOp (s0.enOp tile n true).1 tile n (bits v 4 3) else s0.enOp tile n true) = _
    rw [h, hc]
    rfl
  clear_value r
  subst hr
  rw [hm]
  by_cases hs : st = .ok <;> simp [hs]

/-- A write to ST_CTRL of EN = 0 without a command. -/
theorem State.chanCtrlOp_disable (hm : s.mayWrite .hm w tile = true) (hc : bits v 4 3 = 0) (he : bit v 0 = false)
    (hs : (s.chan tile n).state ≠ .run ∧ (s.chan tile n).state ≠ .wait ∧ (s.chan tile n).state ≠ .arming)
    (h : (s.withRep tile n (bit v 8)).enOp tile n false = (t, .ok)) : s.chanCtrlOp w tile n v = (t, .ok) := by
  rw [State.withRep] at h
  unfold State.chanCtrlOp
  extract_lets s0 andThen c r
  have hr : r = (t, .ok) := by
    refine (if_neg (Bool.eq_false_iff.mp he)).trans ((if_neg ?_).trans ?_)
    · simp [c, hs.1, hs.2.1, hs.2.2]
    · change (if (s0.cmdOp tile n (bits v 4 3)).2 = .ok then State.enOp (s0.cmdOp tile n (bits v 4 3)).1 tile n false else _) = _
      rw [hc]
      exact h
  clear_value r
  subst hr
  simp [hm]

/-- A channel with a descriptor under way is not disabled. -/
theorem State.chanCtrlOp_busy (hm : s.mayWrite .hm w tile = true) (he : bit v 0 = false)
    (hs : (s.chan tile n).state = .run ∨ (s.chan tile n).state = .wait ∨ (s.chan tile n).state = .arming) :
    s.chanCtrlOp w tile n v = (s, .rearmBusy) := by
  unfold State.chanCtrlOp
  extract_lets s0 andThen c r
  have hr : r = (s, .rearmBusy) := by
    refine (if_neg (Bool.eq_false_iff.mp he)).trans (if_pos ?_)
    rcases hs with h | h | h <;> simp [c, h]
  clear_value r
  subst hr
  simp [hm]

theorem State.enOp_true_local (hd : (s.chan tile n).state = .disabled) (hl : (s.chan tile n).localRing tile = true) :
    s.enOp tile n true = ((s.modChan tile n (fun c => { c.cleared with en := true, state := .idle })).watch tile, .ok) := by
  simp [State.enOp, hd, hl, Channel.not_hhRing hl, awakeAt]

theorem State.enOp_true_ringless (hd : (s.chan tile n).state = .disabled) (hl : (s.chan tile n).localRing tile = false)
    (hh : (s.chan tile n).hhRing = false) : s.enOp tile n true = (s, .decerr) := by
  simp [State.enOp, hd, hl, hh]

theorem State.chanTailOp_eq (hm : s.mayWrite .hm w tile = true) : s.chanTailOp w tile n v = s.tailOp tile n (v.truncate 16) := by
  have low : BitVec.ofNat 16 (bits v 0 16) = v.truncate 16 := by
    refine BitVec.eq_of_toNat_eq ?_
    simp [bits]
  rw [State.chanTailOp, hm, low]
  rfl

/-- A new TAIL of as many entries as the ring has, or fewer. -/
theorem State.tailOp_taken {x : BitVec 16} (h : (x - (s.chan tile n).head).toNat ≤ (s.chan tile n).entries) :
    ∃ t : State, s.tailOp tile n x = (t, .ok) ∧ (t.chan tile n).tail = x ∧ t.out = s.out := by
  unfold State.tailOp
  extract_lets c s'
  have tail : (s'.chan tile n).tail = x := by rw [State.modChan_chan, if_pos rfl]
  have out : s'.out = s.out := rfl
  clear_value s'
  refine ⟨_, if_neg (Nat.not_lt.mpr h), ?_, ?_⟩
  · dsimp only [awakeAt]
    rw [State.watch_chan]
    split
    · exact (State.fetchNext_chan (k := fun c : Channel => c.tail) (fun _ _ _ _ _ _ _ _ _ => rfl) s' tile n .run).trans tail
    · exact tail
  · dsimp only [awakeAt]
    rw [State.watch_out]
    split
    · exact (s'.fetchNext_engine tile n .run).out.trans out
    · exact out

theorem State.exec_en {st : Status} (ht : s.tileTakes w tile (0x600 + 0x40 * n) v) (hn : n < 8) (h : s.chanCtrlOp w tile n v = (t, st)) :
    exec (.en w tile n v) s = .next (s.answered t w tile (0x600 + 0x40 * n) v st) :=
  (if_pos (decide_eq_true hn)).trans (State.tileReg_now_of_eq ht h)

theorem State.exec_dringTailWrite {st : Status} (ht : s.tileTakes w tile (0x614 + 0x40 * n) v) (hn : n < 8) (h : s.chanTailOp w tile n v = (t, st)) :
    exec (.dringTailWrite w tile n v) s = .next (s.answered t w tile (0x614 + 0x40 * n) v st) :=
  (if_pos (decide_eq_true hn)).trans (State.tileReg_now_of_eq ht h)

/-- Settles O42: the cases of EN, by the channel's state and ring, and of TAIL, by the entries it asks for. -/
theorem channelEnableAndTail : Obligations.ChannelEnableAndTail := by
  refine ⟨?_, ?_⟩
  · intro s w tile n v ht hm hn hc c
    have hr := State.withRep_chan s tile n (bit v 8)
    refine ⟨fun he hd hl => ?_, fun he hd hl hh => ?_, fun he hs => ?_, fun he hs => State.exec_en ht hn (State.chanCtrlOp_busy hm he hs)⟩
    · refine ⟨_, State.exec_en ht hn (State.chanCtrlOp_enable hm hc he (State.enOp_true_local (by rw [hr]; exact hd) (by rw [hr]; exact hl))), ?_⟩
      rw [State.watch_out, State.watch_chan, State.modChan_chan, if_pos rfl, hr]
      exact ⟨rfl, rfl, rfl, rfl⟩
    · exact State.exec_en ht hn (State.chanCtrlOp_enable hm hc he
        (State.enOp_true_ringless (by rw [hr]; exact hd) (by rw [hr]; exact hl) (by rw [hr]; exact hh)))
    · refine ⟨_, State.exec_en ht hn (State.chanCtrlOp_disable hm hc he ?_ (State.enOp_false _ tile n (by rw [hr]; exact hs))), rfl, ?_⟩
      · rcases hs with h | h | h <;> (change (s.chan tile n).state = _ at h; rw [h]; decide)
      · rw [State.modChan_chan, if_pos rfl]
        exact ⟨rfl, rfl⟩
  · intro s w tile n v ht hm hn c x
    refine ⟨fun h => ?_, fun h => State.exec_dringTailWrite ht hn ((State.chanTailOp_eq hm).trans (if_pos h))⟩
    obtain ⟨t, ho, tail, out⟩ := State.tailOp_taken h
    exact ⟨t, State.exec_dringTailWrite ht hn ((State.chanTailOp_eq hm).trans ho), tail, out⟩

end Sys2Proof.Machine
end

section
/-!
The end of a descriptor and the commands that act on a halted channel (spec/05_stream_engine.md R178, R191 to R195).
-/

namespace Sys2Proof.Machine

variable {s t u : State} {w : Src} {tile n : Nat} {r : Option CRec} {complete : Bool} {k : Cont}

/-! ## The record, COMPLETE, and how the channel goes on (R178) -/

/-- The completion ring of the household of a tile. -/
def State.ringOf (s : State) (tile : Nat) : CRing := (s.slice (tileDie tile)).cring (s.tile tile).hh

theorem State.goOn_proceed (h : (s.chan tile n).state ≠ .halt) : s.goOn tile n k = s.proceed tile n k := if_neg h

/-- A record finds a place, if there is one to issue and a ring to take it. -/
def State.recordFits (s : State) (tile : Nat) (r : Option CRec) : Prop := r.isSome = true → (s.ringOf tile).en = false ∨ (s.ringOf tile).takes = true

/-- COMPLETE is raised to a household, if the descriptor asks for it. -/
def State.raiseIf (s : State) (d h : Nat) (b : Bool) : State := if b then s.raise d h 0 else s

theorem State.raiseIf_tile (s : State) (d h : Nat) (b : Bool) (g : Nat) : (s.raiseIf d h b).tile g = s.tile g := by
  cases b with
  | false => rfl
  | true => exact s.raise_tile d h 0 g

theorem State.raiseIf_cring (s : State) (d h : Nat) (b : Bool) : ((s.raiseIf d h b).slice d).cring h = (s.slice d).cring h := by
  cases b with
  | false => rfl
  | true =>
    rw [State.raiseIf, if_pos rfl, State.raise_slice, if_pos rfl, Slice.cring, Slice.raise_crings]
    rfl

theorem State.raiseIf_out (s : State) (d h : Nat) (b : Bool) : (s.raiseIf d h b).out = s.out := by
  cases b <;> rfl

/-- A record is issued to a completion ring. -/
def State.issueRec (s : State) (d h : Nat) (R : CRing) (q : CRec) : State :=
  s.look.modSlice d (fun S => S.setCring h { R with due := R.due ++ [q], issued := R.issued + 1 })

theorem State.issueRec_tile (s : State) (d h : Nat) (R : CRing) (q : CRec) (g : Nat) : (s.issueRec d h R q).tile g = s.tile g :=
  (State.modSlice_tile s.look d g (k := fun S => S.setCring h { R with due := R.due ++ [q], issued := R.issued + 1 }) (fun _ => rfl) (fun _ => rfl)).trans
    (State.look_tile ..)

theorem State.issueRec_due (s : State) (d h : Nat) (R : CRing) (q : CRec) : (((s.issueRec d h R q).slice d).cring h).due = R.due ++ [q] := by
  rw [State.issueRec, State.modSlice_slice, if_pos rfl, Slice.setCring, Slice.cring, Tbl.get_set, if_pos rfl]

/-- A descriptor has ended whose record finds its place: the channel goes on. -/
theorem State.finish_goes (hf : s.recordFits tile r) : ∃ v u : State, s.finish tile n r complete k = u.goOn tile n k ∧
    u = v.raiseIf (tileDie tile) (s.tile tile).hh complete ∧ (∀ g, v.tile g = s.tile g) ∧ v.out = s.out ∧
    (∀ q, r = some q → (s.ringOf tile).en = true →
      ((v.slice (tileDie tile)).cring (s.tile tile).hh).due = (s.ringOf tile).due ++ [q]) := by
  unfold State.finish
  extract_lets d h gone
  cases r with
  | none => exact ⟨s, _, rfl, rfl, fun _ => rfl, rfl, fun _ h => absurd h (by simp)⟩
  | some q =>
    by_cases he : (s.ringOf tile).en = true
    · refine ⟨_, _, (if_neg (by simpa [State.ringOf] using he)).trans (if_pos ((hf rfl).resolve_left (by simp [he]))), rfl,
        s.issueRec_tile d h (s.ringOf tile) q, rfl, fun p hp _ => ?_⟩
      rw [← Option.some.inj hp]
      exact s.issueRec_due d h (s.ringOf tile) q
    · exact ⟨s, _, if_pos (by simpa [State.ringOf] using he), rfl, fun _ => rfl, rfl, fun _ _ h => absurd h he⟩

/-- A descriptor has ended whose record finds no place: the channel waits, its work cleared. -/
theorem State.finish_waits (hf : ¬s.recordFits tile r) : ∃ q, s.finish tile n r complete k = s.look.modChan tile n (fun c =>
    { c.cleared with state := if c.state = .halt then .halt else .run, recWait := some (q, complete, k) }) := by
  cases r with
  | none => exact absurd (fun h => absurd h Bool.false_ne_true) hf
  | some q =>
    simp only [State.recordFits, Option.isSome_some, forall_const, not_or, Bool.not_eq_true, Bool.not_eq_false] at hf
    refine ⟨q, (if_neg ?_).trans (if_neg ?_)⟩
    · simpa [State.ringOf] using hf.1
    · simpa [State.ringOf] using hf.2

/-- A channel without REPEAT keeps HEAD at the end of a descriptor. -/
theorem State.finish_head (hs : (s.chan tile n).state ≠ .halt) (hr : (s.chan tile n).rep = false ∨ k = .idle) :
    ((s.finish tile n r complete k).chan tile n).head = (s.chan tile n).head := by
  by_cases hf : s.recordFits tile r
  · obtain ⟨v, u, hu, rfl, tiles, _⟩ := s.finish_goes (n := n) (complete := complete) (k := k) hf
    have chan : (v.raiseIf (tileDie tile) (s.tile tile).hh complete).chan tile n = s.chan tile n :=
      congrArg (fun T : Tile => T.chan n) ((v.raiseIf_tile ..).trans (tiles tile))
    rw [hu, State.goOn_proceed (by rwa [chan]), State.proceed_head (by rwa [chan]), chan]
  · obtain ⟨q, hq⟩ := s.finish_waits (n := n) (complete := complete) (k := k) hf
    rw [hq, State.modChan_chan, if_pos rfl]
    rfl

/-- A channel whose ring is empty enters IDLE at the end of a descriptor whose record finds its place. -/
theorem State.finish_idle (hs : (s.chan tile n).state ≠ .halt) (hr : (s.chan tile n).rep = false ∨ k = .idle)
    (he : (s.chan tile n).head = (s.chan tile n).tail) (hf : s.recordFits tile r) :
    ((s.finish tile n r complete k).chan tile n).state = .idle := by
  obtain ⟨v, u, hu, rfl, tiles, _⟩ := s.finish_goes (n := n) (complete := complete) (k := k) hf
  have chan : (v.raiseIf (tileDie tile) (s.tile tile).hh complete).chan tile n = s.chan tile n :=
    congrArg (fun T : Tile => T.chan n) ((v.raiseIf_tile ..).trans (tiles tile))
  rw [hu, State.goOn_proceed (by rwa [chan])]
  exact State.proceed_idle (by rwa [chan]) (by rwa [chan])

theorem State.goOn_engine (s : State) (tile n : Nat) (k : Cont) : (s.goOn tile n k).EngineOnly s := by
  unfold State.goOn
  split
  · exact .of_modChan _ s tile n
  · exact s.proceed_engine tile n k

/-- The record of a descriptor goes to those that are due, if the ring takes it. -/
theorem State.finish_due {q : CRec} (he : (s.ringOf tile).en = true) (ht : (s.ringOf tile).takes = true) :
    (((s.finish tile n (some q) complete k).slice (tileDie tile)).cring (s.tile tile).hh).due = (s.ringOf tile).due ++ [q] := by
  obtain ⟨v, u, hu, rfl, _, _, due⟩ := s.finish_goes (n := n) (complete := complete) (k := k) (r := some q) (fun _ => .inr ht)
  rw [hu, (State.goOn_engine _ tile n k).slice (fun S : Slice => (S.cring (s.tile tile).hh).due) (fun _ _ _ _ => rfl), State.raiseIf_cring]
  exact due q rfl he

/-- COMPLETE is raised at the end of a descriptor without a record. -/
theorem State.finish_complete : bit (((s.finish tile n none true k).slice (tileDie tile)).irq (s.tile tile).hh).cause 0 = true := by
  obtain ⟨v, u, hu, rfl, _⟩ := s.finish_goes (n := n) (complete := true) (k := k) (r := none) (fun h => absurd h Bool.false_ne_true)
  rw [hu, (State.goOn_engine _ tile n k).slice (fun S : Slice => (S.irq (s.tile tile).hh).cause) (fun _ _ _ _ => rfl)]
  exact State.raise_cause _ _ _ (by decide)

/-- The end of a descriptor leaves what the stream engine does not change of the tiles. -/
theorem State.finish_tiles {β : Type} {f : Tile → β} (hf : Tile.StreamFree f) (g : Nat) : f ((s.finish tile n r complete k).tile g) = f (s.tile g) := by
  by_cases fits : s.recordFits tile r
  · obtain ⟨v, u, hu, rfl, tiles, _⟩ := s.finish_goes (n := n) (complete := complete) (k := k) fits
    rw [hu, (State.goOn_engine _ tile n k).tiles f hf, State.raiseIf_tile, tiles]
  · obtain ⟨q, hq⟩ := s.finish_waits (n := n) (complete := complete) (k := k) fits
    rw [hq]
    exact (State.EngineOnly.of_modChan _ s.look tile n).tiles f hf g

/-! ## A channel command -/

theorem State.exec_chanCmd {cmd : Nat} {o : Status} (ht : s.tileTakes w tile (0x600 + 0x40 * n) ((s.chan tile n).ctrlWord cmd)) (hm : s.mayWrite .hm w tile = true)
    (hn : n < 8) (h : s.cmdOp tile n cmd = (t, o)) :
    s.chanCmd w tile n cmd = .next (s.answered t w tile (0x600 + 0x40 * n) ((s.chan tile n).ctrlWord cmd) o) := by
  refine (if_pos (decide_eq_true hn)).trans (State.tileReg_now_of_eq ht ?_)
  rw [State.chanCmdOp, hm]
  exact h

/-! ## ARM and GO (R163, R165) -/

theorem State.armOp_fetches (hl : (s.chan tile n).localRing tile = true) (hs : (s.chan tile n).state = .idle ∨ (s.chan tile n).state = .armed)
    (he : (s.chan tile n).head ≠ (s.chan tile n).tail) : ∃ u : State, s.armOp tile n = (u.fetchNext tile n .arming, .ok) ∧
      u.chan tile n = { (s.chan tile n).cleared with armPoint := (s.chan tile n).head } := by
  refine ⟨((s.modTile tile (fun T => T.dropBlocks n)).modChan tile n (fun c => { c.cleared with armPoint := c.head })), ?_, ?_⟩
  · unfold State.armOp
    rcases hs with h | h <;> simp [hl, h, he]
  · rw [State.modChan_chan, if_pos rfl, State.modTile_chan (h := fun T => T.dropBlocks n) fun _ => rfl]

theorem State.armOp_busy (hl : (s.chan tile n).localRing tile = true)
    (hs : (s.chan tile n).state = .run ∨ (s.chan tile n).state = .wait ∨ (s.chan tile n).state = .halt) : s.armOp tile n = (s, .rearmBusy) := by
  unfold State.armOp
  rcases hs with h | h | h <;> simp [hl, h]

theorem State.startDesc_eq {d : RowData} (hs : (s.chan tile n).snap = some d) :
    s.startDesc tile n = s.modTile tile (fun T => T.setChan n ((T.chan n).start d T tile)) := by
  unfold State.startDesc
  rw [hs]

theorem State.startDesc_chan {d : RowData} (hs : (s.chan tile n).snap = some d) :
    (s.startDesc tile n).chan tile n = (s.chan tile n).start d (s.tile tile) tile := by
  rw [State.startDesc_eq hs, State.chan, State.modTile_tile, if_pos rfl, Tile.setChan_chan, if_pos rfl]
  rfl

theorem State.goOp_armed (hl : (s.chan tile n).localRing tile = true) (hs : (s.chan tile n).state = .armed) :
    s.goOp tile n = (s.startDesc tile n, .ok) := by
  unfold State.goOp
  simp [hl, hs]

theorem State.goOp_kept (hl : (s.chan tile n).localRing tile = true)
    (hs : (s.chan tile n).state = .arming ∨ (s.chan tile n).state = .run ∨ (s.chan tile n).state = .wait) :
    s.goOp tile n = (s.modChan tile n (fun c => if c.pendGo then { c with goLost := true } else { c with pendGo := true }), .ok) := by
  unfold State.goOp
  rcases hs with h | h | h <;> simp [hl, h]

/-! ## RESUME (R191, R193) -/

theorem State.refetch_chan {β : Type} {f : Channel → β} (hf : Channel.AnswerFree f) (s : State) (tile n : Nat) (st : ChState) :
    f ((s.refetch tile n st).chan tile n) = f { (s.chan tile n).again with state := st } := by
  rw [State.refetch, (State.fetch_streams _ tile n).chan f hf, State.modChan_chan, if_pos rfl]

/-- RESUME of a halted channel leads where its descriptor goes on. -/
theorem State.resumeOp_desc (hh : (s.chan tile n).state = .halt) (he : (s.chan tile n).ending = false) (hc : (s.chan tile n).contWait = none)
    (ha : (s.chan tile n).haltAll = true → (s.chan tile n).haltFrom ≠ .idle ∧ (s.chan tile n).haltFrom ≠ .armed) :
    s.resumeOp tile n = (s.resumeDesc tile n, .ok) := by
  unfold State.resumeOp
  simp only [hh, he, hc, ne_eq, not_true, if_false, Bool.false_eq_true]
  rw [if_neg fun q => (ha q.1).1 q.2, if_neg fun q => (ha q.1).2 q.2]

/-- A halt at the fetch leads back to ARMING. -/
theorem State.resumeDesc_arming (hf : (s.chan tile n).haltFrom = .arming) : s.resumeDesc tile n = s.refetch tile n .arming := by
  unfold State.resumeDesc
  dsimp only
  split
  · simp [hf]
  · simp [hf]

/-- A descriptor whose fetch and checks have succeeded runs again. -/
theorem State.resumeDesc_runs {d : RowData} (ha : (s.chan tile n).haltAll = false) (hs : (s.chan tile n).snap = some d)
    (h3 : (s.chan tile n).haltDir ≠ 3) (h5 : (s.chan tile n).haltDir ≠ 5) (hf : (s.chan tile n).haltFrom ≠ .arming) (hp : (s.chan tile n).phase ≠ .fetched) :
    let c := (s.resumeDesc tile n).chan tile n
    c.state = .run ∧ c.head = (s.chan tile n).head ∧ c.snap = some d := by
  unfold State.resumeDesc
  dsimp only
  rw [hs]
  simp only [hf, hp, h3, h5, ha, or_false, if_false, Bool.false_eq_true, false_and]
  split
  · rw [State.startDesc_chan hs]
    exact ⟨rfl, rfl, rfl⟩
  · split
    · rw [State.modChan_chan, if_pos rfl]
      exact ⟨if_neg (by rw [ha]; decide), rfl, hs⟩
    · rw [State.modChan_chan, if_pos rfl]
      exact ⟨rfl, rfl, hs⟩

theorem State.resumeOp_armed (hh : (s.chan tile n).state = .halt) (he : (s.chan tile n).ending = false) (hc : (s.chan tile n).contWait = none)
    (ha : (s.chan tile n).haltAll = true) (hf : (s.chan tile n).haltFrom = .armed) :
    s.resumeOp tile n = (s.modChan tile n (fun c => { c with state := .armed }), .ok) := by
  unfold State.resumeOp
  simp [hh, he, hc, ha, hf]

/-! ## SKIP and ABORT (R191, R194) -/

/-- SKIP ends the descriptor of a halted channel with its record. -/
theorem State.skipOp_finish (hh : (s.chan tile n).state = .halt) (he : (s.chan tile n).ending = false) (hc : (s.chan tile n).contWait = none)
    (hi : (s.chan tile n).haltedIdle = false) : ∃ (r : CRec) (k : Cont), r.status = (s.chan tile n).code ∧ r.idx = (s.chan tile n).head ∧
      r.tag = (s.chan tile n).tag ∧ s.skipOp tile n =
        ((s.modChan tile n (fun c => { c with head := c.head + 1, state := .run })).finish tile n (some r) false k, .ok) := by
  refine ⟨s.recordOf tile n (s.chan tile n).head (s.chan tile n).tag (s.chan tile n).code ((s.chan tile n).bytesBefore (s.chan tile n).posUnit
    (s.chan tile n).posSrc) (s.chan tile n).faultAddr (s.chan tile n).faultDir, if (s.chan tile n).haltFrom = .arming then .nextArm else .next,
    rfl, rfl, rfl, ?_⟩
  unfold State.skipOp
  simp only [hh, he, hc, hi, ne_eq, not_true, if_false, Bool.false_eq_true]

/-- ABORT ends the descriptor of a halted channel, and drops the later ones. -/
theorem State.abortOp_halt (hh : (s.chan tile n).state = .halt) (he : (s.chan tile n).ending = false) (hc : (s.chan tile n).contWait = none)
    (hi : (s.chan tile n).haltedIdle = false) : ∃ r : CRec, s.abortOp tile n =
        ((s.modChan tile n (fun c => { c with head := c.tail, state := .run })).finish tile n (some r) false .idle, .ok) := by
  refine ⟨s.recordOf tile n (s.chan tile n).head (s.chan tile n).tag .aborted ((s.chan tile n).bytesBefore (s.chan tile n).posUnit
    (s.chan tile n).posSrc) (s.chan tile n).faultAddr (s.chan tile n).faultDir, ?_⟩
  unfold State.abortOp
  simp only [hh, he, hc, hi, Option.isSome_none, Bool.or_false, if_false, Bool.false_eq_true, State.abortEnd]

/-- ABORT of a channel with requests outstanding waits for them. -/
theorem State.abortOp_waits (hs : (s.chan tile n).state = .run) (he : (s.chan tile n).ending = false) (ho : (s.chan tile n).outst ≠ 0) :
    s.abortOp tile n = (s.modChan tile n (fun c => { c with aborting := true, waitTally := false }), .ok) := by
  unfold State.abortOp
  simp only [hs, he, if_false, Bool.false_eq_true]
  refine congrArg (fun t => (t, Status.ok)) (if_pos ?_)
  rw [State.modChan_chan, if_pos rfl]
  simp [ho]

theorem State.ringOf_modChan (s : State) (tile n : Nat) (q : Channel → Channel) : (s.modChan tile n q).ringOf tile = s.ringOf tile ∧
    ((s.modChan tile n q).tile tile).hh = (s.tile tile).hh := by
  have hh : ((s.modChan tile n q).tile tile).hh = (s.tile tile).hh :=
    (State.EngineOnly.of_modChan q s tile n).tiles (fun T : Tile => T.hh) (fun _ _ _ _ _ _ _ _ _ _ => rfl) tile
  refine ⟨?_, hh⟩
  rw [State.ringOf, hh]
  exact (State.EngineOnly.of_modChan q s tile n).slice (fun S : Slice => S.cring (s.tile tile).hh) (fun _ _ _ _ => rfl) (tileDie tile)

/-- Settles O43: the cases of each command, by the channel's state and how it halted. -/
theorem channelCommands : Obligations.ChannelCommands := by
  intro s w tile n hm hn c off takes ok R
  have run : ∀ {cmd : Nat} {t : State} {o : Status}, takes cmd → s.cmdOp tile n cmd = (t, o) →
      s.chanCmd w tile n cmd = .next (s.answered t w tile off (c.ctrlWord cmd) o) := fun ht h => State.exec_chanCmd ht hm hn h
  have woken : ∀ {p : State × Status} {t : State} {o : Status}, p = (t, o) → awakeAt tile p = (t.watch tile, o) := fun h => by rw [h]; rfl
  refine ⟨fun hl => ⟨fun ht hs he => ?_, fun ht hs => run ht (woken (State.armOp_busy hl hs)), fun d ht hs hd => ?_, fun ht hs => ?_⟩,
    fun hh he hc => ⟨fun d ht ha hd h3 h5 hf hp => ?_, fun ht hf => ?_, fun ht ha hf => ?_, fun ht hi hr => ?_, fun ht hi => ?_⟩, fun ht hs he ho => ?_⟩
  · obtain ⟨u, harm, hu⟩ := State.armOp_fetches hl hs he
    refine ⟨_, run ht (woken harm), ?_⟩
    rw [State.watch_chan]
    have kept := State.fetchNext_chan (k := fun c : Channel => (c.state, c.armPoint, c.head)) (fun _ _ _ _ _ _ _ _ _ => rfl) u tile n .arming
    simp only [hu, Prod.mk.injEq] at kept
    exact kept
  · refine ⟨_, run ht (woken (State.goOp_armed hl hs)), ?_⟩
    rw [State.watch_chan, State.startDesc_chan hd, State.watch_out, State.startDesc_eq hd]
    exact ⟨rfl, rfl, rfl⟩
  · refine ⟨_, run ht (woken (State.goOp_kept hl hs)), ?_⟩
    rw [State.watch_chan, State.modChan_chan, if_pos rfl]
    cases hp : (s.chan tile n).pendGo <;> simp [c, hp]
  · refine ⟨_, run ht (woken (State.resumeOp_desc hh he hc fun q => absurd (ha.symm.trans q) Bool.false_ne_true)), ?_⟩
    rw [State.watch_chan]
    exact State.resumeDesc_runs ha hd h3 h5 hf hp
  · have hf' : (s.chan tile n).haltFrom = .arming := hf
    refine ⟨_, run ht (woken (State.resumeOp_desc hh he hc fun _ => by rw [hf']; decide)), ?_⟩
    rw [State.watch_chan, State.resumeDesc_arming hf]
    have kept := State.refetch_chan (f := fun c : Channel => (c.state, c.head)) (fun _ _ _ _ _ _ _ _ _ => rfl) s tile n .arming
    simp only [Prod.mk.injEq] at kept
    exact kept
  · refine ⟨_, run ht (woken (State.resumeOp_armed hh he hc ha hf)), ?_⟩
    rw [State.watch_chan, State.modChan_chan, if_pos rfl]
  · obtain ⟨r, k, hst, hidx, htag, hskip⟩ := State.skipOp_finish hh he hc hi
    obtain ⟨ring, hhs⟩ := s.ringOf_modChan tile n (fun c => { c with head := c.head + 1, state := .run })
    have chan : (s.modChan tile n (fun c => { c with head := c.head + 1, state := .run })).chan tile n = { c with head := c.head + 1, state := .run } := by
      rw [State.modChan_chan, if_pos rfl]
    have running : ((s.modChan tile n (fun c => { c with head := c.head + 1, state := .run })).chan tile n).state ≠ .halt := by rw [chan]; nofun
    refine ⟨_, run ht (woken hskip), ?_, fun hR hlast => ?_, fun hen htk => ⟨r, ?_, hst, hidx, htag⟩⟩
    · rw [State.watch_chan, State.finish_head running (.inl (by rw [chan]; exact hr)), chan]
    · rw [State.watch_chan]
      exact State.finish_idle running (.inl (by rw [chan]; exact hr)) (by rw [chan]; exact hlast) (fun _ => by rw [ring]; exact hR)
    · rw [(State.watch_streams _ tile).slice (fun S : Slice => S.cring (s.tile tile).hh) (fun _ _ _ _ => rfl), ← hhs]
      refine (State.finish_due ?_ ?_).trans ?_
      · rw [ring]; exact hen
      · rw [ring]; exact htk
      · rw [ring]; rfl
  · obtain ⟨r, habort⟩ := State.abortOp_halt hh he hc hi
    obtain ⟨ring, _⟩ := s.ringOf_modChan tile n (fun c => { c with head := c.tail, state := .run })
    have chan : (s.modChan tile n (fun c => { c with head := c.tail, state := .run })).chan tile n = { c with head := c.tail, state := .run } := by
      rw [State.modChan_chan, if_pos rfl]
    have running : ((s.modChan tile n (fun c => { c with head := c.tail, state := .run })).chan tile n).state ≠ .halt := by rw [chan]; nofun
    refine ⟨_, run ht (woken habort), ?_, fun hR => ?_⟩
    · rw [State.watch_chan, State.finish_head running (.inr rfl), chan]
    · rw [State.watch_chan]
      exact State.finish_idle running (.inr rfl) (by rw [chan]) (fun _ => by rw [ring]; exact hR)
  · refine ⟨_, run ht (woken (State.abortOp_waits hs he ho)), ?_⟩
    rw [State.watch_chan, State.modChan_chan, if_pos rfl]
    exact ⟨rfl, hs, rfl⟩

end Sys2Proof.Machine
end

section
/-!
Descriptors: what a fetch brings, how a descriptor ends, and how a channel halts (spec/05_stream_engine.md R170, R178, R190).
-/

namespace Sys2Proof.Machine

variable {s t u : State} {tile n : Nat}

/-! ## The prefetcher's requests (spec/06_stream_transforms.md R203) -/

theorem State.allocBlock_streams (s : State) (tile n : Nat) (d : RowData) (k : Nat) : (s.allocBlock tile n d k).Streams tile s := by
  unfold State.allocBlock
  extract_lets q a id l b on
  have begun : ∀ m, (on m).Streams tile s := fun m =>
    (State.Streams.of_modTile (.blocks fun B => B ++ [b m]) s.takeId tile).trans s.takeId_streams
  clear_value on
  split
  · exact (State.stRead_streams _ tile _ _ _ _ rfl).trans (begun 1)
  · exact (State.Streams.foldl (fun t x => t.launch_streams _) l _).trans (begun _)
  · split
    · next h => exact (State.lookup_streams h).trans (begun 1)
    · exact s.failNow_streams tile n a 4 .decerr _
  · exact s.failDefault_streams tile n a 4 _

theorem State.serveWants_streams (s : State) (tile f : Nat) : (s.serveWants tile f).Streams tile s := by
  induction f generalizing s with
  | zero => exact s.streams_refl
  | succ f ih =>
    unfold State.serveWants
    split
    · exact s.streams_refl
    · next n k rest _ =>
      extract_lets s'
      have taken : s'.Streams tile s := .of_modTile (.wants fun _ => rest) s tile
      clear_value s'
      split
      · exact (ih s').trans taken
      · split
        · exact ((ih _).trans (s'.allocBlock_streams tile n _ k)).trans taken
        · exact s.streams_refl

/-- A request to the prefetcher leaves of the channels all but what its reads bring. -/
theorem State.prefetch_streams (s : State) (tile n k : Nat) : (s.prefetch tile n k).Streams tile s := by
  unfold State.prefetch
  extract_lets T s'
  have asked : s'.Streams tile s := by
    unfold s'
    split
    · exact s.streams_refl
    · exact .of_modTile (.wants fun T => T.idxWant ++ [(n, k)]) s tile
  clear_value s'
  exact (s'.serveWants_streams tile _).trans asked

/-! ## A fetch returns (R170) -/

/-- The channel as a fetch that has returned leaves it, before its descriptor is checked. -/
def Channel.fetchTaken (c : Channel) (st : Status) (d : RowData) : Channel :=
  { c with fetched := none, curIdx := c.head, curTag := if st = .ok then Desc.tag d else 0 }

/-- A fetched descriptor that has passed its checks. -/
def State.fetchedOk (s : State) (tile n : Nat) : State :=
  let c := s.chan tile n
  if c.state = .arming then
    (if c.pendGo then (s.modChan tile n (fun c => { c with pendGo := false })).startDesc tile n
     else s.modChan tile n (fun c => { c with state := .armed }))
  else s.startDesc tile n

theorem State.fetchedOk_chan {d : RowData} (hs : (s.chan tile n).snap = some d) :
    let c := s.chan tile n
    let q := (s.fetchedOk tile n).chan tile n
    q.state = (if c.state = .arming ∧ c.pendGo = false then .armed else .run) ∧ q.snap = some d ∧ q.curTag = c.curTag ∧ q.curIdx = c.curIdx := by
  intro c q
  unfold q State.fetchedOk
  dsimp only
  split
  · next ha =>
    split
    · next hg =>
      rw [State.startDesc_chan (d := d) (by rw [State.modChan_chan, if_pos rfl]; exact hs), State.modChan_chan, if_pos rfl]
      exact ⟨(if_neg fun q => absurd (hg.symm.trans q.2) Bool.true_eq_false.mp).symm, rfl, rfl, rfl⟩
    · next hg =>
      rw [State.modChan_chan, if_pos rfl]
      exact ⟨(if_pos ⟨ha, Bool.eq_false_iff.mpr hg⟩).symm, hs, rfl, rfl⟩
  · next ha =>
    rw [State.startDesc_chan hs]
    exact ⟨(if_neg fun q => ha q.1).symm, rfl, rfl, rfl⟩

theorem State.fetchedOk_kept {d : RowData} {c : Channel} (hc : s.chan tile n = c) (hs : c.snap = some d) :
    let q := (s.fetchedOk tile n).chan tile n
    q.state = (if c.state = .arming ∧ c.pendGo = false then .armed else .run) ∧ q.snap = some d ∧ q.curTag = c.curTag ∧ q.curIdx = c.curIdx := by
  subst hc
  exact State.fetchedOk_chan hs

theorem State.failNow_chan (a : Addr) (dir : Nat) (st : Status) (v : Nat) (h : (s.chan tile n).fail = none) :
    ∃ f : ChFail, f.status = st ∧ f.dir = dir ∧ (s.failNow tile n a dir st v).chan tile n = { s.chan tile n with fail := some f } := by
  refine ⟨{ seq := s.nextId, addr := a, dir := dir, status := st, unit := v, all := false }, rfl, rfl, ?_⟩
  rw [State.failNow, State.modChan_chan, if_pos rfl, Channel.addFail, h]

/-- The state in which the descriptor that has come is looked at. -/
def State.takenUp (s : State) (tile n : Nat) (st : Status) (d : RowData) : State := s.modChan tile n (fun c => c.fetchTaken st d)

theorem State.takenUp_chan (s : State) (tile n : Nat) (st : Status) (d : RowData) :
    (s.takenUp tile n st d).chan tile n = (s.chan tile n).fetchTaken st d := by
  rw [State.takenUp, State.modChan_chan, if_pos rfl]

/-- The channel has its descriptor in hand. -/
def State.inHand (s : State) (tile n : Nat) (d : RowData) : State := (s.takenUp tile n .ok d).modChan tile n (fun c => { c with snap := some d })

theorem State.inHand_chan {d : RowData} : (s.inHand tile n d).chan tile n = { (s.chan tile n).fetchTaken .ok d with snap := some d } := by
  rw [State.inHand, State.modChan_chan, if_pos rfl, State.takenUp_chan]

theorem State.inHand_isCount (s : State) (tile n : Nat) (d : RowData) (k : Nat) :
    ((s.inHand tile n d).tile tile).isCount k = (s.tile tile).isCount k :=
  ((State.EngineOnly.of_modChan _ _ tile n).trans (State.EngineOnly.of_modChan _ s tile n)).tiles (fun T : Tile => T.isCount k)
    (fun _ _ _ _ _ _ _ _ _ _ => rfl) tile

section
variable {st : Status} {d : RowData} (hf : (s.chan tile n).fetched = some (st, d))
include hf

/-- A channel that is aborting, or has failed, starts nothing. -/
theorem State.fetchedOp_stops (h : (s.chan tile n).aborting = true ∨ (s.chan tile n).fail ≠ none) :
    let q := (s.fetchedOp tile n).chan tile n
    (s.fetchedOp tile n).net = s.net ∧ q.curIdx = (s.chan tile n).head ∧ q.state = (s.chan tile n).state ∧ q.fail = (s.chan tile n).fail := by
  have stops : ((s.chan tile n).aborting || (s.chan tile n).fail.isSome) = true := by
    rcases h with h | h
    · simp [h]
    · simp [Option.isSome_iff_ne_none.mpr h]
  unfold State.fetchedOp
  dsimp only
  rw [hf]
  dsimp only
  rw [if_pos stops]
  split
  · rw [State.modChan_chan, if_pos rfl, State.modChan_chan, if_pos rfl]
    exact ⟨rfl, rfl, rfl, rfl⟩
  · rw [State.modChan_chan, if_pos rfl]
    exact ⟨rfl, rfl, rfl, rfl⟩

variable (ha : (s.chan tile n).aborting = false) (hn : (s.chan tile n).fail = none)
include ha hn

/-- A fetch that has failed leaves its status as the channel's failure. -/
theorem State.fetchedOp_failed (h : st ≠ .ok) :
    s.fetchedOp tile n = (s.takenUp tile n st d).failNow tile n ((s.chan tile n).entryAddr (s.chan tile n).head) 3 st 0 := by
  unfold State.fetchedOp
  dsimp only
  rw [hf]
  dsimp only
  rw [ha, hn, Option.isSome_none, Bool.or_false, if_neg Bool.false_ne_true, if_pos h]
  rfl

/-- A descriptor that has come is checked. -/
theorem State.fetchedOp_ok (h : st = .ok) : s.fetchedOp tile n =
    match Desc.check d tile (fun k => !(s.tile tile).isCount k) with
    | some e => (s.inHand tile n d).failNow tile n ((s.chan tile n).entryAddr (s.chan tile n).head) 5 e 0
    | none => if Desc.indexed d then ((s.inHand tile n d).fetchedOk tile n).prefetch tile n 0 else (s.inHand tile n d).fetchedOk tile n := by
  subst h
  have counts : (fun k => !((s.inHand tile n d).tile tile).isCount k) = fun k => !(s.tile tile).isCount k :=
    funext fun k => congrArg _ (s.inHand_isCount tile n d k)
  have state : ((s.inHand tile n d).chan tile n).state = (s.chan tile n).state ∧ ((s.inHand tile n d).chan tile n).pendGo = (s.chan tile n).pendGo := by
    rw [State.inHand_chan]; exact ⟨rfl, rfl⟩
  rw [← counts]
  unfold State.fetchedOk
  dsimp only
  rw [state.1, state.2]
  unfold State.fetchedOp
  dsimp only
  rw [hf]
  dsimp only
  rw [ha, hn, Option.isSome_none, Bool.or_false, if_neg Bool.false_ne_true, if_neg (fun h => h rfl)]
  rfl

end

theorem State.exec_onChan {f : State} (hp : s.hasTile tile = true) (hl : s.live (tileDie tile) = true) (hn : n < 8) :
    s.onChan tile n f = .next (f.watch tile) := (if_pos (decide_eq_true hn)).trans (State.atTile_next hp hl)

/-- What becomes of a descriptor that has come (R170, R190, R194, R195). -/
theorem State.descriptorFetched_outcome {st : Status} {d : RowData} (hp : s.hasTile tile = true) (hl : s.live (tileDie tile) = true) (hn : n < 8)
    (hf : (s.chan tile n).fetched = some (st, d)) :
    let c := s.chan tile n
    let bad := Desc.check d tile (fun k => !(s.tile tile).isCount k)
    ∃ t : State, exec (.descriptorFetched tile n) s = .next t ∧ (t.chan tile n).curIdx = c.head ∧
      ((c.aborting = true ∨ c.fail ≠ none) → (t.chan tile n).state = c.state ∧ (t.chan tile n).fail = c.fail ∧ t.net = s.net) ∧
      (c.aborting = false → c.fail = none →
        (st = .ok → bad = none → (t.chan tile n).snap = some d ∧ (t.chan tile n).curTag = Desc.tag d ∧
          (t.chan tile n).state = if c.state = .arming ∧ c.pendGo = false then .armed else .run) ∧
        (∀ e, st = .ok → bad = some e →
          (t.chan tile n).state = c.state ∧ (t.chan tile n).fail.map (fun f => (f.status, f.dir)) = some (e, 5)) ∧
        (st ≠ .ok →
          (t.chan tile n).state = c.state ∧ (t.chan tile n).fail.map (fun f => (f.status, f.dir)) = some (st, 3))) := by
  intro c bad
  refine ⟨_, State.exec_onChan hp hl hn, ?_⟩
  rw [State.watch_chan, State.watch_net]
  by_cases stops : c.aborting = true ∨ c.fail ≠ none
  · obtain ⟨net, idx, state, fail⟩ := State.fetchedOp_stops hf stops
    exact ⟨idx, fun _ => ⟨state, fail, net⟩, fun ha hq => absurd stops (by simp [ha, hq])⟩
  · obtain ⟨ha, hq⟩ := not_or.mp stops
    have ha := Bool.eq_false_iff.mpr ha
    have hq := not_not.mp hq
    by_cases hst : st = .ok
    · rw [State.fetchedOp_ok hf ha hq hst]
      cases hb : bad with
      | some e =>
        have free : ((s.inHand tile n d).chan tile n).fail = none := by rw [State.inHand_chan]; exact hq
        obtain ⟨f, hfs, hfd, fail⟩ := State.failNow_chan (c.entryAddr c.head) 5 e 0 free
        have hb' : Desc.check d tile (fun k => !(s.tile tile).isCount k) = some e := hb
        rw [hb']
        dsimp only
        rw [fail, State.inHand_chan]
        exact ⟨rfl, fun q => absurd q stops, fun _ _ => ⟨fun _ h => by simp at h, fun e' _ h => ⟨rfl, by rw [← Option.some.inj h, ← hfs, ← hfd]; rfl⟩,
          fun h => absurd hst h⟩⟩
      | none =>
        have hb' : Desc.check d tile (fun k => !(s.tile tile).isCount k) = none := hb
        rw [hb']
        dsimp only
        obtain ⟨state, snap, tag, idx⟩ := State.fetchedOk_kept (s.inHand_chan (n := n) (tile := tile) (d := d)) rfl
        have kept : ∀ v : State, v.Streams tile ((s.inHand tile n d).fetchedOk tile n) → (v.chan tile n).curIdx = c.head ∧
            (v.chan tile n).snap = some d ∧ (v.chan tile n).curTag = Desc.tag d ∧
            (v.chan tile n).state = if c.state = .arming ∧ c.pendGo = false then .armed else .run := fun v hv =>
          ⟨(hv.chan (fun c => c.curIdx) (fun _ _ _ _ _ _ _ _ _ => rfl) n).trans idx, (hv.chan (fun c => c.snap) (fun _ _ _ _ _ _ _ _ _ => rfl) n).trans snap,
            (hv.chan (fun c => c.curTag) (fun _ _ _ _ _ _ _ _ _ => rfl) n).trans tag, (hv.chan (fun c => c.state) (fun _ _ _ _ _ _ _ _ _ => rfl) n).trans state⟩
        have both : State.Streams tile (if Desc.indexed d then ((s.inHand tile n d).fetchedOk tile n).prefetch tile n 0
            else (s.inHand tile n d).fetchedOk tile n) ((s.inHand tile n d).fetchedOk tile n) := by
          split
          · exact State.prefetch_streams _ tile n 0
          · exact State.streams_refl _
        obtain ⟨idx, snap, tag, state⟩ := kept _ both
        exact ⟨idx, fun q => absurd q stops, fun _ _ => ⟨fun _ _ => ⟨snap, tag, state⟩, fun _ _ h => by simp at h, fun h => absurd hst h⟩⟩
    · have free : ((s.takenUp tile n st d).chan tile n).fail = none := by rw [State.takenUp_chan]; exact hq
      obtain ⟨f, hfs, hfd, fail⟩ := State.failNow_chan (c.entryAddr c.head) 3 st 0 free
      rw [State.fetchedOp_failed hf ha hq hst, fail, State.takenUp_chan]
      exact ⟨rfl, fun q => absurd q stops, fun _ _ => ⟨fun h => absurd h hst, fun _ h => absurd h hst, fun _ => ⟨rfl, by rw [← hfs, ← hfd]; rfl⟩⟩⟩

end Sys2Proof.Machine
end

section
/-!
Descriptors that complete and channels that halt (spec/05_stream_engine.md R175, R178, R181, R190), and the tally boundary at which one add
of the stream engine takes effect (spec/08_tallies_bells_channels.md R266).
-/

namespace Sys2Proof.Machine

variable {s t u : State} {tile n k : Nat} {l : Bool} {o : TOp}

/-! ## A boundary with one add of the stream engine -/

/-- The tally that an operation of the stream engine adds one to, and its L bit. -/
def TOp.one : TOp → Option (Nat × Bool)
  | .done _ k l | .fill _ k l | .homeAdd _ k l => some (k, l)
  | _ => none

theorem TOp.one_cases (h : o.one = some (k, l)) : (∃ n, o = .done n k l) ∨ (∃ n, o = .fill n k l) ∨ ∃ p, o = .homeAdd p k l := by
  cases o <;> simp_all [TOp.one]

/-- What such an operation does once its add has taken effect. -/
def State.afterAdd (s : State) (tile : Nat) : TOp → State
  | .done n _ _ => s.doneTaken tile n
  | .fill n _ _ => s.fillTaken tile n
  | .homeAdd pkt _ _ => s.homeAdded tile pkt
  | _ => s

/-- The tally block once the add of `o` has taken effect and the bells have rung. -/
def State.oneAdded (s : State) (tile : Nat) (o : TOp) (k : Nat) (l : Bool) : State :=
  (s.setTile tile (({ s.tile tile with tops := [], bellAdds := [] } : Tile).addTally k 1 (l || (s.slice (tileDie tile)).lpActive))).modTile tile
    (fun T => T.ringBells (s.slice (tileDie tile)).lpActive [o])

theorem State.oneAdded_value {β : Type} {f : Tile → β} (hf : ∀ (T : Tile) o a t m b, f { T with tops := o, bellAdds := a, tally := t, tallyL := m, bells := b } = f T) :
    f ((s.oneAdded tile o k l).tile tile) = f (s.tile tile) := by
  rw [State.oneAdded, State.modTile_tile, if_pos rfl, Tile.ringBells_value (f := f) (fun T b a => hf T T.tops a T.tally T.tallyL b), State.setTile_tile,
    if_pos rfl]
  exact hf (s.tile tile) [] [] _ _ (s.tile tile).bells

theorem State.oneAdded_tallyOf (j : Nat) : ((s.oneAdded tile o k l).tile tile).tallyOf j = (s.tile tile).tallyOf j + if k = j then 1 else 0 := by
  rw [State.oneAdded, State.modTile_tile, if_pos rfl, Tile.ringBells_value (f := fun T => T.tallyOf j) (fun _ _ _ => rfl), State.setTile_tile,
    if_pos rfl, Tile.addTally_tallyOf]
  rfl

theorem State.oneAdded_out : (s.oneAdded tile o k l).out = s.out := rfl
theorem State.oneAdded_net : (s.oneAdded tile o k l).net = s.net := rfl

theorem State.oneAdded_tilesOnly : (s.oneAdded tile o k l).TilesOnly s :=
  (State.modTile_tilesOnly _ _ _).trans (s.modTile_tilesOnly tile fun _ => ({ s.tile tile with tops := [], bellAdds := [] } : Tile).addTally k 1 _)

/-- A boundary at which one add of the stream engine waits, no engine, and no register access. -/
theorem State.exec_boundary_one {r : State} (hp : s.hasTile tile = true) (hl : s.live (tileDie tile) = true) (calm : (s.tile tile).calm none)
    (htops : (s.tile tile).tops = [o]) (ho : o.one = some (k, l)) (hr : (s.oneAdded tile o k l).afterAdd tile o = r)
    (engines : (r.tile tile).engines = (s.tile tile).engines) (first : (r.tile tile).regWait = (s.tile tile).regWait) :
    exec (.tallyBoundary tile) s = .next (r.watch tile) := by
  have waits : ((s.setTile tile (({ s.tile tile with tops := [], bellAdds := [] } : Tile).addTally k 1 (l || (s.slice (tileDie tile)).lpActive))).tile
      tile).waitsOnly none := by
    rw [State.setTile_tile, if_pos rfl]
    exact calm.waits.congr rfl rfl
  have boundary : s.boundary tile = (s.oneAdded tile o k l, .ok) := by
    have summed : (s.tile tile).summed (s.slice (tileDie tile)).lpActive =
        ({ s.tile tile with tops := [], bellAdds := [] } : Tile).addTally k 1 (l || (s.slice (tileDie tile)).lpActive) := by
      rw [Tile.summed, htops, calm.adds]
      rcases TOp.one_cases ho with ⟨_, rfl⟩ | ⟨_, rfl⟩ | ⟨_, rfl⟩
      · rfl
      · rfl
      · rfl
    have arrive : tallyArrive tile (s.setTile tile ((s.tile tile).summed (s.slice (tileDie tile)).lpActive), .ok) o =
        (s.setTile tile ((s.tile tile).summed (s.slice (tileDie tile)).lpActive), .ok) := by
      rcases TOp.one_cases ho with ⟨_, rfl⟩ | ⟨_, rfl⟩ | ⟨_, rfl⟩
      · rfl
      · rfl
      · rfl
    rw [State.boundary_eq]
    dsimp only
    rw [htops, List.foldl_cons, List.foldl_nil, arrive, summed, State.boundaryRest_quiet waits]
    · rfl
    · intro q hq g j e
      rw [List.mem_singleton.mp hq] at e
      subst e
      exact absurd ho (by simp [TOp.one])
  refine State.exec_boundary hp hl boundary ?_ calm.busy (first.trans calm.first)
  have noRecv : ∀ g e, (r.tile tile).engine g ≠ .recv e := fun g e => by
    rw [Tile.engine, engines]
    exact calm.waits.noRecv g e
  have quiet : r.channelOps tile [] = r := State.channelOps_rest (fun q hq => absurd hq List.not_mem_nil) noRecv
  rw [htops, State.channelOps, List.foldl_cons, List.foldl_nil]
  rcases TOp.one_cases ho with ⟨_, rfl⟩ | ⟨_, rfl⟩ | ⟨_, rfl⟩
  · dsimp only [State.afterAdd] at hr ⊢
    rw [hr]
    exact quiet
  · dsimp only [State.afterAdd] at hr ⊢
    rw [hr]
    exact quiet
  · dsimp only [State.afterAdd] at hr ⊢
    rw [hr]
    exact quiet

/-! ## A descriptor completes (R178) -/

variable {d : RowData}

/-- The channel goes past the entry at HEAD. -/
def State.pastHead (s : State) (tile n : Nat) : State := s.modChan tile n (fun c => { c with head := if c.aborting then c.tail else c.head + 1 })

theorem State.pastHead_chan (ha : (s.chan tile n).aborting = false) :
    (s.pastHead tile n).chan tile n = { s.chan tile n with head := (s.chan tile n).head + 1 } := by
  rw [State.pastHead, State.modChan_chan, if_pos rfl]
  exact congrArg (fun x => { s.chan tile n with head := x }) (if_neg (Bool.eq_false_iff.mp ha))

/-- A descriptor that has met no stall ends with OK, with a record if CREC asks for one. -/
theorem State.completeEnd_finish (ha : (s.chan tile n).aborting = false) (hd : Desc.op d ≠ 4 ∨ (s.chan tile n).drop = 0) :
    ∃ r : CRec, r.status = .ok ∧ r.idx = (s.chan tile n).head ∧ r.tag = Desc.tag d ∧ r.chan = n ∧ r.tile = tile ∧
      s.completeEnd tile n d = (s.pastHead tile n).finish tile n (if Desc.crec d then some r else none) (Desc.full d) .next := by
  have ok : (if Desc.op d = 4 ∧ (s.chan tile n).drop ≠ 0 then Status.mcStall else .ok) = .ok := if_neg fun q => hd.elim (fun h => h q.1) fun h => q.2 h
  refine ⟨(s.pastHead tile n).recordOf tile n (s.chan tile n).head (Desc.tag d) .ok ((s.chan tile n).bytesDone d) 0 0, rfl, rfl, rfl, rfl, rfl, ?_⟩
  unfold State.completeEnd
  dsimp only
  rw [ok, ha]
  simp [State.pastHead]

section
variable (hs : (s.chan tile n).state = .run) (ha : (s.chan tile n).aborting = false) (hr : (s.chan tile n).rep = false)
  (hd : Desc.op d ≠ 4 ∨ (s.chan tile n).drop = 0)
include hs ha hr hd

theorem State.completeEnd_head : ((s.completeEnd tile n d).chan tile n).head = (s.chan tile n).head + 1 := by
  obtain ⟨r, _, _, _, _, _, h⟩ := State.completeEnd_finish ha hd
  have chan := State.pastHead_chan ha
  rw [h, State.finish_head (by rw [chan, hs]; nofun) (.inl (by rw [chan]; exact hr)), chan]

omit hs hr in
theorem State.completeEnd_tiles {β : Type} {f : Tile → β} (hf : Tile.StreamFree f) (g : Nat) : f ((s.completeEnd tile n d).tile g) = f (s.tile g) := by
  obtain ⟨r, _, _, _, _, _, h⟩ := State.completeEnd_finish ha hd
  rw [h, State.finish_tiles hf]
  exact (State.EngineOnly.of_modChan _ s tile n).tiles f hf g

omit hs hr in
/-- Without CREC, COMPLETE follows if FULL asks for it. -/
theorem State.completeEnd_complete (hc : Desc.crec d = false) (hf : Desc.full d = true) :
    bit (((s.completeEnd tile n d).slice (tileDie tile)).irq (s.tile tile).hh).cause 0 = true := by
  obtain ⟨r, _, _, _, _, _, h⟩ := State.completeEnd_finish ha hd
  obtain ⟨_, hhs⟩ := s.ringOf_modChan tile n (fun c => { c with head := if c.aborting then c.tail else c.head + 1 })
  rw [h, hc, hf, if_neg Bool.false_ne_true, ← hhs]
  exact State.finish_complete

omit hs hr in
/-- With CREC, the record is issued to a ring that takes it. -/
theorem State.completeEnd_due (hc : Desc.crec d = true) (he : (s.ringOf tile).en = true) (ht : (s.ringOf tile).takes = true) : ∃ r : CRec,
    (((s.completeEnd tile n d).slice (tileDie tile)).cring (s.tile tile).hh).due = (s.ringOf tile).due ++ [r] ∧
      r.status = .ok ∧ r.idx = (s.chan tile n).head ∧ r.tag = Desc.tag d ∧ r.chan = n ∧ r.tile = tile := by
  obtain ⟨r, status, idx, tag, chan, own, h⟩ := State.completeEnd_finish ha hd
  obtain ⟨ring, hhs⟩ := s.ringOf_modChan tile n (fun c => { c with head := if c.aborting then c.tail else c.head + 1 })
  refine ⟨r, ?_, status, idx, tag, chan, own⟩
  rw [h, hc, if_pos rfl, ← hhs, ← ring]
  refine State.finish_due ?_ ?_
  · rw [State.pastHead, ring]; exact he
  · rw [State.pastHead, ring]; exact ht

end

theorem Channel.complete_run {c : Channel} (h : c.complete d = true) : c.state = .run ∧ c.aborting = false := by
  simp only [Channel.complete, Bool.and_eq_true, Bool.not_eq_true', decide_eq_true_eq] at h
  exact ⟨h.1.1.1.1.1.1, h.1.1.1.2⟩

theorem State.descDone_complete (hs : (s.chan tile n).snap = some d) (hc : (s.chan tile n).complete d = true) :
    s.descDone tile n = s.completeOp tile n d := by
  rw [State.descDone, hs]
  exact if_pos hc

/-- A channel whose requests have returned after a failure (R190). -/
theorem State.haltOp_fails {f : ChFail} (hf : (s.chan tile n).fail = some f) (ha : (s.chan tile n).aborting = false) (ho : (s.chan tile n).outst = 0)
    (hg : (s.chan tile n).fetching = false) (hd : (s.chan tile n).fetched = none) (hw : (s.chan tile n).doneWait = false)
    (hi : (s.tile tile).indexPending n = false)
    (hs : (s.chan tile n).state = .run ∨ (s.chan tile n).state = .wait ∨ (s.chan tile n).state = .arming ∨ (s.chan tile n).state = .armed) :
    s.haltOp tile n = if f.all then s.modChan tile n Channel.halted else (s.modChan tile n Channel.halted).raise (tileDie tile)
      ((s.modChan tile n Channel.halted).tile tile).hh 2 := by
  unfold State.haltOp
  dsimp only
  rw [if_neg (by rcases hs with h | h | h | h <;> simp [ho, hg, hd, hi, hw, h]), ha, if_neg Bool.false_ne_true, hf]

/-- Settles O44: the outcomes of a fetch, of a completion with and without DONE_TALLY, and of a halt. -/
theorem descriptorsCheckedAndEnded : Obligations.DescriptorsCheckedAndEnded := by
  refine ⟨fun s tile n st d hp hl hn hf => State.descriptorFetched_outcome hp hl hn hf, ?_, ?_⟩
  · intro s tile n d hp hl hn hs c h R lp
    refine ⟨fun hc hk => ?_, fun hc hk hr hd => ?_, fun k l htops calm hrun hw ha hr hd => ?_⟩
    · refine (State.exec_onChan hp hl hn).trans ?_
      rw [State.descDone_complete hs hc, State.completeOp, if_neg hk]
      rfl
    · obtain ⟨hrun, ha⟩ := Channel.complete_run hc
      refine ⟨_, State.exec_onChan hp hl hn, ?_⟩
      have watched := State.watch_streams (s.completeEnd tile n d) tile
      rw [State.descDone_complete hs hc, State.completeOp, if_pos hk, State.watch_chan,
        watched.tiles (fun T : Tile => T.tops) (fun _ _ _ _ _ _ _ _ _ _ => rfl),
        watched.slice (fun S : Slice => S.irq h) (fun _ _ _ _ => rfl), watched.slice (fun S : Slice => S.cring h) (fun _ _ _ _ => rfl)]
      exact ⟨State.completeEnd_head hrun ha hr hd, State.completeEnd_tiles ha hd (f := fun T : Tile => T.tops) (fun _ _ _ _ _ _ _ _ _ _ => rfl) tile,
        State.completeEnd_complete ha hd, State.completeEnd_due ha hd⟩
    · set u := s.oneAdded tile (.done n k l) k l with hu
      have chan : u.chan tile n = c := State.oneAdded_value (f := fun T : Tile => T.chan n) (fun _ _ _ _ _ _ => rfl)
      have hhs : (u.tile tile).hh = h := State.oneAdded_value (f := fun T : Tile => T.hh) (fun _ _ _ _ _ _ => rfl)
      have ha' : (u.chan tile n).aborting = false := by rw [chan]; exact ha
      have hd' : Desc.op d ≠ 4 ∨ (u.chan tile n).drop = 0 := by rw [chan]; exact hd
      have after : u.afterAdd tile (.done n k l) = u.completeEnd tile n d := by
        rw [State.afterAdd, State.doneTaken, chan, hs]
        exact if_pos hw
      have value : ∀ {β : Type} (f : Tile → β), Tile.StreamFree f → f ((u.completeEnd tile n d).tile tile) = f (u.tile tile) := fun f hf =>
        State.completeEnd_tiles ha' hd' hf tile
      refine ⟨_, State.exec_boundary_one hp hl calm htops rfl after ?_ ?_, ?_, ?_, fun hc hf => ?_⟩
      · exact (value (fun T => T.engines) fun _ _ _ _ _ _ _ _ _ _ => rfl).trans (State.oneAdded_value (f := fun T : Tile => T.engines) fun _ _ _ _ _ _ => rfl)
      · exact (value (fun T => T.regWait) fun _ _ _ _ _ _ _ _ _ _ => rfl).trans (State.oneAdded_value (f := fun T : Tile => T.regWait) fun _ _ _ _ _ _ => rfl)
      · rw [(State.watch_streams _ tile).tiles (fun T : Tile => T.tallyOf k) (fun _ _ _ _ _ _ _ _ _ _ => rfl),
          value (fun T => T.tallyOf k) fun _ _ _ _ _ _ _ _ _ _ => rfl, State.oneAdded_tallyOf, if_pos rfl]
      · rw [State.watch_chan, State.completeEnd_head (by rw [chan]; exact hrun) ha' (by rw [chan]; exact hr) hd', chan]
      · rw [(State.watch_streams _ tile).slice (fun S : Slice => S.irq h) (fun _ _ _ _ => rfl), ← hhs]
        exact State.completeEnd_complete ha' hd' hc hf
  · intro s tile n f hp hl hn c hf ha ho hg hfe hw hi hs
    refine ⟨_, State.exec_onChan hp hl hn, ?_⟩
    have hhs := (s.ringOf_modChan tile n Channel.halted).2
    have halted : ∀ v : State, (∀ g, v.tile g = (s.modChan tile n Channel.halted).tile g) → v.chan tile n = c.halted := fun v hv => by
      rw [State.chan, hv]
      exact (State.modChan_chan s tile n n Channel.halted).trans (if_pos rfl)
    rw [State.haltOp_fails hf ha ho hg hfe hw hi hs, State.watch_chan,
      (State.watch_streams _ tile).slice (fun S : Slice => S.irq (s.tile tile).hh) (fun _ _ _ _ => rfl)]
    have fields : c.halted.state = .halt ∧ c.halted.code = f.status ∧ c.halted.faultAddr = f.addr ∧ c.halted.faultDir = f.dir ∧ c.halted.head = c.head := by
      have hf' : c.fail = some f := hf
      simp [Channel.halted, hf']
    obtain ⟨state, code, addr, dir, head⟩ := fields
    cases hall : f.all with
    | true =>
      rw [if_pos rfl, halted _ fun _ => rfl]
      exact ⟨state, code, addr, dir, head, fun h => absurd h Bool.true_eq_false.mp⟩
    | false =>
      rw [if_neg Bool.false_ne_true, halted _ fun g => State.raise_tile .., hhs]
      exact ⟨state, code, addr, dir, head, fun _ => State.raise_cause _ _ _ (by decide)⟩

end Sys2Proof.Machine
end

section
/-!
Bursts: the packets that they set out as, and where the channel stands after them (spec/05_stream_engine.md R154 to R158, R176, R180, R183).
-/

namespace Sys2Proof.Machine

variable {s t u : State} {tile n : Nat} {d : RowData}

/-! ## The prefetcher adds packets, and changes little else -/

/-- `k` depends on nothing of a channel that an index read changes. -/
def Channel.IndexFree {β : Type} (k : Channel → β) : Prop := ∀ (c : Channel) l d q, k { c with l := l, demoted := d, fail := q } = k c

/-- From `s` to `t` a tile's prefetcher has issued reads. -/
structure State.Prefetches (g : Nat) (t s : State) : Prop where
  net : ∃ m, t.net = s.net ++ m
  chan : ∀ {β : Type} (k : Channel → β), Channel.IndexFree k → ∀ m, k (t.chan g m) = k (s.chan g m)

theorem State.prefetches_refl (s : State) : s.Prefetches tile s := ⟨⟨[], (List.append_nil _).symm⟩, fun _ _ _ => rfl⟩

theorem State.Prefetches.trans (h : u.Prefetches tile t) (h' : t.Prefetches tile s) : u.Prefetches tile s := by
  obtain ⟨m, hm⟩ := h.net
  obtain ⟨m', hm'⟩ := h'.net
  exact ⟨⟨m' ++ m, by rw [hm, hm', List.append_assoc]⟩, fun k hk j => (h.chan k hk j).trans (h'.chan k hk j)⟩

theorem State.Prefetches.foldl {ι : Type} {k : State → ι → State} (h : ∀ t x, (k t x).Prefetches tile t) (l : List ι) (s : State) :
    (l.foldl k s).Prefetches tile s := by
  induction l generalizing s with
  | nil => exact s.prefetches_refl
  | cons x l ih => exact (ih _).trans (h s x)

theorem State.Prefetches.of_modTile {q : Tile → Tile} (hq : ∀ T, (q T).chans = T.chans) (s : State) (tile : Nat) : (s.modTile tile q).Prefetches tile s :=
  ⟨⟨[], (List.append_nil _).symm⟩, fun _ _ m => by rw [State.modTile_chan hq]⟩

theorem State.takeId_prefetches (s : State) : s.takeId.Prefetches tile s := ⟨⟨[], (List.append_nil _).symm⟩, fun _ _ _ => rfl⟩

theorem State.launch_prefetches (s : State) (p : Packet) : (s.launch p).Prefetches tile s := ⟨⟨_, State.launch_net s p⟩, fun _ _ _ => rfl⟩

theorem State.failNow_prefetches (s : State) (tile n : Nat) (a : Addr) (dir : Nat) (st : Status) (v : Nat) :
    (s.failNow tile n a dir st v).Prefetches tile s := by
  refine ⟨⟨[], (List.append_nil _).symm⟩, fun k hk m => ?_⟩
  rw [State.failNow, State.modChan_chan]
  split
  · next h =>
    subst h
    have failed : ∀ q, k { s.chan tile n with fail := q } = k (s.chan tile n) := fun q => hk _ (s.chan tile n).l (s.chan tile n).demoted q
    unfold Channel.addFail
    split
    · exact failed _
    · split
      · exact failed _
      · rfl
  · rfl

/-- The change that the answer to an index read makes of a tile. -/
def Tile.IndexStep (q : Tile → Tile) : Prop := ∀ {β : Type} (k : Channel → β), Channel.IndexFree k → ∀ T m, k ((q T).chan m) = k (T.chan m)

theorem State.deliver_index (t : State) (tile : Nat) {a : Access} {b : Nat} (st : Status) (h : a.dest = .index b) :
    ∃ q, t.deliver tile a st = t.modTile tile q ∧ Tile.IndexStep q := by
  unfold State.deliver
  extract_lets data l
  rw [h]
  refine ⟨_, rfl, fun k hk T m => ?_⟩
  change k ((T.tagBlock b l a.demoted).chan m) = k (T.chan m)
  unfold Tile.tagBlock
  split
  · rfl
  · next q _ =>
    rw [Tile.setChan_chan]
    split
    · next e =>
      rw [← e]
      exact hk _ _ _ (T.chan q.chan).fail
    · rfl

theorem State.stRead_prefetches (s : State) (tile off m qos : Nat) (iss : Issuer) (b : Nat) : (s.stRead tile off m qos iss (.index b)).Prefetches tile s := by
  obtain ⟨q, hq, step⟩ := State.reach_modTile (P := Tile.IndexStep) s.takeId tile (s.newAccess .st .bank false off 64 m qos [] iss (.index b) .waiting)
    (fun _ _ _ _ _ _ => rfl) (fun t st => t.deliver_index tile st rfl) fun _ hq _ k hk T m => (hq k hk _ m).trans rfl
  rw [State.stRead, hq]
  refine ⟨⟨[], (List.append_nil _).symm⟩, fun k hk m => ?_⟩
  rw [State.chan, State.modTile_tile, if_pos rfl]
  exact step k hk _ m

theorem State.allocBlock_prefetches (s : State) (tile n : Nat) (d : RowData) (k : Nat) : (s.allocBlock tile n d k).Prefetches tile s := by
  unfold State.allocBlock
  extract_lets q a id l b on
  have begun : ∀ m, (on m).Prefetches tile s := fun m =>
    (State.Prefetches.of_modTile (q := fun T => { T with blocks := T.blocks ++ [b m] }) (fun _ => rfl) s.takeId tile).trans s.takeId_prefetches
  clear_value on
  split
  · exact (State.stRead_prefetches _ tile _ _ _ _ id).trans (begun 1)
  · exact (State.Prefetches.foldl (fun t x => t.launch_prefetches _) l _).trans (begun _)
  · split
    · next h =>
      obtain ⟨e, _, rfl⟩ := Option.map_eq_some_iff.mp h
      exact (State.launch_prefetches _ _).trans (begun 1)
    · exact s.failNow_prefetches tile n a 4 .decerr _
  · refine (State.failNow_prefetches _ tile n a 4 .decerr _).trans ⟨⟨[], (List.append_nil _).symm⟩, fun β m j => ?_⟩
    exact congrArg (fun T : Tile => β (T.chan j)) (State.modSlice_tile s (tileDie tile) tile
      (fun S => by unfold Slice.latchDecerr; split <;> rfl) (fun S => by unfold Slice.latchDecerr; split <;> rfl))

theorem State.serveWants_prefetches (s : State) (tile f : Nat) : (s.serveWants tile f).Prefetches tile s := by
  induction f generalizing s with
  | zero => exact s.prefetches_refl
  | succ f ih =>
    unfold State.serveWants
    split
    · exact s.prefetches_refl
    · next n k rest _ =>
      extract_lets s'
      have taken : s'.Prefetches tile s := .of_modTile (q := fun T => { T with idxWant := rest }) (fun _ => rfl) s tile
      clear_value s'
      split
      · exact (ih s').trans taken
      · split
        · exact ((ih _).trans (s'.allocBlock_prefetches tile n _ k)).trans taken
        · exact s.prefetches_refl

theorem State.prefetch_prefetches (s : State) (tile n k : Nat) : (s.prefetch tile n k).Prefetches tile s := by
  unfold State.prefetch
  extract_lets T s'
  have asked : s'.Prefetches tile s := by
    unfold s'
    split
    · exact s.prefetches_refl
    · exact .of_modTile (q := fun T => { T with idxWant := T.idxWant ++ [(n, k)] }) (fun _ => rfl) s tile
  clear_value s'
  exact (s'.serveWants_prefetches tile _).trans asked

/-! ## The cursors move -/

theorem State.half_outcome (s : State) (tile n : Nat) (d : RowData) (w len : Nat) :
    (s.half tile n d w len).net = s.net ∧ ∃ b, (s.half tile n d w len).chan tile n = { s.chan tile n with halfDone := b } := by
  unfold State.half
  split
  · refine ⟨rfl, true, ?_⟩
    rw [State.chan, State.raise_tile]
    exact (s.modChan_chan tile n n fun c => { c with halfDone := true }).trans (if_pos rfl)
  · exact ⟨rfl, _, rfl⟩

/-- The channel that has issued `len` units of its output. -/
def Channel.advanced (c : Channel) (d : RowData) (len : Nat) : Channel :=
  { c with wunit := c.wunit + len, outBuf := c.outBuf.drop len, runit := if Desc.op d = 5 then c.runit else c.wunit + len, trans := none,
           phase := if c.wunit + len = Desc.totalUnits d then .finished else if (c.outBuf.drop len).isEmpty then .idle else .writing,
           slotEnd := Desc.useRing d && (64 * (c.wunit + len) % Desc.slotSize d == 0 || c.wunit + len == Desc.totalUnits d) }

/-- The cursors have moved, and the prefetcher may have been asked for more. -/
theorem State.advance_outcome (s : State) (tile n : Nat) (d : RowData) (len : Nat) :
    (∃ m, (s.advance tile n d len).net = s.net ++ m) ∧ ∀ {β : Type} (k : Channel → β), Channel.IndexFree k → (∀ (c : Channel) b, k { c with halfDone := b } = k c) →
      k ((s.advance tile n d len).chan tile n) = k ((s.chan tile n).advanced d len) := by
  obtain ⟨net, b, half⟩ := s.half_outcome tile n d (s.chan tile n).wunit len
  unfold State.advance
  extract_lets c u s1 k rest s2 s3
  have chan : s2.chan tile n = { c.advanced d len with halfDone := b } := by
    unfold s2
    rw [State.modChan_chan, if_pos rfl]
    unfold s1
    rw [half]
    rfl
  have net2 : s2.net = s.net := net
  have done : ∀ v : State, v.Prefetches tile s2 → (∃ m, v.net = s.net ++ m) ∧ ∀ {β : Type} (k : Channel → β), Channel.IndexFree k →
      (∀ (c : Channel) b, k { c with halfDone := b } = k c) → k (v.chan tile n) = k (c.advanced d len) := fun v hv => by
    obtain ⟨m, hm⟩ := hv.net
    refine ⟨⟨m, by rw [hm, net2]⟩, fun k hk hb => ?_⟩
    rw [hv.chan k hk, chan, hb]
  split
  · have used : s3.Prefetches tile s2 := .of_modTile (q := fun T => { T with blocks := T.blocks.filter (fun b => !(b.holds n k)) }) (fun _ => rfl) s2 tile
    split
    · exact done _ ((s3.prefetch_prefetches tile n _).trans used)
    · exact done _ ((s3.serveWants_prefetches tile _).trans used)
  · exact done _ s2.prefetches_refl

/-! ## The requests of a burst (R155) -/

/-- The requests of a burst carry its rows in order. -/
theorem requestPieces_rows (place : Nat) (data : List RowData) {f o m : Nat} (h : m ≤ f) :
    (requestPieces place f o m).flatMap (fun q => (data.drop q.1).take q.2) = (data.drop o).take m := by
  induction f generalizing o m with
  | zero => simp [requestPieces, Nat.le_zero.mp h]
  | succ f ih =>
    unfold requestPieces
    split
    · next hm => simp [hm]
    · split
      · next h4 =>
        rw [List.flatMap_cons, ih (by omega), ← List.drop_drop, ← List.take_add]
        congr 1
        omega
      · rw [List.flatMap_cons, ih (by omega), ← List.drop_drop, ← List.take_add]
        congr 1
        omega

/-- The requests of a burst have its length. -/
theorem requestPieces_size (place : Nat) {f o m : Nat} (h : m ≤ f) : ((requestPieces place f o m).map (fun q => 64 * q.2)).sum = 64 * m := by
  induction f generalizing o m with
  | zero => simp [requestPieces, Nat.le_zero.mp h]
  | succ f ih =>
    unfold requestPieces
    split
    · next hm => simp [hm]
    · split
      · rw [List.map_cons, List.sum_cons, ih (by omega)]
        omega
      · rw [List.map_cons, List.sum_cons, ih (by omega)]
        omega

theorem State.issuer_of_tile {w : Src} (h : ∀ g, t.tile g = s.tile g) (hw : ∀ d f, w ≠ .host d f) : t.issuer w = s.issuer w := by
  cases w with
  | sc g => rw [State.issuer, h]; rfl
  | st g n => rw [State.issuer, h]; rfl
  | host d f => exact absurd rfl (hw d f)

theorem State.foldl_launch_tile {ι : Type} (mk : State → ι → Packet) (l : List ι) (s : State) (g : Nat) :
    (l.foldl (fun t x => t.launch (mk t x)) s).tile g = s.tile g :=
  foldl_eq (fun t : State => t.tile g) (fun t x => t.launch_tile (mk t x) g) l s

/-- A burst toward a target outside the tile's own banks: its requests, and the channel that waits for them. -/
theorem State.issueBurst_outcome (s : State) (tile n : Nat) (d : RowData) (write : Bool) (target : Target) (a : Addr) (place unit len : Nat)
    (data : List RowData) : ∃ l : List Packet, (s.issueBurst tile n d write target a place unit len data).net = s.net ++ l ∧
      l.length = (requestPieces place len 0 len).length ∧ l.flatMap (·.data) = data.take len ∧ (l.map (·.size)).sum = 64 * len ∧
      (∀ p, p ∈ l → p.target = target ∧ p.write = write ∧ p.iss = s.issuer (.st tile n)) ∧
      (s.issueBurst tile n d write target a place unit len data).chan tile n =
        { s.chan tile n with outst := (s.chan tile n).outst + l.length,
                             need := if write then (s.chan tile n).need else (s.chan tile n).need + l.length } := by
  unfold State.issueBurst
  extract_lets pieces s'
  have issuer : ∀ t : State, (∀ u, t.tile u = s.tile u) → t.issuer (.st tile n) = s.issuer (.st tile n) := fun t ht =>
    State.issuer_of_tile ht fun _ _ => Src.noConfusion
  obtain ⟨l, net, each⟩ := State.foldl_launch (fun (t : State) (q : Nat × Nat) =>
      { t.newPacket (t.issuer (.st tile n)) (if write then .write else .read) (Desc.qos d) target (a + BitVec.ofNat 48 (64 * q.1))
          (place + 64 * q.1) (64 * q.2) write ((data.drop q.1).take q.2) with
        viewq := Desc.viewq d, bstart := place / 64, blen := len, unit := unit + q.1 })
    (fun q p => (p.data = (data.drop q.1).take q.2 ∧ p.size = 64 * q.2) ∧ p.target = target ∧ p.write = write ∧ p.iss = s.issuer (.st tile n))
    pieces s (fun t q lp ht => ⟨⟨rfl, rfl⟩, rfl, rfl, issuer t ht⟩)
  have chan : s'.chan tile n = s.chan tile n := congrArg (fun T : Tile => T.chan n) (State.foldl_launch_tile _ pieces s tile)
  have length : l.length = pieces.length := each.length_eq.symm
  refine ⟨l, net, length, ?_, ?_, forall_of_forall₂ (each.imp fun _ _ h => h.2), ?_⟩
  · rw [List.flatMap_def, map_eq_of_forall₂ (each.imp fun _ _ h => h.1.1), ← List.flatMap_def, requestPieces_rows place data le_rfl, List.drop_zero]
  · rw [map_eq_of_forall₂ (each.imp fun _ _ h => h.1.2), requestPieces_size place le_rfl]
  · rw [State.modChan_chan, if_pos rfl, chan, length]

/-! ## What a channel issues next -/

theorem State.slotStart_ringless (h : Desc.useRing d = false) : s.slotStart tile n d = (s, true) := if_pos (by rw [h]; rfl)

section
variable (hw : (s.chan tile n).working = some d) (he : (s.chan tile n).slotEnd = false)
include hw he

theorem State.burstIssueOp_writing (hp : (s.chan tile n).phase = .writing) (hr : Desc.useRing d = false) :
    s.burstIssueOp tile n = s.writeStep tile n d (((s.tile tile).indexFor n d (s.chan tile n).wunit).getD 0) := by
  unfold State.burstIssueOp
  dsimp only
  rw [hw]
  dsimp only
  rw [he, if_neg Bool.false_ne_true, hp]
  dsimp only
  rw [State.slotStart_ringless hr, if_pos rfl]

theorem State.burstIssueOp_idle {v : Nat} (hp : (s.chan tile n).phase = .idle) (hv : (s.tile tile).indexFor n d (s.chan tile n).wunit = some v)
    (hn : (s.chan tile n).need = 0) (hc : (s.chan tile n).chunkIn d v = false) (hr : Desc.op d = 5 ∨ Desc.useRing d = false) :
    s.burstIssueOp tile n = s.readStep tile n d v := by
  have start : (if Desc.op d = 5 then (s, true) else s.slotStart tile n d) = (s, true) := by
    split
    · rfl
    · next h5 => exact State.slotStart_ringless (hr.resolve_left h5)
  unfold State.burstIssueOp
  dsimp only
  rw [hw]
  dsimp only
  rw [he, if_neg Bool.false_ne_true, hp]
  dsimp only
  rw [hv]
  dsimp only
  rw [start, hc, hn]
  simp

theorem State.burstIssueOp_finished (hp : (s.chan tile n).phase = .finished) : s.burstIssueOp tile n = s.readbacks tile n d := by
  unfold State.burstIssueOp
  dsimp only
  rw [hw]
  dsimp only
  rw [he, if_neg Bool.false_ne_true, hp]

end

section
variable {v g : Nat}

/-- A write burst to another tile, for which the remote side has room. -/
theorem State.writeStep_remote (ht : (s.chan tile n).trans = none) (hs : s.side tile ((s.chan tile n).writeNext d v).2.1 = .remote g)
    (hr : Desc.useRing d = false) (hf : (s.chan tile n).targetsFull (.tile g) = false)
    (room : s.remoteBusy tile + (requestPieces (addrOff ((s.chan tile n).writeNext d v).2.1) ((s.chan tile n).writeNext d v).2.2 0
      ((s.chan tile n).writeNext d v).2.2).length ≤ 16) :
    let c := s.chan tile n
    let q := c.writeNext d v
    ∃ l m : List Packet, (s.writeStep tile n d v).net = s.net ++ l ++ m ∧ l.flatMap (·.data) = c.outBuf.take q.2.2 ∧
      (∀ p : Packet, p ∈ l → p.target = .tile g ∧ p.write = true ∧ p.iss = s.issuer (.st tile n)) ∧
      ((s.writeStep tile n d v).chan tile n).wunit = c.wunit + q.2.2 ∧ ((s.writeStep tile n d v).chan tile n).outst = c.outst + l.length := by
  intro c q
  obtain ⟨l, net, _, rows, _, own, chan⟩ := s.issueBurst_outcome tile n d true (.tile g) q.2.1 (addrOff q.2.1) q.1 q.2.2 (c.outBuf.take q.2.2)
  have step : s.writeStep tile n d v = ((s.issueBurst tile n d true (.tile g) q.2.1 (addrOff q.2.1) q.1 q.2.2 (c.outBuf.take q.2.2)).modChan tile n
      (fun e => { e with targets := noteTarget e.targets (.tile g) (q.2.1 + BitVec.ofNat 48 (64 * (q.2.2 - 1))) (addrOff q.2.1 + 64 * (q.2.2 - 1)) })).advance
      tile n d q.2.2 := by
    unfold State.writeStep
    dsimp only
    rw [ht, hs]
    dsimp only
    unfold State.writeRemote
    dsimp only
    rw [hr, hf, if_neg (by decide), if_neg (Nat.not_lt.mpr room)]
    simp only [Bool.false_eq_true, if_false]
    rfl
  obtain ⟨⟨m, more⟩, fields⟩ := State.advance_outcome ((s.issueBurst tile n d true (.tile g) q.2.1 (addrOff q.2.1) q.1 q.2.2 (c.outBuf.take q.2.2)).modChan tile n
      (fun e => { e with targets := noteTarget e.targets (.tile g) (q.2.1 + BitVec.ofNat 48 (64 * (q.2.2 - 1))) (addrOff q.2.1 + 64 * (q.2.2 - 1)) }))
    tile n d q.2.2
  rw [State.modChan_chan, if_pos rfl, chan] at fields
  refine ⟨l, m, ?_, ?_, own, ?_, ?_⟩
  · rw [step, more, State.modChan_net, net]
  · rw [rows, List.take_take, Nat.min_self]
  · rw [step]
    exact fields (fun c => c.wunit) (fun _ _ _ _ => rfl) fun _ _ => rfl
  · rw [step]
    exact fields (fun c => c.outst) (fun _ _ _ _ => rfl) fun _ _ => rfl

/-- A read burst from another tile, for which the remote side has room. -/
theorem State.readStep_remote (hs : s.side tile ((s.chan tile n).readNext d v).2.1 = .remote g) (hn : (s.chan tile n).need = 0)
    (room : s.remoteBusy tile + (requestPieces (addrOff ((s.chan tile n).readNext d v).2.1) ((s.chan tile n).readNext d v).2.2 0
      ((s.chan tile n).readNext d v).2.2).length ≤ 16) :
    let q := (s.chan tile n).readNext d v
    ∃ l : List Packet, (s.readStep tile n d v).net = s.net ++ l ∧ (l.map (·.size)).sum = 64 * q.2.2 ∧
      (∀ p : Packet, p ∈ l → p.target = .tile g ∧ p.write = false) ∧ ((s.readStep tile n d v).chan tile n).runit = q.1 + q.2.2 ∧
      ((s.readStep tile n d v).chan tile n).need = l.length := by
  intro q
  obtain ⟨l, net, _, _, size, own, chan⟩ := s.issueBurst_outcome tile n d false (.tile g) q.2.1 (addrOff q.2.1) q.1 q.2.2 []
  have step : s.readStep tile n d v = (s.issueBurst tile n d false (.tile g) q.2.1 (addrOff q.2.1) q.1 q.2.2 []).modChan tile n
      (fun c => { c with runit := q.1 + q.2.2, phase := .idle }) := by
    unfold State.readStep
    dsimp only
    rw [hs]
    dsimp only
    exact if_neg (Nat.not_lt.mpr room)
  rw [step]
  refine ⟨l, net, size, fun p hp => ⟨(own p hp).1, (own p hp).2.1⟩, ?_⟩
  rw [State.modChan_chan, if_pos rfl, chan]
  refine ⟨rfl, ?_⟩
  change (s.chan tile n).need + l.length = l.length
  rw [hn, Nat.zero_add]

/-- The local side is used up by the burst that it was picked for. -/
theorem State.readStep_own (hs : s.side tile ((s.chan tile n).readNext d v).2.1 = .own) (hp : (s.tile tile).picked = some n) :
    let q := (s.chan tile n).readNext d v
    ((s.readStep tile n d v).chan tile n).runit = q.1 + q.2.2 ∧ ((s.readStep tile n d v).tile tile).picked = none ∧
      ((s.readStep tile n d v).tile tile).lastChan = n ∧ (s.readStep tile n d v).net = s.net := by
  intro q
  have step : s.readStep tile n d v = (s.issueLocal tile n d false (addrOff q.2.1) q.1 q.2.2 []).modChan tile n (fun c => { c with runit := q.1 + q.2.2 }) := by
    unfold State.readStep
    dsimp only
    rw [hs]
    exact if_neg fun h => h hp
  have issued : ∀ f : Tile → Option Nat × Nat, Tile.StreamFree f →
      f ((s.issueLocal tile n d false (addrOff q.2.1) q.1 q.2.2 []).tile tile) = f { s.tile tile with picked := none, lastChan := n } := fun f hf => by
    unfold State.issueLocal
    dsimp only
    rw [(State.reach_streams _ tile _ rfl).1.tiles f hf, (State.EngineOnly.of_modChan _ _ tile n).tiles f hf, State.modTile_tile, if_pos rfl]
    rfl
  have tile' := issued (fun T => (T.picked, T.lastChan)) fun _ _ _ _ _ _ _ _ _ _ => rfl
  rw [step, State.modChan_chan, if_pos rfl]
  have kept := (State.EngineOnly.of_modChan (fun c => { c with runit := q.1 + q.2.2 }) (s.issueLocal tile n d false (addrOff q.2.1) q.1 q.2.2 []) tile n).tiles
    (fun T => (T.picked, T.lastChan)) (fun _ _ _ _ _ _ _ _ _ _ => rfl) tile
  rw [tile', Prod.mk.injEq] at kept
  refine ⟨rfl, kept.1, kept.2, ?_⟩
  unfold State.issueLocal
  exact (State.reach_streams _ tile _ rfl).2

end

/-- Each tracked target that is read back gets one read of a row. -/
theorem State.readbacks_net (s : State) (tile n : Nat) (d : RowData) : ∃ l : List Packet, (s.readbacks tile n d).net = s.net ++ l ∧
    l.length = min ((s.chan tile n).targets.filter (fun x => !x.issued)).length (16 - s.remoteBusy tile) ∧
    ∀ p : Packet, p ∈ l → p.write = false ∧ p.size = 64 := by
  unfold State.readbacks
  extract_lets targets
  have length : targets.length = min ((s.chan tile n).targets.filter (fun x => !x.issued)).length (16 - s.remoteBusy tile) := by
    rw [List.length_take, Nat.min_comm]
  rw [← length]
  clear length
  clear_value targets
  induction targets generalizing s with
  | nil => exact ⟨[], (List.append_nil _).symm, rfl, fun _ h => absurd h List.not_mem_nil⟩
  | cons w targets ih =>
    rw [List.foldl_cons]
    dsimp only
    set s1 := State.modChan _ tile n _ with hs1
    obtain ⟨p, hp, own⟩ : ∃ p, s1.net = s.net ++ [p] ∧ p.write = false ∧ p.size = 64 :=
      ⟨_, by rw [hs1, State.modChan_net, State.launch_net], rfl, rfl⟩
    obtain ⟨l, net, size, each⟩ := ih s1
    refine ⟨p :: l, by rw [net, hp, List.append_assoc, List.singleton_append], by rw [List.length_cons, size, List.length_cons], fun q hq => ?_⟩
    rcases List.mem_cons.mp hq with rfl | hq
    · exact own
    · exact each q hq

/-! ## The turn of the local side (R156) -/

theorem bits3_lt (v : BitVec 24) (i : Nat) : bits v i 3 < 8 := Nat.mod_lt _ (by decide)

/-- The local side goes to a ready channel of the highest priority. -/
theorem State.picks_highest {stPrio : BitVec 24} {last : Nat} {l : List Nat}
    (h : argMin (fun n => (7 - bits stPrio (3 * n) 3) * 8 + turnDist 8 last n) l = some n) :
    n ∈ l ∧ ∀ m, m ∈ l → bits stPrio (3 * m) 3 ≤ bits stPrio (3 * n) 3 := by
  obtain ⟨mem, least⟩ := argMin_eq_some h
  refine ⟨mem, fun m hm => ?_⟩
  have := least m hm
  have := turnDist_lt (n := 8) (last := last) (code := m) (by decide)
  have := bits3_lt stPrio (3 * m)
  omega

/-- Settles O45: the turn of the local side, and the four things that a channel issues. -/
theorem burstsAreIssued : Obligations.BurstsAreIssued := by
  refine ⟨?_, ?_⟩
  · intro s tile hp hl hb hs
    refine ⟨_, State.atTile_next hp hl, ?_⟩
    have sends : (s.tile tile).sends.find? (fun q => !q.asked) = none := List.find?_eq_none.mpr fun q hq => by simp [hs q hq]
    have picked : ((s.burstSelectOp tile).watch tile |>.tile tile).picked = argMin (fun n => (7 - bits (s.tile tile).stPrio (3 * n) 3) * 8 +
        turnDist 8 (s.tile tile).lastChan n) ((List.range 8).filter (fun n => s.wantsLocal tile n)) := by
      rw [(State.watch_streams _ tile).tiles (fun T : Tile => T.picked) fun _ _ _ _ _ _ _ _ _ _ => rfl, State.burstSelectOp]
      dsimp only
      rw [hb, if_neg Bool.false_ne_true, sends]
      dsimp only
      rw [State.modTile_tile, if_pos rfl]
    rw [picked]
    refine ⟨fun ⟨n, hn, hwant⟩ => ?_, fun none => ?_⟩
    · have mem : n ∈ (List.range 8).filter (fun n => s.wantsLocal tile n) := List.mem_filter.mpr ⟨List.mem_range.mpr hn, hwant⟩
      obtain ⟨m, hm⟩ := Option.ne_none_iff_exists'.mp fun h => List.ne_nil_of_mem mem (argMin_eq_none h)
      obtain ⟨mem, most⟩ := State.picks_highest hm
      obtain ⟨hm8, hmwant⟩ := List.mem_filter.mp mem
      exact ⟨m, hm, List.mem_range.mp hm8, hmwant, fun j hj hjw => most j (List.mem_filter.mpr ⟨List.mem_range.mpr hj, hjw⟩)⟩
    · have empty : (List.range 8).filter (fun n => s.wantsLocal tile n) = [] :=
        List.filter_eq_nil_iff.mpr fun n hn => by simp [none n (List.mem_range.mp hn)]
      rw [empty]
      rfl
  intro s tile n d hp hl hn hw he c
  refine ⟨?_, ?_, ?_, ?_⟩
  · intro g hph hr ht q hs hf room
    obtain ⟨l, m, net, rows, own, wunit, outst⟩ := State.writeStep_remote ht hs hr hf room
    refine ⟨_, l, m, State.exec_onChan hp hl hn, ?_⟩
    rw [State.burstIssueOp_writing hw he hph hr, State.watch_chan, State.watch_net]
    exact ⟨net, rows, own, wunit, outst⟩
  · intro g v hph hv hneed hc hr q hs room
    obtain ⟨l, net, size, own, runit, need⟩ := State.readStep_remote hs hneed room
    refine ⟨_, l, State.exec_onChan hp hl hn, ?_⟩
    rw [State.burstIssueOp_idle hw he hph hv hneed hc hr, State.watch_chan, State.watch_net]
    exact ⟨net, size, own, runit, need⟩
  · intro v hph hv hneed hc hr hs hpick
    refine ⟨_, State.exec_onChan hp hl hn, ?_⟩
    have watched := State.watch_streams (s.readStep tile n d v) tile
    rw [State.burstIssueOp_idle hw he hph hv hneed hc hr, State.watch_chan, State.watch_net,
      watched.tiles (fun T : Tile => T.picked) fun _ _ _ _ _ _ _ _ _ _ => rfl, watched.tiles (fun T : Tile => T.lastChan) fun _ _ _ _ _ _ _ _ _ _ => rfl]
    exact State.readStep_own hs hpick
  · intro hph
    obtain ⟨l, net, length, own⟩ := s.readbacks_net tile n d
    refine ⟨_, l, State.exec_onChan hp hl hn, ?_⟩
    rw [State.burstIssueOp_finished hw he hph, State.watch_net]
    exact ⟨net, length, own⟩

end Sys2Proof.Machine
end

section
/-!
Window lookups (spec/07_external_bridges.md R229 to R233): O46.
-/

namespace Sys2Proof.Machine

open Host

/-- A COPY of one element of 64 B from window address 0 to window address 0. -/
def copyRow : RowData := BitVec.ofNat 512 (1 + 64 * 2 ^ 192)

/-- A channel that runs it, in the phase of a multicast's flit. -/
def flitChannel : Channel := { state := .run, snap := some copyRow, phase := .flit }

/-- A tile whose channel 0 stands after its channel 1: the keys of the table do not rise. -/
def misorderedTile : Tile := { chans := [(1, {}), (0, flitChannel)] }

/-- The stream engine of tile 0 as an issuer. -/
def streamIssuer : Issuer := { die := 0, tile := 0, master := 4, chan := 0, hh := 0, port := 127 }

/-- The lookup of the channel's source burst, back with a window entry that names the host's memory. -/
def lookupPacket : Packet :=
  { (default : Packet) with id := 0, iss := streamIssuer, kind := .lookup 0, resp := some .ok, loc := .home, data := [5] }

/-- Fourteen reads of the stream engine are under way. -/
def otherReads : List Packet :=
  (List.range 14).map (fun i => { (default : Packet) with id := i + 1, iss := streamIssuer, kind := .read })

def misordered : State := { pkg := .yx2, net := lookupPacket :: otherReads, slices := [(0, { power := true, step := 9, tiles := [(0, misorderedTile)] })] }

/-- Refutes O46: the burst of a lookup sets out if the remote side has room, and the room is counted again once the channel has taken the answer.
In `misordered` the channel, written to the front of its table, then stands in it twice; both count as a multicast in hand, and the burst, for which
there was room, does not set out. -/
theorem not_lookupsReturn : ¬ Obligations.LookupsReturn := by
  intro h
  obtain ⟨-, source, -⟩ := h misordered 0 0 lookupPacket .ok (by decide) (by decide) (by rfl) rfl rfl
  obtain ⟨-, goes⟩ := source copyRow (by decide +kernel) rfl
  obtain ⟨t, l, ht, net, -, size, -⟩ := goes (.host 0, 0) (by decide +kernel) (by decide +kernel)
  have step : exec (.windowLookupReturn 0 0) misordered = .next ((misordered.lookupBack 0 0).watch 0) := by rfl
  have ht := Outcome.next.inj (step.symm.trans ht)
  have kept : ((misordered.lookupBack 0 0).watch 0).net = otherReads := by decide +kernel
  have rest : misordered.net.filter (fun q => q.id != lookupPacket.id) = otherReads := by rfl
  rw [← ht, kept, rest] at net
  have none : l = [] := List.self_eq_append_right.mp net
  have one : (((misordered.chan 0 lookupPacket.iss.chan).readNext copyRow
    ((((misordered.tile 0).indexFor lookupPacket.iss.chan copyRow (misordered.chan 0 lookupPacket.iss.chan).wunit)).getD 0)).2.2) = 1 := by decide +kernel
  rw [none, one] at size
  exact absurd size (by decide)

end Sys2Proof.Machine
end

section
/-!
Responses, read-backs and index reads (spec/05_stream_engine.md R176, R182, R187, R190; spec/06_stream_transforms.md R204): O47.
-/

namespace Sys2Proof.Machine

variable {s t u : State} {tile n : Nat}

/-! ## Sends that waited for room (spec/08_tallies_bells_channels.md R291) -/

/-- Packets that carry messages. -/
def areMessages (m : List Packet) : Prop := ∀ q : Packet, q ∈ m → ∃ e u k, q.kind = .message e u k

/-- From `s` to `t` a tile's sends have set out. -/
structure State.SendsOut (t s : State) : Prop where
  net : ∃ m, t.net = s.net ++ m ∧ areMessages m
  out : t.out = s.out
  tile : ∀ {β : Type} (f : Tile → β), (∀ (T : Tile) q, f { T with sends := q } = f T) → ∀ g, f (t.tile g) = f (s.tile g)

theorem State.sendsOut_refl (s : State) : s.SendsOut s := ⟨⟨[], (List.append_nil _).symm, fun _ h => absurd h List.not_mem_nil⟩, rfl, fun _ _ _ => rfl⟩

theorem State.SendsOut.trans (h : u.SendsOut t) (h' : t.SendsOut s) : u.SendsOut s := by
  obtain ⟨m, hm, msgs⟩ := h.net
  obtain ⟨m', hm', msgs'⟩ := h'.net
  refine ⟨⟨m' ++ m, by rw [hm, hm', List.append_assoc], fun q hq => ?_⟩, h.out.trans h'.out, fun f hf g => (h.tile f hf g).trans (h'.tile f hf g)⟩
  rcases List.mem_append.mp hq with hq | hq
  · exact msgs' q hq
  · exact msgs q hq

theorem State.modSend_sendsOut (s : State) (tile : Nat) (e : Engine) (k : SendState → SendState) : (s.modTile tile (fun T => T.modSend e k)).SendsOut s :=
  ⟨⟨[], (List.append_nil _).symm, fun _ h => absurd h List.not_mem_nil⟩, rfl,
    fun _ hf g => State.modTile_value (k := fun T => T.modSend e k) s tile g (hf _ _)⟩

theorem State.launchSend_sendsOut (s : State) (tile : Nat) (q : SendState) : (s.launchSend tile q).SendsOut s := by
  obtain ⟨l, net, kinds, _⟩ := s.launchSend_net tile q
  refine ⟨⟨l, net, fun p hp => ?_⟩, ?_, fun f _ g => congrArg f ?_⟩
  · have mem := List.mem_map_of_mem (f := (·.kind)) hp
    rw [kinds] at mem
    obtain ⟨k, _, hk⟩ := List.mem_map.mp mem
    exact ⟨_, _, _, hk.symm⟩
  · exact foldl_eq (fun t : State => t.out) (fun t x => t.launch_out _) _ s
  · exact foldl_eq (fun t : State => t.tile g) (fun t x => t.launch_tile _ g) _ s

/-- Sends that have found room change the network and the sends alone. -/
theorem State.issueSends_sendsOut (s : State) (tile : Nat) : (s.issueSends tile).SendsOut s := by
  unfold State.issueSends
  generalize (s.tile tile).sends = l
  induction l generalizing s with
  | nil => exact s.sendsOut_refl
  | cons q l ih =>
    refine (ih _).trans ?_
    dsimp only
    split
    · exact s.sendsOut_refl
    · split
      · exact s.modSend_sendsOut tile _ _
      · split
        · exact s.sendsOut_refl
        · exact (State.launchSend_sendsOut _ tile q).trans (s.modSend_sendsOut tile _ _)

/-! ## A response reaches its channel -/

variable {id : Nat} {p : Packet} {o st : Status} {x rows : List RowData}

theorem State.ownPkt_pkt (h : s.ownPkt tile id = some p) :
    s.pkt id = some p ∧ p.iss.port = 127 ∧ p.iss.tile = tile ∧ p.iss.master = 4 := by
  obtain ⟨found, own⟩ := Option.filter_eq_some_iff.mp h
  simp only [Bool.and_eq_true, beq_iff_eq] at own
  exact ⟨found, own.1.1.1, own.1.1.2, own.1.2⟩

/-- A response that a channel's request waits for. -/
theorem State.exec_remoteResponse (hp : s.hasTile tile = true) (hl : s.live (tileDie tile) = true) (h : s.ownPkt tile id = some p)
    (ha : p.answer o x = some (st, rows)) :
    exec (.remoteResponse tile id o x) s = .next (((s.remoteResponseOp tile p st rows).issueSends tile).watch tile) := by
  obtain ⟨found, _, _, master⟩ := State.ownPkt_pkt h
  refine (State.atTile_next hp hl).trans (congrArg (fun t : State => Host.Outcome.next (t.watch tile)) ?_)
  unfold State.responseBack
  rw [found]
  dsimp only
  rw [if_neg (by rw [master]; exact fun q => absurd q.2.2 (by decide)), h, ha]

/-- What a response leaves: the operation's state, but for sends that have set out. -/
theorem State.exec_response_outcome (hp : s.hasTile tile = true) (hl : s.live (tileDie tile) = true) (h : s.ownPkt tile id = some p)
    (ha : p.answer o x = some (st, rows)) (hnet : (s.remoteResponseOp tile p st rows).net = s.net.filter (fun q => q.id != p.id)) :
    ∃ t : State, ∃ m : List Packet, exec (.remoteResponse tile id o x) s = .next t ∧ t.net = s.net.filter (fun q => q.id != p.id) ++ m ∧
      areMessages m ∧ t.chan tile p.iss.chan = (s.remoteResponseOp tile p st rows).chan tile p.iss.chan ∧ t.out = (s.remoteResponseOp tile p st rows).out ∧
      Tbl.get 0 (t.tile tile).mcLag p.iss.chan = Tbl.get 0 ((s.remoteResponseOp tile p st rows).tile tile).mcLag p.iss.chan := by
  have sends := (s.remoteResponseOp tile p st rows).issueSends_sendsOut tile
  obtain ⟨m, net, msgs⟩ := sends.net
  refine ⟨_, m, State.exec_remoteResponse hp hl h ha, ?_, msgs, ?_, ?_, ?_⟩
  · rw [State.watch_net, net, hnet]
  · rw [State.watch_chan, State.chan, sends.tile (fun T => T.chan p.iss.chan) fun _ _ => rfl]
    rfl
  · rw [State.watch_out, sends.out]
  · rw [State.watch_value (f := fun T => Tbl.get 0 T.mcLag p.iss.chan) fun _ _ _ => rfl, sends.tile (fun T => Tbl.get 0 T.mcLag p.iss.chan) fun _ _ => rfl]

/-- A channel whose packet has gone. -/
theorem State.dropPkt_modChan (s : State) (id tile n : Nat) (f : Channel → Channel) :
    ((s.dropPkt id).modChan tile n f).chan tile n = f (s.chan tile n) ∧ ((s.dropPkt id).modChan tile n f).net = s.net.filter (fun q => q.id != id) ∧
      ((s.dropPkt id).modChan tile n f).out = s.out :=
  ⟨((s.dropPkt id).modChan_chan tile n n f).trans (if_pos rfl), rfl, rfl⟩

theorem Channel.addFail_first {c : Channel} (h : c.fail = none) (f : ChFail) : c.addFail f = { c with fail := some f } := by
  rw [Channel.addFail, h]

/-! ### Bursts and flits (R182, R190) -/

/-- Rows put into a table one after another, from a place on. -/
theorem Tbl.get_foldl_rows (rows : List RowData) (b : Tbl RowData) (v j : Nat) {k : Nat} (hk : k < rows.length) :
    Tbl.get 0 ((rows.zipIdx j).foldl (fun b p => Tbl.set b (v + p.2) p.1) b) (v + (j + k)) = rows.getD k 0 := by
  induction rows generalizing b j k with
  | nil => exact absurd hk (Nat.not_lt_zero k)
  | cons r rows ih =>
    rw [List.zipIdx_cons, List.foldl_cons]
    cases k with
    | zero =>
      have later : ∀ (l : List RowData) (b : Tbl RowData) (i : Nat), j < i →
          Tbl.get 0 ((l.zipIdx i).foldl (fun b p => Tbl.set b (v + p.2) p.1) b) (v + j) = Tbl.get 0 b (v + j) := by
        intro l
        induction l with
        | nil => exact fun _ _ _ => rfl
        | cons q l ihl =>
          intro b i hi
          rw [List.zipIdx_cons, List.foldl_cons, ihl _ _ (by omega), Tbl.get_set, if_neg (by omega)]
      refine (later _ _ _ (Nat.lt_succ_self j)).trans ?_
      rw [Tbl.get_set, if_pos rfl]
      rfl
    | succ k =>
      have := ih (Tbl.set b (v + j) r) (j + 1) (k := k) (by simpa using hk)
      rw [show j + (k + 1) = j + 1 + k by omega, this]
      rfl

/-- A failure changes nothing else of a channel. -/
theorem Channel.addFail_eq (c : Channel) (f : ChFail) : ∃ q, c.addFail f = { c with fail := q } := by
  unfold Channel.addFail
  split
  · exact ⟨_, rfl⟩
  · split
    · exact ⟨_, rfl⟩
    · exact ⟨c.fail, rfl⟩

theorem Channel.addFail_outst (c : Channel) (f : ChFail) : (c.addFail f).outst = c.outst := by
  obtain ⟨q, h⟩ := c.addFail_eq f
  rw [h]

theorem Channel.addFail_rbIssued (c : Channel) (f : ChFail) : (c.addFail f).rbIssued = c.rbIssued := by
  obtain ⟨q, h⟩ := c.addFail_eq f
  rw [h]

/-- What a channel takes from a response to a burst. -/
theorem Channel.burstAnswer_outst (c : Channel) (ord v first : Nat) (w : Bool) (a : Nat) (st : Status) (l d : Bool) :
    (c.burstAnswer ord v first w a st rows l d).outst = c.outst - 1 := by
  unfold Channel.burstAnswer
  extract_lets c'
  have h : c'.outst = c.outst - 1 := rfl
  clear_value c'
  split
  · rw [Channel.addFail_outst, h]
  · split
    · exact h
    · exact h

theorem Channel.burstAnswer_ok (c : Channel) (ord v first : Nat) (w : Bool) (a : Nat) (l d : Bool) :
    (c.burstAnswer ord v first w a .ok rows l d).fail = c.fail ∧
      (c.burstAnswer ord v first w a .ok rows l d).inBuf =
        if w then c.inBuf else (rows.zipIdx).foldl (fun b p => Tbl.set b (v + p.2) p.1) c.inBuf := by
  unfold Channel.burstAnswer
  cases w <;> simp

theorem Channel.burstAnswer_fails (c : Channel) (ord v first : Nat) (w : Bool) (a : Nat) (l d : Bool) (hs : st ≠ .ok) (hc : c.fail = none) :
    (c.burstAnswer ord v first w a st rows l d).fail =
      some { seq := ord, addr := BitVec.ofNat 48 a, dir := if w then 1 else 0, status := st, unit := first, all := false } := by
  unfold Channel.burstAnswer
  rw [if_pos hs]
  exact congrArg Channel.fail (Channel.addFail_first (by exact hc) _)

theorem foldl_setBit (l : List Nat) (w : BitVec 16) {i : Nat} (hi : i < 16) :
    bit (l.foldl (fun w i => setBit w i true) w) i = true ↔ bit w i = true ∨ i ∈ l := by
  induction l generalizing w with
  | nil => simp
  | cons j l ih =>
    rw [List.foldl_cons, ih, bit_setBit_true _ _ hi, List.mem_cons]
    tauto

/-- ST_MC_LAG latches the receivers that a flit has lagged at. -/
theorem Tile.setLag_bit (T : Tile) (n : Nat) (l : List Nat) {i : Nat} (hi : i < 16) : bit (Tbl.get 0 (T.setLag n l).mcLag n) i = true ↔ i ∈ l := by
  have high : ∀ i, i < 16 → bit (0xFFFF0000 : Word) i = false := by decide
  have low : ∀ (w : Word) (m : BitVec 16), bit ((w &&& 0xFFFF0000) ||| BitVec.ofNat 32 m.toNat) i = bit m i := by
    intro w m
    have hm := high i hi
    rw [bit] at hm
    rw [bit_or, bit, bit, bit, BitVec.getLsbD_and, hm, Bool.and_false, Bool.false_or, BitVec.getLsbD_ofNat, BitVec.testBit_toNat]
    simp [show i < 32 by omega]
  refine Iff.trans ?_ ((foldl_setBit l 0 hi).trans (by simp [bit]))
  rw [Tile.setLag, Tbl.get_set, if_pos rfl, low]

/-! ### Each kind of response -/

/-- The L bit that a response brings to its channel. -/
def State.lBack (s : State) (tile : Nat) (p : Packet) : Bool := p.l || (s.slice (tileDie tile)).lpActive

theorem State.remoteResponseOp_burst (hk : p.kind = .read ∨ p.kind = .write) : s.remoteResponseOp tile p st rows =
    (s.dropPkt p.id).modChan tile p.iss.chan (fun c => c.burstAnswer p.ord p.unit (p.unit - (p.place / 64 - p.bstart)) p.write p.addr.toNat st rows
      (s.lBack tile p) p.demoted) := by
  unfold State.remoteResponseOp
  rcases hk with h | h
  · rw [h]; rfl
  · rw [h]; rfl

/-- A failure of order `ord` comes before the one that the channel has. -/
def Channel.firstAt (c : Channel) (ord : Nat) : Bool := match c.fail with | none => true | some g => decide (ord < g.seq)

/-- The state in which a flit's response is taken. -/
def State.lagged (s : State) (tile : Nat) (p : Packet) (st : Status) (rs : List (Nat × Nat)) : State :=
  if st ≠ .ok && (s.chan tile p.iss.chan).firstAt p.ord then s.modTile tile (fun T => T.setLag p.iss.chan (rs.map Prod.fst)) else s

theorem State.remoteResponseOp_flit {rs : List (Nat × Nat)} (hk : p.kind = .mcast rs) : s.remoteResponseOp tile p st rows =
    ((s.lagged tile p st rs).dropPkt p.id).modChan tile p.iss.chan (fun c => c.burstAnswer p.ord p.unit p.unit true
      (tileMemAddr ((rs.map Prod.snd).headD 0) p.place) st rows (s.lBack tile p) p.demoted) := by
  unfold State.remoteResponseOp
  rw [hk]
  rfl

/-- A flit's response: a first failure latches the receivers that lag. -/
theorem State.remoteResponseOp_mcast {rs : List (Nat × Nat)} (hk : p.kind = .mcast rs) :
    (s.remoteResponseOp tile p st rows).net = s.net.filter (fun q => q.id != p.id) ∧
    (∃ a, (s.remoteResponseOp tile p st rows).chan tile p.iss.chan =
      (s.chan tile p.iss.chan).burstAnswer p.ord p.unit p.unit true a st rows (s.lBack tile p) p.demoted) ∧
    (st ≠ .ok → (s.chan tile p.iss.chan).fail = none →
      ((s.remoteResponseOp tile p st rows).tile tile).mcLag = ((s.tile tile).setLag p.iss.chan (rs.map Prod.fst)).mcLag) := by
  rw [State.remoteResponseOp_flit hk]
  have lagged : (s.lagged tile p st rs).net = s.net ∧ (s.lagged tile p st rs).chan tile p.iss.chan = s.chan tile p.iss.chan ∧
      (st ≠ .ok → (s.chan tile p.iss.chan).fail = none →
        ((s.lagged tile p st rs).tile tile).mcLag = ((s.tile tile).setLag p.iss.chan (rs.map Prod.fst)).mcLag) := by
    unfold State.lagged
    split
    · refine ⟨rfl, State.modTile_chan (h := fun T => T.setLag p.iss.chan (rs.map Prod.fst)) (fun _ => rfl) s tile tile p.iss.chan, fun _ _ => ?_⟩
      rw [State.modTile_tile, if_pos rfl]
    · next hc => exact ⟨rfl, rfl, fun hs hf => absurd (by simp [hs, Channel.firstAt, hf]) hc⟩
  generalize s.lagged tile p st rs = t at lagged ⊢
  obtain ⟨net, chan, lag⟩ := lagged
  refine ⟨?_, ⟨tileMemAddr ((rs.map Prod.snd).headD 0) p.place, ?_⟩, fun hs hf => ?_⟩
  · rw [State.modChan_net, State.dropPkt, net]
  · rw [State.modChan_chan, if_pos rfl]
    exact congrArg (fun c : Channel => c.burstAnswer p.ord p.unit p.unit true _ st rows (s.lBack tile p) p.demoted) chan
  · exact (State.modTile_value (f := Tile.mcLag) (t.dropPkt p.id) tile tile rfl).trans (lag hs hf)

theorem State.remoteResponseOp_fetch (hk : p.kind = .fetch) : s.remoteResponseOp tile p st rows =
    (s.dropPkt p.id).modChan tile p.iss.chan (fun c => { c.tagged (s.lBack tile p) p.demoted with fetching := false, fetched := some (st, rows.headD 0) }) := by
  unfold State.remoteResponseOp
  rw [hk]
  rfl

theorem State.remoteResponseOp_reg {wr : Bool} (hk : p.kind = .reg wr) : s.remoteResponseOp tile p st rows =
    ((s.dropPkt p.id).modChan tile p.iss.chan (fun c => c.tagged (s.lBack tile p) p.demoted)).answerReg (.st tile p.iss.chan) p.addr.toNat st 0 := by
  unfold State.remoteResponseOp
  rw [hk]
  rfl

/-- The channel that has its probe back. -/
def Channel.probeBack (c : Channel) (l d : Bool) : Channel := { c.tagged l d with outst := c.outst - 1, rbIssued := false }

/-- What the values of a probe make of its channel. -/
def Channel.probeTaken (c : Channel) (p : Packet) (w : RowData) : Channel :=
  match c.snap with
  | some d => c.probed d p (BitVec.ofNat 32 (rowWord w 0)) (BitVec.ofNat 32 (rowWord w 1))
  | none => c

theorem State.remoteResponseOp_probe {fill free : Nat} (hk : p.kind = .probe fill free) :
    (s.remoteResponseOp tile p st rows).net = s.net.filter (fun q => q.id != p.id) ∧
    (s.remoteResponseOp tile p st rows).chan tile p.iss.chan =
      let c := (s.chan tile p.iss.chan).probeBack (s.lBack tile p) p.demoted
      if st ≠ .ok then c.addFail { seq := p.ord, addr := p.addr, dir := 2, status := st, unit := c.known, all := false, alone := true }
      else c.probeTaken p (rows.headD 0) := by
  have back := s.dropPkt_modChan p.id tile p.iss.chan (fun c => c.probeBack (s.lBack tile p) p.demoted)
  unfold State.remoteResponseOp
  rw [hk]
  dsimp only
  split
  · refine ⟨rfl, ?_⟩
    rw [State.modChan_chan, if_pos rfl]
    exact congrArg (fun c : Channel => c.addFail { seq := p.ord, addr := p.addr, dir := 2, status := st, unit := c.known, all := false, alone := true }) back.1
  · refine ⟨rfl, ?_⟩
    rw [State.modChan_chan, if_pos rfl]
    exact congrArg (fun c : Channel => c.probeTaken p (rows.headD 0)) back.1

/-! ### Probes (R184, R185, R187) -/

theorem Channel.probed_rest (c : Channel) (d : RowData) (p : Packet) (a b : Word) :
    (c.probed d p a b).outst = c.outst ∧ (c.probed d p a b).rbIssued = c.rbIssued := by
  unfold Channel.probed
  extract_lets c'
  have same : c'.outst = c.outst ∧ c'.rbIssued = c.rbIssued := ⟨rfl, rfl⟩
  split
  · rw [Channel.addFail_outst, Channel.addFail_rbIssued]
    exact same
  · split
    · exact same
    · exact same

/-- The values of a probe reach a channel without a failure. -/
theorem Channel.probed_outcome {c : Channel} {d : RowData} (p : Packet) (a b : Word) (hc : c.fail = none) :
    let q := c.probed d p a b
    q.ringFree = b ∧ (c.phase = .probe → q.started = a ∧ q.phase = .idle) ∧
      (Desc.ringN d < (a - b).toNat → q.fail.map (fun f => (f.status, f.dir)) = some (.spread, 1)) ∧
      ((a - b).toNat ≤ Desc.ringN d → q.fail = none ∧
        q.state = if c.state = .wait ∧ (q.started - b).toNat < Desc.ringN d then .run else c.state) := by
  intro q
  unfold q Channel.probed
  clear q
  extract_lets c'
  have hc' : c'.fail = none := hc
  have begun : c.phase = .probe → c'.started = a ∧ c'.phase = .idle := fun h => ⟨if_pos h, if_pos h⟩
  have state : c'.state = c.state := rfl
  split
  · next h =>
    rw [Channel.addFail_first hc']
    exact ⟨rfl, begun, fun _ => rfl, fun k => absurd (decide_eq_true_eq.mp h) (Nat.not_lt.mpr k)⟩
  · next h =>
    have near : ¬Desc.ringN d < (a - b).toNat := fun k => h (decide_eq_true k)
    split
    · next hw =>
      simp only [Bool.and_eq_true, decide_eq_true_eq, Channel.mayStart] at hw
      exact ⟨rfl, begun, fun k => absurd k near, fun _ => ⟨hc', (if_pos ⟨state.symm.trans hw.1, hw.2⟩).symm⟩⟩
    · next hw =>
      simp only [Bool.and_eq_true, decide_eq_true_eq, Channel.mayStart] at hw
      exact ⟨rfl, begun, fun k => absurd k near, fun _ => ⟨hc', state.trans (if_neg fun k => hw ⟨state.trans k.1, k.2⟩).symm⟩⟩

/-- The answer to a REGWRITE reaches its channel (R169). -/
theorem Channel.regAnswer_outcome {c : Channel} {d : RowData} {a : Nat} (hs : c.snap = some d) (hr : c.state = .run) (h7 : Desc.op d = 7)
    (ho : 0 < c.outst) (hd : Desc.dst d = a) : (c.regAnswer a st).outst = 0 ∧ (st = .ok → (c.regAnswer a st).bodyDone = true) ∧
      (st ≠ .ok → c.fail = none → (c.regAnswer a st).fail.map (fun f => (f.status, f.dir)) = some (st, 1)) := by
  unfold Channel.regAnswer
  rw [hs]
  dsimp only
  rw [if_pos ⟨hr, h7, ho, hd⟩]
  split
  · next h => exact ⟨rfl, fun _ => rfl, fun k => absurd h k⟩
  · next h =>
    refine ⟨rfl, fun k => absurd k h, fun _ hf => ?_⟩
    rw [Channel.addFail_first hf]
    rfl

/-- What becomes of each response to a request of a channel. -/
theorem State.remoteResponse_outcome (hp : s.hasTile tile = true) (hl : s.live (tileDie tile) = true) (hown : s.ownPkt tile id = some p)
    (ha : p.answer o x = some (st, rows)) :
    let n := p.iss.chan
    let c := s.chan tile n
    let here (f : State → List Packet → Prop) : Prop := ∃ t : State, ∃ m : List Packet, exec (.remoteResponse tile id o x) s = .next t ∧
      t.net = s.net.filter (fun q => q.id != p.id) ++ m ∧ (∀ q : Packet, q ∈ m → ∃ e u k, q.kind = .message e u k) ∧ f t m
    ((p.kind = .read ∨ p.kind = .write) → here (fun t _ => (t.chan tile n).outst = c.outst - 1 ∧
      (st = .ok → p.write = false → (t.chan tile n).fail = c.fail ∧
        ∀ k, k < rows.length → Tbl.get 0 (t.chan tile n).inBuf (p.unit + k) = rows.getD k 0) ∧
      (st = .ok → p.write = true → (t.chan tile n).fail = c.fail ∧ (t.chan tile n).inBuf = c.inBuf) ∧
      (st ≠ .ok → c.fail = none → (t.chan tile n).fail.map (fun f => (f.status, f.addr, f.dir)) = some (st, p.addr, if p.write then 1 else 0)))) ∧
    (∀ rs, p.kind = .mcast rs → here (fun t _ => (t.chan tile n).outst = c.outst - 1 ∧ (st = .ok → (t.chan tile n).fail = c.fail) ∧
      (st ≠ .ok → c.fail = none → (t.chan tile n).fail.map (fun f => (f.status, f.dir)) = some (st, 1) ∧
        ∀ i, i < 16 → (bit (Tbl.get 0 (t.tile tile).mcLag n) i = true ↔ ∃ r, r ∈ rs ∧ r.1 = i)))) ∧
    (p.kind = .fetch → here (fun t _ => (t.chan tile n).fetching = false ∧ (t.chan tile n).fetched = some (st, rows.headD 0))) ∧
    (∀ fill free, p.kind = .probe fill free → here (fun t _ => (t.chan tile n).outst = c.outst - 1 ∧ (t.chan tile n).rbIssued = false ∧
      (c.fail = none →
        (st ≠ .ok → (t.chan tile n).fail.map (fun f => (f.status, f.dir)) = some (st, 2)) ∧
        (∀ d, st = .ok → c.snap = some d →
          let a : Word := BitVec.ofNat 32 (rowWord (rows.headD 0) 0)
          let b : Word := BitVec.ofNat 32 (rowWord (rows.headD 0) 1)
          (t.chan tile n).ringFree = b ∧ (c.phase = .probe → (t.chan tile n).started = a ∧ (t.chan tile n).phase = .idle) ∧
          (Desc.ringN d < (a - b).toNat → (t.chan tile n).fail.map (fun f => (f.status, f.dir)) = some (.spread, 1)) ∧
          ((a - b).toNat ≤ Desc.ringN d → (t.chan tile n).fail = none ∧ (t.chan tile n).state =
            if c.state = .wait ∧ ((t.chan tile n).started - b).toNat < Desc.ringN d then .run else c.state))))) ∧
    (∀ wr, p.kind = .reg wr → here (fun t _ => t.out = s.out ++ [Output.reg (.st tile n) p.addr.toNat st 0] ∧
      (∀ d, c.snap = some d → c.state = .run → Desc.op d = 7 → 0 < c.outst → Desc.dst d = p.addr.toNat →
        (t.chan tile n).outst = 0 ∧ (st = .ok → (t.chan tile n).bodyDone = true) ∧
        (st ≠ .ok → c.fail = none → (t.chan tile n).fail.map (fun f => (f.status, f.dir)) = some (st, 1))))) := by
  intro n c here
  have run := State.exec_response_outcome hp hl hown ha
  refine ⟨fun hk => ?_, fun rs hk => ?_, fun hk => ?_, fun fill free hk => ?_, fun wr hk => ?_⟩
  · obtain ⟨chan, net, _⟩ := s.dropPkt_modChan p.id tile n (fun c => c.burstAnswer p.ord p.unit (p.unit - (p.place / 64 - p.bstart)) p.write p.addr.toNat st rows
      (s.lBack tile p) p.demoted)
    rw [State.remoteResponseOp_burst hk] at run
    obtain ⟨t, m, ht, hm, msgs, hc, _⟩ := run net
    refine ⟨t, m, ht, hm, msgs, ?_⟩
    dsimp only
    rw [show t.chan tile n = _ from hc.trans chan]
    refine ⟨Channel.burstAnswer_outst .., fun hs hw => ?_, fun hs hw => ?_, fun hs hf => ?_⟩
    · subst hs
      obtain ⟨fail, buf⟩ := c.burstAnswer_ok (rows := rows) p.ord p.unit (p.unit - (p.place / 64 - p.bstart)) p.write p.addr.toNat (s.lBack tile p) p.demoted
      refine ⟨fail, fun k hlen => ?_⟩
      rw [buf, hw, if_neg Bool.false_ne_true]
      have := Tbl.get_foldl_rows rows c.inBuf p.unit 0 hlen
      rwa [Nat.zero_add] at this
    · subst hs
      obtain ⟨fail, buf⟩ := c.burstAnswer_ok (rows := rows) p.ord p.unit (p.unit - (p.place / 64 - p.bstart)) p.write p.addr.toNat (s.lBack tile p) p.demoted
      exact ⟨fail, by rw [buf, hw, if_pos rfl]⟩
    · rw [Channel.burstAnswer_fails _ _ _ _ _ _ _ _ hs hf, BitVec.ofNat_toNat, BitVec.setWidth_eq]
      rfl
  · obtain ⟨net, ⟨a, chan⟩, lag⟩ := s.remoteResponseOp_mcast (tile := tile) (st := st) (rows := rows) hk
    obtain ⟨t, m, ht, hm, msgs, hc, _, hlag⟩ := run net
    refine ⟨t, m, ht, hm, msgs, ?_⟩
    dsimp only
    rw [show t.chan tile n = _ from hc.trans chan, show Tbl.get 0 (t.tile tile).mcLag n = _ from hlag]
    refine ⟨Channel.burstAnswer_outst .., fun hs => ?_, fun hs hf => ⟨?_, fun i hi => ?_⟩⟩
    · subst hs
      exact (c.burstAnswer_ok (rows := rows) p.ord p.unit p.unit true a (s.lBack tile p) p.demoted).1
    · rw [Channel.burstAnswer_fails _ _ _ _ _ _ _ _ hs hf]
      rfl
    · rw [lag hs hf, Tile.setLag_bit _ _ _ hi]
      exact List.mem_map
  · obtain ⟨chan, net, _⟩ := s.dropPkt_modChan p.id tile n
      (fun c => { c.tagged (s.lBack tile p) p.demoted with fetching := false, fetched := some (st, rows.headD 0) })
    rw [State.remoteResponseOp_fetch hk] at run
    obtain ⟨t, m, ht, hm, msgs, hc, _⟩ := run net
    refine ⟨t, m, ht, hm, msgs, ?_⟩
    dsimp only
    rw [show t.chan tile n = _ from hc.trans chan]
    exact ⟨rfl, rfl⟩
  · obtain ⟨net, chan⟩ := s.remoteResponseOp_probe (tile := tile) (st := st) (rows := rows) hk
    obtain ⟨t, m, ht, hm, msgs, hc, _⟩ := run net
    refine ⟨t, m, ht, hm, msgs, ?_⟩
    dsimp only
    rw [show t.chan tile n = _ from hc.trans chan]
    by_cases hs : st = .ok
    · rw [if_neg (fun k => k hs), Channel.probeTaken]
      cases hd : (c.probeBack (s.lBack tile p) p.demoted).snap with
      | none => exact ⟨rfl, rfl, fun _ => ⟨fun k => absurd hs k, fun d _ h => absurd (hd.symm.trans h) (by simp)⟩⟩
      | some d =>
        obtain ⟨outst, issued⟩ := (c.probeBack (s.lBack tile p) p.demoted).probed_rest d p (BitVec.ofNat 32 (rowWord (rows.headD 0) 0))
          (BitVec.ofNat 32 (rowWord (rows.headD 0) 1))
        refine ⟨outst, issued, fun hf => ⟨fun k => absurd hs k, fun e _ he => ?_⟩⟩
        obtain rfl : d = e := Option.some.inj (hd.symm.trans he)
        exact Channel.probed_outcome p _ _ hf
    · rw [if_pos hs]
      refine ⟨Channel.addFail_outst .., Channel.addFail_rbIssued .., fun hf => ⟨fun _ => ?_, fun d k => absurd k hs⟩⟩
      exact (congrArg (fun q : Channel => q.fail.map (fun f => (f.status, f.dir)))
        (Channel.addFail_first (c := c.probeBack (s.lBack tile p) p.demoted) hf _)).trans rfl
  · have fields := State.answerReg_rest ((s.dropPkt p.id).modChan tile p.iss.chan (fun c => c.tagged (s.lBack tile p) p.demoted)) (.st tile p.iss.chan)
      p.addr.toNat st 0
    obtain ⟨out, _, _, _, net, _⟩ := fields
    rw [State.remoteResponseOp_reg hk] at run
    have chan : (((s.dropPkt p.id).modChan tile p.iss.chan (fun c => c.tagged (s.lBack tile p) p.demoted)).answerReg (.st tile p.iss.chan) p.addr.toNat st 0).chan
        tile p.iss.chan = (c.tagged (s.lBack tile p) p.demoted).regAnswer p.addr.toNat st := by
      rw [State.answerReg, State.modChan_chan, if_pos rfl]
      exact congrArg (fun c : Channel => c.regAnswer p.addr.toNat st) (s.dropPkt_modChan p.id tile p.iss.chan (fun c => c.tagged (s.lBack tile p) p.demoted)).1
    obtain ⟨t, m, ht, hm, msgs, hc, hout, _⟩ := run (net.trans rfl)
    refine ⟨t, m, ht, hm, msgs, hout.trans out, fun d hd hr h7 ho hdst => ?_⟩
    rw [show t.chan tile n = _ from hc.trans chan]
    exact Channel.regAnswer_outcome (c := c.tagged (s.lBack tile p) p.demoted) hd hr h7 ho hdst

/-! ## The scalar core's register accesses (spec/04_fabric_arbitration.md R110) -/

theorem State.exec_coreAnswer (hp : s.hasTile tile = true) (hl : s.live (tileDie tile) = true) (hf : s.pkt id = some p) (h127 : p.iss.port = 127)
    (ht : p.iss.tile = tile) (h3 : p.iss.master = 3) : exec (.remoteResponse tile id o x) s = .next ((s.coreAnswer tile p).watch tile) := by
  refine (State.atTile_next hp hl).trans (congrArg (fun t : State => Host.Outcome.next (t.watch tile)) ?_)
  unfold State.responseBack
  rw [hf]
  exact if_pos ⟨h127, ht, h3⟩

theorem State.coreAnswer_reg {wr : Bool} (hh : p.loc = .home) (hr : p.resp = some st) (hk : p.kind = .reg wr) : s.coreAnswer tile p =
    (s.dropPkt p.id).emit (.reg (.sc tile) p.addr.toNat st ((p.data.headD 0).truncate 32)) := by
  unfold State.coreAnswer
  rw [hh, hr, hk]
  rfl

theorem State.coreAnswer_regBack (hh : p.loc = .home) (hr : p.resp = some st) (hk : p.kind = .regBack) : s.coreAnswer tile p = s.dropPkt p.id := by
  unfold State.coreAnswer
  rw [hh, hr, hk]

/-! ## Read-backs (R176, R182, R187) -/

theorem State.exec_readbackReturn (hp : s.hasTile tile = true) (hl : s.live (tileDie tile) = true) (h : s.ownPkt tile id = some p)
    (ha : p.answer o [] = some (st, rows)) : ∃ t : State, exec (.readbackReturn tile id o) s = .next t ∧
      t.chan tile p.iss.chan = (s.readbackReturnOp tile p st rows).chan tile p.iss.chan := by
  refine ⟨_, (State.atTile_next hp hl).trans (congrArg (fun t : State => Host.Outcome.next (t.watch tile))
    (?_ : s.readbackBack tile id o = (s.readbackReturnOp tile p st rows).issueSends tile)), ?_⟩
  · unfold State.readbackBack
    rw [h]
    dsimp only
    rw [ha]
  · rw [State.watch_chan, State.chan, (State.issueSends_sendsOut _ tile).tile (fun T => T.chan p.iss.chan) fun _ _ => rfl]
    rfl

/-- A channel whose read-back has returned. -/
def Channel.readBack (c : Channel) (l d : Bool) : Channel := { c with outst := c.outst - 1, l := c.l || l, demoted := c.demoted || d }

/-- The failure of a read-back. -/
def Packet.readbackFail (p : Packet) (c : Channel) (st : Status) : ChFail :=
  { seq := p.ord, addr := p.addr, dir := if st = .spread then 1 else 2, status := st, unit := c.known, all := false, alone := true }

/-- A read-back marks its target. -/
def Channel.marked (c : Channel) (p : Packet) : Channel :=
  let l := updWhere (fun w => w.target == p.target) (fun w => { w with returned := true }) c.targets
  if c.phase ≠ .finished ∧ l.all (fun w => w.returned) then { c with targets := [], known := c.wunit } else { c with targets := l }

theorem State.readbackReturnOp_target (hk : p.kind = .readback ∨ ∃ k, p.kind = .rtally k) :
    (s.readbackReturnOp tile p st rows).chan tile p.iss.chan =
      let c := (s.chan tile p.iss.chan).readBack (s.lBack tile p) p.demoted
      if st ≠ .ok then c.addFail (p.readbackFail c st) else c.marked p := by
  obtain ⟨back, _⟩ := s.dropPkt_modChan p.id tile p.iss.chan (fun c => c.readBack (s.lBack tile p) p.demoted)
  have op : s.readbackReturnOp tile p st rows =
      let u := (s.dropPkt p.id).modChan tile p.iss.chan (fun c => c.readBack (s.lBack tile p) p.demoted)
      if st ≠ .ok then u.modChan tile p.iss.chan (fun c => c.addFail (p.readbackFail c st)) else u.modChan tile p.iss.chan (fun c => c.marked p) := by
    unfold State.readbackReturnOp
    rcases hk with h | ⟨k, h⟩
    · rw [h]; rfl
    · rw [h]; rfl
  rw [op]
  dsimp only
  split
  · rw [State.modChan_chan, if_pos rfl, back]
  · rw [State.modChan_chan, if_pos rfl, back]

/-- A slot's read-back takes up FREE and ends the slot. -/
def Channel.slotEnded (c : Channel) (w : RowData) : Channel :=
  { c with ringFree := BitVec.ofNat 32 (rowWord w 1), slotOpen := false, slotEnd := false, known := c.wunit }

theorem State.readbackReturnOp_slot {fill free k : Nat} (hk : p.kind = .slotReadback fill free k) :
    (s.readbackReturnOp tile p st rows).chan tile p.iss.chan =
      let c := { (s.chan tile p.iss.chan).readBack (s.lBack tile p) p.demoted with rbIssued := false }
      if st ≠ .ok then c.addFail (p.readbackFail c st) else c.slotEnded (rows.headD 0) := by
  obtain ⟨back, _⟩ := s.dropPkt_modChan p.id tile p.iss.chan (fun c => c.readBack (s.lBack tile p) p.demoted)
  have op : s.readbackReturnOp tile p st rows =
      let u := ((s.dropPkt p.id).modChan tile p.iss.chan (fun c => c.readBack (s.lBack tile p) p.demoted)).modChan tile p.iss.chan
        (fun c => { c with rbIssued := false })
      if st ≠ .ok then u.modChan tile p.iss.chan (fun c => c.addFail (p.readbackFail c st))
      else u.modChan tile p.iss.chan (fun c => c.slotEnded (rows.headD 0)) := by
    unfold State.readbackReturnOp
    rw [hk]
    rfl
  rw [op]
  dsimp only
  split
  · rw [State.modChan_chan, if_pos rfl, State.modChan_chan, if_pos rfl, back]
  · rw [State.modChan_chan, if_pos rfl, State.modChan_chan, if_pos rfl, back]

/-- What becomes of each read-back. -/
theorem State.readbackReturn_outcome (hp : s.hasTile tile = true) (hl : s.live (tileDie tile) = true) (hown : s.ownPkt tile id = some p)
    (ha : p.answer o [] = some (st, rows)) :
    let n := p.iss.chan
    let c := s.chan tile n
    let bad (t : State) : Prop := st ≠ .ok → c.fail = none → (t.chan tile n).fail.map (fun f => (f.status, f.dir)) = some (st, if st = .spread then 1 else 2)
    ((p.kind = .readback ∨ ∃ k, p.kind = .rtally k) → ∃ t : State, exec (.readbackReturn tile id o) s = .next t ∧
      (t.chan tile n).outst = c.outst - 1 ∧ bad t ∧
      (st = .ok → c.phase = .finished →
        (t.chan tile n).targets = updWhere (fun w => w.target == p.target) (fun w => { w with returned := true }) c.targets)) ∧
    (∀ fill free k, p.kind = .slotReadback fill free k → ∃ t : State, exec (.readbackReturn tile id o) s = .next t ∧
      (t.chan tile n).outst = c.outst - 1 ∧ (t.chan tile n).rbIssued = false ∧ bad t ∧
      (st = .ok → (t.chan tile n).ringFree = BitVec.ofNat 32 (rowWord (rows.headD 0) 1) ∧ (t.chan tile n).slotOpen = false ∧
        (t.chan tile n).slotEnd = false ∧ (t.chan tile n).known = c.wunit)) := by
  intro n c bad
  obtain ⟨t, ht, hc⟩ := State.exec_readbackReturn hp hl hown ha
  refine ⟨fun hk => ⟨t, ht, ?_⟩, fun fill free k hk => ⟨t, ht, ?_⟩⟩
  · have chan : t.chan tile n = _ := hc.trans (State.readbackReturnOp_target hk)
    unfold bad
    rw [chan]
    dsimp only
    by_cases hs : st = .ok
    · rw [if_neg (fun k => k hs), Channel.marked]
      refine ⟨?_, fun k => absurd hs k, fun _ hph => ?_⟩
      · split
        · rfl
        · rfl
      · exact congrArg Channel.targets (if_neg fun k => k.1 hph)
    · rw [if_pos hs]
      refine ⟨Channel.addFail_outst .., fun _ hf => ?_, fun k => absurd k hs⟩
      exact (congrArg (fun q : Channel => q.fail.map (fun f => (f.status, f.dir)))
        (Channel.addFail_first (c := c.readBack (s.lBack tile p) p.demoted) hf _)).trans rfl
  · have chan : t.chan tile n = _ := hc.trans (State.readbackReturnOp_slot hk)
    unfold bad
    rw [chan]
    dsimp only
    by_cases hs : st = .ok
    · rw [if_neg (fun k => k hs)]
      exact ⟨rfl, rfl, fun k => absurd hs k, fun _ => ⟨rfl, rfl, rfl, rfl⟩⟩
    · rw [if_pos hs]
      refine ⟨Channel.addFail_outst .., Channel.addFail_rbIssued .., fun _ hf => ?_, fun k => absurd k hs⟩
      exact (congrArg (fun q : Channel => q.fail.map (fun f => (f.status, f.dir)))
        (Channel.addFail_first (c := { c.readBack (s.lBack tile p) p.demoted with rbIssued := false }) hf _)).trans rfl

end Sys2Proof.Machine
end

section
/-!
Index reads that return (spec/06_stream_transforms.md R203, R204) and ALLSTOP (spec/05_stream_engine.md R193): the rest of O47.
-/

namespace Sys2Proof.Machine

variable {s t : State} {tile n id : Nat} {b : IndexBlock} {how : IndexReturn}

/-! ## ALLSTOP -/

/-- A channel that is idle, or armed, halts at once. -/
theorem Channel.allStop_halts {c : Channel} (q : Nat) (hs : c.state = .idle ∨ c.state = .armed) (ho : c.outst = 0) (hg : c.fetching = false)
    (hd : c.fetched = none) (hf : c.fail = none) : (c.allStop q false).state = .halt ∧ (c.allStop q false).code = .allstop ∧
      (c.allStop q false).faultAll = true ∧ (c.allStop q false).haltFrom = c.state := by
  unfold Channel.allStop
  rcases hs with h | h <;> simp [h, ho, hg, hd, hf, Channel.halted]

theorem Tbl.get_map {α : Type} (m : Tbl α) (f : Nat → α → α) (d : α) (k : Nat) (h : Tbl.get d m k ≠ d) :
    Tbl.get d (m.map (fun p => (p.1, f p.1 p.2))) k = f k (Tbl.get d m k) := by
  induction m with
  | nil => exact absurd rfl h
  | cons p m ih =>
    obtain ⟨j, a⟩ := p
    by_cases e : j = k
    · simp [Tbl.get, e]
    · simp only [Tbl.get, e, if_false] at h
      simp only [List.map_cons, Tbl.get, e, if_false, ih h]

/-- ALLSTOP reaches each channel of the tile. -/
theorem State.allStop_chan (s : State) (tile cause code a : Nat) (h : s.chan tile n ≠ {}) :
    (s.allStop tile cause code a).chan tile n = (s.chan tile n).allStop s.nextId ((s.tile tile).indexPending n) := by
  unfold State.allStop
  dsimp only
  rw [State.chan, State.record_tile, State.raise_tile, State.modTile_tile, if_pos rfl]
  exact Tbl.get_map (s.tile tile).chans (fun k c => c.allStop s.nextId ((s.tile tile).indexPending k)) {} n h

/-- ALLSTOP raises FAULT to the tile's household. -/
theorem State.allStop_cause (s : State) (tile cause code a : Nat) :
    bit (((s.allStop tile cause code a).slice (tileDie tile)).irq (s.tile tile).hh).cause 2 = true := by
  unfold State.allStop
  dsimp only
  rw [State.record_slice, if_pos rfl, Slice.irq, Slice.holdRecord_irqs]
  exact State.raise_cause _ _ _ (by decide)

/-! ## An index block (R204) -/

/-- A block leaves the prefetcher. -/
def State.dropBlock (s : State) (tile : Nat) (b : IndexBlock) : State :=
  s.modTile tile (fun T => { T with blocks := T.blocks.filter (fun k => k.id != b.id) })

theorem State.dropBlock_chan (s : State) (tile : Nat) (b : IndexBlock) (m : Nat) : (s.dropBlock tile b).chan tile m = s.chan tile m :=
  State.modTile_chan (h := fun T => { T with blocks := T.blocks.filter (fun k => k.id != b.id) }) (fun _ => rfl) s tile tile m

theorem State.dropBlock_tile (s : State) (tile : Nat) (b : IndexBlock) : (s.dropBlock tile b).tile tile =
    { s.tile tile with blocks := (s.tile tile).blocks.filter (fun k => k.id != b.id) } := by
  rw [State.dropBlock, State.modTile_tile, if_pos rfl]

/-- A read that cannot be attributed to a block, or a block that cannot be trusted, stops the channels. -/
theorem State.indexReturnOp_stops (h : how ≠ .tagged ∨ b.status = .crc) : ∃ cause a,
    s.indexReturnOp tile b how = (s.dropBlock tile b).allStop tile cause (statusCode b.status) a := by
  unfold State.indexReturnOp
  cases how with
  | tagged =>
    have crc := h.resolve_left fun k => k rfl
    refine ⟨1, 0, (if_neg IndexReturn.noConfusion).trans ((if_neg IndexReturn.noConfusion).trans (if_pos crc))⟩
  | strayTag => exact ⟨2, 0, if_pos rfl⟩
  | blockParity => exact ⟨3, b.addr.toNat, (if_neg IndexReturn.noConfusion).trans (if_pos rfl)⟩

/-- The failure that a block whose read failed leaves to its channel. -/
def IndexBlock.failOf (b : IndexBlock) (c : Channel) : ChFail :=
  { seq := b.id, addr := b.addr, dir := 4, status := b.status, unit := match c.snap with | some d => b.first * Desc.dstUnits d | none => 0, all := false }

/-- A block whose read failed is gone, and leaves its status to its channel. -/
theorem State.indexReturnOp_fails (hk : b.status ≠ .ok) (hc : b.status ≠ .crc) (hf : (s.chan tile b.chan).fail = none) :
    ((s.indexReturnOp tile b .tagged).tile tile).blocks = (s.tile tile).blocks.filter (fun k => k.id != b.id) ∧
    ((s.indexReturnOp tile b .tagged).tile tile).idxWant = (s.tile tile).idxWant ∧
    ((s.indexReturnOp tile b .tagged).chan tile b.chan).fail.map (fun f => (f.status, f.dir, f.addr)) = some (b.status, 4, b.addr) := by
  have op : s.indexReturnOp tile b .tagged = (s.dropBlock tile b).modChan tile b.chan (fun c => c.addFail (b.failOf c)) := by
    unfold State.indexReturnOp
    exact (if_neg IndexReturn.noConfusion).trans ((if_neg IndexReturn.noConfusion).trans ((if_neg hc).trans (if_pos hk)))
  have kept : ∀ {β : Type} (g : Tile → β), (∀ (T : Tile) c, g { T with chans := c } = g T) →
      g ((s.indexReturnOp tile b .tagged).tile tile) = g ((s.dropBlock tile b).tile tile) := fun g hg => by
    rw [op]
    exact State.modTile_value (s.dropBlock tile b) tile tile (hg _ _)
  refine ⟨?_, ?_, ?_⟩
  · rw [kept (fun T => T.blocks) fun _ _ => rfl, State.dropBlock_tile]
  · rw [kept (fun T => T.idxWant) fun _ _ => rfl, State.dropBlock_tile]
  · rw [op, State.modChan_chan, if_pos rfl, State.dropBlock_chan, Channel.addFail_first hf]
    rfl

/-- A block that has been read intact is ready. -/
theorem State.indexReturnOp_ready (hk : b.status = .ok) : s.indexReturnOp tile b .tagged =
    s.modTile tile (fun T => { T with blocks := updWhere (fun k => k.id == b.id) (fun _ => { b with ready := true }) T.blocks }) := by
  unfold State.indexReturnOp
  refine (if_neg IndexReturn.noConfusion).trans ((if_neg IndexReturn.noConfusion).trans ((if_neg ?_).trans (if_neg fun k => k hk)))
  rw [hk]
  exact Status.noConfusion

/-- The return of a read of a block that has been read whole. -/
theorem State.exec_indexReadReturn (hp : s.hasTile tile = true) (hl : s.live (tileDie tile) = true)
    (hb : (s.tile tile).blocks.find? (fun k => k.id == id) = some b) (hn : b.need = 0) (hr : b.ready = false) (hi : s.indexPkt tile id = none)
    (hw : ((s.indexReturnOp tile b how).tile tile).idxWant = []) :
    exec (.indexReadReturn tile id how) s = .next ((s.indexReturnOp tile b how).watch tile) := by
  refine (State.atTile_next hp hl).trans (congrArg (fun t : State => Host.Outcome.next (t.watch tile)) ?_)
  unfold State.indexBack
  rw [hi]
  dsimp only
  rw [hb]
  dsimp only
  rw [hn, hr, hw]
  rfl

theorem State.dropBlock_pending (s : State) (tile : Nat) (b : IndexBlock) (m : Nat) (h : (s.tile tile).indexPending m = false) :
    ((s.dropBlock tile b).tile tile).indexPending m = false := by
  rw [State.dropBlock_tile]
  rw [Tile.indexPending, List.any_eq_false] at h ⊢
  exact fun k hk => h k (List.mem_filter.mp hk).1

theorem State.allStop_wants (s : State) (tile cause code a : Nat) : ((s.allStop tile cause code a).tile tile).idxWant = (s.tile tile).idxWant := by
  unfold State.allStop
  dsimp only
  rw [State.record_tile, State.raise_tile, State.modTile_tile, if_pos rfl]

/-- Settles O47: responses by the kind of request, read-backs, and index reads by how they return. -/
theorem readsAndResponses : Obligations.ReadsAndResponses := by
  refine ⟨⟨fun s tile id p o st x rows hp hl hown ha => State.remoteResponse_outcome hp hl hown ha, ?_⟩,
    fun s tile id p o st rows hp hl hown ha => State.readbackReturn_outcome hp hl hown ha, ?_⟩
  · intro s tile id p o st x hp hl hf h127 ht h3 hh hr
    have run := State.exec_coreAnswer (o := o) (x := x) hp hl hf h127 ht h3
    exact ⟨fun wr hk => run.trans (by rw [State.coreAnswer_reg hh hr hk]), fun hk => run.trans (by rw [State.coreAnswer_regBack hh hr hk])⟩
  · intro s tile id b hp hl hb hn hr hi hw
    refine ⟨fun hk => ?_, fun hk hc hf => ?_, fun how h => ?_⟩
    · have op := State.indexReturnOp_ready (s := s) (tile := tile) hk
      refine (State.exec_indexReadReturn hp hl hb hn hr hi ?_).trans (by rw [op])
      rw [op, State.modTile_tile, if_pos rfl]
      exact hw
    · obtain ⟨blocks, wants, fail⟩ := State.indexReturnOp_fails hk hc hf
      refine ⟨_, State.exec_indexReadReturn hp hl hb hn hr hi (wants.trans hw), ?_, ?_⟩
      · rw [State.watch_value (f := fun T => T.blocks) fun _ _ _ => rfl, blocks]
      · rw [State.watch_chan, fail]
    · obtain ⟨cause, a, op⟩ := State.indexReturnOp_stops (s := s) (tile := tile) h
      refine ⟨_, State.exec_indexReadReturn hp hl hb hn hr hi ?_, ?_, fun n hs ho hg hd hf hq => ?_⟩
      · rw [op, State.allStop_wants, State.dropBlock_tile]
        exact hw
      · have hh : ((s.dropBlock tile b).tile tile).hh = (s.tile tile).hh := by rw [State.dropBlock_tile]
        rw [(State.watch_streams _ tile).slice (fun S : Slice => S.irq (s.tile tile).hh) (fun _ _ _ _ => rfl), op, ← hh]
        exact State.allStop_cause ..
      · have listed : (s.dropBlock tile b).chan tile n ≠ {} := by
          rw [State.dropBlock_chan]
          intro e
          rw [e] at hs
          exact hs.elim ChState.noConfusion ChState.noConfusion
        rw [State.watch_chan, op, State.allStop_chan _ _ _ _ _ listed, s.dropBlock_pending tile b n hq, State.dropBlock_chan]
        exact Channel.allStop_halts _ hs ho hg hd hf

end Sys2Proof.Machine
end

section
/-!
The opcodes (spec/05_stream_engine.md R169; spec/06_stream_transforms.md R199, R200, R205 to R217): O48.
-/

namespace Sys2Proof.Machine

variable {s : State} {tile n : Nat} {d : RowData} {v : Nat}

/-- What a channel does leaves the rest of its tile. -/
theorem State.modChan_value {β : Type} {f : Tile → β} {k : Channel → Channel} {u : Nat} (hf : ∀ (T : Tile) c, f { T with chans := c } = f T) :
    f ((s.modChan tile n k).tile u) = f (s.tile u) :=
  State.modTile_value s tile u (hf _ _)

/-! ## REGWRITE -/

theorem Channel.acting_some {c : Channel} {code : Nat} (h : c.acting code = some d) :
    c.state = .run ∧ c.fail = none ∧ c.outst = 0 ∧ c.snap = some d ∧ Desc.op d = code := by
  unfold Channel.acting at h
  split at h
  · next hc =>
    obtain ⟨hs, ho⟩ := Option.filter_eq_some_iff.mp h
    simp only [Bool.and_eq_true, decide_eq_true_eq, beq_iff_eq, Option.isNone_iff_eq_none] at hc ho
    exact ⟨hc.1.1.1.1.1.1.1, hc.1.1.1.1.1.1.2, hc.1.2, hs, ho⟩
  · cases h

/-- A stream engine is the manager's if its tile is. -/
theorem State.isManager_st : s.isManager (.st tile n) = ((s.tile tile).hh == 0) := by
  unfold State.isManager State.hhOf
  cases h : (s.tile tile).hh == 0 <;> simp_all

theorem State.mayWrite_st : s.mayWrite .hm (.st tile n) tile = true := by
  unfold State.mayWrite State.hhOf
  simp

/-- The destination of a REGWRITE. -/
def Desc.regAddr (d : RowData) : Addr := BitVec.ofNat 48 (Desc.dst d)

section
variable (ha : (s.chan tile n).acting 7 = some d)
include ha

theorem State.regwriteOp_deed (h3 : space (Desc.regAddr d) = 3) (hh : (s.tile tile).hh ≠ 0) :
    s.regwriteOp tile n = s.failNow tile n (Desc.regAddr d) 1 .deed 0 := by
  unfold State.regwriteOp
  rw [ha]
  exact if_pos ⟨h3, by simp [State.isManager_st, hh]⟩

theorem State.regwriteOp_allowed (hm : space (Desc.regAddr d) ≠ 3 ∨ (s.tile tile).hh = 0) : s.regwriteOp tile n =
    match s.regPlace (Desc.regAddr d) with
    | none => s.failDefault tile n (Desc.regAddr d) 1 0
    | some e =>
      let u := s.modChan tile n (fun c => { c with outst := 1 })
      if space (Desc.regAddr d) = 2 ∧ addrTile (Desc.regAddr d) = tile then
        u.atTileBlock tile { src := .st tile n, off := tileRegOff (Desc.regAddr d), value := Desc.regValue d }
      else if 16 < s.remoteBusy tile + 1 then s
      else u.launch (u.newPacket (s.issuer (.st tile n)) (.reg true) (Desc.qos d) (.regs e) (Desc.regAddr d) 0 4 true [(Desc.regValue d).zeroExtend 512]) := by
  have allowed : ¬(space (Desc.regAddr d) = 3 ∧ (!s.isManager (.st tile n)) = true) := fun q => by
    rcases hm with h | h
    · exact h q.1
    · simp [State.isManager_st, h] at q
  unfold State.regwriteOp
  rw [ha]
  exact if_neg allowed

/-- A REGWRITE to a place that the fabric does not know. -/
theorem State.regwriteOp_decerr (hm : space (Desc.regAddr d) ≠ 3 ∨ (s.tile tile).hh = 0) (hp : s.regPlace (Desc.regAddr d) = none) :
    s.regwriteOp tile n = s.failDefault tile n (Desc.regAddr d) 1 0 := by
  rw [State.regwriteOp_allowed ha hm, hp]

/-- A REGWRITE to another place sets out as a request. -/
theorem State.regwriteOp_remote {e : Nat} (hp : s.regPlace (Desc.regAddr d) = some e)
    (ho : space (Desc.regAddr d) = 2 ∧ addrTile (Desc.regAddr d) ≠ tile ∨ space (Desc.regAddr d) = 3 ∧ (s.tile tile).hh = 0) (room : s.remoteBusy tile < 16) :
    let u := s.modChan tile n (fun c => { c with outst := 1 })
    s.regwriteOp tile n =
      u.launch (u.newPacket (s.issuer (.st tile n)) (.reg true) (Desc.qos d) (.regs e) (Desc.regAddr d) 0 4 true [(Desc.regValue d).zeroExtend 512]) := by
  have hm : space (Desc.regAddr d) ≠ 3 ∨ (s.tile tile).hh = 0 := by
    rcases ho with ⟨h, _⟩ | ⟨_, h⟩
    · exact .inl (by rw [h]; decide)
    · exact .inr h
  rw [State.regwriteOp_allowed ha hm, hp]
  dsimp only
  rw [if_neg, if_neg (by omega)]
  rintro ⟨h2, ht⟩
  rcases ho with ⟨_, h⟩ | ⟨h, _⟩
  · exact h ht
  · exact absurd (h.symm.trans h2) (by decide)

/-- A REGWRITE of TL_DEEDFLT of its own tile is performed and answered at once. -/
theorem State.regwriteOp_own (ht : s.hasTile tile = true) (hd : Desc.dst d = tileRegAddr tile 0x0E0) (hr : s.ready (tileDie tile) = true)
    (hg : (s.tile tile).reassign = none) (hb : (s.tile tile).regBusy = none) (hw : (s.tile tile).regWait = []) :
    s.regwriteOp tile n = ((s.modChan tile n (fun c => { c with outst := 1 })).modTile tile (fun T => { T with deedFlt := Desc.regValue d })).answerReg
      (.st tile n) (tileRegAddr tile 0x0E0) .ok 0 := by
  have addr : Desc.regAddr d = BitVec.ofNat 48 (tileRegAddr tile 0x0E0) := by rw [Desc.regAddr, hd]
  have small := State.hasTile_lt ht
  rw [State.regwriteOp_allowed ha (.inl (by rw [addr, space_tileRegAddr small (by decide)]; decide)), addr, State.regPlace_tileRegAddr ht (by decide)]
  dsimp only
  rw [if_pos ⟨space_tileRegAddr small (by decide), addrTile_tileRegAddr small (by decide)⟩, tileRegOff_tileRegAddr small (by decide)]
  set u := s.modChan tile n (fun c => { c with outst := 1 }) with hu
  have tile' : ∀ {β : Type} (f : Tile → β), (∀ (T : Tile) c, f { T with chans := c } = f T) → f (u.tile tile) = f (s.tile tile) := fun f hf =>
    State.modTile_value s tile tile (hf _ _)
  have ready : u.ready (tileDie tile) = true := by
    obtain ⟨l, hl⟩ := s.modTile_slice tile (fun T => T.setChan n { T.chan n with outst := 1 }) (tileDie tile)
    rw [State.ready, hu, State.modChan, hl]
    exact hr
  have free : u.tileFree tile := ⟨ready, (tile' (fun T => T.reassign) fun _ _ => rfl).trans hg, (tile' (fun T => T.regBusy) fun _ _ => rfl).trans hb,
    (tile' (fun T => T.regWait) fun _ _ => rfl).trans hw⟩
  have performed : u.tileAcc tile { src := .st tile n, off := 0x0E0, value := Desc.regValue d } =
      (some (u.modTile tile (fun T => { T with deedFlt := Desc.regValue d }), some .ok), 0) := by
    have op : u.deedFltOp (.st tile n) tile (Desc.regValue d) = (u.modTile tile (fun T => { T with deedFlt := Desc.regValue d }), .ok) := by
      rw [State.deedFltOp, State.mayWrite_st]
      rfl
    change ((RegRes.now (u.deedFltOp (.st tile n) tile (Desc.regValue d)), 0) : RegRes × Word) = _
    rw [op]
    rfl
  rw [State.atTileBlock_free free (show tileMapped 0x0E0 = true by decide) performed, State.answerAcc_local rfl rfl, tileRegAddr_add]
  rfl

end

/-- What becomes of each REGWRITE. -/
theorem State.regwrite_outcome (hp : s.hasTile tile = true) (hl : s.live (tileDie tile) = true) (hn : n < 8) (ha : (s.chan tile n).acting 7 = some d) :
    let a : Addr := BitVec.ofNat 48 (Desc.dst d)
    (space a = 3 → (s.tile tile).hh ≠ 0 → ∃ t : State, exec (.regwrite tile n) s = .next t ∧ t.net = s.net ∧ t.mem = s.mem ∧
      (t.chan tile n).fail.map (fun f => (f.status, f.dir)) = some (.deed, 1)) ∧
    (s.regPlace a = none → (space a ≠ 3 ∨ (s.tile tile).hh = 0) → ∃ t : State, exec (.regwrite tile n) s = .next t ∧ t.net = s.net ∧
      (t.chan tile n).fail.map (fun f => (f.status, f.dir)) = some (.decerr, 1)) ∧
    (∀ e, s.regPlace a = some e → (space a = 2 ∧ addrTile a ≠ tile ∨ space a = 3 ∧ (s.tile tile).hh = 0) → s.remoteBusy tile < 16 →
      ∃ t : State, ∃ p : Packet, exec (.regwrite tile n) s = .next t ∧ t.net = s.net ++ [p] ∧ p.kind = .reg true ∧ p.addr = a ∧ p.size = 4 ∧
        p.target = .regs e ∧ p.qos = Desc.qos d ∧ p.data = [(Desc.regValue d).zeroExtend 512] ∧ (t.chan tile n).outst = 1) ∧
    (Desc.dst d = tileRegAddr tile 0x0E0 → s.ready (tileDie tile) = true → (s.tile tile).reassign = none →
      (s.tile tile).regBusy = none → (s.tile tile).regWait = [] →
      ∃ t : State, exec (.regwrite tile n) s = .next t ∧ (t.tile tile).deedFlt = Desc.regValue d ∧ (t.chan tile n).bodyDone = true) := by
  intro a
  obtain ⟨hrun, hfail, _, hsnap, h7⟩ := Channel.acting_some ha
  have run {r : State} (h : s.regwriteOp tile n = r) : exec (.regwrite tile n) s = .next (r.watch tile) := (State.exec_onChan hp hl hn).trans (by rw [h])
  refine ⟨fun h3 hh => ?_, fun hnone hm => ?_, fun e he ho room => ?_, fun hd hr hg hb hw => ?_⟩
  · obtain ⟨f, hfs, hfd, chan⟩ := State.failNow_chan (Desc.regAddr d) 1 .deed 0 hfail
    refine ⟨_, run (State.regwriteOp_deed ha h3 hh), rfl, rfl, ?_⟩
    rw [State.watch_chan, chan, ← hfs, ← hfd]
    rfl
  · refine ⟨_, run (State.regwriteOp_decerr ha hm hnone), rfl, ?_⟩
    have latched : (s.latchDecerr (tileDie tile) (Desc.regAddr d) (s.issuer (.st tile n))).chan tile n = s.chan tile n :=
      congrArg (fun T : Tile => T.chan n) (State.modSlice_tile s (tileDie tile) tile (fun S => by unfold Slice.latchDecerr; split <;> rfl)
        (fun S => by unfold Slice.latchDecerr; split <;> rfl))
    obtain ⟨f, hfs, hfd, chan⟩ := State.failNow_chan (Desc.regAddr d) 1 .decerr 0
      (s := s.latchDecerr (tileDie tile) (Desc.regAddr d) (s.issuer (.st tile n))) (by rw [latched]; exact hfail)
    rw [State.watch_chan, State.failDefault, chan, ← hfs, ← hfd]
    rfl
  · refine ⟨_, _, run (State.regwriteOp_remote ha he ho room), by rw [State.watch_net, State.launch_net]; rfl, rfl, rfl, rfl, rfl, rfl, rfl, ?_⟩
    rw [State.watch_chan]
    exact congrArg Channel.outst ((s.modChan_chan tile n n fun c => { c with outst := 1 }).trans (if_pos rfl))
  · refine ⟨_, run (State.regwriteOp_own ha hp hd hr hg hb hw), ?_, ?_⟩
    · obtain ⟨cs, hcs⟩ := State.answerReg_tile ((s.modChan tile n (fun c => { c with outst := 1 })).modTile tile (fun T => { T with deedFlt := Desc.regValue d }))
        (.st tile n) (tileRegAddr tile 0x0E0) .ok 0 tile
      rw [State.watch_value (f := fun T => T.deedFlt) fun _ _ _ => rfl, hcs, State.modTile_tile, if_pos rfl]
    · have chan : ((s.modChan tile n (fun c => { c with outst := 1 })).modTile tile (fun T => { T with deedFlt := Desc.regValue d })).chan tile n =
          { s.chan tile n with outst := 1 } := by
        rw [State.modTile_chan (h := fun T => { T with deedFlt := Desc.regValue d }) fun _ => rfl, State.modChan_chan, if_pos rfl]
      rw [State.watch_chan, State.answerReg, State.modChan_chan, if_pos rfl, State.chan, State.emit_tile]
      refine (congrArg (fun c : Channel => (c.regAnswer (tileRegAddr tile 0x0E0) .ok).bodyDone) chan).trans ?_
      exact (Channel.regAnswer_outcome (st := .ok) (c := { s.chan tile n with outst := 1 }) hsnap hrun h7 Nat.one_pos hd).2.1 rfl

/-! ## The data opcodes -/

/-- A data opcode whose source is in. -/
theorem State.dataOp_runs {code : Nat} {f : RowData → Nat → Channel → State} (hw : (s.chan tile n).working = some d) (hop : Desc.op d = code)
    (hp : (s.chan tile n).phase = .idle) (he : (s.chan tile n).slotEnd = false) (hv : (s.tile tile).indexFor n d (s.chan tile n).wunit = some v)
    (hc : (s.chan tile n).chunkIn d v = true) : s.dataOp tile n code f = f d v (s.chan tile n) := by
  unfold State.dataOp
  dsimp only
  rw [hw]
  dsimp only
  rw [if_neg (by simp [hop, hp, he]), hv]
  exact if_pos hc

/-- `m` ones, 64 bits apart. -/
def onesApart : Nat → Nat
  | 0 => 0
  | m + 1 => 1 + 2 ^ 64 * onesApart m

theorem onesApart_mul {p : Nat} (hp : p < 2 ^ 64) {m k : Nat} (hk : k < m) : p * onesApart m / 2 ^ (64 * k) % 2 ^ 64 = p := by
  induction k generalizing m with
  | zero =>
    obtain ⟨m, rfl⟩ : ∃ j, m = j + 1 := ⟨m - 1, by omega⟩
    rw [Nat.mul_zero, Nat.pow_zero, Nat.div_one, onesApart, Nat.mul_add, Nat.mul_one, Nat.mul_left_comm, Nat.add_mul_mod_self_left, Nat.mod_eq_of_lt hp]
  | succ k ih =>
    obtain ⟨m, rfl⟩ : ∃ j, m = j + 1 := ⟨m - 1, by omega⟩
    have rest : p * onesApart (m + 1) / 2 ^ 64 = p * onesApart m := by
      rw [onesApart, Nat.mul_add, Nat.mul_one, Nat.mul_left_comm, Nat.add_mul_div_left _ _ (by decide), Nat.div_eq_of_lt hp, Nat.zero_add]
    rw [show 64 * (k + 1) = 64 + 64 * k by omega, Nat.pow_add, ← Nat.div_div_eq_div_mul, rest, ih (by omega)]

/-- FILL writes the pattern eight times to a row. -/
theorem patternRow_bits {p k : Nat} (hp : p < 2 ^ 64) (hk : k < 8) : bits (patternRow p) (64 * k) 64 = p := by
  have eight : (2 ^ 512 - 1) / (2 ^ 64 - 1) = onesApart 8 := by decide +kernel
  have fits : (2 ^ 64 - 1) * onesApart 8 < 2 ^ 512 := by decide +kernel
  have small : p * onesApart 8 < 2 ^ 512 := (Nat.mul_le_mul_right _ (Nat.le_sub_one_of_lt hp)).trans_lt fits
  rw [bits, patternRow, eight, BitVec.toNat_ofNat, Nat.mod_eq_of_lt small, Nat.shiftRight_eq_div_pow, onesApart_mul hp hk]

theorem natRows_length (m x : Nat) : (natRows m x).length = m := by
  induction m generalizing x with
  | zero => rfl
  | succ m ih => rw [natRows, List.length_cons, ih]

/-- What becomes of a data opcode whose source is in hand. -/
theorem State.dataOpcode_outcome (hp : s.hasTile tile = true) (hl : s.live (tileDie tile) = true) (hn : n < 8) :
    let c := s.chan tile n
    let rows := c.rowsIn (Desc.srcRange d v c.wunit)
    let made (x : List RowData) : State := (s.modChan tile n (fun c => { c with outBuf := x, inBuf := [], phase := .writing })).watch tile
    c.working = some d → c.phase = .idle → c.slotEnd = false → (s.tile tile).indexFor n d c.wunit = some v → c.chunkIn d v = true →
    (Desc.op d = 1 → exec (.copy tile n) s = .next (made rows)) ∧
    (Desc.op d = 2 → exec (.gather tile n) s =
      .next (made (if v = 0xFFFFFFFF then List.replicate (Desc.chunk d v c.wunit) 0 else rows))) ∧
    (Desc.op d = 3 → v ≠ 0xFFFFFFFF → exec (.scatter tile n) s = .next (made rows)) ∧
    (Desc.op d = 3 → v = 0xFFFFFFFF → ∃ t : State, exec (.scatter tile n) s = .next t ∧
      (t.chan tile n).wunit = c.wunit + Desc.chunk d v c.wunit ∧ c.wunit / Desc.dstUnits d ∈ (t.chan tile n).skipped) ∧
    (Desc.op d = 6 → ∃ t : State, exec (.fill tile n) s = .next t ∧ (t.chan tile n).outBuf.length = Desc.chunk d v c.wunit ∧
      ∀ r, r ∈ (t.chan tile n).outBuf → ∀ k, k < 8 → bits r (64 * k) 64 = Desc.pattern d) ∧
    (Desc.op d = 5 → ∃ t : State, exec (.convert tile n) s = .next t ∧ (t.chan tile n).phase = .writing ∧
      (t.chan tile n).outBuf.length = Desc.dstUnits d - c.wunit % Desc.dstUnits d ∧
      (t.tile tile).fracs = (s.tile tile).fracs + if Desc.stoch d then Conv.vals d else 0) := by
  intro c rows made hw hph he hv hc
  have run {i : Instr} {r : State} (hi : exec i s = s.onChan tile n r) {q : State} (h : r = q) : exec i s = .next (q.watch tile) :=
    hi.trans ((State.exec_onChan hp hl hn).trans (by rw [h]))
  have null : Desc.indexed d = true → ∀ v, Desc.isNull d v = (v == 0xFFFFFFFF) := fun h v => by
    rw [Desc.isNull, h]
    rfl
  refine ⟨fun h => ?_, fun h => ?_, fun h hne => ?_, fun h hnull => ?_, fun h => ?_, fun h => ?_⟩
  · exact run rfl (State.dataOp_runs hw h hph he hv hc)
  · refine run rfl ((State.dataOp_runs hw h hph he hv hc).trans ?_)
    rw [null (by simp [Desc.indexed, h])]
    simp only [beq_iff_eq]
    rfl
  · refine run rfl ((State.dataOp_runs hw h hph he hv hc).trans (if_neg ?_))
    rw [null (by simp [Desc.indexed, h])]
    simpa using hne
  · refine ⟨_, run rfl ((State.dataOp_runs hw h hph he hv hc).trans (if_pos ?_)), ?_, ?_⟩
    · rw [null (by simp [Desc.indexed, h])]
      simpa using hnull
    · rw [State.watch_chan, (State.advance_outcome _ tile n d _).2 (fun c => c.wunit) (fun _ _ _ _ => rfl) fun _ _ => rfl, State.modChan_chan, if_pos rfl]
      rfl
    · rw [State.watch_chan, (State.advance_outcome _ tile n d _).2 (fun c => c.skipped) (fun _ _ _ _ => rfl) fun _ _ => rfl, State.modChan_chan, if_pos rfl]
      exact Keys.mem_add.mpr (.inl rfl)
  · have fill : ((s.modChan tile n (fun e => e.produce (List.replicate (Desc.chunk d v c.wunit) (patternRow (Desc.pattern d))))).watch tile).chan tile n =
        c.produce (List.replicate (Desc.chunk d v c.wunit) (patternRow (Desc.pattern d))) := by
      rw [State.watch_chan, State.modChan_chan, if_pos rfl]
    refine ⟨_, run rfl (State.dataOp_runs hw h hph he hv hc), ?_, fun r hr k hk => ?_⟩
    · rw [fill]
      exact List.length_replicate
    · rw [fill] at hr
      rw [List.eq_of_mem_replicate hr]
      exact patternRow_bits (Nat.mod_lt _ (by decide)) hk
  · refine ⟨_, run rfl (State.dataOp_runs hw h hph he hv hc), ?_, ?_, ?_⟩
    · rw [State.watch_chan, State.modChan_chan, if_pos rfl]
      rfl
    · rw [State.watch_chan, State.modChan_chan, if_pos rfl]
      exact (List.length_drop ..).trans (congrArg (· - c.wunit % Desc.dstUnits d) (natRows_length _ _))
    · rw [State.watch_value (f := fun T => T.fracs) fun _ _ _ => rfl, State.modChan_value (f := fun T => T.fracs) fun _ _ => rfl,
        State.modTile_tile, if_pos rfl]
      dsimp only
      split <;> rfl

/-- Settles O48. -/
theorem opcodes : Obligations.Opcodes := by
  unfold Obligations.Opcodes
  refine ⟨fun s tile n d hp hl hn => ?_, fun s tile n d v hp hl hn => State.dataOpcode_outcome hp hl hn⟩
  have run {i : Instr} {r : State} (hi : exec i s = s.onChan tile n r) {q : State} (h : r = q) : exec i s = .next (q.watch tile) :=
    hi.trans ((State.exec_onChan hp hl hn).trans (by rw [h]))
  refine ⟨fun h => run rfl ?_, fun h => run rfl ?_, fun h => run rfl ?_, State.regwrite_outcome hp hl hn⟩
  · rw [State.nopOp, h]
  · rw [State.waittOp, h]
  · rw [State.signalOp, h]
    rfl

end Sys2Proof.Machine
end

section
/-!
The narrow float formats (spec/06_stream_transforms.md R206, R215): O49.
-/

namespace Sys2Proof.Machine

variable {f : Fmt} {c m : Nat} {e : Int} {neg : Bool} {frac : Option Nat}

/-- What a finite code stands for: its sign, and a subnormal or a normal magnitude. -/
theorem Fmt.decode_fin (h : f.decode c = .fin neg m e) :
    let mag := c % 2 ^ (f.eb + f.mb)
    neg = (c / 2 ^ (f.eb + f.mb) % 2 == 1) ∧ mag ≤ f.top ∧
    (mag < 2 ^ f.mb ∧ m = mag ∧ e = 1 - f.bias - f.mb ∨
      ∃ x, mag = (x + 1) * 2 ^ f.mb + mag % 2 ^ f.mb ∧ m = 2 ^ f.mb + mag % 2 ^ f.mb ∧ e = ((x + 1 : Nat) : Int) - f.bias - f.mb) := by
  intro mag
  unfold Fmt.decode at h
  dsimp only at h
  split at h
  · cases h
  · split at h
    · cases h
    · next htop =>
      split at h <;> (injection h with hn hm he; refine ⟨hn.symm, Nat.le_of_not_lt htop, ?_⟩)
      · next hx =>
        have small : mag < 2 ^ f.mb := (Nat.div_eq_zero_iff_lt (Nat.two_pow_pos _)).mp hx
        exact .inl ⟨small, hm.symm.trans (Nat.mod_eq_of_lt small), he.symm⟩
      · next hx =>
        have pos : mag / 2 ^ f.mb - 1 + 1 = mag / 2 ^ f.mb := Nat.succ_pred_eq_of_ne_zero hx
        exact .inr ⟨mag / 2 ^ f.mb - 1, by rw [pos, Nat.div_add_mod'], hm.symm, by rw [pos]; exact he.symm⟩

/-- A magnitude that already stands in the units it is rounded to. -/
theorem roundTo_self : roundTo frac m e e = m := by
  simp [roundTo]

/-- A number of `2 ^ (x - mb)` units, with `x` its exponent, keeps its significand. -/
theorem Fmt.encode_exact (hm : m ≠ 0) (hx : max (log2Of m e) (1 - (f.bias : Int)) - f.mb = e) :
    f.encode frac (.fin neg m e) =
      (if neg then 2 ^ (f.eb + f.mb) else 0) + min f.top ((e + f.mb + f.bias - 1).toNat * 2 ^ f.mb + m) := by
  have exponent : max (log2Of m e) (1 - (f.bias : Int)) = e + f.mb := by omega
  unfold Fmt.encode
  dsimp only
  rw [if_neg hm, hx, roundTo_self, exponent]

/-- Every finite code of a format is the code of its number. -/
theorem Fmt.encode_decode_fin (hc : c < 2 ^ f.width) (h : f.decode c = .fin neg m e) : f.encode frac (f.decode c) = c := by
  obtain ⟨hneg, htop, kind⟩ := Fmt.decode_fin h
  have width : (2 : Nat) ^ f.width = 2 * 2 ^ (f.eb + f.mb) := by rw [Fmt.width, Nat.add_assoc, Nat.pow_add, Nat.pow_one]
  have sign : (if neg then 2 ^ (f.eb + f.mb) else 0) + c % 2 ^ (f.eb + f.mb) = c := by
    have top : c / 2 ^ (f.eb + f.mb) < 2 := Nat.div_lt_of_lt_mul (by omega)
    conv_rhs => rw [← Nat.div_add_mod c (2 ^ (f.eb + f.mb))]
    rcases Nat.lt_succ_iff.mp top |>.eq_or_lt with one | zero
    · simp [hneg, one]
    · simp [hneg, Nat.lt_one_iff.mp zero]
  have exact' (hm : m ≠ 0) (hx : max (log2Of m e) (1 - (f.bias : Int)) - f.mb = e)
      (hcode : (e + f.mb + f.bias - 1).toNat * 2 ^ f.mb + m = c % 2 ^ (f.eb + f.mb)) : f.encode frac (.fin neg m e) = c := by
    rw [Fmt.encode_exact hm hx, hcode, Nat.min_eq_right htop, sign]
  rw [h]
  rcases kind with ⟨small, rfl, rfl⟩ | ⟨x, hmag, rfl, rfl⟩
  · by_cases hm : c % 2 ^ (f.eb + f.mb) = 0
    · rw [hm] at sign ⊢
      exact sign
    · have log : Nat.log2 (c % 2 ^ (f.eb + f.mb)) < f.mb := (Nat.log2_lt hm).mpr small
      refine exact' hm (by unfold log2Of; omega) ?_
      rw [show (1 - (f.bias : Int) - f.mb + f.mb + f.bias - 1).toNat = 0 by omega, Nat.zero_mul, Nat.zero_add]
  · have rest : c % 2 ^ (f.eb + f.mb) % 2 ^ f.mb < 2 ^ f.mb := Nat.mod_lt _ (Nat.two_pow_pos _)
    have hm : 2 ^ f.mb + c % 2 ^ (f.eb + f.mb) % 2 ^ f.mb ≠ 0 := by have := Nat.two_pow_pos f.mb; omega
    have log : Nat.log2 (2 ^ f.mb + c % 2 ^ (f.eb + f.mb) % 2 ^ f.mb) = f.mb :=
      (Nat.log2_eq_iff hm).mpr ⟨Nat.le_add_right _ _, by rw [Nat.pow_succ]; omega⟩
    refine exact' hm (by unfold log2Of; omega) ?_
    rw [show (((x + 1 : Nat) : Int) - f.bias - f.mb + f.mb + f.bias - 1).toNat = x by omega, ← Nat.add_assoc, ← Nat.succ_mul]
    exact hmag.symm

/-- Settles O49: it holds of every format, however its numbers are rounded. -/
theorem formatsRoundTrip : Obligations.FormatsRoundTrip := by
  unfold Obligations.FormatsRoundTrip
  rintro f c _ hc ⟨neg, m, e, h⟩
  exact Fmt.encode_decode_fin hc h

end Sys2Proof.Machine
end

section
/-!
Multicast (spec/06_stream_transforms.md R220 to R227): O50.
-/

namespace Sys2Proof.Machine

variable {s : State} {tile n : Nat} {d : RowData} {v i : Nat}

/-- A way to a tile leaves a router by one of the outputs 0 to 4. -/
theorem routeOut_tile_lt (x y g : Nat) : routeOut x y (some g) < 5 := by
  unfold routeOut outTo
  dsimp only
  repeat' split
  all_goals decide

/-- The parts of a flit hold its receivers, and no others. -/
theorem mem_mcastParts (x y : Nat) (rs : List (Nat × Nat)) (r : Nat × Nat) : r ∈ rs ↔ ∃ q, q ∈ mcastParts x y rs ∧ r ∈ q := by
  constructor
  · intro h
    have mem : r ∈ mcastVia x y (routeOut x y (some r.2)) rs := List.mem_filter.mpr ⟨h, beq_self_eq_true _⟩
    refine ⟨_, List.mem_filter.mpr ⟨List.mem_map.mpr ⟨_, List.mem_range.mpr (routeOut_tile_lt x y r.2), rfl⟩, ?_⟩, mem⟩
    rw [Bool.not_eq_true', List.isEmpty_eq_false_iff]
    exact List.ne_nil_of_mem mem
  · rintro ⟨q, hq, hr⟩
    obtain ⟨o, _, rfl⟩ := List.mem_map.mp (List.mem_filter.mp hq).1
    exact (List.mem_filter.mp hr).1

/-! ## A flit is issued -/

/-- The channel with a flit in hand. -/
def Channel.inFlit (c : Channel) (d : RowData) (v k stop : Nat) : Channel :=
  { c with outBuf := c.rowsIn (Desc.srcRange d v c.wunit), inBuf := [], phase := .flit, credits := [], outst := c.outst + k, flitEnd := stop }

/-- The packet of one part of a flit. -/
def State.flitPacket (tile n : Nat) (d : RowData) (v ord : Nat) (c : Channel) (s : State) (q : List (Nat × Nat)) : Packet :=
  { s.newPacket (s.issuer (.st tile n)) (.mcast q) (Desc.qos d) (.tile (q.headD (0, 0)).2)
      (BitVec.ofNat 48 (tileMemAddr (q.headD (0, 0)).2 (Desc.mcOff d c.wunit))) (Desc.mcOff d c.wunit)
      (64 * (c.rowsIn (Desc.srcRange d v c.wunit)).length) true (c.rowsIn (Desc.srcRange d v c.wunit)) with
    ord := ord, viewq := Desc.viewq d, unit := c.wunit }

/-- The state of a flit's issue, before its packets set out. -/
def State.flitFormed (s : State) (tile n : Nat) (d : RowData) (v : Nat) : State :=
  let c := s.chan tile n
  (s.half tile n d c.wunit (c.rowsIn (Desc.srcRange d v c.wunit)).length).modChan tile n (fun e =>
    { e with outBuf := c.rowsIn (Desc.srcRange d v c.wunit), inBuf := [], phase := .flit, credits := [], outst := e.outst + (c.mcTargets d tile).length,
             flitEnd := s.paceNat tile + (s.tile tile).mcStall.toNat })

theorem State.flitFormed_chan (s : State) (tile n : Nat) (d : RowData) (v : Nat) : ∃ b, (s.flitFormed tile n d v).chan tile n =
    { (s.chan tile n).inFlit d v ((s.chan tile n).mcTargets d tile).length (s.paceNat tile + (s.tile tile).mcStall.toNat) with halfDone := b } := by
  obtain ⟨_, b, half⟩ := s.half_outcome tile n d (s.chan tile n).wunit ((s.chan tile n).rowsIn (Desc.srcRange d v (s.chan tile n).wunit)).length
  refine ⟨b, ?_⟩
  unfold State.flitFormed
  dsimp only
  rw [State.modChan_chan, if_pos rfl, half]
  rfl

theorem State.flitFormed_net (s : State) (tile n : Nat) (d : RowData) (v : Nat) : (s.flitFormed tile n d v).net = s.net := by
  unfold State.flitFormed
  rw [State.modChan_net, (s.half_outcome tile n d _ _).1]

/-- A flit is issued to every receiver that is not dropped. -/
theorem State.multicastOp_issues (hw : (s.chan tile n).working = some d) (hop : Desc.op d = 4)
    (hp : (s.chan tile n).phase = .idle) (he : (s.chan tile n).slotEnd = false) (hv : (s.tile tile).indexFor n d (s.chan tile n).wunit = some v)
    (hc : (s.chan tile n).chunkIn d v = true) (hall : (s.chan tile n).mcTargets d tile ≠ []) (room : s.remoteBusy tile < 16) :
    s.multicastOp tile n = (mcastParts (tileX tile) (tileY tile) ((s.chan tile n).mcTargets d tile)).foldl
      (fun t q => t.launch (State.flitPacket tile n d v s.nextId (s.chan tile n) t q)) (s.flitFormed tile n d v) := by
  have fits : ¬16 < s.remoteBusy tile + (if (s.chan tile n).flitting then 0 else 1) := by split <;> omega
  refine (State.dataOp_runs hw hop hp he hv hc).trans ((if_neg fits).trans (if_neg ?_))
  rw [List.isEmpty_iff]
  exact hall

/-! ## Credits -/

/-- A receiver that the flit has reached, all its last beat started, gives its credit. -/
theorem State.creditOp_gives {p : Packet} (hw : (s.chan tile n).working = some d) (hp : (s.chan tile n).phase = .flit)
    (hi : i ∉ (s.chan tile n).credits) (hf : s.net.find? (fun p => p.flitTo tile n i) = some p) (hb : s.lastBeatStarted p = true) :
    let u := s.modChan tile n (fun c => { c with credits := c.credits.add i })
    s.creditOp tile n i = if ((s.chan tile n).mcTargets d tile).all (fun q => ((s.chan tile n).credits.add i).contains q.1) then u.flitDone tile n d else u := by
  have chan : (s.modChan tile n (fun c => { c with credits := c.credits.add i })).chan tile n =
      { s.chan tile n with credits := (s.chan tile n).credits.add i } := by
    rw [State.modChan_chan, if_pos rfl]
  unfold State.creditOp
  dsimp only
  rw [hw]
  dsimp only
  rw [if_neg (by simp [hp, hi]), hf]
  dsimp only
  rw [if_neg (by simp [hb]), chan]

/-- With its last credit a flit is done: its output has been issued. -/
theorem State.flitDone_chan (s : State) (tile n : Nat) (d : RowData) :
    ((s.flitDone tile n d).chan tile n).wunit = (s.chan tile n).wunit + min 4 (Desc.totalUnits d - (s.chan tile n).wunit) ∧
    ((s.flitDone tile n d).chan tile n).credits = [] := by
  have targets : ∀ {β : Type} (k : Channel → β), (∀ (c : Channel) w, k { c with targets := w } = k c) →
      k ((s.flitDone tile n d).chan tile n) = k (((s.modChan tile n (fun c => { c with credits := [] })).advance tile n d
        (min 4 (Desc.totalUnits d - (s.chan tile n).wunit))).chan tile n) := fun k hk => by
    unfold State.flitDone
    dsimp only
    rw [State.modChan_chan, if_pos rfl]
    split
    · exact hk _ _
    · rfl
  have chan : (s.modChan tile n (fun c => { c with credits := [] })).chan tile n = { s.chan tile n with credits := [] } := by
    rw [State.modChan_chan, if_pos rfl]
  constructor
  · rw [targets (fun c => c.wunit) fun _ _ => rfl, (State.advance_outcome _ tile n d _).2 (fun c => c.wunit) (fun _ _ _ _ => rfl) fun _ _ => rfl, chan]
    rfl
  · rw [targets (fun c => c.credits) fun _ _ => rfl, (State.advance_outcome _ tile n d _).2 (fun c => c.credits) (fun _ _ _ _ => rfl) fun _ _ => rfl, chan]
    rfl

/-! ## A stall -/

/-- The packets of a flit that its late receivers have not taken are left behind. -/
def State.leftBehind (s : State) (tile n : Nat) (late : List (Nat × Nat)) : State :=
  let mine (p : Packet) : Bool := late.any (fun q => p.flitTo tile n q.1)
  { s with net := (s.net.filter (fun p => !(mine p && p.loc == Loc.home))).map (fun p => if mine p then { p with abandoned := true } else p) }

/-- A flit whose stall count has not run out waits on. -/
theorem State.mcStallOp_early (h : s.paceNat tile < (s.chan tile n).flitEnd) : s.mcStallOp tile n = s := by
  unfold State.mcStallOp
  dsimp only
  split
  · rfl
  · split
    · rfl
    · rw [if_pos (by simp [h])]

/-- A flit whose stall count has run out leaves its late receivers in LAG and fails. -/
theorem State.mcStallOp_late {q : Nat × Nat} {rest : List (Nat × Nat)} (hw : (s.chan tile n).working = some d) (hp : (s.chan tile n).phase = .flit)
    (hl : ((s.chan tile n).mcTargets d tile).filter (fun p => !(s.chan tile n).credits.contains p.1) = q :: rest)
    (h : (s.chan tile n).flitEnd ≤ s.paceNat tile) : ∃ k : Nat, ∃ a : Addr, s.mcStallOp tile n =
      ((((s.leftBehind tile n (q :: rest)).modTile tile (fun T => T.setLag n ((q :: rest).map Prod.fst))).modChan tile n
        (fun c => { c with outst := c.outst - k }))).failNow tile n a 1 .mcStall (s.chan tile n).wunit := by
  unfold State.mcStallOp
  dsimp only
  rw [hw]
  dsimp only
  rw [hl]
  exact ⟨_, _, if_neg (by simp [hp, h])⟩

theorem Channel.working_fail {c : Channel} (h : c.working = some d) : c.fail = none := by
  unfold Channel.working at h
  split at h
  · next hc =>
    simp only [Bool.and_eq_true, Option.isNone_iff_eq_none] at hc
    exact hc.1.1.2
  · cases h

/-- Settles O50. -/
theorem multicastFlits : Obligations.MulticastFlits := by
  unfold Obligations.MulticastFlits
  intro s tile n d hp hl hn hw c all
  have run {i : Instr} {r : State} (hi : exec i s = s.onChan tile n r) {q : State} (h : r = q) : exec i s = .next (q.watch tile) :=
    hi.trans ((State.exec_onChan hp hl hn).trans (by rw [h]))
  refine ⟨fun v hop hph he hv hc hall room => ?_, fun i p hph hi hf hb => ?_, fun hph ⟨q, hq, hqc⟩ => ⟨fun early => ?_, fun late => ?_⟩⟩
  · obtain ⟨l, net, each⟩ := State.foldl_launch (State.flitPacket tile n d v s.nextId c)
      (fun q p => p.data = c.rowsIn (Desc.srcRange d v c.wunit) ∧ p.write = true ∧ p.qos = Desc.qos d ∧ p.place = Desc.mcOff d c.wunit ∧ p.heads = q)
      (mcastParts (tileX tile) (tileY tile) all) (s.flitFormed tile n d v) (fun _ _ _ _ => ⟨rfl, rfl, rfl, rfl, rfl⟩)
    obtain ⟨b, chan⟩ := s.flitFormed_chan tile n d v
    have fields : ((s.multicastOp tile n).watch tile).chan tile n =
        { c.inFlit d v all.length (s.paceNat tile + (s.tile tile).mcStall.toNat) with halfDone := b } := by
      rw [State.watch_chan, State.multicastOp_issues hw hop hph he hv hc hall room, State.chan, State.foldl_launch_tile]
      exact chan
    refine ⟨_, l, run rfl rfl, ?_, fun p hp => ?_, fun r => ?_, by rw [fields]; rfl, by rw [fields]; rfl, by rw [fields]; rfl⟩
    · rw [State.watch_net, State.multicastOp_issues hw hop hph he hv hc hall room, net, State.flitFormed_net]
    · exact forall_of_forall₂ (Q := fun p => p.data = c.rowsIn (Desc.srcRange d v c.wunit) ∧ p.write = true ∧
        p.qos = Desc.qos d ∧ p.place = Desc.mcOff d c.wunit) (each.imp fun _ _ h => ⟨h.1, h.2.1, h.2.2.1, h.2.2.2.1⟩) p hp
    · have heads : l.map Packet.heads = (mcastParts (tileX tile) (tileY tile) all).map id :=
        map_eq_of_forall₂ (each.imp fun _ _ ⟨_, _, _, _, h⟩ => h)
      rw [mem_mcastParts (tileX tile) (tileY tile), ← List.map_id (mcastParts (tileX tile) (tileY tile) all), ← heads]
      simp
  · have given := State.creditOp_gives hw hph hi hf hb
    refine ⟨fun ⟨q, hq, hne, hqc⟩ => run rfl (given.trans (if_neg ?_)), fun _ hlast => ?_⟩
    · rw [List.all_eq_true]
      intro h
      have hmem := h q hq
      simp only [List.contains_iff_mem, Keys.mem_add] at hmem
      rcases hmem with rfl | h
      · exact hne rfl
      · exact hqc h
    · have last : s.creditOp tile n i = (s.modChan tile n (fun c => { c with credits := c.credits.add i })).flitDone tile n d := by
        refine given.trans (if_pos (List.all_eq_true.mpr fun q hq => ?_))
        rw [List.contains_iff_mem, Keys.mem_add]
        exact hlast q hq
      obtain ⟨wunit, credits⟩ := (s.modChan tile n (fun c => { c with credits := c.credits.add i })).flitDone_chan tile n d
      rw [State.modChan_chan, if_pos rfl] at wunit
      exact ⟨_, run rfl last, by rw [State.watch_chan]; exact wunit, by rw [State.watch_chan]; exact credits⟩
  · exact run rfl (State.mcStallOp_early early)
  · obtain ⟨q, rest, hlate⟩ : ∃ q rest, all.filter (fun p => !c.credits.contains p.1) = q :: rest :=
      List.exists_cons_of_ne_nil (List.ne_nil_of_mem (List.mem_filter.mpr ⟨hq, by simpa using hqc⟩))
    obtain ⟨k, a, stall⟩ := State.mcStallOp_late hw hph hlate late
    refine ⟨_, run rfl stall, ?_, fun i hi => ?_⟩
    · have chan : (((s.leftBehind tile n (q :: rest)).modTile tile (fun T => T.setLag n ((q :: rest).map Prod.fst))).modChan tile n
          (fun c => { c with outst := c.outst - k })).chan tile n = { c with outst := c.outst - k } := by
        rw [State.modChan_chan, if_pos rfl, State.modTile_chan (h := fun T => T.setLag n ((q :: rest).map Prod.fst)) fun _ => rfl]
        rfl
      obtain ⟨f, hst, hdir, failed⟩ := State.failNow_chan (tile := tile) (n := n) a 1 .mcStall c.wunit
        ((congrArg Channel.fail chan).trans (Channel.working_fail hw))
      rw [State.watch_chan, failed, ← hst, ← hdir]
      rfl
    · have lag : (((((s.leftBehind tile n (q :: rest)).modTile tile (fun T => T.setLag n ((q :: rest).map Prod.fst))).modChan tile n
          (fun c => { c with outst := c.outst - k })).failNow tile n a 1 .mcStall c.wunit).watch tile |>.tile tile).mcLag =
          ((s.tile tile).setLag n ((q :: rest).map Prod.fst)).mcLag := by
        rw [State.watch_value (f := fun T => T.mcLag) fun _ _ _ => rfl, State.failNow, State.modChan_value (f := fun T => T.mcLag) fun _ _ => rfl,
          State.modChan_value (f := fun T => T.mcLag) fun _ _ => rfl, State.modTile_tile, if_pos rfl]
        rfl
      rw [lag, Tile.setLag_bit _ _ _ hi, ← hlate]
      simp only [List.mem_map, List.mem_filter, Bool.not_eq_true', List.contains_eq_mem, decide_eq_false_iff_not]
      exact ⟨fun ⟨r, ⟨hr, hrc⟩, he⟩ => ⟨r, hr, he, he ▸ hrc⟩, fun ⟨r, hr, he, hrc⟩ => ⟨r, ⟨hr, he ▸ hrc⟩, he⟩⟩

end Sys2Proof.Machine
end

section
/-!
Slot rings (spec/05_stream_engine.md R183 to R189; spec/06_stream_transforms.md R224): O51.
-/

namespace Sys2Proof.Machine

variable {s : State} {tile n id k : Nat} {d : RowData} {p : Packet} {l : Bool}

/-! ## At the channel -/

/-- A check of the ring that has failed. -/
theorem State.failSpread_chan (a : Addr) (v : Nat) (h : (s.chan tile n).fail = none) :
    ∃ f : ChFail, f.status = .spread ∧ f.dir = 1 ∧ (s.failSpread tile n a v).chan tile n = { s.chan tile n with fail := some f } := by
  refine ⟨{ seq := s.nextId, addr := a, dir := 1, status := .spread, unit := v, all := false, alone := true }, rfl, rfl, ?_⟩
  rw [State.failSpread, State.modChan_chan, if_pos rfl, Channel.addFail, h]

theorem ringSpread_iff {fill free : Word} : ringSpread d fill free = true ↔ Desc.ringN d < (fill - free).toNat := decide_eq_true_iff

theorem Channel.mayStart_iff {c : Channel} {free : Word} : c.mayStart d free = true ↔ (c.started - free).toNat < Desc.ringN d := decide_eq_true_iff

/-- The FILL add of a local ring has taken effect: it is no longer outstanding, and the ring's spread is checked. -/
theorem State.fillTaken_outcome (hs : (s.chan tile n).snap = some d) (hf : (s.chan tile n).fail = none) :
    let spread := ((s.tile tile).tallyOf (Desc.ringFill d) - (s.tile tile).tallyOf (Desc.ringFree d)).toNat
    ((s.fillTaken tile n).chan tile n).outst = (s.chan tile n).outst - 1 ∧ (∃ C, (s.fillTaken tile n).tile tile = { s.tile tile with chans := C }) ∧
    (spread ≤ Desc.ringN d → ((s.fillTaken tile n).chan tile n).fail = none) ∧
    (Desc.ringN d < spread → ((s.fillTaken tile n).chan tile n).fail.map (fun f => (f.status, f.dir)) = some (.spread, 1)) := by
  intro spread
  set u := s.modChan tile n (fun c => { c with outst := c.outst - 1 }) with hu
  have chan : u.chan tile n = { s.chan tile n with outst := (s.chan tile n).outst - 1 } := by rw [hu, State.modChan_chan, if_pos rfl]
  have own : ∃ C, u.tile tile = { s.tile tile with chans := C } := by
    rw [hu, State.modChan, State.modTile_tile, if_pos rfl]
    exact ⟨_, rfl⟩
  have step : s.fillTaken tile n = if ringSpread d ((s.tile tile).tallyOf (Desc.ringFill d)) ((s.tile tile).tallyOf (Desc.ringFree d)) then
      u.failSpread tile n (Desc.dstAddr d 0 ((s.chan tile n).wunit - 1)) (s.chan tile n).wunit else u := by
    have tally : ∀ j, (u.tile tile).tallyOf j = (s.tile tile).tallyOf j := fun j => State.modChan_value (f := fun T => T.tallyOf j) fun _ _ => rfl
    unfold State.fillTaken
    dsimp only
    rw [hs, ← hu]
    dsimp only
    rw [tally, tally]
  rw [step]
  split
  · next h =>
    obtain ⟨f, hst, hdir, failed⟩ := State.failSpread_chan (Desc.dstAddr d 0 ((s.chan tile n).wunit - 1)) (s.chan tile n).wunit
      ((congrArg Channel.fail chan).trans hf)
    refine ⟨by rw [failed, chan], ?_, fun h' => absurd (ringSpread_iff.mp h) (Nat.not_lt.mpr h'), fun _ => by rw [failed, ← hst, ← hdir]; rfl⟩
    obtain ⟨C, hC⟩ := own
    rw [State.failSpread, State.modChan, State.modTile_tile, if_pos rfl, hC]
    exact ⟨_, rfl⟩
  · next h =>
    exact ⟨by rw [chan], own, fun _ => by rw [chan]; exact hf, fun h' => absurd (ringSpread_iff.mpr h') h⟩

theorem Channel.ringWait_some {c : Channel} (h : c.ringWait = some d) : c.state = .wait ∧ c.fail = none := by
  unfold Channel.ringWait at h
  split at h
  · next hc =>
    simp only [Bool.and_eq_true, decide_eq_true_eq, Option.isNone_iff_eq_none] at hc
    exact ⟨hc.1.1.1, hc.1.2⟩
  · cases h

/-- A channel that waits on a full local ring looks at FREE again. -/
theorem State.resample_outcome (hw : (s.chan tile n).ringWait = some d) (hr : Desc.remoteRing d tile = false) :
    let spread := ((s.tile tile).tallyOf (Desc.ringFill d) - (s.tile tile).tallyOf (Desc.ringFree d)).toNat
    (spread ≤ Desc.ringN d → ((s.resample tile n).chan tile n).fail = none ∧ ((s.resample tile n).chan tile n).state =
      if ((s.chan tile n).started - (s.tile tile).tallyOf (Desc.ringFree d)).toNat < Desc.ringN d then .run else .wait) ∧
    (Desc.ringN d < spread → ((s.resample tile n).chan tile n).fail.map (fun f => (f.status, f.dir)) = some (.spread, 1)) := by
  intro spread
  obtain ⟨hwait, hfail⟩ := Channel.ringWait_some hw
  have step : s.resample tile n = s.resampleOp tile n d := by
    rw [State.resample, hw]
    exact if_neg (Bool.eq_false_iff.mp hr)
  rw [step, State.resampleOp]
  refine ⟨fun h => ?_, fun h => ?_⟩
  · rw [if_neg fun q => Nat.not_lt.mpr h (ringSpread_iff.mp q)]
    by_cases hm : ((s.chan tile n).started - (s.tile tile).tallyOf (Desc.ringFree d)).toNat < Desc.ringN d
    · rw [if_pos (Channel.mayStart_iff.mpr hm), State.modChan_chan, if_pos rfl, if_pos hm]
      exact ⟨hfail, rfl⟩
    · rw [if_neg fun q => hm (Channel.mayStart_iff.mp q), if_neg hm]
      exact ⟨hfail, hwait⟩
  · rw [if_pos (ringSpread_iff.mpr h)]
    obtain ⟨f, hst, hdir, failed⟩ := State.failSpread_chan (Desc.dstAddr d 0 (s.chan tile n).wunit) (s.chan tile n).wunit hfail
    rw [failed, ← hst, ← hdir]
    rfl

/-- A ring of another tile is probed once 64 paces have passed since the last probe. -/
theorem State.probeAgain_probes (hw : (s.chan tile n).ringWait = some d) (hr : Desc.remoteRing d tile = true) (hb : (s.chan tile n).rbIssued = false)
    (due : (s.chan tile n).probeAt + 64 ≤ s.paceNat tile) (room : s.remoteBusy tile < 16)
    (hs : s.side tile (Desc.dstAddr d 0 (Desc.slotFirst d (s.chan tile n).wunit)) ≠ .none) :
    ∃ p : Packet, (s.probeAgain tile n).net = s.net ++ [p] ∧ p.kind = .probe (Desc.ringFill d) (Desc.ringFree d) ∧ p.target = .tile (Desc.home d) ∧
      ((s.probeAgain tile n).chan tile n).probeAt = s.paceNat tile := by
  have step : s.probeAgain tile n = s.probeRing tile n d := by
    unfold State.probeAgain
    dsimp only
    rw [hw]
    exact if_pos (by simp [hr, hb, State.paceOver, due])
  rw [step, State.probeRing, State.ringRequest]
  dsimp only
  rw [if_neg hs, if_neg (by omega)]
  refine ⟨_, by rw [State.modChan_net, State.launch_net], rfl, rfl, ?_⟩
  rw [State.modChan_chan, if_pos rfl]

theorem State.probeAgain_early (h : s.paceNat tile < (s.chan tile n).probeAt + 64) : s.probeAgain tile n = s := by
  unfold State.probeAgain
  dsimp only
  split
  · rfl
  · exact if_neg (by simp [State.paceOver, h])

/-! ## At the ring's home -/

/-- A packet is answered with a status and its data. -/
theorem State.respondAt_pkt (hp : s.pkt id = some p) (st : Status) (data : List RowData) :
    ((s.respondAt tile id st data).pkt id).map (fun q => (q.resp, q.data)) = some (some st, data) := by
  rw [State.respondAt, State.modPkt_pkt_self hp (f := fun p => p.respond tile s.nextId st data (s.slice (tileDie tile)).lpActive false) fun _ => rfl]
  rfl

theorem State.respondAt_resp (hp : s.pkt id = some p) (st : Status) (data : List RowData) :
    ((s.respondAt tile id st data).pkt id).map (·.resp) = some (some st) := by
  rw [State.respondAt, State.modPkt_pkt_self hp (f := fun p => p.respond tile s.nextId st data (s.slice (tileDie tile)).lpActive false) fun _ => rfl]
  rfl

/-- What a probe of a ring finds at its home. -/
theorem State.ringProbeOp_answer {fill free : Nat} (hp : s.pkt id = some p) (hk : p.kind = .probe fill free) (hr : s.ready (tileDie tile) = true)
    (hq : (s.tile tile).quarantined .nw = false) (hg : (s.tile tile).reassign = none) :
    ((s.ringProbeOp tile p fill free).pkt id).map (fun q => (q.resp, q.data)) = some
      (if ((s.tile tile).gatesFor p.iss.hh .w (burstPieces p.view p.bstart p.blen)).isSome = false then (some .gate, [])
        else if (s.tile tile).isCount fill ∨ (s.tile tile).isCount free then (some .decerr, [])
        else (some .ok, [ringWords ((s.tile tile).tallyOf fill) ((s.tile tile).tallyOf free)])) := by
  have need : p.need = .w := by rw [Packet.need, hk]
  have check : s.homeCheck p tile fill free =
      if ((s.tile tile).gatesFor p.iss.hh .w (burstPieces p.view p.bstart p.blen)).isSome = false then some .gate
      else if (s.tile tile).isCount fill ∨ (s.tile tile).isCount free then some .decerr else none := by
    unfold State.homeCheck
    dsimp only
    rw [if_neg (by simp [hr]), if_neg (by simp [hq]), if_neg (by simp [hg]), need]
    simp only [Option.isNone_iff_eq_none, Option.isSome_eq_false_iff, Bool.or_eq_true]
  rw [State.ringProbeOp, check, State.pkt_id hp]
  by_cases h : ((s.tile tile).gatesFor p.iss.hh .w (burstPieces p.view p.bstart p.blen)).isSome = false
  · rw [if_pos h, if_pos h]
    exact State.respondAt_pkt hp _ _
  · rw [if_neg h, if_neg h]
    by_cases hc : (s.tile tile).isCount fill = true ∨ (s.tile tile).isCount free = true
    · rw [if_pos hc, if_pos hc]
      exact State.respondAt_pkt hp _ _
    · rw [if_neg hc, if_neg hc]
      exact State.respondAt_pkt hp _ _

/-- The add of a read-back has been made: it is answered. -/
theorem State.homeAdded_answer (hp : s.pkt id = some p) :
    (∀ m, p.kind = .rtally m → ((s.homeAdded tile id).pkt id).map (·.resp) = some (some .ok)) ∧
    (∀ fill free n, p.kind = .slotReadback fill free n → ((s.homeAdded tile id).pkt id).map (fun q => (q.resp, q.data)) = some
      (if n < ((s.tile tile).tallyOf fill - (s.tile tile).tallyOf free).toNat then (some .spread, [])
       else (some .ok, [ringWords ((s.tile tile).tallyOf fill) ((s.tile tile).tallyOf free)]))) := by
  refine ⟨fun m hk => ?_, fun fill free n hk => ?_⟩
  · rw [State.homeAdded, hp, Option.map_some, hk]
    exact State.respondAt_resp hp _ _
  · rw [State.homeAdded, hp, Option.map_some, hk]
    dsimp only
    split
    · exact State.respondAt_pkt hp _ _
    · exact State.respondAt_pkt hp _ _

theorem State.homeAdded_tile (s : State) (tile id g : Nat) : (s.homeAdded tile id).tile g = s.tile g := by
  unfold State.homeAdded
  split
  · dsimp only
    split <;> rfl
  · rfl

theorem State.readThere_pkt (h : s.readThere tile id = some p) : s.pkt id = some p := (Option.filter_eq_some_iff.mp h).1

/-- Settles O51. -/
theorem slotRings : Obligations.SlotRings := by
  unfold Obligations.SlotRings
  refine ⟨fun s tile n d hp hl hn => ?_, fun s tile id fill free p hp hr hhome hk hq hg => ?_, fun s tile id p hp hl hthere => ?_,
    fun s tile id k l p hp hl htops calm hpkt => ?_⟩
  · intro c T
    have run {i : Instr} {r : State} (hi : exec i s = s.onChan tile n r) {q : State} (h : r = q) : exec i s = .next (q.watch tile) :=
      hi.trans ((State.exec_onChan hp hl hn).trans (by rw [h]))
    refine ⟨fun hw hring hown hend hout => run rfl ?_, fun k l htops calm hsnap hfail => ?_, fun hw hown => ?_,
      fun hw hrem hrb => ⟨fun early => run rfl (State.probeAgain_early early), fun due room hs => ?_⟩⟩
    · rw [State.slotDone, hw]
      exact if_pos (by simp [hring, hown, show (s.chan tile n).slotEnd = true from hend, show (s.chan tile n).outst = 0 from hout])
    · have outst : ((s.oneAdded tile (.fill n k l) k l).chan tile n) = c :=
        State.oneAdded_value (f := fun T => T.chan n) fun _ _ _ _ _ _ => rfl
      obtain ⟨out, ⟨C, own⟩, inside, beyond⟩ := State.fillTaken_outcome (s := s.oneAdded tile (.fill n k l) k l) (tile := tile) (n := n)
        (by rw [outst]; exact hsnap) (by rw [outst]; exact hfail)
      have tally : ∀ j, ((((s.oneAdded tile (.fill n k l) k l).fillTaken tile n).watch tile).tile tile).tallyOf j =
          ((s.oneAdded tile (.fill n k l) k l).tile tile).tallyOf j := fun j => by
        rw [State.watch_value (f := fun T => T.tallyOf j) fun _ _ _ => rfl, own]
        rfl
      refine ⟨_, State.exec_boundary_one hp hl calm htops rfl rfl
        ((congrArg Tile.engines own).trans (State.oneAdded_value (f := fun T => T.engines) fun _ _ _ _ _ _ => rfl))
        ((congrArg Tile.regWait own).trans (State.oneAdded_value (f := fun T => T.regWait) fun _ _ _ _ _ _ => rfl)), ?_, ?_, ?_⟩
      · refine (tally k).trans ((State.oneAdded_tallyOf k).trans ?_)
        rw [if_pos rfl]
      · rw [State.watch_chan]
        exact out.trans (by rw [outst])
      · intro spread
        simp only [spread, State.afterAdd, tally, State.watch_chan]
        exact ⟨inside, beyond⟩
    · obtain ⟨inside, beyond⟩ := State.resample_outcome hw hown
      exact ⟨_, run rfl rfl, by rw [State.watch_chan]; exact inside, by rw [State.watch_chan]; exact beyond⟩
    · obtain ⟨p, net, kind, target, at'⟩ := State.probeAgain_probes hw hrem hrb due room hs
      exact ⟨_, p, run rfl rfl, by rw [State.watch_net]; exact net, kind, target, by rw [State.watch_chan]; exact at'⟩
  · have pkt : s.pkt id = some p := (Option.filter_eq_some_iff.mp hhome).1
    have step : s.probeAtHome tile id = s.ringProbeOp tile p fill free := by
      rw [State.probeAtHome, hhome]
      dsimp only
      rw [hk]
    exact ⟨_, (State.atTile_next hp (State.live_of_ready hr)).trans (by rw [step]), State.ringProbeOp_answer pkt hk hr hq hg⟩
  · intro T l adds hg
    have pkt := State.readThere_pkt hthere
    have stopped : (s.tile tile).reassignStopped = false := by rw [Tile.reassignStopped, hg]
    have run {i : Instr} {r : State} (hi : exec i s = s.atTile tile r) {q : State} (h : r = q) : exec i s = .next q :=
      hi.trans ((State.atTile_next hp hl).trans (by rw [h]))
    refine ⟨fun fill free k hk => ?_, fun k hk => ?_⟩
    · have step : s.slotAtHome tile id = s.slotReadbackOp tile p fill free := by
        rw [State.slotAtHome, hthere]
        dsimp only
        rw [hk]
      refine ⟨fun h1 h2 => run rfl (step.trans ?_), fun hc => ⟨_, run rfl (step.trans ((if_neg ?_).trans (if_pos ?_))), rfl, ?_⟩⟩
      · exact (if_neg (Bool.eq_false_iff.mp stopped)).trans (if_neg (by rw [h1, h2]; decide))
      · exact Bool.eq_false_iff.mp stopped
      · rw [Bool.or_eq_true]
        exact hc
      · rw [State.pkt_id pkt]
        exact State.respondAt_resp pkt _ _
    · have step : s.mcAtHome tile id = s.mcReadbackOp tile p k := by
        rw [State.mcAtHome, hthere]
        dsimp only
        rw [hk]
      refine ⟨fun h1 h2 => run rfl (step.trans ?_), fun hc => ⟨_, run rfl (step.trans ((if_neg ?_).trans (if_pos ?_))), rfl, ?_⟩⟩
      · exact (if_neg (Bool.eq_false_iff.mp stopped)).trans (if_neg (by simp [h1, h2]))
      · exact Bool.eq_false_iff.mp stopped
      · exact Bool.or_eq_true _ _ ▸ .inl (decide_eq_true hc)
      · rw [State.pkt_id pkt]
        exact State.respondAt_resp pkt _ _
  · have added : (s.oneAdded tile (.homeAdd id k l) k l).pkt id = some p := hpkt
    have own : ∀ {β : Type} (f : Tile → β), (∀ (T : Tile) o a t m b, f { T with tops := o, bellAdds := a, tally := t, tallyL := m, bells := b } = f T) →
        f (((s.oneAdded tile (.homeAdd id k l) k l).homeAdded tile id).tile tile) = f (s.tile tile) := fun f hf => by
      rw [State.homeAdded_tile]
      exact State.oneAdded_value hf
    have tally : ∀ j, ((((s.oneAdded tile (.homeAdd id k l) k l).homeAdded tile id).watch tile).tile tile).tallyOf j =
        ((s.oneAdded tile (.homeAdd id k l) k l).tile tile).tallyOf j := fun j => by
      rw [State.watch_value (f := fun T => T.tallyOf j) fun _ _ _ => rfl, State.homeAdded_tile]
    have answer := State.homeAdded_answer (tile := tile) added
    have packet : (((s.oneAdded tile (.homeAdd id k l) k l).homeAdded tile id).watch tile).pkt id =
        ((s.oneAdded tile (.homeAdd id k l) k l).homeAdded tile id).pkt id := by rw [State.pkt, State.pkt, State.watch_net]
    refine ⟨_, State.exec_boundary_one hp hl calm htops rfl rfl (own (fun T => T.engines) fun _ _ _ _ _ _ => rfl)
      (own (fun T => T.regWait) fun _ _ _ _ _ _ => rfl), ?_, fun m hk => ?_, fun fill free n hk => ?_⟩
    · refine (tally k).trans ((State.oneAdded_tallyOf k).trans ?_)
      rw [if_pos rfl]
    · exact (congrArg (Option.map (·.resp)) packet).trans (answer.1 m hk)
    · simp only [State.afterAdd, tally, packet]
      exact answer.2 fill free n hk

end Sys2Proof.Machine
end

section
/-!
Requests and doorbells at the host port (spec/09_households.md R310, R315 to R319; spec/11_startup_power_book.md R372): part of O53.
-/

namespace Sys2Proof.Machine

variable {s t : State} {d h fn n id : Nat} {a : Addr} {write : Bool} {data : List RowData} {st : Status}

/-! ## Fields of a word -/

theorem bits_or (x y : Word) (lo len : Nat) : bits (x ||| y) lo len = bits x lo len ||| bits y lo len := by
  refine Nat.eq_of_testBit_eq fun k => ?_
  rw [Nat.testBit_or, testBit_bits, testBit_bits, testBit_bits, bit_or, Bool.and_or_distrib_left]

theorem bits_put_self {lo len x : Nat} (hx : x < 2 ^ len) (hl : lo + len ≤ 32) : bits (put lo x) lo len = x := by
  refine Nat.eq_of_testBit_eq fun k => ?_
  rw [testBit_bits, bit_put, Nat.add_sub_cancel_left]
  by_cases hk : k < len
  · simp [hk, show lo + k < 32 by omega]
  · rw [Nat.testBit_lt_two_pow (hx.trans_le (Nat.pow_le_pow_right two_pos (not_lt.1 hk))), Bool.and_false, Bool.and_false]

theorem bits_put_beside {lo len x lo' len' : Nat} (hx : x < 2 ^ len) (hd : lo' + len' ≤ lo ∨ lo + len ≤ lo') : bits (put lo x) lo' len' = 0 := by
  refine Nat.eq_of_testBit_eq fun k => ?_
  rw [testBit_bits, Nat.zero_testBit]
  by_cases hk : k < len'
  · rw [bit_put_outside hx (by omega), Bool.and_false]
  · simp [hk]

/-- A word that keeps one bit only has no other. -/
theorem bits_and_put {w : Word} {k lo len : Nat} (hd : lo + len ≤ k ∨ k < lo) : bits (w &&& put k 1) lo len = 0 := by
  refine Nat.eq_of_testBit_eq fun j => ?_
  rw [testBit_bits, Nat.zero_testBit, bit, BitVec.getLsbD_and]
  by_cases hj : j < len
  · rw [show (put k 1).getLsbD (lo + j) = false from bit_put_outside (len := 1) (by decide) (by omega), Bool.and_false, Bool.and_false]
  · simp [hj]

/-! ## What is reported of a host's fault (R316, R322) -/

/-- HOSTFLT, as a fault is latched in it. -/
def faultWord (w : Word) (kind ds tile : Nat) (st : Status) : Word :=
  if bit w 31 then w ||| flag 30 true else (w &&& flag 29 true) ||| put 0 (statusCode st) ||| put 4 kind ||| put 6 ds ||| put 12 tile ||| flag 31 true

theorem faultWord_valid (w : Word) (kind ds tile : Nat) (st : Status) : bit (faultWord w kind ds tile st) 31 = true := by
  unfold faultWord
  split
  · next hw => rw [bit_or, hw, Bool.true_or]
  · rw [bit_or, show bit (flag 31 true) 31 = true by decide, Bool.or_true]

theorem statusCode_lt (st : Status) : statusCode st < 2 ^ 4 := by
  cases st <;> decide

/-- The fields of a first fault. -/
theorem faultWord_fields {w : Word} {kind ds tile : Nat} (hw : bit w 31 = false) (hk : kind < 2 ^ 2) (hd : ds < 2 ^ 6) (ht : tile < 2 ^ 11) :
    let f := faultWord w kind ds tile st
    bits f 0 4 = statusCode st ∧ bits f 4 2 = kind ∧ bits f 6 6 = ds ∧ bits f 12 11 = tile := by
  have code := statusCode_lt st
  have last : ∀ lo len, lo + len ≤ 31 → bits (put 31 1) lo len = 0 := fun lo len h => bits_put_beside (len := 1) (by decide) (.inl h)
  have kept : ∀ lo len, lo + len ≤ 29 → bits (w &&& put 29 1) lo len = 0 := fun lo len h => bits_and_put (.inl h)
  intro f
  have eq : f = (w &&& put 29 1) ||| put 0 (statusCode st) ||| put 4 kind ||| put 6 ds ||| put 12 tile ||| put 31 1 := if_neg (Bool.eq_false_iff.mp hw)
  rw [eq]
  simp only [bits_or]
  refine ⟨?_, ?_, ?_, ?_⟩
  · rw [kept _ _ (by decide), last _ _ (by decide), bits_put_self code (by decide), bits_put_beside hk (by decide), bits_put_beside hd (by decide),
      bits_put_beside ht (by decide)]
    simp
  · rw [kept _ _ (by decide), last _ _ (by decide), bits_put_beside code (by decide), bits_put_self hk (by decide), bits_put_beside hd (by decide),
      bits_put_beside ht (by decide)]
    simp
  · rw [kept _ _ (by decide), last _ _ (by decide), bits_put_beside code (by decide), bits_put_beside hk (by decide), bits_put_self hd (by decide),
      bits_put_beside ht (by decide)]
    simp
  · rw [kept _ _ (by decide), last _ _ (by decide), bits_put_beside code (by decide), bits_put_beside hk (by decide), bits_put_beside hd (by decide),
      bits_put_self ht (by decide)]
    simp

/-- The slice once a fault is latched in HOSTFLT. -/
def Slice.latched (S : Slice) (h kind ds tile : Nat) (st : Status) : Slice :=
  { S with irqs := S.irqs.set h { S.irq h with hostflt := faultWord (S.irq h).hostflt kind ds tile st } }

theorem Slice.hostFault_eq (S : Slice) (now h kind ds tile : Nat) (st : Status) :
    S.hostFault now h kind ds tile st = (S.latched h kind ds tile st).raise now h 2 := rfl

/-- A raised cause stands, beside the HOSTFLT of its household. -/
theorem Slice.raise_irq (S : Slice) (now h : Nat) {v : Nat} (hv : v < 8) :
    bit ((S.raise now h v).irq h).cause v = true ∧ ((S.raise now h v).irq h).hostflt = (S.irq h).hostflt := by
  unfold Slice.raise
  dsimp only
  split
  · next hc => exact ⟨hc, rfl⟩
  · simp [Slice.irq, Tbl.get_set, bit_setBit_true _ v hv]

/-- A fault is latched in HOSTFLT and raised to the household. -/
theorem Slice.hostFault_outcome (S : Slice) (now h kind ds tile : Nat) (st : Status) :
    bit ((S.hostFault now h kind ds tile st).irq h).cause 2 = true ∧
    ((S.hostFault now h kind ds tile st).irq h).hostflt = faultWord (S.irq h).hostflt kind ds tile st := by
  obtain ⟨cause, word⟩ := (S.latched h kind ds tile st).raise_irq now h (v := 2) (by decide)
  rw [Slice.hostFault_eq]
  refine ⟨cause, word.trans ?_⟩
  simp [Slice.latched, Slice.irq, Tbl.get_set]

theorem Slice.hostFault_bells (S : Slice) (now h kind ds tile : Nat) (st : Status) :
    (S.hostFault now h kind ds tile st).bells = S.bells ∧ (S.hostFault now h kind ds tile st).bellTurn = S.bellTurn := by
  rw [Slice.hostFault_eq]
  exact ⟨Slice.raise_bells .., Slice.raise_bellTurn ..⟩

/-! ## Who may use the port (R310, R372) -/

/-- A request of a function that no household of a READY slice is bound to. -/
theorem State.fromHost_unbound (f : Nat → State) (hr : s.ready d = true) (hh : (s.slice d).hhOfFn fn = none) : s.fromHost d fn write f = s.hostRefuse d fn := by
  unfold State.fromHost
  rw [if_neg (by simp [hr]), hh]

theorem State.fromHost_bound (f : Nat → State) (hr : s.ready d = true) (hh : (s.slice d).hhOfFn fn = some h) (hp : (s.slice d).replays h = false) :
    s.fromHost d fn write f = f h := by
  unfold State.fromHost
  rw [if_neg (by simp [hr]), hh]
  exact if_neg (by simp [hp])

/-- Before READY a request is answered DECERR, and counted where no slice has its function bound. -/
theorem State.fromHost_early (f : Nat → State) (hr : s.ready d = false) :
    s.fromHost d fn write f =
      (if (List.range s.dies).any (fun e => ((s.slice e).hhOfFn fn).isSome) then s
        else s.modSlice d (fun S => { S with unbCount := satInc S.unbCount, unbFn := BitVec.ofNat 8 fn })).emit (.hostAnswer d fn .decerr []) := by
  unfold State.fromHost
  rw [if_pos (by simp [hr])]
  unfold State.boundSomewhere State.hostRefuse
  split <;> rfl

/-- A request is named and comes to a live slice. -/
theorem State.exec_hostPort {b : Bool} {r : State} (hb : b = true) (hd : s.hasDie d = true) (hl : s.live d = true) : s.named b (s.atDie d r) = .next r := by
  rw [State.named, if_pos hb, State.atDie_next hd hl]

/-! ## Requests (R228, R310) -/

/-- A request of a bound function to a space other than the registers'. -/
theorem State.hostRequestOp_bound {size : Nat} (hr : s.ready d = true) (hh : (s.slice d).hhOfFn fn = some h) (hp : (s.slice d).replays h = false)
    (h2 : space a ≠ 2) (h3 : space a ≠ 3) : s.hostRequestOp d fn a size write data = s.hostPass d h fn a size write data := by
  unfold State.hostRequestOp
  rw [if_neg (by simp [hr]), State.fromHost_bound _ hr hh hp]
  exact congrArg (fun u : State => u.hostPass d h fn a size write data) (if_neg (by simp [h2, h3]))

theorem State.hostPass_tile {size : Nat} (h1 : space a = 1) (h0 : addrBitsZero a = true) (ht : s.hasTile (addrTile a) = true) :
    s.hostPass d h fn a size write data =
      s.launch (s.newPacket (hostIssuer d h) (if write then .write else .read) 6 (.tile (addrTile a)) a (addrOff a) size write data) := by
  unfold State.hostPass
  rw [h1]
  exact if_pos (by simp [h0, ht])

/-- An address of no space is answered DECERR. -/
theorem State.hostPass_nowhere {size : Nat} (h0 : space a = 0 ∨ 4 < space a) :
    s.hostPass d h fn a size write data = (s.latchDecerr d a (hostIssuer d h)).emit (.hostAnswer d fn .decerr []) := by
  unfold State.hostPass
  have small : space a < 8 := Nat.mod_lt _ (by decide)
  dsimp only
  split
  · omega
  · omega
  · omega
  · omega
  · rfl

/-- What becomes of the requests of a bound function. -/
theorem State.hostRequest_outcome {size : Nat} (hd : s.hasDie d = true) (hr : s.ready d = true) (hf : fn < 256)
    (hdata : data.length = (if write then (size + 63) / 64 else 0)) (hh : (s.slice d).hhOfFn fn = some h) (hp : (s.slice d).replays h = false) :
    (space a = 1 → addrBitsZero a = true → s.hasTile (addrTile a) = true →
      ∃ t : State, ∃ p : Packet, exec (.hostRequest d fn a size write data) s = .next t ∧ t.net = s.net ++ [p] ∧ t.out = s.out ∧
        p.kind = (if write then .write else .read) ∧ p.target = .tile (addrTile a) ∧ p.place = addrOff a ∧ p.size = size ∧
        p.data = data ∧ p.write = write ∧ p.qos = 6 ∧ p.iss = hostIssuer d h ∧ p.loc = .matrix d) ∧
    ((space a = 0 ∨ 4 < space a) → ∃ t : State, exec (.hostRequest d fn a size write data) s = .next t ∧ t.net = s.net ∧
      t.out = s.out ++ [Output.hostAnswer d fn .decerr []]) := by
  have run {r : State} (h : s.hostRequestOp d fn a size write data = r) : exec (.hostRequest d fn a size write data) s = .next r :=
    (State.exec_hostPort (by simp [hf, hdata]) hd (State.live_of_ready hr)).trans (by rw [h])
  refine ⟨fun h1 h0 ht => ?_, fun h0 => ?_⟩
  · refine ⟨_, _, run ((State.hostRequestOp_bound hr hh hp (by omega) (by omega)).trans (State.hostPass_tile h1 h0 ht)), State.launch_net _ _, rfl, ?_⟩
    exact ⟨rfl, rfl, rfl, rfl, rfl, rfl, rfl, rfl, rfl⟩
  · exact ⟨_, run ((State.hostRequestOp_bound hr hh hp (by omega) (by omega)).trans (State.hostPass_nowhere h0)), rfl, rfl⟩

/-! ## Doorbells (R315 to R319) -/

/-- The doorbell that has arrived, behind the doorstep pieces of its household. -/
theorem State.doorbellOp_outcome (s : State) (d h offset size : Nat) (word : BitVec 64) :
    ∃ b : Doorbell, ((s.doorbellOp d h offset size word).slice d).bells = (s.slice d).bells ++ [b] ∧ (s.doorbellOp d h offset size word).net = s.net ∧
      b.hh = h ∧ b.offset = offset ∧ b.size = size ∧ b.word = word ∧
      ∀ p k, p ∈ s.net → p.kind = .doorstep k → p.iss = hostIssuer d h → p.resp = none → p.id ∈ b.pieces := by
  obtain ⟨c, captured⟩ := State.capture_slice s d h 1 offset 0 word 0 .ok false [] d
  obtain ⟨_, _, _, _, net, _⟩ := State.capture_rest s d h 1 offset 0 word 0 .ok false []
  refine ⟨_, by rw [State.doorbellOp, State.modSlice_slice, if_pos rfl, captured], net, rfl, rfl, rfl, rfl, fun p k hp hk hi hn => ?_⟩
  refine List.mem_map.mpr ⟨p, List.mem_filter.mpr ⟨by rw [net]; exact hp, ?_⟩, rfl⟩
  simp [hk, hi, hn, hostIssuer]

/-- The slice that has released the first doorbell of a household. -/
def Slice.bellOut (h : Nat) (S : Slice) : Slice :=
  { S with bellTurn := h, bells := match takeFirst (fun x => x.hh == h) S.bells with | some (_, r) => r | none => S.bells }

theorem Slice.bellReady_some {S : Slice} {b : Doorbell} (hb : S.bellReady h = some b) : b ∈ S.bells ∧ b.hh = h := by
  obtain ⟨hf, _⟩ := Option.filter_eq_some_iff.mp hb
  exact ⟨List.mem_of_find?_eq_some hf, by simpa using List.find?_some hf⟩

theorem Slice.bellOut_bells {S : Slice} {b : Doorbell} (hb : S.bellReady h = some b) : (S.bellOut h).bells.length + 1 = S.bells.length := by
  obtain ⟨hmem, hh⟩ := Slice.bellReady_some hb
  obtain ⟨_, rest, found, len⟩ := takeFirst_of_mem (p := fun x : Doorbell => x.hh == h) hmem (beq_iff_eq.mpr hh)
  unfold Slice.bellOut
  rw [found]
  exact len

/-- What a doorbell in turn is found to be. -/
def State.bellFound (s : State) (b : Doorbell) : Option Status :=
  if b.size ≠ 8 ∨ b.offset % 8 ≠ 0 then some .align
  else if bellCode b.word = 0 ∨ bellCode b.word = 3 ∨ s.hasTile (bellTile b.word) = false then some .decerr
  else if (s.tile (bellTile b.word)).hh ≠ b.hh then some .gate
  else none

theorem State.bellCheck_eq (b : Doorbell) : (s.modSlice d (Slice.bellOut h)).bellCheck b = s.bellFound b := by
  have tile := State.modSlice_tile (k := Slice.bellOut h) s d (bellTile b.word) (fun _ => rfl) fun _ => rfl
  unfold State.bellCheck State.bellFound
  rw [tile]
  simp only [bne_iff_ne, Bool.or_eq_true, decide_eq_true_eq, Bool.not_eq_true', ne_eq, or_assoc]
  rfl

/-- The request of a doorbell to its tile. -/
def State.bellPacket (s : State) (d h : Nat) (b : Doorbell) : Packet :=
  { s.newPacket (hostIssuer d h) (.doorbell b.word) 7 (.tile (bellTile b.word))
      (BitVec.ofNat 48 (tileRegAddr (bellTile b.word) (0x600 + 0x40 * bellChan b.word))) 0 8 true [] with lapse := if b.lapse then [d] else [] }

/-- What becomes of a doorbell, once it is found to be `st`. -/
def State.bellGoes (s : State) (d h : Nat) (b : Doorbell) : Option Status → State
  | some st => s.modSlice d (fun S => S.hostFault s.nextId h 1 0 (bellTile b.word) st)
  | none => s.launch (s.bellPacket d h b)

/-- A doorbell that has its turn is released: it fails its check and is reported, or sets out to its tile. -/
theorem State.bellReleaseOp_eq {b : Doorbell} (hb : (s.slice d).bellReady h = some b) (hturn : (s.slice d).bellTurnOf = some h) :
    s.bellReleaseOp d h = (s.modSlice d (Slice.bellOut h)).bellGoes d h b (s.bellFound b) := by
  rw [← State.bellCheck_eq (d := d) (h := h) b]
  unfold State.bellReleaseOp
  dsimp only
  rw [hb]
  exact if_neg (by simp [hturn])

theorem bellTile_lt (w : BitVec 64) : bellTile w < 2 ^ 11 := Nat.mod_lt _ (by decide)

/-- What becomes of a doorbell whose turn has come. -/
theorem State.doorbellRelease_outcome {b : Doorbell} (hd : s.hasDie d = true) (hl : s.live d = true) (hh : h < 16)
    (hb : (s.slice d).bellReady h = some b) (hturn : (s.slice d).bellTurnOf = some h) :
    let st := s.bellFound b
    ∃ t : State, exec (.doorbellRelease d h) s = .next t ∧ (t.slice d).bells.length + 1 = (s.slice d).bells.length ∧ (t.slice d).bellTurn = h ∧
      (st = none → (t.slice d).irqs = (s.slice d).irqs ∧ ∃ p : Packet, t.net = s.net ++ [p] ∧ p.kind = .doorbell b.word ∧ p.qos = 7 ∧
        p.target = .tile (bellTile b.word) ∧ p.iss = hostIssuer d h) ∧
      (∀ e, st = some e → t.net = s.net ∧ bit ((t.slice d).irq h).cause 2 = true ∧ bit ((t.slice d).irq h).hostflt 31 = true ∧
        (bit ((s.slice d).irq h).hostflt 31 = false → bits ((t.slice d).irq h).hostflt 0 4 = statusCode e ∧
          bits ((t.slice d).irq h).hostflt 4 2 = 1 ∧ bits ((t.slice d).irq h).hostflt 12 11 = bellTile b.word)) := by
  intro st
  have run {r : State} (h : s.bellReleaseOp d ‹_› = r) : exec (.doorbellRelease d ‹_›) s = .next r :=
    (State.exec_hostPort (decide_eq_true hh) hd hl).trans (by rw [h])
  have out : (s.modSlice d (Slice.bellOut h)).slice d = (s.slice d).bellOut h := by rw [State.modSlice_slice, if_pos rfl]
  cases hst : st with
  | none =>
    have slice : (((s.modSlice d (Slice.bellOut h)).bellGoes d h b none)).slice d = (s.slice d).bellOut h := out
    refine ⟨(s.modSlice d (Slice.bellOut h)).bellGoes d h b none, run ((State.bellReleaseOp_eq hb hturn).trans (by rw [show s.bellFound b = none from hst])),
      by rw [slice]; exact Slice.bellOut_bells hb, by rw [slice]; rfl, fun _ => ⟨by rw [slice]; rfl, _, State.launch_net _ _, rfl, rfl, rfl, rfl⟩,
      nofun⟩
  | some e =>
    have slice : ((s.modSlice d (Slice.bellOut h)).bellGoes d h b (some e)).slice d =
        ((s.slice d).bellOut h).hostFault s.nextId h 1 0 (bellTile b.word) e := by
      rw [State.bellGoes, State.modSlice_slice, if_pos rfl, out]
      rfl
    obtain ⟨bells, turn⟩ := ((s.slice d).bellOut h).hostFault_bells s.nextId h 1 0 (bellTile b.word) e
    obtain ⟨cause, word⟩ := ((s.slice d).bellOut h).hostFault_outcome s.nextId h 1 0 (bellTile b.word) e
    refine ⟨_, run ((State.bellReleaseOp_eq hb hturn).trans (by rw [show s.bellFound b = some e from hst])), by rw [slice, bells]; exact Slice.bellOut_bells hb, by rw [slice, turn]; rfl,
      nofun, fun e' he => ?_⟩
    cases he
    rw [slice, word]
    refine ⟨rfl, cause, faultWord_valid _ _ _ _ _, fun hv => ?_⟩
    obtain ⟨code, kind, _, tile⟩ := faultWord_fields (st := e) (kind := 1) (ds := 0) hv (by decide) (by decide) (bellTile_lt b.word)
    exact ⟨code, kind, tile⟩

end Sys2Proof.Machine
end

section
/-!
Doorbells at their tile, and doorsteps (spec/09_households.md R316, R317, R320 to R322): O53.
-/

namespace Sys2Proof.Machine

variable {s t : State} {tile n id d h fn : Nat} {p : Packet} {x : BitVec 16}

/-! ## A doorbell at its tile (R316, R317) -/

/-- A fetch adds requests to the network. -/
theorem State.fetch_net (s : State) (tile n : Nat) : ∃ m, (s.fetch tile n).net = s.net ++ m := by
  unfold State.fetch
  extract_lets c a u
  split
  · exact ⟨[], (State.reach_streams u.takeId tile _ rfl).2.trans (List.append_nil _).symm⟩
  · split
    · next t ht =>
      obtain ⟨e, _, rfl⟩ := Option.map_eq_some_iff.mp ht
      exact ⟨_, State.launch_net _ _⟩
    · exact ⟨[], (List.append_nil _).symm⟩

theorem State.pkt_of_append {m : List Packet} (hp : s.pkt id = some p) (hn : t.net = s.net ++ m) : t.pkt id = some p := by
  rw [State.pkt] at hp ⊢
  rw [hn, List.find?_append, hp, Option.some_or]

/-- A new TAIL, as a doorbell brings it. -/
theorem State.tailOp_outcome (s : State) (tile n : Nat) (x : BitVec 16) :
    let c := s.chan tile n
    ∃ u : State, s.tailOp tile n x = (u, if c.entries < (x - c.head).toNat then .size else .ok) ∧ (∃ m, u.net = s.net ++ m) ∧
      (u.chan tile n).tail = if c.entries < (x - c.head).toNat then c.tail else x := by
  intro c
  by_cases h : c.entries < (x - c.head).toNat
  · rw [if_pos h, if_pos h]
    exact ⟨s, if_pos h, ⟨[], (List.append_nil _).symm⟩, rfl⟩
  · rw [if_neg h, if_neg h]
    unfold State.tailOp
    extract_lets s'
    have tail : (s'.chan tile n).tail = x := by rw [State.modChan_chan, if_pos rfl]
    have net : s'.net = s.net := rfl
    clear_value s'
    refine ⟨_, if_neg h, ?_, ?_⟩
    · dsimp only [awakeAt]
      rw [State.watch_net]
      split
      · obtain ⟨m, hm⟩ := State.fetch_net (s'.modTile tile (fun T =>
          { T.setChan n { T.chan n with state := .run, snap := none, fail := none, l := false, demoted := false } with mcLag := T.mcLag.del n })) tile n
        exact ⟨m, hm.trans (congrArg (· ++ m) net)⟩
      · exact ⟨[], net.trans (List.append_nil _).symm⟩
    · dsimp only [awakeAt]
      rw [State.watch_chan]
      split
      · exact (State.fetchNext_chan (k := fun c : Channel => c.tail) (fun _ _ _ _ _ _ _ _ _ => rfl) s' tile n .run).trans tail
      · exact tail

/-- GO answers OK, and leaves the packets on their way. -/
theorem State.goOp_ok (s : State) (tile n : Nat) : ∃ u : State, s.goOp tile n = (u, .ok) ∧ u.net = s.net := by
  unfold State.goOp
  dsimp only
  split
  · exact ⟨_, rfl, rfl⟩
  · split
    · refine ⟨_, rfl, ?_⟩
      unfold State.startDesc
      split <;> rfl
    · exact ⟨_, rfl, rfl⟩
    · exact ⟨_, rfl, rfl⟩
    · exact ⟨_, rfl, rfl⟩
    · exact ⟨_, rfl, rfl⟩

section
variable (hr : s.ready (tileDie tile) = true) (hg : (s.tile tile).reassign = none) (hb : (s.tile tile).regBusy = none) (hw : (s.tile tile).regWait = [])
include hr hg hb hw

/-- A doorbell to a tile of another household. -/
theorem State.bellAtTile_gate (f : State × Status) (hh : (s.tile tile).hh ≠ p.iss.hh) : s.bellAtTile tile p f = s.respondAt tile p.id .gate [] := by
  unfold State.bellAtTile
  rw [if_neg (by simp [hr]), if_neg (by simp [hg, hb, hw]), if_pos hh]

theorem State.bellAtTile_taken (f : State × Status) (hh : (s.tile tile).hh = p.iss.hh) : s.bellAtTile tile p f = f.1.respondAt tile p.id f.2 [] := by
  unfold State.bellAtTile
  rw [if_neg (by simp [hr]), if_neg (by simp [hg, hb, hw]), if_neg (by simp [hh])]

end

theorem State.bellIn_some {code : Nat} {word : BitVec 64} (hp : s.atHome tile id = some p) (hk : p.kind = .doorbell word) (hc : bellCode word = code) :
    s.bellIn tile id code = some (p, word) := by
  rw [State.bellIn, hp]
  dsimp only [Option.bind_some]
  rw [hk]
  exact if_pos hc

theorem State.respondAt_chan (s : State) (tile id : Nat) (st : Status) (data : List RowData) (u m : Nat) :
    (s.respondAt tile id st data).chan u m = s.chan u m := rfl

/-- What becomes of the doorbells at a tile. -/
theorem State.doorbellAt_outcome {word : BitVec 64} (ht : s.hasTile tile = true) (hr : s.ready (tileDie tile) = true) (hp : s.atHome tile id = some p)
    (hk : p.kind = .doorbell word) (hg : (s.tile tile).reassign = none) (hb : (s.tile tile).regBusy = none) (hw : (s.tile tile).regWait = []) :
    let n := bellChan word
    let c := s.chan tile n
    (bellCode word = 1 → (s.tile tile).hh = p.iss.hh → ∃ t : State, exec (.doorbellTail tile id) s = .next t ∧
      (t.pkt id).map (·.resp) = some (some (if c.entries < (bellTail word - c.head).toNat then .size else .ok)) ∧
      (t.chan tile n).tail = if c.entries < (bellTail word - c.head).toNat then c.tail else bellTail word) ∧
    (bellCode word = 1 → (s.tile tile).hh ≠ p.iss.hh → ∃ t : State, exec (.doorbellTail tile id) s = .next t ∧
      (t.pkt id).map (·.resp) = some (some .gate) ∧ t.tile tile = s.tile tile) ∧
    (bellCode word = 2 → (s.tile tile).hh = p.iss.hh → c.localRing tile = true → ∃ t : State, exec (.doorbellGo tile id) s = .next t ∧
      (t.pkt id).map (·.resp) = some (some .ok) ∧
      (∀ x, c.state = .armed → c.snap = some x → (t.chan tile n).state = .run) ∧
      ((c.state = .arming ∨ c.state = .run ∨ c.state = .wait) → (t.chan tile n).pendGo = true)) := by
  intro n c
  have pkt : s.pkt id = some p := (Option.filter_eq_some_iff.mp hp).1
  have run {i : Instr} {r u : State} (hi : exec i s = s.atTile tile r) (h : r = u) : exec i s = .next u :=
    hi.trans ((State.atTile_next ht (State.live_of_ready hr)).trans (by rw [h]))
  refine ⟨fun hc hh => ?_, fun hc hh => ?_, fun hc hh hl => ?_⟩
  · obtain ⟨u, step, ⟨m, net⟩, tail⟩ := s.tailOp_outcome tile n (bellTail word)
    have bell : s.bellTailAt tile id = u.respondAt tile id (if c.entries < (bellTail word - c.head).toNat then .size else .ok) [] := by
      rw [State.bellTailAt, State.bellIn_some hp hk hc]
      exact (State.bellAtTile_taken hr hg hb hw _ hh).trans (by rw [step, State.pkt_id pkt])
    exact ⟨_, run rfl bell, State.respondAt_resp (State.pkt_of_append pkt net) _ _, by rw [State.respondAt_chan]; exact tail⟩
  · have bell : s.bellTailAt tile id = s.respondAt tile id .gate [] := by
      rw [State.bellTailAt, State.bellIn_some hp hk hc]
      exact (State.bellAtTile_gate hr hg hb hw _ hh).trans (by rw [State.pkt_id pkt])
    exact ⟨_, run rfl bell, State.respondAt_resp pkt _ _, rfl⟩
  · obtain ⟨u, step, net⟩ := s.goOp_ok tile n
    have bell : s.bellGoAt tile id = (u.watch tile).respondAt tile id .ok [] := by
      rw [State.bellGoAt, State.bellIn_some hp hk hc]
      refine (State.bellAtTile_taken hr hg hb hw _ hh).trans ?_
      rw [State.cmdOp, step, State.pkt_id pkt]
      rfl
    refine ⟨_, run rfl bell, State.respondAt_resp (State.pkt_of_append (m := []) pkt (by rw [State.watch_net, net, List.append_nil])) _ _,
      fun x hs hx => ?_, fun hs => ?_⟩
    · rw [State.respondAt_chan, State.watch_chan, show u = s.startDesc tile n from congrArg Prod.fst (step.symm.trans (State.goOp_armed hl hs)),
        State.startDesc_chan hx]
      rfl
    · rw [State.respondAt_chan, State.watch_chan, show u = _ from congrArg Prod.fst (step.symm.trans (State.goOp_kept hl hs)), State.modChan_chan, if_pos rfl]
      split
      · assumption
      · rfl

/-! ## Doorsteps (R320 to R322) -/

/-- Pieces of 64 B and 256 B that follow each other through `m` bytes from `a`, each aligned to its size. -/
structure Pieces (l : List (Nat × Nat)) (a m : Nat) : Prop where
  sum : (l.map Prod.snd).sum = m
  at' : ∀ (i : Nat) (x : Nat × Nat), l[i]? = some x → x.1 = a + ((l.take i).map Prod.snd).sum ∧ (x.2 = 64 ∨ x.2 = 256) ∧ x.1 % x.2 = 0 ∧ x.1 + x.2 ≤ a + m
  rows : ∀ (o : Nat) (data : List RowData), o ≤ a → (a - o) % 64 = 0 → data.length = (a - o + m) / 64 →
    l.flatMap (fun q => (data.drop ((q.1 - o) / 64)).take (q.2 / 64)) = data.drop ((a - o) / 64)

theorem Pieces.nil (a : Nat) : Pieces [] a 0 where
  sum := rfl
  at' _ _ h := nomatch h
  rows o data ho _ hd := (List.drop_eq_nil_of_le (by omega)).symm

theorem Pieces.cons {l : List (Nat × Nat)} {a b m : Nat} (hb : b = 64 ∨ b = 256) (ha : a % b = 0) (hm : b ≤ m) (h : Pieces l (a + b) (m - b)) :
    Pieces ((a, b) :: l) a m where
  sum := by
    rw [List.map_cons, List.sum_cons, h.sum]
    omega
  at' i x hx := by
    cases i with
    | zero =>
      obtain rfl : (a, b) = x := by simpa using hx
      exact ⟨rfl, hb, ha, by dsimp only; omega⟩
    | succ i =>
      obtain ⟨start, size, aligned, fits⟩ := h.at' i x (by simpa using hx)
      refine ⟨?_, size, aligned, by omega⟩
      rw [start, List.take_succ_cons, List.map_cons, List.sum_cons, Nat.add_assoc]
  rows o data ho ha' hd := by
    have next : (a + b - o) / 64 = (a - o) / 64 + b / 64 := by omega
    rw [List.flatMap_cons, h.rows o data (by omega) (by omega) (by rw [hd]; congr 1; omega), next, ← List.drop_drop]
    exact List.take_append_drop _ _

/-- The pieces of an aligned write. -/
theorem stepPieces_pieces {f a m : Nat} (ha : a % 64 = 0) (hm : m % 64 = 0) (hf : m ≤ 64 * f) : Pieces (stepPieces f a m) a m := by
  induction f generalizing a m with
  | zero =>
    obtain rfl : m = 0 := by omega
    exact .nil a
  | succ f ih =>
    unfold stepPieces
    split
    · next h =>
      subst h
      exact .nil a
    · split
      · next h => exact .cons (.inr rfl) h.1 h.2 (ih (by omega) (by omega) (by omega))
      · exact .cons (.inl rfl) ha (by omega) (ih (by omega) (by omega) (by omega))

theorem getElem?_of_forall₂ {α β : Type} {R : α → β → Prop} {l : List α} {ps : List β} (h : List.Forall₂ R l ps) {i : Nat} {p : β} (hp : ps[i]? = some p) :
    ∃ x, l[i]? = some x ∧ R x p := by
  induction h generalizing i with
  | nil => nomatch hp
  | cons hr _ ih =>
    cases i with
    | zero =>
      cases hp
      exact ⟨_, rfl, hr⟩
    | succ i => exact ih hp

/-- Steps that each launch a packet, whatever else has been launched. -/
theorem State.foldl_launches {ι : Type} {op : State → ι → State} {mk : State → ι → Packet} {l : List ι} {s : State}
    (h : ∀ t : State, t.slices = s.slices → ∀ x, x ∈ l → op t x = t.launch (mk t x)) : l.foldl op s = l.foldl (fun t x => t.launch (mk t x)) s := by
  induction l generalizing s with
  | nil => rfl
  | cons x l ih =>
    rw [List.foldl_cons, List.foldl_cons, h s rfl x List.mem_cons_self]
    exact ih fun t ht y hy => h t ht y (List.mem_cons_of_mem _ hy)

/-- The packet of a doorstep piece. -/
def State.stepPacket (s : State) (d h k g base a size : Nat) (data : List RowData) : Packet :=
  s.newPacket (hostIssuer d h) (.doorstep k) 7 (.tile g) (BitVec.ofNat 48 (tileMemAddr g (base + a % 4096))) (base + a % 4096) size true data

/-- A piece whose doorstep leads to a tile of its household on this die. -/
theorem State.stepPiece_launches {a size : Nat} {data : List RowData} {e : Word} (he : Tbl.get 0 (s.slice d).doorsteps (64 * h + a / 4096 % 64) = e)
    (hv : bit e 31 = true) (hd : tileDie (bits e 0 11) = d) (hh : (s.tile (bits e 0 11)).hh = h) :
    s.stepPiece d h a size data =
      s.launch (s.stepPacket d h (a / 4096 % 64) (bits e 0 11) ((14 + bits e 11 1) * 65536 + bits e 12 4 * 4096) a size data) := by
  unfold State.stepPiece
  dsimp only
  rw [he, if_neg (by simp [hv, hd]), if_neg (by simp [hh])]
  rfl

section
variable {offset length : Nat} {allEnables : Bool} {data : List RowData}

/-- The state in which a doorstep write is looked at: the event is on its way to the capture unit. -/
def State.stepTaken (s : State) (d h offset length : Nat) (allEnables : Bool) (data : List RowData) : State :=
  let good := offset % 64 == 0 && length % 64 == 0 && allEnables
  s.capture d h 2 offset 0 0 0 (if good then .ok else .align) (!good) (data.take ((length + 63) / 64))

/-- A write that is not aligned, or lacks byte enables. -/
theorem State.doorstepOp_bad (hb : offset % 64 ≠ 0 ∨ length % 64 ≠ 0 ∨ allEnables = false) :
    let u := s.stepTaken d h offset length allEnables data
    s.doorstepOp d h offset length allEnables data = u.modSlice d (fun S =>
      S.hostFault u.nextId h 2 (offset / 4096 % 64) (bits (Tbl.get 0 S.doorsteps (64 * h + offset / 4096 % 64)) 0 11) .align) := by
  have bad : (offset % 64 == 0 && length % 64 == 0 && allEnables) = false := by
    rcases hb with h | h | h <;> simp [h]
  unfold State.doorstepOp State.stepTaken
  dsimp only
  rw [bad]
  rfl

theorem State.doorstepOp_good (h1 : offset % 64 = 0) (h2 : length % 64 = 0) (h3 : allEnables = true) :
    s.doorstepOp d h offset length allEnables data = (stepPieces (length / 64) offset length).foldl
      (fun s q => s.stepPiece d h q.1 q.2 ((data.drop ((q.1 - offset) / 64)).take (q.2 / 64))) (s.stepTaken d h offset length allEnables data) := by
  have good : (offset % 64 == 0 && length % 64 == 0 && allEnables) = true := by simp [h1, h2, h3]
  unfold State.doorstepOp State.stepTaken
  dsimp only
  rw [good]
  rfl

/-- An aligned write through a doorstep of the household sets out in pieces. -/
theorem State.doorstepOp_sends (h1 : offset % 64 = 0) (h2 : length % 64 = 0) (h3 : allEnables = true) (hfit : offset % 4096 + length ≤ 4096)
    (hdata : data.length = (length + 63) / 64) :
    let k := offset / 4096 % 64
    let e := Tbl.get 0 (s.slice d).doorsteps (64 * h + k)
    let g := bits e 0 11
    bit e 31 = true → tileDie g = d → (s.tile g).hh = h →
    ∃ l : List Packet, (s.doorstepOp d h offset length allEnables data).net = s.net ++ l ∧ l.flatMap (·.data) = data ∧ (l.map (·.size)).sum = length ∧
      ∀ i p, l[i]? = some p → p.kind = .doorstep k ∧ p.target = .tile g ∧ p.write = true ∧ p.qos = 7 ∧ p.iss = hostIssuer d h ∧
        (p.size = 64 ∨ p.size = 256) ∧ p.place % p.size = 0 ∧
        p.place = (14 + bits e 11 1) * 65536 + bits e 12 4 * 4096 + offset % 4096 + ((l.take i).map (·.size)).sum := by
  intro k e g hv hd hh
  set base := (14 + bits e 11 1) * 65536 + bits e 12 4 * 4096 with hbase
  set u := s.stepTaken d h offset length allEnables data with hu
  obtain ⟨c, slice⟩ := State.capture_slice s d h 2 offset 0 0 0 (if (offset % 64 == 0 && length % 64 == 0 && allEnables) then .ok else .align)
    (!(offset % 64 == 0 && length % 64 == 0 && allEnables)) (data.take ((length + 63) / 64)) d
  have net : u.net = s.net := (State.capture_rest ..).2.2.2.2.1
  have doorsteps : (u.slice d).doorsteps = (s.slice d).doorsteps := by
    rw [hu, State.stepTaken, slice]
  have pieces := stepPieces_pieces (f := length / 64) h1 h2 (by omega)
  have launches : (stepPieces (length / 64) offset length).foldl
      (fun s q => s.stepPiece d h q.1 q.2 ((data.drop ((q.1 - offset) / 64)).take (q.2 / 64))) u =
      (stepPieces (length / 64) offset length).foldl
        (fun s q => s.launch (s.stepPacket d h k g base q.1 q.2 ((data.drop ((q.1 - offset) / 64)).take (q.2 / 64)))) u := by
    refine State.foldl_launches fun t ht q hq => ?_
    obtain ⟨i, hi⟩ := List.mem_iff_getElem?.mp hq
    obtain ⟨_, size, _, fits⟩ := pieces.at' i q hi
    have low : offset ≤ q.1 := by
      have := (pieces.at' i q hi).1
      omega
    have page : q.1 / 4096 % 64 = k := by omega
    have same : t.slice d = u.slice d := congrArg (fun x => Tbl.get ({} : Slice) x d) ht
    have tile : t.tile g = s.tile g := (congrArg (fun x => ((Tbl.get ({} : Slice) x (tileDie g)).tile (g % 256))) ht).trans (State.capture_tile ..)
    have piece := State.stepPiece_launches (s := t) (d := d) (h := h) (a := q.1) (size := q.2) (data := (data.drop ((q.1 - offset) / 64)).take (q.2 / 64))
      (e := e) (by rw [same, doorsteps, page]) hv hd (by rw [tile]; exact hh)
    rw [piece, page]
  obtain ⟨l, sent, each⟩ := State.foldl_launch (fun (t : State) (q : Nat × Nat) => t.stepPacket d h k g base q.1 q.2 ((data.drop ((q.1 - offset) / 64)).take (q.2 / 64)))
    (fun q p => p.kind = .doorstep k ∧ p.target = .tile g ∧ p.write = true ∧ p.qos = 7 ∧ p.iss = hostIssuer d h ∧ p.size = q.2 ∧
      p.place = base + q.1 % 4096 ∧ p.data = (data.drop ((q.1 - offset) / 64)).take (q.2 / 64))
    (stepPieces (length / 64) offset length) u (fun _ _ _ _ => ⟨rfl, rfl, rfl, rfl, rfl, rfl, rfl, rfl⟩)
  have sizes : l.map (·.size) = (stepPieces (length / 64) offset length).map Prod.snd :=
    map_eq_of_forall₂ (each.imp fun _ _ ⟨_, _, _, _, _, h, _⟩ => h)
  have rows : l.map (·.data) = (stepPieces (length / 64) offset length).map (fun q => (data.drop ((q.1 - offset) / 64)).take (q.2 / 64)) :=
    map_eq_of_forall₂ (each.imp fun _ _ ⟨_, _, _, _, _, _, _, h⟩ => h)
  refine ⟨l, by rw [State.doorstepOp_good h1 h2 h3, launches, sent, net], ?_, by rw [sizes, pieces.sum], fun i p hp => ?_⟩
  · rw [List.flatMap_def, rows, ← List.flatMap_def, pieces.rows offset data le_rfl (by rw [Nat.sub_self]) (by rw [hdata]; omega), Nat.sub_self]
    rfl
  · obtain ⟨q, hq, hk, htarget, hw, hqos, hiss, hsize, hplace, _⟩ := getElem?_of_forall₂ each hp
    obtain ⟨start, size, aligned, fits⟩ := pieces.at' i q hq
    rw [List.map_take, sizes, ← List.map_take]
    refine ⟨hk, htarget, hw, hqos, hiss, by rw [hsize]; exact size, ?_, ?_⟩
    · rw [hplace, hsize]
      rcases size with h | h <;> rw [h] at aligned ⊢ <;> omega
    · have low : q.1 % 4096 = offset % 4096 + ((((stepPieces (length / 64) offset length).take i).map Prod.snd)).sum := by
        generalize (((stepPieces (length / 64) offset length).take i).map Prod.snd).sum = sent at start
        omega
      rw [hplace, low, ← Nat.add_assoc]

end

/-- Settles O53. -/
theorem hostPort : Obligations.HostPort := by
  unfold Obligations.HostPort
  refine ⟨fun s d fn a size write data hd hr hf hdata => ⟨fun hh => ?_, fun h hh hp => State.hostRequest_outcome hd hr hf hdata hh hp⟩,
    fun s d fn a size write data hd hl hr h0 hf hdata => ?_, fun s d fn h offset size word hd hr hf hh hp => ?_,
    fun s d h b hd hl hh hb hturn => State.doorbellRelease_outcome hd hl hh hb hturn,
    fun s tile id p word ht hr hp hk hg hb hw => State.doorbellAt_outcome ht hr hp hk hg hb hw,
    fun s d fn h offset length allEnables data hd hr hf hh hp hlen hdata => ?_⟩
  · have hl := State.live_of_ready hr
    refine ⟨?_, fun offset word => ?_, fun offset x hw hs => ?_⟩
    · refine (State.exec_hostPort (by simp [hf, hdata]) hd hl).trans (congrArg _ ?_)
      unfold State.hostRequestOp
      rw [if_neg (by simp [hr])]
      exact State.fromHost_unbound _ hr hh
    · exact (State.exec_hostPort (decide_eq_true hf) hd hl).trans (congrArg _ (State.fromHost_unbound _ hr hh))
    · subst hw
      exact (State.exec_hostPort (by simp [hf, hdata, hs]) hd hl).trans (congrArg _ (State.fromHost_unbound _ hr hh))
  · refine ⟨?_, fun offset word => ?_, fun offset x hw hs => ?_⟩
    · refine (State.exec_hostPort (by simp [hf, hdata]) hd hl).trans (congrArg _ ?_)
      unfold State.hostRequestOp
      rw [if_neg (by simp [show fn ≠ 0 by omega])]
      exact State.fromHost_early _ hr
    · exact (State.exec_hostPort (decide_eq_true hf) hd hl).trans (congrArg _ (State.fromHost_early _ hr))
    · subst hw
      exact (State.exec_hostPort (by simp [hf, hdata, hs]) hd hl).trans (congrArg _ (State.fromHost_early _ hr))
  · obtain ⟨b, bells⟩ := s.doorbellOp_outcome d h offset size word
    exact ⟨_, b, (State.exec_hostPort (decide_eq_true hf) hd (State.live_of_ready hr)).trans (congrArg _ (State.fromHost_bound _ hr hh hp)), bells⟩
  · intro k e g
    have run {r : State} (step : s.doorstepOp d h offset length allEnables data = r) : exec (.doorstepWrite d fn offset length allEnables data) s = .next r :=
      (State.exec_hostPort (by simp [hf, hdata, hlen]) hd (State.live_of_ready hr)).trans (congrArg _ ((State.fromHost_bound _ hr hh hp).trans step))
    refine ⟨fun h1 h2 h3 hfit hv hdie hhh => ?_, fun hbad => ?_⟩
    · obtain ⟨l, outcome⟩ := State.doorstepOp_sends h1 h2 h3 hfit hdata hv hdie hhh
      exact ⟨_, l, run rfl, outcome⟩
    · refine ⟨_, run (State.doorstepOp_bad hbad), (State.capture_rest ..).2.2.2.2.1, ?_⟩
      obtain ⟨c, slice⟩ := State.capture_slice s d h 2 offset 0 0 0 (if (offset % 64 == 0 && length % 64 == 0 && allEnables) then .ok else .align)
        (!(offset % 64 == 0 && length % 64 == 0 && allEnables)) (data.take ((length + 63) / 64)) d
      rw [State.modSlice_slice, if_pos rfl]
      obtain ⟨cause, word⟩ := ((s.stepTaken d h offset length allEnables data).slice d).hostFault_outcome
        (s.stepTaken d h offset length allEnables data).nextId h 2 (offset / 4096 % 64)
        (bits (Tbl.get 0 ((s.stepTaken d h offset length allEnables data).slice d).doorsteps (64 * h + offset / 4096 % 64)) 0 11) .align
      have irq : ((s.stepTaken d h offset length allEnables data).slice d).irq h = (s.slice d).irq h := by rw [State.stepTaken, slice]; rfl
      rw [word, irq]
      refine ⟨cause, faultWord_valid _ _ _ _ _, fun hv => ?_⟩
      obtain ⟨code, kind, ds, _⟩ := faultWord_fields (st := .align) (kind := 2) (ds := offset / 4096 % 64)
        (tile := bits (Tbl.get 0 ((s.stepTaken d h offset length allEnables data).slice d).doorsteps (64 * h + offset / 4096 % 64)) 0 11) hv (by decide)
        (Nat.mod_lt _ (by decide)) (Nat.mod_lt _ (by decide))
      exact ⟨code, kind, ds⟩

end Sys2Proof.Machine
end

section
/-!
Completion records are written (spec/09_households.md R325, R327 to R329), and what a ring keeps as channels that wait for it go on: part of O54.
-/

namespace Sys2Proof.Machine

variable {s t u : State} {tile n d h : Nat} {r : CRec} {st : Status} {row : RowData}

/-! ## Packets that set out -/

/-- From `s` to `t` packets have only been added to the network. -/
def State.Grows (t s : State) : Prop := ∃ m, t.net = s.net ++ m

theorem State.grows_of_eq (h : t.net = s.net) : t.Grows s := ⟨[], h.trans (List.append_nil _).symm⟩

theorem State.Grows.trans (h : u.Grows t) (h' : t.Grows s) : u.Grows s := by
  obtain ⟨m, hm⟩ := h
  obtain ⟨m', hm'⟩ := h'
  exact ⟨m' ++ m, by rw [hm, hm', List.append_assoc]⟩

theorem State.Grows.mem (h : t.Grows s) {p : Packet} (hp : p ∈ s.net) : p ∈ t.net := by
  obtain ⟨m, hm⟩ := h
  rw [hm]
  exact List.mem_append_left m hp

theorem State.fetchNext_grows (s : State) (tile n : Nat) (st : ChState) : (s.fetchNext tile n st).Grows s :=
  State.fetch_net (s.modTile tile (fun T =>
    { T.setChan n { T.chan n with state := st, snap := none, fail := none, l := false, demoted := false } with mcLag := T.mcLag.del n })) tile n

theorem State.toIdle_grows (s : State) (tile n : Nat) : (s.toIdle tile n).Grows s := by
  unfold State.toIdle
  dsimp only
  split
  · exact (State.fetchNext_grows _ tile n .run).trans (State.grows_of_eq rfl)
  · exact State.grows_of_eq rfl

theorem State.goOn_grows (s : State) (tile n : Nat) (k : Cont) : (s.goOn tile n k).Grows s := by
  unfold State.goOn
  split
  · exact State.grows_of_eq rfl
  · rw [State.proceed_eq]
    have worked : (s.worked tile n).Grows s := State.grows_of_eq rfl
    dsimp only
    split
    · exact (State.toIdle_grows _ tile n).trans worked
    · split
      · exact (State.fetchNext_grows _ tile n _).trans worked
      · split
        · exact ((State.fetchNext_grows _ tile n _).trans (State.grows_of_eq rfl)).trans worked
        · exact (State.toIdle_grows _ tile n).trans worked

/-! ## Channels that wait for room go on (R328) -/

/-- A function of a ring that does not look at the records due, nor at how many it has been issued. -/
def CRing.DueFree {β : Type} (f : CRing → β) : Prop := ∀ (R : CRing) l i, f { R with due := l, issued := i } = f R

/-- From `s` to `t` records may have been issued to rings, causes raised and packets launched; what else the rings hold stands. -/
structure State.Admits (t s : State) : Prop where
  grows : t.Grows s
  ring : ∀ {β : Type} (f : CRing → β), CRing.DueFree f → ∀ d h, f ((t.slice d).cring h) = f ((s.slice d).cring h)
  cause : ∀ d h v, bit ((s.slice d).irq h).cause v = true → bit ((t.slice d).irq h).cause v = true

theorem State.admits_refl (s : State) : s.Admits s := ⟨State.grows_of_eq rfl, fun _ _ _ _ => rfl, fun _ _ _ h => h⟩

theorem State.look_admits (s : State) : s.look.Admits s := ⟨State.grows_of_eq rfl, fun _ _ _ _ => rfl, fun _ _ _ h => h⟩

theorem State.Admits.trans (h : u.Admits t) (h' : t.Admits s) : u.Admits s where
  grows := h.grows.trans h'.grows
  ring f hf d k := (h.ring f hf d k).trans (h'.ring f hf d k)
  cause d k v hv := h.cause d k v (h'.cause d k v hv)

theorem State.Admits.of_slices (hg : t.Grows s) (hs : ∀ {β : Type} (g : Slice → β), Slice.StreamFree g → ∀ d, g (t.slice d) = g (s.slice d)) : t.Admits s where
  grows := hg
  ring f _ d h := hs (fun S => f (S.cring h)) (fun _ _ _ _ => rfl) d
  cause d h v hv := (hs (fun S => bit (S.irq h).cause v) (fun _ _ _ _ => rfl) d).trans hv

theorem State.raise_admits (s : State) (d h v : Nat) : (s.raise d h v).Admits s where
  grows := State.grows_of_eq rfl
  ring f _ e k := by
    rw [State.raise_slice]
    split
    · next he =>
      have crings : ((s.slice d).raise s.nextId h v).cring k = (s.slice d).cring k := congrArg (fun c => Tbl.get _ c k) (Slice.raise_crings ..)
      rw [← he, crings]
    · rfl
  cause e k w hw := by
    rw [State.raise_slice]
    split
    · next he =>
      subst he
      unfold Slice.raise
      dsimp only
      split
      · exact hw
      · by_cases hk : h = k
        · subst hk
          have inside : w < 8 := lt_of_bit hw
          simp only [Slice.irq, Tbl.get_set, if_true]
          exact (bit_setBit_true _ v inside).mpr (.inr hw)
        · simp only [Slice.irq, Tbl.get_set, if_neg hk]
          exact hw
    · exact hw

/-- A record is issued to a ring. -/
theorem State.issue_admits (s : State) (d h : Nat) (r : CRec) :
    (s.modSlice d (fun S => S.setCring h { (s.slice d).cring h with due := ((s.slice d).cring h).due ++ [r], issued := ((s.slice d).cring h).issued + 1 })).Admits s where
  grows := State.grows_of_eq rfl
  ring f hf e k := by
    rw [State.modSlice_slice]
    split
    · next he =>
      subst he
      simp only [Slice.cring, Slice.setCring, Tbl.get_set]
      split
      · next hk => rw [← hk]; exact hf _ _ _
      · rfl
    · rfl
  cause e k v hv := by
    rw [State.modSlice_slice]
    split
    · next he => subst he; exact hv
    · exact hv

theorem State.modChan_admits (s : State) (tile n : Nat) (f : Channel → Channel) : (s.modChan tile n f).Admits s :=
  .of_slices (State.grows_of_eq rfl) (State.EngineOnly.of_modChan f s tile n).slice

theorem State.finish_admits (s : State) (tile n : Nat) (r : Option CRec) (complete : Bool) (k : Cont) : (s.finish tile n r complete k).Admits s := by
  have go : ∀ t : State, ((if complete then t.raise (tileDie tile) (s.tile tile).hh 0 else t).goOn tile n k).Admits t := fun t => by
    refine State.Admits.trans (t := if complete then t.raise (tileDie tile) (s.tile tile).hh 0 else t)
      (.of_slices (State.goOn_grows _ tile n k) (State.goOn_engine _ tile n k).slice) ?_
    split
    · exact t.raise_admits _ _ _
    · exact t.admits_refl
  unfold State.finish
  dsimp only
  split
  · exact go s
  · next r =>
    split
    · exact go s
    · split
      · exact ((go _).trans (State.issue_admits s.look (tileDie tile) (s.tile tile).hh r)).trans s.look_admits
      · exact (State.modChan_admits s.look tile n _).trans s.look_admits

theorem State.admitRecs_admits (s : State) (d h : Nat) : (s.admitRecs d h).Admits s := by
  unfold State.admitRecs
  generalize (s.slice d).tiles.flatMap (fun p => p.2.chans.map (fun q => (256 * d + p.1, q.1))) = l
  induction l generalizing s with
  | nil => exact s.admits_refl
  | cons p l ih =>
    refine (ih _).trans ?_
    dsimp only
    split
    · exact s.admits_refl
    · split
      · exact (State.finish_admits _ _ _ _ _ _).trans (s.modChan_admits _ _ _)
      · exact s.admits_refl

/-! ## Records are written (R325 to R329) -/

theorem Slice.setCring_cring (S : Slice) (h k : Nat) (R : CRing) : (S.setCring h R).cring k = if h = k then R else S.cring k := by
  rw [Slice.cring, Slice.setCring, Tbl.get_set]
  rfl

/-- A record write that has failed: the record is kept, with ERR and FAULT. -/
theorem State.recordFails_outcome (s : State) (d h : Nat) (r : CRec) (st : Status) :
    ((s.recordFails d h r st).slice d).cring h = { (s.slice d).cring h with err := true, status := st, flight := none, kept := some r } ∧
    bit (((s.recordFails d h r st).slice d).irq h).cause 2 = true ∧ (s.recordFails d h r st).net = s.net := by
  refine ⟨?_, State.raise_cause _ d h (by decide), rfl⟩
  rw [State.recordFails, State.raise_slice, if_pos rfl, Slice.cring, Slice.raise_crings, ← Slice.cring, State.modSlice_slice, if_pos rfl,
    Slice.setCring_cring, if_pos rfl]

/-- The ring of a household, replaced. -/
def State.withCring (s : State) (d h : Nat) (R : CRing) : State := s.modSlice d (fun S => S.setCring h R)

theorem State.withCring_cring (s : State) (d h : Nat) (R : CRing) : ((s.withCring d h R).slice d).cring h = R := by
  rw [State.withCring, State.modSlice_slice, if_pos rfl, Slice.setCring_cring, if_pos rfl]

/-- A ring's window entries stand, whatever the ring holds. -/
theorem State.withCring_winEntry (s : State) (d h : Nat) (R : CRing) (a : Addr) : (s.withCring d h R).winEntry d h a = s.winEntry d h a := by
  unfold State.winEntry
  rw [State.withCring, State.modSlice_slice, if_pos rfl]
  rfl

section
variable {R : CRing} (he : ((s.slice d).cring h).en = true) (hf : ((s.slice d).cring h).flight = none)
include he hf

/-- The ring takes up a record. -/
theorem State.recordWriteOp_next {N : CRing} (hn : ((s.slice d).cring h).next = some (r, N)) :
    s.recordWriteOp d h = ((s.withCring d h N).writeRecord d h r).admitRecs d h := by
  unfold State.recordWriteOp
  dsimp only
  rw [if_neg (by simp [he, hf]), hn]
  rfl

theorem State.recordWriteOp_hold (hn : ((s.slice d).cring h).next = none) :
    s.recordWriteOp d h = (s.withCring d h ((s.slice d).cring h).toHold).admitRecs d h := by
  unfold State.recordWriteOp
  dsimp only
  rw [if_neg (by simp [he, hf]), hn]
  rfl

end

/-- The record in hand has its address looked up in the household's window table, or fails. -/
theorem State.writeRecord_eq (s : State) (d h : Nat) (r : CRec) :
    s.writeRecord d h r =
      let u := s.withCring d h { (s.slice d).cring h with flight := some r }
      (u.sliceLookup d h h (((s.slice d).cring h).entryAddr ((s.slice d).cring h).tail)).getD (u.recordFails d h r .decerr) := by
  have ring : (((s.withCring d h { (s.slice d).cring h with flight := some r }).slice d).cring h) = { (s.slice d).cring h with flight := some r } :=
    s.withCring_cring d h _
  unfold State.writeRecord
  rw [show s.modSlice d (fun S => S.setCring h { S.cring h with flight := some r }) = s.withCring d h { (s.slice d).cring h with flight := some r } from rfl]
  dsimp only
  rw [ring]
  change (match (s.withCring d h _).sliceLookup d h h (((s.slice d).cring h).entryAddr ((s.slice d).cring h).tail) with | none => _ | some s => s) = _
  cases (s.withCring d h { (s.slice d).cring h with flight := some r }).sliceLookup d h h (((s.slice d).cring h).entryAddr ((s.slice d).cring h).tail) <;> rfl

/-- A record whose address the window table has. -/
theorem State.writeRecord_asks {g off : Nat} (hw : s.winEntry d h (((s.slice d).cring h).entryAddr ((s.slice d).cring h).tail) = some (g, off)) :
    ∃ p : Packet, s.writeRecord d h r = (s.withCring d h { (s.slice d).cring h with flight := some r }).launch p ∧ p.kind = .sliceLookup h ∧
      p.target = .tile g ∧ p.place = off / 64 * 64 ∧ p.size = 64 ∧ p.iss = sliceIssuer d 0 := by
  refine ⟨(s.withCring d h { (s.slice d).cring h with flight := some r }).newPacket (sliceIssuer d 0) (.sliceLookup h) 6 (.tile g)
    (BitVec.ofNat 48 (tileMemAddr g (off / 64 * 64))) (off / 64 * 64) 64 false [], ?_, rfl, rfl, rfl, rfl, rfl⟩
  rw [State.writeRecord_eq]
  dsimp only
  rw [State.sliceLookup, State.withCring_winEntry, hw]
  rfl

theorem State.writeRecord_fails (hw : s.winEntry d h (((s.slice d).cring h).entryAddr ((s.slice d).cring h).tail) = none) :
    s.writeRecord d h r = (s.withCring d h { (s.slice d).cring h with flight := some r }).recordFails d h r .decerr := by
  rw [State.writeRecord_eq]
  dsimp only
  rw [State.sliceLookup, State.withCring_winEntry, hw]
  rfl

/-- The slice takes the oldest record due. -/
theorem State.recordWrite_outcome {l : List CRec} (hd : s.hasDie d = true) (hl : s.live d = true) (hh : h < 16) :
    let R := (s.slice d).cring h
    R.en = true → R.flight = none → R.kept = none → R.hold = [] → R.due = r :: l →
    (∀ g off, 0 < R.room → s.winEntry d h (R.entryAddr R.tail) = some (g, off) →
      ∃ t : State, ∃ p : Packet, exec (.completionRecordWrite d h) s = .next t ∧ ((t.slice d).cring h).flight = some r ∧ ((t.slice d).cring h).tail = R.tail ∧
        p ∈ t.net ∧ p.kind = .sliceLookup h ∧ p.target = .tile g ∧ p.place = off / 64 * 64 ∧ p.size = 64 ∧ p.iss = sliceIssuer d 0) ∧
    (0 < R.room → s.winEntry d h (R.entryAddr R.tail) = none →
      ∃ t : State, exec (.completionRecordWrite d h) s = .next t ∧ ((t.slice d).cring h).err = true ∧ ((t.slice d).cring h).status = .decerr ∧
        ((t.slice d).cring h).kept = some r ∧ ((t.slice d).cring h).tail = R.tail ∧ bit ((t.slice d).irq h).cause 2 = true) ∧
    (R.room = 0 → ∃ t : State, exec (.completionRecordWrite d h) s = .next t ∧ ((t.slice d).cring h).hold = [r] ∧
      ((t.slice d).cring h).ovf = true ∧ ((t.slice d).cring h).tail = R.tail) := by
  intro R hen hfl hk hho hdue
  have run {u : State} (step : s.recordWriteOp d h = u.admitRecs d h) : exec (.completionRecordWrite d h) s = .next (u.admitRecs d h) :=
    (State.exec_hostPort (decide_eq_true hh) hd hl).trans (by rw [step])
  have kept : ∀ {β : Type} (f : CRing → β), CRing.DueFree f → ∀ u : State, f (((u.admitRecs d h).slice d).cring h) = f ((u.slice d).cring h) :=
    fun f hf u => (u.admitRecs_admits d h).ring f hf d h
  have next : R.next = if 0 < R.room then some (r, { R with due := l }) else none := by
    rw [CRing.next, hk, hho, hdue]
  have ring := s.withCring_cring d h { R with due := l }
  refine ⟨fun g off room hw => ?_, fun room hw => ?_, fun room => ?_⟩
  · obtain ⟨p, asks, hkind, htarget, hplace, hsize, hiss⟩ := State.writeRecord_asks (s := s.withCring d h { R with due := l }) (d := d) (h := h) (r := r)
      (g := g) (off := off) (by rw [State.withCring_winEntry, ring]; exact hw)
    have sent : ∀ (u : State) (q : Packet), ∃ x, { q with lapse := x } ∈ (u.launch q).net := fun u q =>
      ⟨_, (State.launch_net u q).symm ▸ List.mem_append_right _ (List.mem_singleton_self _)⟩
    obtain ⟨x, hx⟩ := sent _ p
    refine ⟨_, { p with lapse := x }, run ((State.recordWriteOp_next hen hfl (next.trans (if_pos room))).trans (by rw [asks])), ?_, ?_,
      (State.admitRecs_admits _ d h).grows.mem hx, hkind, htarget, hplace, hsize, hiss⟩
    · exact (kept (·.flight) (fun _ _ _ => rfl) _).trans (congrArg CRing.flight (State.withCring_cring _ d h _))
    · refine (kept (·.tail) (fun _ _ _ => rfl) _).trans ((congrArg CRing.tail (State.withCring_cring _ d h _)).trans ?_)
      rw [ring]
  · have fails := State.writeRecord_fails (s := s.withCring d h { R with due := l }) (d := d) (h := h) (r := r)
      (by rw [State.withCring_winEntry, ring]; exact hw)
    obtain ⟨left, cause, _⟩ := State.recordFails_outcome ((s.withCring d h { R with due := l }).withCring d h
      { ((s.withCring d h { R with due := l }).slice d).cring h with flight := some r }) d h r .decerr
    refine ⟨_, run ((State.recordWriteOp_next hen hfl (next.trans (if_pos room))).trans (by rw [fails])), ?_, ?_, ?_, ?_, ?_⟩
    · exact (kept (·.err) (fun _ _ _ => rfl) _).trans (congrArg CRing.err left)
    · exact (kept (·.status) (fun _ _ _ => rfl) _).trans (congrArg CRing.status left)
    · exact (kept (·.kept) (fun _ _ _ => rfl) _).trans (congrArg CRing.kept left)
    · refine (kept (·.tail) (fun _ _ _ => rfl) _).trans ((congrArg CRing.tail left).trans ((congrArg CRing.tail (State.withCring_cring _ d h _)).trans ?_))
      rw [ring]
    · exact (State.admitRecs_admits _ d h).cause d h 2 cause
  · have hold : R.toHold = { R with hold := [r], due := l, ovf := true } := by
      rw [CRing.toHold, hdue]
      refine (if_pos (by simp [room, hho])).trans ?_
      rw [hho]
      simp
    refine ⟨_, run (State.recordWriteOp_hold hen hfl (next.trans (if_neg (by omega)))), ?_, ?_, ?_⟩
    · exact (kept (·.hold) (fun _ _ _ => rfl) _).trans (congrArg CRing.hold (s.withCring_cring d h R.toHold) |>.trans (by rw [hold]))
    · exact (kept (·.ovf) (fun _ _ _ => rfl) _).trans (congrArg CRing.ovf (s.withCring_cring d h R.toHold) |>.trans (by rw [hold]))
    · exact (kept (·.tail) (fun _ _ _ => rfl) _).trans (congrArg CRing.tail (s.withCring_cring d h R.toHold) |>.trans (by rw [hold]))

/-- The record's address is known: its write sets out, or it is kept. -/
theorem State.recordLooked_outcome :
    let R := (s.slice d).cring h
    R.flight = some r →
    (∀ g a, s.looked d (R.entryAddr R.tail) st row true = .ok (g, a) → ∃ p : Packet, (s.recordLooked d h st row).net = s.net ++ [p] ∧
      p.kind = .record ∧ p.target = g ∧ p.place = a ∧ p.size = 32 ∧ p.write = true ∧ p.data = [r.row (!bit R.tail R.size.toNat)]) ∧
    (∀ e, s.looked d (R.entryAddr R.tail) st row true = .error e → (((s.recordLooked d h st row).slice d).cring h).err = true ∧
      (((s.recordLooked d h st row).slice d).cring h).status = e ∧ (((s.recordLooked d h st row).slice d).cring h).kept = some r) := by
  intro R hf
  refine ⟨fun g a hok => ?_, fun e herr => ?_⟩
  · have step : s.recordLooked d h st row = s.launch { s.newPacket (sliceIssuer d h) .record 6 g (R.entryAddr R.tail) a 32 true
        [r.row (!(bit R.tail R.size.toNat))] with bstart := a / 64 } := by
      unfold State.recordLooked
      dsimp only
      rw [hf, hok]
    exact ⟨_, by rw [step, State.launch_net], rfl, rfl, rfl, rfl, rfl, rfl⟩
  · have step : s.recordLooked d h st row =
        (if st = .ok then s.latchOff d (entryIn row (R.entryAddr R.tail)) (R.entryAddr R.tail) (sliceIssuer d h) else s).recordFails d h r e := by
      unfold State.recordLooked
      dsimp only
      rw [hf, herr]
    obtain ⟨left, _⟩ := State.recordFails_outcome
      (if st = .ok then s.latchOff d (entryIn row (R.entryAddr R.tail)) (R.entryAddr R.tail) (sliceIssuer d h) else s) d h r e
    rw [step, left]
    exact ⟨rfl, rfl, rfl⟩

/-- A record write that has come back with an error. -/
theorem State.recordFail_outcome {p : Packet} (hd : s.hasDie d = true) (hl : s.live d = true) (hh : h < 16) (he : s.recordError d h = some (p, st))
    (hf : ((s.slice d).cring h).flight = some r) :
    ∃ t : State, exec (.completionRecordFail d h) s = .next t ∧ ((t.slice d).cring h).err = true ∧ ((t.slice d).cring h).status = st ∧
      ((t.slice d).cring h).kept = some r ∧ ((t.slice d).cring h).flight = none ∧
      ((t.slice d).cring h).tail = ((s.slice d).cring h).tail ∧ bit ((t.slice d).irq h).cause 2 = true ∧ t.pkt p.id = none := by
  have step : s.recordFailOp d h = (s.dropPkt p.id).recordFails d h r st := by rw [State.recordFailOp, he, hf]
  obtain ⟨left, cause, net⟩ := State.recordFails_outcome (s.dropPkt p.id) d h r st
  refine ⟨_, (State.exec_hostPort (decide_eq_true hh) hd hl).trans (by rw [step]), by rw [left], by rw [left], by rw [left], by rw [left], by rw [left]; rfl,
    cause, ?_⟩
  rw [State.pkt, net, List.find?_eq_none]
  intro q hq
  simpa using (List.mem_filter.mp hq).2

end Sys2Proof.Machine
end

section
/-!
The registers of a completion ring and of the interrupts, and the messages that leave (spec/09_households.md R325 to R332): O54.
-/

namespace Sys2Proof.Machine

variable {s t : State} {w : Src} {d h k : Nat} {v : Word} {st : Status}

/-! ## Registers of a completion ring -/

theorem State.exec_cringEnWrite (hh : h < 16) (ht : s.sliceTakes w d (0x0504 + 0x10 * h) v) (ho : s.cringOp w d h 1 v = (t, st)) :
    exec (.cringEnWrite w d h v) s = .next (s.sliceAnswered t w d (0x0504 + 0x10 * h) v st) :=
  (if_pos (decide_eq_true hh)).trans (State.sliceReg_now_of_eq ht ho)

theorem State.exec_cringHeadWrite (hh : h < 16) (ht : s.sliceTakes w d (0x0508 + 0x10 * h) v) (ho : s.cringOp w d h 2 v = (t, st)) :
    exec (.cringHeadWrite w d h v) s = .next (s.sliceAnswered t w d (0x0508 + 0x10 * h) v st) :=
  (if_pos (decide_eq_true hh)).trans (State.sliceReg_now_of_eq ht ho)

theorem bits_lt_pow {n : Nat} (x : BitVec n) (lo len : Nat) : bits x lo len < 2 ^ len := Nat.mod_lt _ (Nat.two_pow_pos _)

theorem ofNat_toNat_bits {n : Nat} (x : BitVec n) (lo len : Nat) : (BitVec.ofNat len (bits x lo len)).toNat = bits x lo len :=
  Nat.mod_eq_of_lt (bits_lt_pow x lo len)

section
variable (hm : s.mayHh w h = true)
include hm

/-- EN empties a ring whose size and place are right. -/
theorem State.cringOp_enable (hen : bit v 24 = true) (he : ((s.slice d).cring h).en = false) (hs : 4 ≤ bits v 16 4)
    (ha : (bits v 0 13 * 2 ^ 32 + ((s.slice d).cring h).lo.toNat) % (32 * 2 ^ bits v 16 4) = 0) :
    s.cringOp w d h 1 v = (s.withCring d h { (s.slice d).cring h with
      hi := BitVec.ofNat 13 (bits v 0 13), size := BitVec.ofNat 4 (bits v 16 4), ovf := ((s.slice d).cring h).ovf && !bit v 25, en := true, head := 0, tail := 0 },
      .ok) := by
  have size : (BitVec.ofNat 4 (bits v 16 4)).toNat = bits v 16 4 := ofNat_toNat_bits v 16 4
  have hi : (BitVec.ofNat 13 (bits v 0 13)).toNat = bits v 0 13 := ofNat_toNat_bits v 0 13
  refine (if_neg (by simp [hm])).trans ((if_neg (by simp [he])).trans ((if_neg (by simp [hen])).trans ((if_neg (by simp [he])).trans ((if_neg ?_).trans rfl))))
  rw [size, hi, ha]
  simp [hs]

/-- A ring whose size or place is not right is refused. -/
theorem State.cringOp_size (hen : bit v 24 = true) (he : ((s.slice d).cring h).en = false)
    (hs : bits v 16 4 < 4 ∨ (bits v 0 13 * 2 ^ 32 + ((s.slice d).cring h).lo.toNat) % (32 * 2 ^ bits v 16 4) ≠ 0) :
    s.cringOp w d h 1 v = (s, .size) := by
  have size : (BitVec.ofNat 4 (bits v 16 4)).toNat = bits v 16 4 := ofNat_toNat_bits v 16 4
  have hi : (BitVec.ofNat 13 (bits v 0 13)).toNat = bits v 0 13 := ofNat_toNat_bits v 0 13
  refine (if_neg (by simp [hm])).trans ((if_neg (by simp [he])).trans ((if_neg (by simp [hen])).trans ((if_neg (by simp [he])).trans (if_pos ?_))))
  rw [size, hi]
  simpa using hs

theorem State.retryOp_retries (he : ((s.slice d).cring h).err = true) :
    s.retryOp w d h = (s.modSlice d (fun S => S.setCring h { (s.slice d).cring h with err := false, again := true }), .ok) := by
  unfold State.retryOp
  dsimp only
  rw [if_neg (by simp [hm]), if_pos he]

theorem State.cringOp_head_size (hs : 2 ^ ((s.slice d).cring h).size.toNat < (((s.slice d).cring h).tail - BitVec.ofNat 16 (bits v 0 16)).toNat) :
    s.cringOp w d h 2 v = (s, .size) := by
  exact (if_neg (by simp [hm])).trans (if_pos hs)

theorem State.cringOp_head (hs : (((s.slice d).cring h).tail - BitVec.ofNat 16 (bits v 0 16)).toNat ≤ 2 ^ ((s.slice d).cring h).size.toNat) :
    s.cringOp w d h 2 v = ((s.withCring d h { (s.slice d).cring h with head := BitVec.ofNat 16 (bits v 0 16) }).admitRecs d h, .ok) := by
  exact (if_neg (by simp [hm])).trans ((if_neg (by omega)).trans rfl)

/-! ## Interrupts -/

/-- The causes that a household may enable. -/
def irqMask (h : Nat) (v : Word) : BitVec 8 := BitVec.ofNat 8 (bits v 0 8) &&& (if h = 0 then 0xFF else 0x1F)

omit hm in
theorem irqMask_bit (h : Nat) (v : Word) (hk : k < 8) : bit (irqMask h v) k = (bit v k && (h == 0 || k < 5)) := by
  have both : ∀ x y : BitVec 8, bit (x &&& y) k = (bit x k && bit y k) := fun x y => BitVec.getLsbD_and
  have all : ∀ k, k < 8 → bit (0xFF : BitVec 8) k = true := by decide
  have five : ∀ k, k < 8 → bit (0x1F : BitVec 8) k = decide (k < 5) := by decide
  rw [irqMask, both, bit_ofNat_bits v hk]
  by_cases h0 : h = 0
  · rw [if_pos h0, all k hk]
    simp [h0]
  · rw [if_neg h0, five k hk, show (h == 0) = false from beq_eq_false_iff_ne.mpr h0, Bool.false_or]

/-- The messages that enabling causes makes due. -/
def State.irqNewDue (s : State) (d h : Nat) (v : Word) : List IrqMsg :=
  ((bitsOf (irqMask h v &&& ~~~ ((s.slice d).irq h).enable &&& ((s.slice d).irq h).cause))).map (fun i => (s.slice d).irqMsg s.nextId h i)

theorem State.irqOp_enable : s.irqOp w d h 1 v =
    (s.modSlice d (fun S => { S with irqs := S.irqs.set h { (s.slice d).irq h with enable := irqMask h v }, irqDue := S.irqDue ++ s.irqNewDue d h v }), .ok) := by
  unfold State.irqOp
  dsimp only
  rw [if_neg (by simp [hm])]
  rfl

end

theorem Slice.withIrq_irq (S : Slice) (h : Nat) (q : Irq) (l : List IrqMsg) : ({ S with irqs := S.irqs.set h q, irqDue := l } : Slice).irq h = q := by
  rw [Slice.irq, Tbl.get_set, if_pos rfl]

/-- Enabling a cause that is set makes its message due. -/
theorem State.irqNewDue_mem (hk : k < 8) (hv : bit v k = true) (hh : h = 0 ∨ k < 5) (he : bit ((s.slice d).irq h).enable k = false)
    (hc : bit ((s.slice d).irq h).cause k = true) : (s.slice d).irqMsg s.nextId h k ∈ s.irqNewDue d h v := by
  have mask : bit (irqMask h v) k = true := by
    rw [irqMask_bit h v hk, hv]
    simpa using hh
  refine List.mem_map.mpr ⟨k, mem_bitsOf.mpr ?_, rfl⟩
  unfold bit at mask he hc ⊢
  rw [BitVec.getLsbD_and, BitVec.getLsbD_and, BitVec.getLsbD_not, mask, he, hc]
  simp [hk]

/-- A message leaves once nothing of its household that came before it is under way. -/
theorem State.interruptOp_leaves {m : IrqMsg} (hm : (s.slice d).irqDue.find? (fun x => x.hh == h && x.vec == k) = some m)
    (ho : ((s.slice d).cring h).owes m.recs = false)
    (hw : ∀ p : Packet, p ∈ s.net → p.target = .host d → p.iss.hh = h → p.write = true → p.resp = none → p.ord < m.ord → p.loc = .arrived) :
    s.interruptOp d h k = (s.modSlice d (fun S => { S with irqDue := S.irqDue.erase m })).emit (.interrupt d ((s.slice d).bind h).fn.toNat k) := by
  unfold State.interruptOp
  dsimp only
  rw [hm]
  refine if_neg ?_
  rw [ho, Bool.false_or, List.any_eq_true]
  rintro ⟨p, hp, hq⟩
  simp only [Bool.and_eq_true, beq_iff_eq, bne_iff_ne, Option.isNone_iff_eq_none, decide_eq_true_eq] at hq
  obtain ⟨⟨⟨⟨⟨htarget, hhh⟩, hwrite⟩, hresp⟩, hloc⟩, hord⟩ := hq
  exact hloc (hw p hp htarget hhh hwrite hresp hord)

/-- Settles O54. -/
theorem recordsAndInterrupts : Obligations.RecordsAndInterrupts := by
  unfold Obligations.RecordsAndInterrupts
  refine ⟨fun s d h r l hd hl hh => State.recordWrite_outcome hd hl hh, fun s d h r st row => State.recordLooked_outcome,
    fun s d h p st r hd hl hh he hf => State.recordFail_outcome hd hl hh he hf, fun s w d h v hm hh => ?_, fun s d h k hd hl m hmsg ho hw => ?_,
    fun s w d h v ht hm hh => ?_⟩
  · intro R ctl rv headOff
    refine ⟨fun ht hen he hs ha => ?_, fun ht hen he hs => State.exec_cringEnWrite hh ht (State.cringOp_size hm hen he hs), fun ht he => ?_,
      fun ht hs => State.exec_cringHeadWrite hh ht (State.cringOp_head_size hm hs), fun ht hs => ?_⟩
    · refine ⟨_, State.exec_cringEnWrite hh ht (State.cringOp_enable hm hen he hs ha), ?_⟩
      rw [State.withCring_cring]
      exact ⟨rfl, rfl, rfl, ofNat_toNat_bits v 16 4⟩
    · exact (if_pos (decide_eq_true hh)).trans (State.sliceReg_now_of_eq ht (State.retryOp_retries hm he))
    · have kept := fun {β : Type} (f : CRing → β) (hf : CRing.DueFree f) =>
        (State.admitRecs_admits (s.withCring d h { R with head := BitVec.ofNat 16 (bits v 0 16) }) d h).ring f hf d h
      refine ⟨_, State.exec_cringHeadWrite hh ht (State.cringOp_head hm hs), ?_, ?_⟩
      · refine (congrArg BitVec.toNat ((kept (·.head) fun _ _ _ => rfl).trans (congrArg CRing.head (s.withCring_cring d h _)))).trans ?_
        exact ofNat_toNat_bits v 0 16
      · refine (kept (·.tail) fun _ _ _ => rfl).trans ?_
        rw [State.withCring_cring]
  · exact (State.atDie_next hd hl).trans (by rw [State.interruptOp_leaves hmsg ho hw])
  · refine ⟨_, (if_pos (decide_eq_true hh)).trans (State.sliceReg_now_of_eq ht (State.irqOp_enable hm)), ?_⟩
    rw [State.modSlice_slice, if_pos rfl]
    rw [Slice.withIrq_irq]
    exact ⟨rfl, fun k hk => irqMask_bit h v hk,
      fun k hk hv hhk he hc => ⟨_, List.mem_append_right _ (State.irqNewDue_mem hk hv hhk he hc), rfl, rfl, rfl⟩, fun x hx => List.mem_append_left _ hx⟩

end Sys2Proof.Machine
end

section
/-!
Capture and re-run (spec/09_households.md R334 to R337): O55.
-/

namespace Sys2Proof.Machine

variable {s t : State} {w : Src} {d k : Nat} {v : Word} {st : Status} {r : CapRec} {row : RowData}

/-- The capture unit of a slice, replaced. -/
def State.withCap (s : State) (d : Nat) (c : Capture) : State := s.modSlice d (fun S => { S with cap := c })

theorem State.withCap_cap (s : State) (d : Nat) (c : Capture) : ((s.withCap d c).slice d).cap = c := by
  rw [State.withCap, State.modSlice_slice, if_pos rfl]

theorem State.withCap_winEntry (s : State) (d e : Nat) (c : Capture) (h : Nat) (a : Addr) : (s.withCap d c).winEntry e h a = s.winEntry e h a := by
  have same : ∀ {β : Type} (g : Slice → β), (∀ (S : Slice) x, g { S with cap := x } = g S) → g ((s.withCap d c).slice e) = g (s.slice e) := fun g hg => by
    rw [State.withCap, State.modSlice_slice]
    split
    · next he => rw [← he]; exact hg _ _
    · rfl
  unfold State.winEntry
  dsimp only
  rw [same (fun S => S.winLo) fun _ _ => rfl, same (fun S => S.winHi) fun _ _ => rfl]

/-! ## Events come to the unit (R334, R335) -/

/-- The record of an event, as the unit takes it. -/
def State.capArrived (s : State) (d : Nat) (r : CapRec) : CapRec := { r with pace := s.look.pace (256 * d) }

/-- An event that has come before later ones of its origin is taken or dropped. -/
theorem State.captureTake_pushes (hk : (s.slice d).cap.due[k]? = some r) (ho : ∀ q, q ∈ (s.slice d).cap.due.take k → q.sameOrigin r = false) :
    s.captureTake d k = s.look.withCap d ({ (s.slice d).cap with due := (s.slice d).cap.due.eraseIdx k }.push (s.capArrived d r)) := by
  unfold State.captureTake
  dsimp only
  rw [hk]
  refine if_neg ?_
  rw [List.any_eq_true]
  rintro ⟨q, hq, h⟩
  exact Bool.false_ne_true ((ho q hq).symm.trans h)

/-- The hold takes an event that it has room for. -/
theorem Capture.push_held {c : Capture} (he : c.err = false) (hr : (c.hold.map CapRec.units).sum + r.units ≤ 256) :
    c.push r = { c with seq := c.seq + 1, hold := c.hold ++ [{ r with seq := c.seq, gap := c.gap }], gap := false } := by
  exact if_neg (by rw [he, Bool.false_or, decide_eq_true_eq]; exact Nat.not_lt.mpr hr)

theorem Capture.push_dropped {c : Capture} (h : c.err = true ∨ 256 < (c.hold.map CapRec.units).sum + r.units) :
    c.push r = { c with seq := c.seq + 1, drop := satInc c.drop, gap := true } := by
  exact if_pos (by rw [Bool.or_eq_true, decide_eq_true_eq]; exact h)

/-- What becomes of an event in turn. -/
theorem State.capture_outcome (hd : s.hasDie d = true) (hl : s.live d = true) (hk : (s.slice d).cap.due[k]? = some r)
    (ho : ∀ q, q ∈ (s.slice d).cap.due.take k → q.sameOrigin r = false) :
    let c := (s.slice d).cap
    ∃ t : State, exec (.captureRecord d k) s = .next t ∧ (t.slice d).cap.due = c.due.eraseIdx k ∧ (t.slice d).cap.seq = c.seq + 1 ∧
      (c.err = false → (c.hold.map CapRec.units).sum + r.units ≤ 256 → (t.slice d).cap.gap = false ∧
        ∃ q : CapRec, (t.slice d).cap.hold = c.hold ++ [q] ∧ q.seq = c.seq ∧ q.gap = c.gap ∧ q.payload = r.payload ∧ q.type = r.type) ∧
      ((c.err = true ∨ 256 < (c.hold.map CapRec.units).sum + r.units) → (t.slice d).cap.hold = c.hold ∧
        (t.slice d).cap.drop = satInc c.drop ∧ (t.slice d).cap.gap = true) := by
  intro c
  refine ⟨_, (State.atDie_next hd hl).trans (by rw [State.captureTake_pushes hk ho]), ?_⟩
  rw [State.withCap_cap]
  have held := Capture.push_held (c := { c with due := c.due.eraseIdx k }) (r := s.capArrived d r)
  have dropped := Capture.push_dropped (c := { c with due := c.due.eraseIdx k }) (r := s.capArrived d r)
  have fields : ({ c with due := c.due.eraseIdx k }.push (s.capArrived d r)).due = c.due.eraseIdx k ∧
      ({ c with due := c.due.eraseIdx k }.push (s.capArrived d r)).seq = c.seq + 1 := by
    unfold Capture.push
    dsimp only
    split <;> exact ⟨rfl, rfl⟩
  refine ⟨fields.1, fields.2, fun he hr => ?_, fun h => ?_⟩
  · rw [held he hr]
    exact ⟨rfl, _, rfl, rfl, rfl, rfl, rfl⟩
  · rw [dropped h]
    exact ⟨rfl, rfl, rfl⟩

/-! ## Records are written (R336) -/

/-- A failure of the capture unit. -/
theorem State.captureFails_outcome (s : State) (d : Nat) (st : Status) :
    ((s.captureFails d st).slice d).cap = { (s.slice d).cap with
      err := true, status := st, hold := [], out := [], asked := false, drop := satAdd (s.slice d).cap.drop (s.slice d).cap.hold.length, gap := true } ∧
    bit (((s.captureFails d st).slice d).irq 0).cause 2 = true ∧ (s.captureFails d st).net = s.net := by
  refine ⟨?_, State.raise_cause _ d 0 (by decide), rfl⟩
  rw [State.captureFails, State.raise_slice, if_pos rfl, Slice.raise_cap, State.modSlice_slice, if_pos rfl]

/-- The next unit of the record in hand is looked up, or the unit fails. -/
theorem State.captureUnit_eq {u : RowData} {l : List (Nat × RowData)} (ho : (s.slice d).cap.out = (k, u) :: l) (ha : (s.slice d).cap.asked = false) :
    s.captureUnit d =
      ((s.withCap d { (s.slice d).cap with asked := true }).sliceLookup d 0 16 ((s.slice d).cap.unitAddr k)).getD (s.captureFails d .decerr) := by
  unfold State.captureUnit
  dsimp only
  split
  · next h => exact absurd (ho.symm.trans h) (List.cons_ne_nil _ _)
  · next t' _ _ h =>
    obtain rfl : k = t' := by
      have := ho.symm.trans h
      simp only [List.cons.injEq, Prod.mk.injEq] at this
      exact this.1.1
    rw [if_neg (Bool.eq_false_iff.mp ha)]
    change (match (s.withCap d _).sliceLookup d 0 16 ((s.slice d).cap.unitAddr k) with | none => _ | some s => s) = _
    cases (s.withCap d { (s.slice d).cap with asked := true }).sliceLookup d 0 16 ((s.slice d).cap.unitAddr k) <;> rfl

theorem State.captureUnit_asks {u : RowData} {l : List (Nat × RowData)} {g off : Nat} (ho : (s.slice d).cap.out = (k, u) :: l)
    (ha : (s.slice d).cap.asked = false) (hw : s.winEntry d 0 ((s.slice d).cap.unitAddr k) = some (g, off)) :
    ∃ p : Packet, s.captureUnit d = (s.withCap d { (s.slice d).cap with asked := true }).launch p ∧ p.kind = .sliceLookup 16 ∧ p.target = .tile g := by
  refine ⟨(s.withCap d { (s.slice d).cap with asked := true }).newPacket (sliceIssuer d 0) (.sliceLookup 16) 6 (.tile g)
    (BitVec.ofNat 48 (tileMemAddr g (off / 64 * 64))) (off / 64 * 64) 64 false [], ?_, rfl, rfl⟩
  rw [State.captureUnit_eq ho ha, State.sliceLookup, State.withCap_winEntry, hw]
  rfl

theorem State.captureUnit_fails {u : RowData} {l : List (Nat × RowData)} (ho : (s.slice d).cap.out = (k, u) :: l) (ha : (s.slice d).cap.asked = false)
    (hw : s.winEntry d 0 ((s.slice d).cap.unitAddr k) = none) : s.captureUnit d = s.captureFails d .decerr := by
  rw [State.captureUnit_eq ho ha, State.sliceLookup, State.withCap_winEntry, hw]
  rfl

theorem State.captureUnit_grows (s : State) (d : Nat) : (s.captureUnit d).Grows s := by
  unfold State.captureUnit
  dsimp only
  split
  · exact State.grows_of_eq rfl
  · split
    · exact State.grows_of_eq rfl
    · split
      · exact State.grows_of_eq rfl
      · next t ht =>
        obtain ⟨e, _, rfl⟩ := Option.map_eq_some_iff.mp ht
        exact ⟨_, State.launch_net _ _⟩

/-- The record in hand, as the places and contents of its units. -/
def Capture.unitsOf (c : Capture) (r : CapRec) : List (Nat × RowData) := (r.header :: r.payload).zipIdx.map (fun p => (c.tail.toNat + p.2, p.1))

theorem Capture.unitsOf_snd (c : Capture) (r : CapRec) : (c.unitsOf r).map Prod.snd = r.header :: r.payload := by
  rw [Capture.unitsOf, List.map_map]
  exact List.zipIdx_map_fst 0 _

theorem Capture.unitsOf_fst (c : Capture) (r : CapRec) : (c.unitsOf r).map Prod.fst = (List.range r.units).map (fun i => c.tail.toNat + i) := by
  have places : (r.header :: r.payload).zipIdx.map Prod.snd = List.range r.units := by
    rw [List.zipIdx_map_snd, List.range_eq_range', List.length_cons, CapRec.units, Nat.add_comm]
  rw [Capture.unitsOf, List.map_map, ← places, List.map_map]
  rfl

/-- The hold after a record that is dropped: the next one bears GAP. -/
def gapNext : List CapRec → List CapRec
  | q :: l => { q with gap := true } :: l
  | [] => []

/-- The unit takes the oldest record of its hold. -/
theorem State.captureWriteOp_eq {l : List CapRec} (ho : (s.slice d).cap.out = []) (hh : (s.slice d).cap.hold = r :: l) :
    s.captureWriteOp d st =
      let c := (s.slice d).cap
      if c.err then s
      else if 2 ^ c.size.toNat < (c.tail - c.head).toNat + r.units then
        s.withCap d { c with hold := gapNext l, drop := satInc c.drop, gap := c.gap || (gapNext l).isEmpty }
      else if st ≠ .ok then s.captureFails d st
      else (s.withCap d { c with hold := l, tail := c.tail + BitVec.ofNat 32 r.units, out := c.unitsOf r, asked := false }).captureUnit d := by
  unfold State.captureWriteOp
  dsimp only
  split
  · next h => exact absurd (ho.symm.trans h).symm (List.cons_ne_nil _ _)
  · next h => exact absurd (hh.symm.trans h) (List.cons_ne_nil _ _)
  · next r' l' _ h =>
    obtain ⟨rfl, rfl⟩ := List.cons.inj (hh.symm.trans h)
    rfl

section
variable {l : List CapRec} (ho : (s.slice d).cap.out = []) (hh : (s.slice d).cap.hold = r :: l) (he : (s.slice d).cap.err = false)
include ho hh he

/-- A record that the ring has no room for is dropped, and the next one bears GAP. -/
theorem State.captureWriteOp_drops (hf : ¬((s.slice d).cap.tail - (s.slice d).cap.head).toNat + r.units ≤ 2 ^ (s.slice d).cap.size.toNat) :
    ∃ m : List CapRec, ∃ g, s.captureWriteOp d st = s.withCap d { (s.slice d).cap with hold := m, drop := satInc (s.slice d).cap.drop, gap := g } ∧
      m.length = l.length ∧ ∀ q : CapRec, m.head? = some q → q.gap = true := by
  refine ⟨gapNext l, _, (State.captureWriteOp_eq ho hh).trans ((if_neg (by simp [he])).trans (if_pos (by omega))), ?_, fun q hq => ?_⟩
  · cases l <;> rfl
  · cases l with
    | nil => cases hq
    | cons x l =>
      cases hq
      rfl

theorem State.captureWriteOp_fails (hf : ((s.slice d).cap.tail - (s.slice d).cap.head).toNat + r.units ≤ 2 ^ (s.slice d).cap.size.toNat) (hst : st ≠ .ok) :
    s.captureWriteOp d st = s.captureFails d st := by
  exact (State.captureWriteOp_eq ho hh).trans ((if_neg (by simp [he])).trans ((if_neg (by omega)).trans (if_pos hst)))

/-- A record is taken in hand, and its first unit looked up. -/
theorem State.captureWriteOp_takes (hf : ((s.slice d).cap.tail - (s.slice d).cap.head).toNat + r.units ≤ 2 ^ (s.slice d).cap.size.toNat) :
    s.captureWriteOp d .ok = (s.withCap d { (s.slice d).cap with
      hold := l, tail := (s.slice d).cap.tail + BitVec.ofNat 32 r.units, out := (s.slice d).cap.unitsOf r, asked := false }).captureUnit d := by
  exact (State.captureWriteOp_eq ho hh).trans ((if_neg (by simp [he])).trans ((if_neg (by omega)).trans ((if_neg (by simp)).trans rfl)))

end

end Sys2Proof.Machine
end

section
/-!
Capture records set out, and re-run presents them (spec/09_households.md R336, R337): O55.
-/

namespace Sys2Proof.Machine

variable {s t : State} {w : Src} {d k : Nat} {v : Word} {st : Status} {r : CapRec} {row u : RowData}

/-! ## Records set out (R336) -/

/-- What becomes of the oldest record of the hold. -/
theorem State.captureWrite_outcome {l : List CapRec} (hd : s.hasDie d = true) (hl : s.live d = true) (ho : (s.slice d).cap.out = [])
    (hh : (s.slice d).cap.hold = r :: l) (he : (s.slice d).cap.err = false) :
    let c := (s.slice d).cap
    let fits : Prop := (c.tail - c.head).toNat + r.units ≤ 2 ^ c.size.toNat
    (¬fits → ∃ t : State, exec (.captureRecordWrite d st) s = .next t ∧ (t.slice d).cap.hold.length = l.length ∧
      (t.slice d).cap.drop = satInc c.drop ∧ (t.slice d).cap.tail = c.tail ∧ t.net = s.net ∧
      (∀ q : CapRec, (t.slice d).cap.hold.head? = some q → q.gap = true)) ∧
    (fits → st ≠ .ok → ∃ t : State, exec (.captureRecordWrite d st) s = .next t ∧ (t.slice d).cap.err = true ∧ (t.slice d).cap.status = st ∧
      (t.slice d).cap.hold = [] ∧ (t.slice d).cap.tail = c.tail ∧ bit ((t.slice d).irq 0).cause 2 = true) ∧
    (∀ g off, fits → s.winEntry d 0 (c.unitAddr c.tail.toNat) = some (g, off) → ∃ t : State, ∃ p : Packet,
      exec (.captureRecordWrite d .ok) s = .next t ∧ (t.slice d).cap.hold = l ∧ (t.slice d).cap.tail = c.tail + BitVec.ofNat 32 r.units ∧
        (t.slice d).cap.out.map Prod.snd = r.header :: r.payload ∧ (t.slice d).cap.out.map Prod.fst = (List.range r.units).map (fun i => c.tail.toNat + i) ∧
        (t.slice d).cap.asked = true ∧ t.net = s.net ++ [p] ∧ p.kind = .sliceLookup 16 ∧ p.target = .tile g) ∧
    (fits → s.winEntry d 0 (c.unitAddr c.tail.toNat) = none → ∃ t : State, exec (.captureRecordWrite d .ok) s = .next t ∧
      (t.slice d).cap.err = true ∧ (t.slice d).cap.status = .decerr ∧ bit ((t.slice d).irq 0).cause 2 = true) := by
  intro c fits
  have run {o : Status} {r : State} (h : s.captureWriteOp d o = r) : exec (.captureRecordWrite d o) s = .next r :=
    (State.atDie_next hd hl).trans (by rw [h])
  set N : Capture := { c with hold := l, tail := c.tail + BitVec.ofNat 32 r.units, out := c.unitsOf r, asked := false } with hN
  have cap := s.withCap_cap d N
  have first : ((s.withCap d N).slice d).cap.out = (c.tail.toNat, r.header) :: (c.unitsOf r).tail := by rw [cap]; rfl
  have idle : ((s.withCap d N).slice d).cap.asked = false := by rw [cap]
  refine ⟨fun hf => ?_, fun hf hst => ?_, fun g off hf hw => ?_, fun hf hw => ?_⟩
  · obtain ⟨m, g, step, len, next⟩ := State.captureWriteOp_drops (st := st) ho hh he hf
    refine ⟨_, run step, ?_⟩
    rw [State.withCap_cap]
    exact ⟨len, rfl, rfl, rfl, next⟩
  · obtain ⟨cap', cause, _⟩ := s.captureFails_outcome d st
    refine ⟨_, run (State.captureWriteOp_fails ho hh he hf hst), ?_⟩
    rw [cap']
    exact ⟨rfl, rfl, rfl, rfl, cause⟩
  · obtain ⟨p, asks, hkind, htarget⟩ := State.captureUnit_asks (g := g) (off := off) first idle (by rw [State.withCap_winEntry, cap]; exact hw)
    have after : (((s.withCap d N).withCap d { ((s.withCap d N).slice d).cap with asked := true }).slice d).cap = { N with asked := true } := by
      rw [State.withCap_cap, cap]
    refine ⟨_, { p with lapse := _ }, run ((State.captureWriteOp_takes ho hh he hf).trans asks), ?_, ?_, ?_, ?_, ?_, State.launch_net _ _, hkind, htarget⟩
    · exact congrArg Capture.hold after
    · exact congrArg Capture.tail after
    · exact (congrArg (fun c : Capture => c.out.map Prod.snd) after).trans (c.unitsOf_snd r)
    · exact (congrArg (fun c : Capture => c.out.map Prod.fst) after).trans (c.unitsOf_fst r)
    · exact congrArg Capture.asked after
  · have fails := State.captureUnit_fails first idle (by rw [State.withCap_winEntry, cap]; exact hw)
    obtain ⟨cap', cause, _⟩ := (s.withCap d N).captureFails_outcome d .decerr
    refine ⟨_, run ((State.captureWriteOp_takes ho hh he hf).trans fails), ?_⟩
    rw [cap']
    exact ⟨rfl, rfl, cause⟩

/-- A unit whose address is known sets out, and the next is looked up; or the unit fails. -/
theorem State.captureLooked_outcome {l : List (Nat × RowData)} (ho : (s.slice d).cap.out = (k, u) :: l) :
    (∀ g a, s.looked d ((s.slice d).cap.unitAddr k) st row true = .ok (g, a) → ∃ m : List Packet, ∃ p : Packet,
      (s.captureLooked d st row).net = s.net ++ [p] ++ m ∧
      p.kind = .capture ∧ p.target = g ∧ p.place = a ∧ p.size = 64 ∧ p.write = true ∧ p.data = [u]) ∧
    (∀ e, s.looked d ((s.slice d).cap.unitAddr k) st row true = .error e → ((s.captureLooked d st row).slice d).cap.err = true ∧
      ((s.captureLooked d st row).slice d).cap.status = e) := by
  have goes : ∀ g a, s.looked d ((s.slice d).cap.unitAddr k) st row true = .ok (g, a) → s.captureLooked d st row =
      ((s.withCap d { (s.slice d).cap with out := l, asked := false }).launch ((s.withCap d { (s.slice d).cap with out := l, asked := false }).newPacket
        (sliceIssuer d 0) .capture 6 g ((s.slice d).cap.unitAddr k) a 64 true [u])).captureUnit d := fun g a h => by
    unfold State.captureLooked
    dsimp only
    split
    · next h' => exact absurd (ho.symm.trans h') (List.cons_ne_nil _ _)
    · next h' =>
      obtain ⟨e, rfl⟩ := List.cons.inj (ho.symm.trans h')
      obtain ⟨rfl, rfl⟩ := Prod.mk.inj e
      rw [h]
      rfl
  have fails : ∀ e, s.looked d ((s.slice d).cap.unitAddr k) st row true = .error e → s.captureLooked d st row =
      (if st = .ok then s.latchOff d (entryIn row ((s.slice d).cap.unitAddr k)) ((s.slice d).cap.unitAddr k) (sliceIssuer d 0) else s).captureFails d e :=
    fun e h => by
    unfold State.captureLooked
    dsimp only
    split
    · next h' => exact absurd (ho.symm.trans h') (List.cons_ne_nil _ _)
    · next h' =>
      obtain ⟨e, rfl⟩ := List.cons.inj (ho.symm.trans h')
      obtain ⟨rfl, rfl⟩ := Prod.mk.inj e
      rw [h]
  refine ⟨fun g a h => ?_, fun e h => ?_⟩
  · obtain ⟨m, net⟩ := State.captureUnit_grows ((s.withCap d { (s.slice d).cap with out := l, asked := false }).launch
      ((s.withCap d { (s.slice d).cap with out := l, asked := false }).newPacket (sliceIssuer d 0) .capture 6 g ((s.slice d).cap.unitAddr k) a 64 true [u])) d
    exact ⟨m, _, by rw [goes g a h, net, State.launch_net]; rfl, rfl, rfl, rfl, rfl, rfl, rfl⟩
  · rw [fails e h, (State.captureFails_outcome _ d e).1]
    exact ⟨rfl, rfl⟩

/-! ## SLC_CAP_CTRL (R334) -/

theorem State.captureOp_ctrl (hm : s.isManager w = true) : s.captureOp w d 0x00 v =
    let c := (s.slice d).cap
    let n := { c with mask := BitVec.ofNat 16 (bits v 0 16), en := bit v 16, rerun := bit v 17, rhh := BitVec.ofNat 4 (bits v 18 4) }
    (s.withCap d (if bit v 16 && !c.en then
      { n with err := false, status := .ok, done := false, head := if bit v 17 then c.head else 0, tail := if bit v 17 then c.tail else 0 } else n), .ok) := by
  refine (if_neg (by simp [hm])).trans ?_
  dsimp only
  by_cases h : (bit v 16 && !(s.slice d).cap.en) = true
  · rw [if_pos h, if_pos h]
    rfl
  · rw [if_neg h, if_neg h]
    rfl

theorem State.captureEn_outcome (ht : s.sliceTakes w d 0x0400 v) (hm : s.isManager w = true) :
    ∃ t : State, exec (.captureEnWrite w d v) s = .next (s.sliceAnswered t w d 0x0400 v .ok) ∧ (t.slice d).cap.en = bit v 16 ∧
      (t.slice d).cap.rerun = bit v 17 ∧ (t.slice d).cap.mask.toNat = bits v 0 16 ∧ (t.slice d).cap.rhh.toNat = bits v 18 4 ∧
      ((s.slice d).cap.en = false → bit v 16 = true → (t.slice d).cap.err = false ∧ (t.slice d).cap.done = false ∧
        (bit v 17 = false → (t.slice d).cap.head = 0 ∧ (t.slice d).cap.tail = 0)) := by
  refine ⟨_, State.sliceReg_now_of_eq ht (State.captureOp_ctrl hm), ?_⟩
  rw [State.withCap_cap]
  split
  · exact ⟨rfl, rfl, ofNat_toNat_bits v 0 16, ofNat_toNat_bits v 18 4, fun _ _ => ⟨rfl, rfl, fun h => ⟨if_neg (by simp [h]), if_neg (by simp [h])⟩⟩⟩
  · next h => exact ⟨rfl, rfl, ofNat_toNat_bits v 0 16, ofNat_toNat_bits v 18 4, fun h1 h2 => absurd (by rw [h1, h2]; rfl) h⟩

/-! ## Re-run (R337) -/

/-- Re-run fails. -/
theorem State.rerunFails_outcome (s : State) (d : Nat) (e : Status) :
    ((s.rerunFails d e).slice d).cap = { (s.slice d).cap with err := true, status := e, asked := false, found := false } ∧
    bit (((s.rerunFails d e).slice d).irq 0).cause 2 = true := by
  refine ⟨?_, State.raise_cause _ d 0 (by decide)⟩
  rw [State.rerunFails, State.raise_slice, if_pos rfl, Slice.raise_cap, State.modSlice_slice, if_pos rfl]

/-- Re-run goes past a record of `n` units. -/
def Capture.past (c : Capture) (n : Nat) : Capture :=
  { c with head := c.head + BitVec.ofNat 32 n, done := c.head + BitVec.ofNat 32 n == c.tail, found := false }

def State.rerunPast (s : State) (d n : Nat) : State := s.modSlice d (fun S => { S with cap := S.cap.past n })

/-- What a record of the replayed household presents. -/
def State.represents (s : State) (d : Nat) (units : List RowData) : State :=
  let u := units.headD 0
  let h := bits u 40 4
  let word : BitVec 64 := BitVec.ofNat 64 (bits u 128 64)
  match bits u 32 8 with
  | 1 => s.doorbellOp d h (bits u 64 48) 8 word
  | 2 => s.doorstepOp d h (bits u 64 48) (64 * (1 + bits u 48 16 - 1)) true (units.drop 1)
  | 3 => s.hostPass d h ((s.slice d).bind h).fn.toNat (BitVec.ofNat 48 (bits u 64 48)) 4 true [word.zeroExtend 512]
  | _ => s

section
variable (hb : (s.slice d).cap.busy = true) (he : (s.slice d).cap.err = false) (ha : (s.slice d).cap.asked = false)
include hb he ha

/-- The steps of re-run. -/
theorem State.rerunOp_eq (units : List RowData) : s.rerunOp d st units =
    let c := (s.slice d).cap
    if c.head = c.tail then s.modSlice d (fun S => { S with cap := { S.cap with done := true } })
    else if !c.found then
      ((s.sliceLookup d 0 17 (c.unitAddr c.head.toNat)).map (fun t : State => t.modSlice d (fun S => { S with cap := { S.cap with asked := true } }))).getD
        (s.rerunFails d .decerr)
    else if st ≠ .ok then s.rerunFails d st
    else (if bits (units.headD 0) 40 4 ≠ c.rhh.toNat then s else s.represents d units).rerunPast d (1 + bits (units.headD 0) 48 16) := by
  refine (if_neg (by simp [hb, he, ha])).trans ?_
  dsimp only
  by_cases ht : (s.slice d).cap.head = (s.slice d).cap.tail
  · rw [if_pos ht, if_pos ht]
  · rw [if_neg ht, if_neg ht]
    by_cases hf : (!(s.slice d).cap.found) = true
    · rw [if_pos hf, if_pos hf]
      cases s.sliceLookup d 0 17 ((s.slice d).cap.unitAddr (s.slice d).cap.head.toNat) <;> rfl
    · rw [if_neg hf, if_neg hf]
      rfl

end

/-- The unit takes no event of the host while it replays. -/
theorem Capture.takes_busy {c : Capture} (hb : c.busy = true) (h : Nat) : c.takes h = false := by
  unfold Capture.busy at hb
  simp only [Bool.and_eq_true] at hb
  simp [Capture.takes, hb.1.2]

theorem State.doorbellOp_cap {h offset size : Nat} {word : BitVec 64} (ht : (s.slice d).cap.takes h = false) :
    ((s.doorbellOp d h offset size word).slice d).cap = (s.slice d).cap := by
  have captured : s.capture d h 1 offset 0 word 0 .ok false [] = s := by
    rw [State.capture, ht]
    rfl
  rw [State.doorbellOp, captured, State.modSlice_slice, if_pos rfl]

theorem State.rerunPast_cap (s : State) (d n : Nat) : ((s.rerunPast d n).slice d).cap = (s.slice d).cap.past n := by
  rw [State.rerunPast, State.modSlice_slice, if_pos rfl]

theorem State.rerunPast_bells (s : State) (d n : Nat) : ((s.rerunPast d n).slice d).bells = (s.slice d).bells := by
  rw [State.rerunPast, State.modSlice_slice, if_pos rfl]

theorem Capture.past_done {c : Capture} {n : Nat} : (c.past n).done = true ↔ c.head + BitVec.ofNat 32 n = c.tail := beq_iff_eq

/-- What becomes of re-run. -/
theorem State.rerun_outcome {l : List RowData} (hd : s.hasDie d = true) (hl : s.live d = true) (hb : (s.slice d).cap.busy = true)
    (he : (s.slice d).cap.err = false) (ha : (s.slice d).cap.asked = false) :
    let c := (s.slice d).cap
    (c.head = c.tail → exec (.rerunPresent d st (u :: l)) s = .next (s.modSlice d (fun S => { S with cap := { S.cap with done := true } }))) ∧
    (∀ g off, c.head ≠ c.tail → c.found = false → s.winEntry d 0 (c.unitAddr c.head.toNat) = some (g, off) →
      ∃ t : State, ∃ p : Packet, exec (.rerunPresent d st (u :: l)) s = .next t ∧ (t.slice d).cap.asked = true ∧ t.net = s.net ++ [p] ∧
        p.kind = .sliceLookup 17 ∧ p.target = .tile g) ∧
    (c.head ≠ c.tail → (c.found = true ∧ st ≠ .ok ∨ c.found = false ∧ s.winEntry d 0 (c.unitAddr c.head.toNat) = none) →
      ∃ t : State, exec (.rerunPresent d st (u :: l)) s = .next t ∧ (t.slice d).cap.err = true ∧
        (t.slice d).cap.status = (if c.found then st else .decerr) ∧ (t.slice d).cap.head = c.head ∧ bit ((t.slice d).irq 0).cause 2 = true) ∧
    (c.head ≠ c.tail → c.found = true →
      let next := c.head + BitVec.ofNat 32 (1 + bits u 48 16)
      (bits u 40 4 = c.rhh.toNat → bits u 32 8 = 1 →
        ∃ t : State, ∃ b : Doorbell, exec (.rerunPresent d .ok (u :: l)) s = .next t ∧ (t.slice d).bells = (s.slice d).bells ++ [b] ∧ b.hh = c.rhh.toNat ∧
          b.offset = bits u 64 48 ∧ b.word.toNat = bits u 128 64 ∧ (t.slice d).cap.head = next ∧ ((t.slice d).cap.done = true ↔ next = c.tail)) ∧
      (bits u 40 4 ≠ c.rhh.toNat →
        ∃ t : State, exec (.rerunPresent d .ok (u :: l)) s = .next t ∧ (t.slice d).bells = (s.slice d).bells ∧ t.net = s.net ∧
          (t.slice d).cap.head = next ∧ ((t.slice d).cap.done = true ↔ next = c.tail))) := by
  intro c
  have run {o : Status} {r : State} (h : s.rerunOp d o (u :: l) = r) : exec (.rerunPresent d o (u :: l)) s = .next r :=
    (State.atDie_next hd hl).trans (by rw [h])
  have steps : ∀ o, _ := fun o => State.rerunOp_eq (st := o) hb he ha (u :: l)
  refine ⟨fun ht => run ((steps st).trans (if_pos ht)), fun g off ht hf hw => ?_, fun ht hfail => ?_, fun ht hf => ⟨fun hh hu => ?_, fun hh => ?_⟩⟩
  · obtain ⟨q, asks, hkind, htarget⟩ : ∃ q : Packet, s.sliceLookup d 0 17 (c.unitAddr c.head.toNat) = some (s.launch q) ∧ q.kind = .sliceLookup 17 ∧
        q.target = .tile g := by
      rw [State.sliceLookup, hw]
      exact ⟨_, rfl, rfl, rfl⟩
    refine ⟨(s.launch q).modSlice d (fun S => { S with cap := { S.cap with asked := true } }), { q with lapse := _ },
      run ((steps st).trans ((if_neg ht).trans ((if_pos (by simp [show (s.slice d).cap.found = false from hf])).trans (by rw [asks]; rfl)))), ?_,
      (State.modSlice_net _ _ _).trans (State.launch_net _ _), hkind, htarget⟩
    rw [State.modSlice_slice, if_pos rfl]
  · have fails : s.rerunOp d st (u :: l) = s.rerunFails d (if c.found then st else .decerr) := by
      refine (steps st).trans ((if_neg ht).trans ?_)
      rcases hfail with ⟨hf, hst⟩ | ⟨hf, hw⟩
      · rw [if_pos hf]
        exact (if_neg (by simp [show (s.slice d).cap.found = true from hf])).trans (if_pos hst)
      · refine (if_pos (by simp [show (s.slice d).cap.found = false from hf])).trans ?_
        rw [State.sliceLookup, hw, hf]
        rfl
    obtain ⟨cap, cause⟩ := s.rerunFails_outcome d (if c.found then st else .decerr)
    refine ⟨_, run fails, ?_⟩
    rw [cap]
    exact ⟨rfl, rfl, rfl, cause⟩
  · have presents : s.rerunOp d .ok (u :: l) =
        (s.doorbellOp d (bits u 40 4) (bits u 64 48) 8 (BitVec.ofNat 64 (bits u 128 64))).rerunPast d (1 + bits u 48 16) := by
      refine (steps .ok).trans ((if_neg ht).trans ((if_neg (by simp [show (s.slice d).cap.found = true from hf])).trans ((if_neg (by simp)).trans ?_)))
      have first : s.represents d (u :: l) = s.doorbellOp d (bits u 40 4) (bits u 64 48) 8 (BitVec.ofNat 64 (bits u 128 64)) := by
        unfold State.represents
        dsimp only [List.headD_cons]
        rw [hu]
        rfl
      rw [List.headD_cons, if_neg (not_not.mpr hh), first]
    obtain ⟨b, bells, _, hbh, hbo, _, hbw, _⟩ := s.doorbellOp_outcome d (bits u 40 4) (bits u 64 48) 8 (BitVec.ofNat 64 (bits u 128 64))
    refine ⟨_, b, run presents, (State.rerunPast_bells _ _ _).trans bells, hbh.trans hh, hbo, ?_, ?_⟩
    · rw [hbw]
      exact ofNat_toNat_bits u 128 64
    · rw [State.rerunPast_cap, State.doorbellOp_cap (Capture.takes_busy hb _)]
      exact ⟨rfl, Capture.past_done⟩
  · have passes : s.rerunOp d .ok (u :: l) = s.rerunPast d (1 + bits u 48 16) :=
      (steps .ok).trans ((if_neg ht).trans ((if_neg (by simp [show (s.slice d).cap.found = true from hf])).trans ((if_neg (by simp)).trans
        (congrArg (fun t : State => t.rerunPast d (1 + bits u 48 16)) (if_pos hh)))))
    refine ⟨_, run passes, State.rerunPast_bells _ _ _, rfl, ?_⟩
    rw [State.rerunPast_cap]
    exact ⟨rfl, Capture.past_done⟩

/-- Settles O55. -/
theorem captureAndRerun : Obligations.CaptureAndRerun := by
  unfold Obligations.CaptureAndRerun
  exact ⟨fun s d k r hd hl hk ho => State.capture_outcome hd hl hk ho, fun s d r l st hd hl ho hh he => State.captureWrite_outcome hd hl ho hh he,
    fun s d k st row u l => State.captureLooked_outcome, fun s w d v ht hm => State.captureEn_outcome ht hm,
    fun s d st u l hd hl hb he ha => State.rerun_outcome hd hl hb he ha⟩

end Sys2Proof.Machine
end

section
/-!
The commands of the book (spec/11_startup_power_book.md R378, R384): O57.
-/

namespace Sys2Proof.Machine

variable {s t : State} {w : Src} {d : Nat} {v : Word} {c : BookCmd} {b : Book} {st : Status}

/-! ## A command is written -/

theorem bit_withField_above (v : Word) {x k : Nat} (hx : x < 2 ^ 3) (hk : 3 ≤ k) : bit (withField v 0 3 x) k = bit v k := by
  rw [bit_withField, bit_put_outside hx (.inr hk), bit_put_outside (len := 3) (by decide) (.inr hk), Bool.not_false, Bool.and_true, Bool.or_false]

/-- A command is taken, or is refused while another is under way. -/
theorem State.bookCmd_outcome {cmd : Nat} (hm : s.isManager w = true) (h1 : 1 ≤ cmd) (h4 : cmd ≤ 4) (ht : s.sliceTakes w d 0x0300 (withField v 0 3 cmd)) :
    s.bookCmd w d cmd v =
      let S : State := s.modSlice d (fun S =>
        { S with bkRing := bit v 4, bkBusy := true, bkCmd := some { cmd := cmd, ring := bit v 4, keepmap := bit v 3 } })
      .next (if (s.slice d).bkBusy then s.sliceAnswered s w d 0x0300 (withField v 0 3 cmd) .rearmBusy
        else s.sliceAnswered { S with book := { S.book with queue := S.book.queue ++ [d] } } w d 0x0300 (withField v 0 3 cmd) .ok) := by
  have ring : bit (withField v 0 3 cmd) 4 = bit v 4 := bit_withField_above v (by omega) (by decide)
  have keep : bit (withField v 0 3 cmd) 3 = bit v 3 := bit_withField_above v (by omega) (by decide)
  have step : s.bookCtrlOp w d cmd (withField v 0 3 cmd) =
      if (s.slice d).bkBusy then (s, .rearmBusy) else (s.bookStart d cmd (withField v 0 3 cmd), .ok) :=
    (if_neg (by simp [hm])).trans (if_pos (by simp [h1, h4]))
  unfold State.bookCmd
  dsimp only
  cases hb : (s.slice d).bkBusy with
  | true => exact State.sliceReg_now_of_eq ht (step.trans (if_pos hb))
  | false =>
    refine (State.sliceReg_now_of_eq ht (step.trans (if_neg (by simp [hb])))).trans ?_
    rw [State.bookStart, ring, keep]
    rfl

/-! ## A command ends (R384) -/

/-- The state in which a command has ended with a status. -/
def State.bookEnded (s : State) (d : Nat) (l : List Nat) (st : Status) : State :=
  ({ s with book := { s.book with queue := l } } : State).modSlice d (fun S => { S with bkBusy := false, bkCmd := none, bkErr := st != .ok, bkStatus := st })

theorem State.bookEnded_slice (s : State) (d : Nat) (l : List Nat) (st : Status) : (s.bookEnded d l st).slice d =
    { s.slice d with bkBusy := false, bkCmd := none, bkErr := st != .ok, bkStatus := st } := by
  rw [State.bookEnded, State.modSlice_slice, if_pos rfl]
  rfl

theorem State.bookEndOp_ends {l : List Nat} (hq : s.book.queue = d :: l) (hc : (s.slice d).bkCmd = some c) (he : s.bookEffect d c = (t, st)) :
    s.bookEndOp d = t.bookEnded d l st := by
  unfold State.bookEndOp
  rw [hq, hc]
  dsimp only
  rw [if_neg (by simp), he]
  rfl

theorem State.bookEndOp_waits {e : Nat} {l : List Nat} (hq : s.book.queue = e :: l) (hc : (s.slice d).bkCmd = some c) (he : e ≠ d) : s.bookEndOp d = s := by
  unfold State.bookEndOp
  rw [hq, hc]
  exact if_pos he

/-- A table filled from 0 on. -/
theorem Tbl.get_range {α : Type} (z : α) (f : Nat → α) {m k : Nat} (hk : k < m) : Tbl.get z ((List.range m).map (fun i => (i, f i))) k = f k := by
  have from' : ∀ m a, a ≤ k → k < a + m → Tbl.get z ((List.range' a m).map (fun i => (i, f i))) k = f k := by
    intro m
    induction m with
    | zero => exact fun a h1 h2 => absurd h2 (by omega)
    | succ m ih =>
      intro a h1 h2
      rw [List.range'_succ, List.map_cons]
      by_cases ha : a = k
      · simp [Tbl.get, ha]
      · simp only [Tbl.get, if_neg ha]
        exact ih (a + 1) (by omega) (by omega)
  rw [List.range_eq_range']
  exact from' m 0 (Nat.zero_le _) (by omega)

/-- READ brings the record of a slot. -/
theorem State.bookRead_outcome (ring : Bool) :
    let r := if ring then 1 else 0
    ∃ t : State, ∃ st : Status, s.bookRead d ring = (t, st) ∧ t.book = s.book ∧
      (if bookSize r ≤ (s.slice d).bkIndex.toNat then st = .size
       else st = .ok ∧ ∀ k, k < 16 → Tbl.get 0 (t.slice d).bkData k = BitVec.ofNat 32 (rowWord (s.book.slotRow r (s.slice d).bkIndex.toNat) k)) := by
  intro r
  by_cases h : bookSize r ≤ (s.slice d).bkIndex.toNat
  · exact ⟨s, .size, if_pos h, rfl, by rw [if_pos h]⟩
  · refine ⟨_, .ok, if_neg h, rfl, ?_⟩
    rw [if_neg h]
    refine ⟨rfl, fun k hk => ?_⟩
    rw [State.modSlice_slice, if_pos rfl]
    exact Tbl.get_range 0 _ hk

section
variable (good : s.book.a.good = true ∨ s.book.b.good = true) (hg : s.book.cur.gen.toNat + 1 < 2 ^ 32)
include good hg

/-- The book with an entry added to its repair map. -/
def Book.mapAdded (b : Book) (x : BitVec 64) : Book :=
  let n : Book := { b with map := b.map.set b.cur.mapCount x }
  n.update (fun c => { c with mapCount := c.mapCount + 1, mapCrc := n.crcOf (c.mapCount + 1) })

omit good hg in
theorem Book.update_map (b : Book) (f : Control → Control) : (b.update f).map = b.map := by
  unfold Book.update
  split <;> rfl

omit good hg in
theorem Book.crcOf_congr {b b' : Book} (h : b'.map = b.map) (n : Nat) : b'.crcOf n = b.crcOf n := by
  have entry : ∀ k, b'.entry k = b.entry k := fun k => by rw [Book.entry, Book.entry, h]
  rw [Book.crcOf, Book.crcOf, funext entry]

theorem Book.mapAdded_outcome (x : BitVec 64) :
    let b := s.book.mapAdded x
    b.cur.mapCount = s.book.cur.mapCount + 1 ∧ b.entry s.book.cur.mapCount = x ∧ b.cur.mapCrc = b.crcOf b.cur.mapCount := by
  intro b
  set n : Book := { s.book with map := s.book.map.set s.book.cur.mapCount x } with hn
  have cur : b.cur = { s.book.cur with mapCount := s.book.cur.mapCount + 1, mapCrc := n.crcOf (s.book.cur.mapCount + 1), gen := s.book.cur.gen + 1, good := true } :=
    Book.update_cur n _ good hg
  have map : b.map = n.map := n.update_map _
  refine ⟨by rw [cur], ?_, by rw [Book.crcOf_congr map, cur]⟩
  rw [Book.entry, map, hn, Tbl.find_set, if_pos rfl]

omit good hg in
theorem mapRefused (w : Word) : (!bit w 0 || bits w 1 2 == 0 || bits w 1 2 == 3) = true ↔ bit w 0 = false ∨ bits w 1 2 = 0 ∨ bits w 1 2 = 3 := by
  simp [or_assoc]

/-- MAPADD adds an entry to the repair map. -/
theorem State.bookMapAdd_outcome :
    let w0 := Tbl.get 0 (s.slice d).bkData 0
    ∃ t : State, ∃ st : Status, s.bookMapAdd d = (t, st) ∧
      (if 8192 ≤ s.book.cur.mapCount then st = .size ∧ t.book = s.book
       else if bit w0 0 = false ∨ bits w0 1 2 = 0 ∨ bits w0 1 2 = 3 then st = .decerr ∧ t.book = s.book
       else st = .ok ∧ t.book.cur.mapCount = s.book.cur.mapCount + 1 ∧
         t.book.entry s.book.cur.mapCount = (s.book.cur.bootOf d) ++ w0 ∧ t.book.cur.mapCrc = t.book.crcOf t.book.cur.mapCount) := by
  intro w0
  by_cases h1 : 8192 ≤ s.book.cur.mapCount
  · exact ⟨s, .size, if_pos h1, by rw [if_pos h1]; exact ⟨rfl, rfl⟩⟩
  · by_cases h2 : bit w0 0 = false ∨ bits w0 1 2 = 0 ∨ bits w0 1 2 = 3
    · refine ⟨s, .decerr, (if_neg h1).trans (if_pos ?_), by rw [if_neg h1, if_pos h2]; exact ⟨rfl, rfl⟩⟩
      exact (mapRefused w0).mpr h2
    · refine ⟨{ s with book := s.book.mapAdded ((s.book.cur.bootOf d) ++ w0) }, .ok, (if_neg h1).trans (if_neg ?_), ?_⟩
      · exact fun q => h2 ((mapRefused w0).mp q)
      · rw [if_neg h1, if_neg h2]
        exact ⟨rfl, Book.mapAdded_outcome good hg _⟩

/-- MAPCLEAR empties the repair map. -/
theorem State.bookMapClear_outcome : ∃ t : State, s.bookMapClear = (t, .ok) ∧ t.book.cur.mapCount = 0 ∧ t.book.cur.sevTail = s.book.cur.sevTail := by
  refine ⟨_, rfl, ?_⟩
  dsimp only
  rw [Book.update_cur _ _ good hg]
  exact ⟨rfl, rfl⟩

/-- INIT empties the rings of a book that holds. -/
theorem State.bookInit_good (keepmap : Bool) (he : (s.slice d).bookErr = false) :
    ∃ t : State, s.bookInit d keepmap = (t, .ok) ∧ t.book.cur.sevHead = 0 ∧ t.book.cur.sevTail = 0 ∧
        t.book.cur.rouHead = 0 ∧ t.book.cur.rouTail = 0 ∧ t.book.cur.sevSeq = s.book.cur.sevSeq ∧
        t.book.cur.mapCount = (if keepmap then s.book.cur.mapCount else 0) := by
  refine ⟨_, if_pos (by simp [he]), ?_⟩
  dsimp only
  rw [Book.update_cur _ _ good hg]
  cases keepmap <;> exact ⟨rfl, rfl, rfl, rfl, rfl, rfl⟩

omit good hg in
theorem State.bookInit_refused {keepmap : Bool} (he : (s.slice d).bookErr = true) (hk : keepmap = true) : s.bookInit d keepmap = (s, .decerr) :=
  (if_neg (by simp [he])).trans (if_pos hk)

end

/-- Settles O57. -/
theorem bookCommands : Obligations.BookCommands := by
  unfold Obligations.BookCommands
  refine ⟨fun s w d v hm => ?_, fun s d e l c hd hl hq hc good hg => ⟨fun he => ?_, ?_⟩⟩
  · exact ⟨fun ht => State.bookCmd_outcome hm (by decide) (by decide) ht, fun ht => State.bookCmd_outcome hm (by decide) (by decide) ht,
      fun ht => State.bookCmd_outcome hm (by decide) (by decide) ht, fun ht => State.bookCmd_outcome hm (by decide) (by decide) ht⟩
  · exact (State.atDie_next hd hl).trans (by rw [State.bookEndOp_waits hq hc he])
  · rintro rfl
    obtain ⟨t, st, heffect⟩ : ∃ t st, s.bookEffect e c = (t, st) := ⟨_, _, rfl⟩
    have code : ∀ k, c.cmd = k → s.bookEffect e c = (match k with
        | 1 => s.bookRead e c.ring | 2 => s.bookMapAdd e | 3 => s.bookMapClear | _ => s.bookInit e c.keepmap) := fun k hk => by
      subst hk
      rfl
    have same : ∀ {t' : State} {st' : Status}, s.bookEffect e c = (t', st') → t = t' ∧ st = st' := fun h => Prod.mk.inj (heffect.symm.trans h)
    refine ⟨_, (State.atDie_next hd hl).trans (by rw [State.bookEndOp_ends hq hc heffect]), ?_⟩
    rw [State.bookEnded_slice]
    refine ⟨rfl, rfl, rfl, rfl, fun h => ?_, fun h => ?_, fun h => ?_, fun h he => ?_, fun h he hk => ?_⟩
    · obtain ⟨t', st', step, book, rest⟩ := s.bookRead_outcome (d := e) c.ring
      obtain ⟨rfl, rfl⟩ := same ((code 1 h).trans step)
      exact ⟨(congrArg Book.cur book : t.book.cur = s.book.cur), rest⟩
    · obtain ⟨t', st', step, rest⟩ := State.bookMapAdd_outcome (d := e) good hg
      obtain ⟨rfl, rfl⟩ := same ((code 2 h).trans step)
      have kept : t.book = s.book → (t.bookEnded e l st).book.cur = s.book.cur := fun h => (congrArg Book.cur h : t.book.cur = s.book.cur)
      intro w0
      by_cases h1 : 8192 ≤ s.book.cur.mapCount
      · rw [if_pos h1] at rest ⊢
        exact ⟨rest.1, kept rest.2⟩
      · rw [if_neg h1] at rest ⊢
        by_cases h2 : bit w0 0 = false ∨ bits w0 1 2 = 0 ∨ bits w0 1 2 = 3
        · rw [if_pos h2] at rest ⊢
          exact ⟨rest.1, kept rest.2⟩
        · rw [if_neg h2] at rest ⊢
          obtain ⟨ok, count, entry, crc⟩ := rest
          exact ⟨ok, count, entry, crc⟩
    · obtain ⟨t', step, rest⟩ := State.bookMapClear_outcome good hg
      obtain ⟨rfl, rfl⟩ := same ((code 3 h).trans step)
      exact ⟨rfl, rest⟩
    · obtain ⟨t', step, rest⟩ := State.bookInit_good (d := e) good hg c.keepmap he
      obtain ⟨rfl, rfl⟩ := same ((code 4 h).trans step)
      exact ⟨rfl, rest⟩
    · obtain ⟨rfl, rfl⟩ := same ((code 4 h).trans (State.bookInit_refused he hk))
      exact ⟨rfl, rfl⟩

end Sys2Proof.Machine
end

section
/-!
Requests at the gates of the NW port, and the writes that open and close a gate (spec/07_external_bridges.md R253 to R261): O60.
-/

namespace Sys2Proof.Machine

variable {s : State} {tile id : Nat} {p : Packet} {T : Tile}

/-! ## What the gates decide -/

/-- The bank-view unit of the `k`-th 64 B piece of a packet's burst. -/
def Packet.piece (p : Packet) (k : Nat) : Nat := viewBank p.view (64 * (p.bstart + k)) * 1024 + viewRow p.view (64 * (p.bstart + k))

/-- Gate `g` is open, of the packet's household, grants its right and holds the `k`-th piece of its burst. -/
def Tile.admits (T : Tile) (p : Packet) (g k : Nat) : Prop :=
  g < 8 ∧ (T.gate g).isOpen = true ∧ (T.gate g).hh.toNat = p.iss.hh ∧ (if p.write then (T.gate g).w else (T.gate g).r) = true ∧
    (T.gate g).base.toNat ≤ p.piece k ∧ p.piece k < (T.gate g).base.toNat + (T.gate g).size.toNat

/-- Some piece of the burst finds gate `g` as its lowest. -/
def Tile.counts (T : Tile) (p : Packet) (g : Nat) : Prop := ∃ k, k < p.blen ∧ T.admits p g k ∧ ∀ f, f < g → ¬T.admits p f k

theorem Packet.grants_need (hk : p.kind = .read ∨ p.kind = .write) (G : Gate) : G.grants p.need = if p.write then G.w else G.r := by
  obtain hk | hk := hk <;> simp only [Packet.need, hk] <;> split <;> rfl

theorem Tile.admits_iff (hk : p.kind = .read ∨ p.kind = .write) (g k : Nat) : T.admits p g k ↔
    g < 8 ∧ ((T.gate g).isOpen && (T.gate g).hh.toNat == p.iss.hh && (T.gate g).grants p.need && (T.gate g).covers (p.piece k)) = true := by
  simp only [Tile.admits, Packet.grants_need hk, Gate.covers, Bool.and_eq_true, beq_iff_eq, decide_eq_true_eq, and_assoc]

theorem Tile.gateFor_eq_some (hk : p.kind = .read ∨ p.kind = .write) {g k : Nat} :
    T.gateFor p.iss.hh p.need (p.piece k) = some g ↔ T.admits p g k ∧ ∀ f, f < g → ¬T.admits p f k := by
  simp only [Tile.gateFor, List.find?_range_eq_some, List.mem_range, Tile.admits_iff hk, not_and, Bool.not_eq_true, Bool.not_eq_true']
  constructor
  · rintro ⟨ha, hg, hf⟩
    exact ⟨⟨hg, ha⟩, fun f h _ => hf f h⟩
  · rintro ⟨⟨hg, ha⟩, hf⟩
    exact ⟨ha, hg, fun f h => hf f h (by omega)⟩

theorem Tile.gateFor_eq_none (hk : p.kind = .read ∨ p.kind = .write) {k : Nat} :
    T.gateFor p.iss.hh p.need (p.piece k) = none ↔ ∀ g, ¬T.admits p g k := by
  simp only [Tile.gateFor, List.find?_eq_none, List.mem_range, Tile.admits_iff hk, not_and]

theorem Tile.gatesFor_none {h u : Nat} {n : Need} (hn : T.gateFor h n u = none) : ∀ {l : List Nat}, u ∈ l → T.gatesFor h n l = none
  | v :: l, hu => by
    rw [Tile.gatesFor]
    obtain rfl | hu := List.mem_cons.mp hu
    · rw [hn]
    · rw [Tile.gatesFor_none hn hu]
      split
      · next h => exact absurd h nofun
      · rfl

/-- A burst whose every piece finds a gate is let in by just those gates, each once. -/
theorem Tile.gatesFor_some {h : Nat} {n : Need} : ∀ {l : List Nat}, (∀ u ∈ l, T.gateFor h n u ≠ none) →
    ∃ gs, T.gatesFor h n l = some gs ∧ gs.Nodup ∧ ∀ g, g ∈ gs ↔ ∃ u ∈ l, T.gateFor h n u = some g
  | [], _ => ⟨[], rfl, List.nodup_nil, by simp⟩
  | u :: l, hl => by
    obtain ⟨gs, hgs, nodup, mem⟩ := Tile.gatesFor_some (l := l) fun v hv => hl v (List.mem_cons_of_mem u hv)
    obtain ⟨g, hg⟩ := Option.ne_none_iff_exists'.mp (hl u List.mem_cons_self)
    refine ⟨if gs.contains g then gs else g :: gs, by rw [Tile.gatesFor, hg, hgs], ?_, fun f => ?_⟩
    · split
      · exact nodup
      · next h => exact List.nodup_cons.mpr ⟨fun k => h (List.contains_iff_mem.mpr k), nodup⟩
    · have first : (f = g ∨ f ∈ gs) ↔ ∃ v ∈ u :: l, T.gateFor h n v = some f := by
        simp only [List.mem_cons, exists_eq_or_imp, hg, Option.some.injEq, mem, eq_comm (a := f)]
      rw [← first]
      split
      · next h => exact ⟨Or.inr, fun k => k.elim (fun e => e ▸ List.contains_iff_mem.mp h) fun m => m⟩
      · exact List.mem_cons

theorem mem_burstPieces {u : Nat} : u ∈ burstPieces p.view p.bstart p.blen ↔ ∃ k, k < p.blen ∧ p.piece k = u := by
  simp only [burstPieces, List.mem_map, List.mem_range]
  rfl

theorem Tile.gatesFor_burst (hk : p.kind = .read ∨ p.kind = .write) (h : ∀ k, k < p.blen → ∃ g, T.admits p g k) :
    ∃ gs, T.gatesFor p.iss.hh p.need (burstPieces p.view p.bstart p.blen) = some gs ∧ gs.Nodup ∧ ∀ g, g ∈ gs ↔ T.counts p g := by
  obtain ⟨gs, hgs, nodup, mem⟩ := Tile.gatesFor_some (T := T) (h := p.iss.hh) (n := p.need) (l := burstPieces p.view p.bstart p.blen) (by
    intro u hu e
    obtain ⟨k, hk', rfl⟩ := mem_burstPieces.mp hu
    obtain ⟨g, hg⟩ := h k hk'
    exact (Tile.gateFor_eq_none hk).mp e g hg)
  refine ⟨gs, hgs, nodup, fun g => (mem g).trans ⟨?_, ?_⟩⟩
  · rintro ⟨u, hu, hg⟩
    obtain ⟨k, hk', rfl⟩ := mem_burstPieces.mp hu
    exact ⟨k, hk', (Tile.gateFor_eq_some hk).mp hg⟩
  · rintro ⟨k, hk', hg⟩
    exact ⟨_, mem_burstPieces.mpr ⟨k, hk', rfl⟩, (Tile.gateFor_eq_some hk).mpr hg⟩

theorem Tile.gatesFor_refused (hk : p.kind = .read ∨ p.kind = .write) (h : ∃ k, k < p.blen ∧ ∀ g, ¬T.admits p g k) :
    T.gatesFor p.iss.hh p.need (burstPieces p.view p.bstart p.blen) = none := by
  obtain ⟨k, hk', hn⟩ := h
  exact Tile.gatesFor_none ((Tile.gateFor_eq_none hk).mpr hn) (mem_burstPieces.mpr ⟨k, hk', rfl⟩)

/-! ## What a request does to the gates and the bursts -/

/-- What neither the gates nor their bursts hold. -/
def Tile.GateFree {α : Type} (f : Tile → α) : Prop := ∀ (T : Tile) (gs : Tbl Gate) (bs : List Burst), f { T with gates := gs, bursts := bs } = f T

theorem Tile.cutShort_value {α : Type} {f : Tile → α} (hf : Tile.GateFree f) (T : Tile) (p : Packet) : f (T.cutShort p) = f T := by
  refine (foldl_eq f (fun T b => hf T _ T.bursts) _ _).trans ?_
  exact hf T T.gates _

theorem Tile.burstArrives_value {α : Type} {f : Tile → α} (hf : Tile.GateFree f) (T : Tile) (p : Packet) (b : Burst) (r : Bool) :
    f (T.burstArrives p b r) = f T := by
  unfold Tile.burstArrives
  dsimp only
  split
  · exact hf T _ _
  · exact hf T T.gates _

theorem Tile.enterGates_value {α : Type} {f : Tile → α} (hf : Tile.GateFree f) (T : Tile) (p : Packet) (gs : List Nat) (left : Nat) :
    f (T.enterGates p gs left) = f T := by
  unfold Tile.enterGates
  split
  · rfl
  · exact (hf _ _ _).trans (foldl_eq f (fun T g => hf T _ T.bursts) _ _)

/-- The first request of a burst that is not under way cuts none short. -/
theorem Tile.cutShort_idle (hk : p.kind.alone = false) (h : (T.burstOf p).isNone = true) : T.cutShort p = T := by
  rw [Option.isNone_iff_eq_none, Tile.burstOf, if_neg (by rw [hk]; exact Bool.false_ne_true), List.find?_eq_none] at h
  have other : ∀ b ∈ T.bursts, (b.isOf p.iss p.bstart p.write && Decidable.decide (0 < b.due)) = false := fun b hb => Bool.eq_false_iff.mpr (h b hb)
  unfold Tile.cutShort
  dsimp only
  rw [List.filter_eq_nil_iff.mpr fun b hb => by rw [other b hb]; exact Bool.false_ne_true]
  have same : T.bursts.flatMap (fun b => if !(b.isOf p.iss p.bstart p.write && Decidable.decide (0 < b.due)) then [b]
      else if b.left ≤ b.due then [] else [{ b with due := 0, left := b.left - b.due }]) = T.bursts := by
    refine (List.flatMap_congr fun b hb => ?_).trans (List.flatMap_singleton' T.bursts)
    rw [other b hb]
    rfl
  rw [same]
  rfl

theorem Tile.setGate_gate (T : Tile) (g k : Nat) (G : Gate) : (T.setGate g G).gate k = if g = k then G else T.gate k := Tbl.get_set _ _ _ _ _

/-- A burst that enters gates counts once in each, and in no other. -/
theorem Tile.foldl_enter_gate (g : Nat) : ∀ {gs : List Nat} (T : Tile), gs.Nodup →
    (gs.foldl (fun T k => T.setGate k { T.gate k with bursts := (T.gate k).bursts + 1 }) T).gate g =
      if g ∈ gs then { T.gate g with bursts := (T.gate g).bursts + 1 } else T.gate g
  | [], T, _ => rfl
  | k :: gs, T, h => by
    obtain ⟨hk, nodup⟩ := List.nodup_cons.mp h
    rw [List.foldl_cons, Tile.foldl_enter_gate g _ nodup, Tile.setGate_gate]
    by_cases e : k = g
    · subst e
      simp [hk]
    · simp [e, Ne.symm e]

theorem Tile.enterGates_gate {gs : List Nat} (h : gs.Nodup) {left : Nat} (hl : left ≠ 0) (g : Nat) :
    (T.enterGates p gs left).gate g = if g ∈ gs then { T.gate g with bursts := (T.gate g).bursts + 1 } else T.gate g := by
  unfold Tile.enterGates
  rw [if_neg hl]
  exact Tile.foldl_enter_gate g T h

/-! ## The request at the NW port -/

/-- The state in which a request at the NW port is decided. -/
def State.nwEntered (s : State) (tile : Nat) (p : Packet) : State :=
  if p.place / 64 = p.bstart then s.modTile tile (fun T => T.cutShort p) else s

theorem State.nwEntered_value {α : Type} {f : Tile → α} (hf : Tile.GateFree f) (s : State) (tile : Nat) (p : Packet) :
    f ((s.nwEntered tile p).tile tile) = f (s.tile tile) := by
  unfold State.nwEntered
  split
  · rw [State.modTile_tile, if_pos rfl, Tile.cutShort_value hf]
  · rfl

theorem State.nwEntered_net (s : State) (tile : Nat) (p : Packet) : (s.nwEntered tile p).net = s.net := by
  unfold State.nwEntered
  split <;> rfl

theorem State.nwEntered_ready (s : State) (tile : Nat) (p : Packet) (d : Nat) : (s.nwEntered tile p).ready d = s.ready d := by
  unfold State.nwEntered
  split
  · exact State.modTile_ready ..
  · rfl

theorem State.burstRefused_accs (s : State) (tile : Nat) (p : Packet) : ((s.burstRefused tile p).tile tile).accs = (s.tile tile).accs := by
  unfold State.burstRefused
  split
  · rw [State.modTile_tile, if_pos rfl, Tile.burstArrives_value (f := Tile.accs) fun _ _ _ => rfl]
  · rfl

theorem State.burstRefused_net (s : State) (tile : Nat) (p : Packet) : (s.burstRefused tile p).net = s.net := by
  unfold State.burstRefused
  split <;> rfl

theorem State.pkt_of_net {t : State} (h : t.net = s.net) (hp : s.pkt id = some p) : t.pkt id = some p := by
  rw [State.pkt, h]
  exact hp

theorem State.refusePkt_plain (hk : p.kind = .read ∨ p.kind = .write) (st : Status) : s.refusePkt tile p st = s.respondAt tile p.id st [] := by
  unfold State.refusePkt
  obtain hk | hk := hk <;> rw [hk]

/-- A packet that is refused is answered, its tile as before. -/
theorem State.refusePkt_outcome (hk : p.kind = .read ∨ p.kind = .write) (hp : s.pkt id = some p) (st : Status) :
    ((s.refusePkt tile p st).pkt id).map (·.resp) = some (some st) ∧ (s.refusePkt tile p st).tile tile = s.tile tile := by
  rw [State.refusePkt_plain hk, State.pkt_id hp]
  exact ⟨State.respondAt_resp hp st [], rfl⟩

theorem State.lateWrite_net (s : State) (tile : Nat) (p : Packet) : (s.lateWrite tile p).net = s.net := by
  unfold State.lateWrite
  dsimp only
  split_ifs <;> rfl

theorem State.lateWrite_value {α : Type} {f : Tile → α} (hf : ∀ (T : Tile) v l, f { T with late := v, lastLate := l } = f T) (s : State) (tile : Nat)
    (p : Packet) : f ((s.lateWrite tile p).tile tile) = f (s.tile tile) := by
  unfold State.lateWrite
  dsimp only
  split_ifs
  · rfl
  · rw [State.modTile_tile, if_pos rfl, State.record_tile, State.modTile_tile, if_pos rfl]
    exact hf (s.tile tile) _ _
  · rw [State.modTile_tile, if_pos rfl]
    exact hf (s.tile tile) _ (s.tile tile).lastLate

theorem Tile.refuseBurst_value {α : Type} {f : Tile → α} (hf : ∀ (T : Tile) b, f { T with bursts := b } = f T) (T : Tile) (p : Packet) :
    f (T.refuseBurst p) = f T := by
  unfold Tile.refuseBurst
  dsimp only
  split
  · rfl
  · exact hf _ _

/-- The first request of a burst that its gates let in. -/
theorem State.gateCheck_enters {gs : List Nat} (ha : p.kind.alone = false) (hb : (s.tile tile).burstOf p = none)
    (hg : (s.tile tile).gatesFor p.iss.hh p.need (burstPieces p.view p.bstart p.blen) = some gs) (bad : Bool) :
    s.gateCheck tile p bad = (s.modTile tile (fun T => T.enterGates p gs (p.blen - if bad then p.size / 64 else 0)), true) := by
  unfold State.gateCheck
  dsimp only
  rw [hb, hg, ha]
  rfl

theorem State.gateCheck_refuses (ha : p.kind.alone = false) (hb : (s.tile tile).burstOf p = none)
    (hg : (s.tile tile).gatesFor p.iss.hh p.need (burstPieces p.view p.bstart p.blen) = none) (bad : Bool) :
    s.gateCheck tile p bad = ((s.lateWrite tile p).modTile tile (fun T => T.refuseBurst p), false) := by
  unfold State.gateCheck
  dsimp only
  rw [hb, hg, ha]
  rfl

/-- The access of a request that the NW port admits. -/
def State.nwAccessOf (s : State) (tile : Nat) (p : Packet) : Access :=
  { s.newAccess .nw p.view p.write p.place 64 (p.size / 64) p.qosNow p.data p.iss (.packet p.id) .atPort with
    demoted := p.demoted, l := p.l, since := s.paceNat tile }

theorem State.nwAccess_eq (s : State) (tile : Nat) (p : Packet) : s.nwAccess tile p =
    (s.takeId.modTile tile (fun T => { T with accs := T.accs ++ [s.nwAccessOf tile p] })).modPkt p.id (fun p => { p with loc := .served }) := rfl

theorem State.nwAccess_tile (s : State) (tile : Nat) (p : Packet) :
    (s.nwAccess tile p).tile tile = { s.tile tile with accs := (s.tile tile).accs ++ [s.nwAccessOf tile p] } := by
  change (s.takeId.modTile tile (fun T => { T with accs := T.accs ++ [s.nwAccessOf tile p] })).tile tile = _
  rw [State.modTile_tile, if_pos rfl]
  rfl

theorem State.nwAccess_served (hp : s.pkt id = some p) : ((s.nwAccess tile p).pkt id).map (·.loc) = some .served := by
  rw [State.nwAccess_eq, State.pkt_id hp, State.modPkt_pkt_self (f := fun p => { p with loc := .served }) (State.pkt_of_net (t :=
      s.takeId.modTile tile (fun T => { T with accs := T.accs ++ [s.nwAccessOf tile p] })) rfl hp) fun _ => rfl]
  rfl

theorem State.nwRequestOp_eq (s : State) (tile : Nat) (p : Packet) : s.nwRequestOp tile p =
    (let q := s.nwEntered tile p
     if !q.ready (tileDie tile) then (q.burstRefused tile p).refusePkt tile p .decerr
     else if (q.tile tile).quarantined .nw then (q.burstRefused tile p).refusePkt tile p .wdog
     else if (q.tile tile).reassignStopped then (q.burstRefused tile p).refusePkt tile p .gate
     else
       let bad := !alignOk .nw p.view p.place p.size p.write
       let c := q.gateCheck tile p bad
       if !c.2 then c.1.refusePkt tile p .gate
       else if bad then c.1.refusePkt tile p .align
       else c.1.nwAccess tile p) := rfl

/-! ## The request by its outcome -/

theorem State.exec_nwRequest (ht : s.hasTile tile = true) (hr : s.ready (tileDie tile) = true) (hp : s.pkt id = some p) (hg : p.target = .tile tile)
    (hl : p.loc = .arrived) (hn : p.resp = none) (hk : p.kind = .read ∨ p.kind = .write) (hf : s.nwFirst p = true) :
    exec (.nwRequest tile id) s = .next (s.nwRequestOp tile p) := by
  have banks : p.kind.atBanks = true := by obtain hk | hk := hk <;> rw [hk] <;> rfl
  refine (State.atTile_next ht (State.live_of_ready hr)).trans (congrArg Host.Outcome.next ?_)
  unfold State.nwArrive
  rw [hp]
  exact if_pos (by simp only [hg, hl, hn, banks, hf, beq_self_eq_true, Option.isNone_none, Bool.and_self])

/-- What every refusal before the gates leaves. -/
theorem State.burstRefused_outcome (hp : s.pkt id = some p) (hk : p.kind = .read ∨ p.kind = .write) (st : Status) :
    ((((s.nwEntered tile p).burstRefused tile p).refusePkt tile p st).pkt id).map (·.resp) = some (some st) ∧
      ((((s.nwEntered tile p).burstRefused tile p).refusePkt tile p st).tile tile).accs = (s.tile tile).accs := by
  obtain ⟨resp, same⟩ := State.refusePkt_outcome (tile := tile) hk
    (State.pkt_of_net ((State.burstRefused_net (s.nwEntered tile p) tile p).trans (s.nwEntered_net tile p)) hp) st
  exact ⟨resp, by rw [same, State.burstRefused_accs, State.nwEntered_value (f := Tile.accs) fun _ _ _ => rfl]⟩

theorem State.nwRequestOp_quarantined (hr : s.ready (tileDie tile) = true) (hq : (s.tile tile).quarantined .nw = true) :
    s.nwRequestOp tile p = ((s.nwEntered tile p).burstRefused tile p).refusePkt tile p .wdog := by
  rw [State.nwRequestOp_eq]
  exact (if_neg (by rw [State.nwEntered_ready, hr]; exact Bool.false_ne_true)).trans
    (if_pos ((State.nwEntered_value (f := fun T => T.quarantined .nw) (fun _ _ _ => rfl) s tile p).trans hq))

theorem State.nwRequestOp_stopped (hr : s.ready (tileDie tile) = true) (hq : (s.tile tile).quarantined .nw = false)
    (hs : (s.tile tile).reassignStopped = true) :
    s.nwRequestOp tile p = ((s.nwEntered tile p).burstRefused tile p).refusePkt tile p .gate := by
  rw [State.nwRequestOp_eq]
  refine (if_neg (by rw [State.nwEntered_ready, hr]; exact Bool.false_ne_true)).trans ((if_neg ?_).trans (if_pos ?_))
  · rw [State.nwEntered_value (f := fun T => T.quarantined .nw) fun _ _ _ => rfl, hq]
    exact Bool.false_ne_true
  · exact (State.nwEntered_value (f := fun T => T.reassignStopped) (fun _ _ _ => rfl) s tile p).trans hs

/-- The first request of a burst comes to its gates in the state as it stands. -/
theorem State.nwEntered_idle (ha : p.kind.alone = false) (h : ((s.tile tile).burstOf p).isNone = true) {α : Type} (f : Tile → α) :
    f ((s.nwEntered tile p).tile tile) = f (s.tile tile) := by
  unfold State.nwEntered
  split
  · rw [State.modTile_tile, if_pos rfl, Tile.cutShort_idle ha h]
  · rfl

theorem State.nwRequestOp_decided (hr : s.ready (tileDie tile) = true) (hq : (s.tile tile).quarantined .nw = false)
    (hs : (s.tile tile).reassignStopped = false) {c : State × Bool}
    (hc : (s.nwEntered tile p).gateCheck tile p (!alignOk .nw p.view p.place p.size p.write) = c) :
    s.nwRequestOp tile p = if !c.2 then c.1.refusePkt tile p .gate
      else if !alignOk .nw p.view p.place p.size p.write then c.1.refusePkt tile p .align else c.1.nwAccess tile p := by
  subst hc
  rw [State.nwRequestOp_eq]
  refine (if_neg (by rw [State.nwEntered_ready, hr]; exact Bool.false_ne_true)).trans ((if_neg ?_).trans (if_neg ?_))
  · rw [State.nwEntered_value (f := fun T => T.quarantined .nw) fun _ _ _ => rfl, hq]
    exact Bool.false_ne_true
  · rw [State.nwEntered_value (f := fun T => T.reassignStopped) fun _ _ _ => rfl, hs]
    exact Bool.false_ne_true

section
variable (hk : p.kind = .read ∨ p.kind = .write) (hp : s.pkt id = some p) (hr : s.ready (tileDie tile) = true)
  (hq : (s.tile tile).quarantined .nw = false) (hs : (s.tile tile).reassignStopped = false) (hb : ((s.tile tile).burstOf p).isNone = true)

theorem PKind.alone_plain {k : PKind} (hk : k = .read ∨ k = .write) : k.alone = false := by
  obtain rfl | rfl := hk <;> rfl

include hk hp hr hq hs hb

/-- A burst that its gates let in, whose request is aligned. -/
theorem State.nwRequestOp_admits (h : ∀ k, k < p.blen → ∃ g, (s.tile tile).admits p g k)
    (ha : alignOk .nw p.view p.place p.size p.write = true) :
    ∃ a : Access, ((s.nwRequestOp tile p).tile tile).accs = (s.tile tile).accs ++ [a] ∧ a.master = .nw ∧ a.stage = .atPort ∧
      a.dest = .packet id ∧ a.off = p.place ∧ a.write = p.write ∧ a.data = p.data ∧ a.iss = p.iss ∧
      ((s.nwRequestOp tile p).pkt id).map (·.loc) = some .served ∧
      ∀ g, g < 8 → ((s.tile tile).counts p g → (((s.nwRequestOp tile p).tile tile).gate g).bursts = ((s.tile tile).gate g).bursts + 1) ∧
        (¬(s.tile tile).counts p g → ((s.nwRequestOp tile p).tile tile).gate g = (s.tile tile).gate g) := by
  obtain ⟨gs, hgs, nodup, mem⟩ := Tile.gatesFor_burst hk h
  have idle {α : Type} (f : Tile → α) := State.nwEntered_idle (PKind.alone_plain hk) hb f
  have check := State.gateCheck_enters (PKind.alone_plain hk) ((idle fun T => T.burstOf p).trans (Option.isNone_iff_eq_none.mp hb))
    ((idle fun T => T.gatesFor p.iss.hh p.need (burstPieces p.view p.bstart p.blen)).trans hgs) (!alignOk .nw p.view p.place p.size p.write)
  have op := State.nwRequestOp_decided hr hq hs check
  rw [ha] at op
  have op := op.trans ((if_neg Bool.false_ne_true).trans (if_neg Bool.false_ne_true))
  have pkt := State.pkt_of_net (t := (s.nwEntered tile p).modTile tile (fun T => T.enterGates p gs p.blen)) (s.nwEntered_net tile p) hp
  have accs : (((s.nwEntered tile p).modTile tile (fun T => T.enterGates p gs p.blen)).tile tile).accs = (s.tile tile).accs := by
    rw [State.modTile_tile, if_pos rfl, Tile.enterGates_value (f := Tile.accs) fun _ _ _ => rfl, idle Tile.accs]
  have gate (g : Nat) : ((s.nwRequestOp tile p).tile tile).gate g =
      if g ∈ gs then { (s.tile tile).gate g with bursts := ((s.tile tile).gate g).bursts + 1 } else (s.tile tile).gate g := by
    rw [op, State.nwAccess_tile]
    change (((s.nwEntered tile p).modTile tile (fun T => T.enterGates p gs p.blen)).tile tile).gate g = _
    rw [State.modTile_tile, if_pos rfl]
    by_cases hz : p.blen = 0
    · have out : g ∉ gs := fun hg => by
        obtain ⟨k, hk', _⟩ := (mem g).mp hg
        omega
      rw [hz, if_neg out]
      exact idle fun T => T.gate g
    · rw [Tile.enterGates_gate nodup hz, idle fun T => T.gate g]
  refine ⟨((s.nwEntered tile p).modTile tile (fun T => T.enterGates p gs p.blen)).nwAccessOf tile p, ?_, rfl, rfl, ?_, rfl, rfl, rfl, rfl, ?_,
    fun g _ => ⟨fun hc => ?_, fun hc => ?_⟩⟩
  · rw [op, State.nwAccess_tile]
    exact congrArg (· ++ _) accs
  · exact congrArg Dest.packet (State.pkt_id hp)
  · rw [op]
    exact State.nwAccess_served pkt
  · rw [gate, if_pos ((mem g).mpr hc)]
  · rw [gate, if_neg fun hg => hc ((mem g).mp hg)]

/-- A misaligned request of a burst that its gates let in. -/
theorem State.nwRequestOp_misaligned (h : ∀ k, k < p.blen → ∃ g, (s.tile tile).admits p g k)
    (ha : alignOk .nw p.view p.place p.size p.write = false) :
    ((s.nwRequestOp tile p).pkt id).map (·.resp) = some (some .align) ∧ ((s.nwRequestOp tile p).tile tile).accs = (s.tile tile).accs := by
  obtain ⟨gs, hgs, -, -⟩ := Tile.gatesFor_burst hk h
  have idle {α : Type} (f : Tile → α) := State.nwEntered_idle (PKind.alone_plain hk) hb f
  have check := State.gateCheck_enters (PKind.alone_plain hk) ((idle fun T => T.burstOf p).trans (Option.isNone_iff_eq_none.mp hb))
    ((idle fun T => T.gatesFor p.iss.hh p.need (burstPieces p.view p.bstart p.blen)).trans hgs) (!alignOk .nw p.view p.place p.size p.write)
  have op := State.nwRequestOp_decided hr hq hs check
  rw [ha] at op
  rw [op.trans ((if_neg Bool.false_ne_true).trans (if_pos rfl))]
  obtain ⟨resp, same⟩ := State.refusePkt_outcome (tile := tile) hk (State.pkt_of_net
    (t := (s.nwEntered tile p).modTile tile (fun T => T.enterGates p gs (p.blen - if !false then p.size / 64 else 0))) (s.nwEntered_net tile p) hp) .align
  refine ⟨resp, ?_⟩
  rw [same, State.modTile_tile, if_pos rfl, Tile.enterGates_value (f := Tile.accs) (fun _ _ _ => rfl), idle Tile.accs]

/-- A burst of which some piece finds no gate. -/
theorem State.nwRequestOp_gate (h : ∃ k, k < p.blen ∧ ∀ g, ¬(s.tile tile).admits p g k) :
    ((s.nwRequestOp tile p).pkt id).map (·.resp) = some (some .gate) ∧ ((s.nwRequestOp tile p).tile tile).accs = (s.tile tile).accs ∧
      ((s.nwRequestOp tile p).tile tile).gates = (s.tile tile).gates := by
  have idle {α : Type} (f : Tile → α) := State.nwEntered_idle (PKind.alone_plain hk) hb f
  have check := State.gateCheck_refuses (PKind.alone_plain hk) ((idle fun T => T.burstOf p).trans (Option.isNone_iff_eq_none.mp hb))
    ((idle fun T => T.gatesFor p.iss.hh p.need (burstPieces p.view p.bstart p.blen)).trans (Tile.gatesFor_refused hk h))
    (!alignOk .nw p.view p.place p.size p.write)
  rw [(State.nwRequestOp_decided hr hq hs check).trans (if_pos rfl)]
  obtain ⟨resp, same⟩ := State.refusePkt_outcome (tile := tile) hk
    (State.pkt_of_net (t := ((s.nwEntered tile p).lateWrite tile p).modTile tile (fun T => T.refuseBurst p))
      ((State.lateWrite_net (s.nwEntered tile p) tile p).trans (s.nwEntered_net tile p)) hp) .gate
  refine ⟨resp, ?_, ?_⟩
  · rw [same, State.modTile_tile, if_pos rfl, Tile.refuseBurst_value (f := Tile.accs) (fun _ _ => rfl),
      State.lateWrite_value (f := Tile.accs) (fun _ _ _ => rfl), idle Tile.accs]
  · rw [same, State.modTile_tile, if_pos rfl, Tile.refuseBurst_value (f := Tile.gates) (fun _ _ => rfl),
      State.lateWrite_value (f := Tile.gates) (fun _ _ _ => rfl), idle Tile.gates]

end

/-! ## The writes that open and close a gate -/

variable {w : Src} {g : Nat} {v : Word}

/-- A write gives a gate the rights and the household that it has. -/
def Gate.same (G : Gate) (v : Word) : Prop := bit v 0 = G.r ∧ bit v 1 = G.w ∧ bits v 4 4 = G.hh.toNat

/-- The gate with the rights and the household of a write. -/
def Gate.given (G : Gate) (v : Word) : Gate := { G with r := bit v 0, w := bit v 1, hh := BitVec.ofNat 4 (bits v 4 4) }

theorem Gate.given_hh (G : Gate) (v : Word) : (G.given v).hh.toNat = bits v 4 4 := by
  change (BitVec.ofNat 4 (bits v 4 4)).toNat = _
  rw [BitVec.toNat_ofNat, Nat.mod_eq_of_lt (bits_lt_pow ..)]

theorem Gate.given_eq_iff {G : Gate} : G.given v = G ↔ G.same v := by
  constructor
  · intro h
    refine ⟨congrArg Gate.r h, congrArg Gate.w h, ?_⟩
    rw [← Gate.given_hh G v, h]
  · rintro ⟨hr, hw, hh⟩
    rw [Gate.given, hr, hw, hh, BitVec.ofNat_toNat, BitVec.setWidth_eq]

theorem Gate.given_open (G : Gate) (v : Word) {x : Nat} (hx : x < 2) : G.given (withField v 8 1 x) = G.given v := by
  have beside {k : Nat} (hk : k < 8) : bit (withField v 8 1 x) k = bit v k := by
    rw [bit_withField, bit_put_outside (x := x) (len := 1) hx (.inl hk), bit_put_outside (len := 1) (by decide) (.inl hk), Bool.not_false, Bool.and_true, Bool.or_false]
  unfold Gate.given
  rw [beside (by decide), beside (by decide), bits_withField_beside v hx (.inl (by decide))]

theorem bit_withField_eight (v : Word) {x : Nat} (hx : x < 2) : bit (withField v 8 1 x) 8 = (x == 1) := by
  have field : bits (withField v 8 1 x) 8 1 = x := bits_withField_self v hx (by decide)
  have := testBit_bits (withField v 8 1 x) 8 1 0
  rw [field] at this
  obtain rfl | rfl : x = 0 ∨ x = 1 := by omega
  · simpa using this.symm
  · simpa using this.symm

theorem State.gateOp_eq (hm : s.mayWrite .slgm w tile = true) : s.gateOp w tile g 2 v =
    (let G := (s.tile tile).gate g
     let set (H : Gate) : State × Status := (s.modTile tile (fun T => T.setGate g H), .ok)
     if G.isOpen || G.closing then
       if G.given v ≠ G then (s, .rearmBusy)
       else if G.closing then (if bit v 8 then (s, .rearmBusy) else (s, .ok))
       else if bit v 8 then (s, .ok)
       else if G.bursts = 0 then set { G with isOpen := false, closedDone := true }
       else set { G with isOpen := false, closing := true, since := s.paceNat tile }
     else if !bit v 8 then set (G.given v)
     else if 16384 < G.base.toNat + G.size.toNat then (s, .size)
     else set { G.given v with isOpen := true, closedDone := false, forced := false }) := by
  unfold State.gateOp
  exact if_neg (by rw [hm]; exact Bool.false_ne_true)

section
variable (hm : s.mayWrite .slgm w tile = true)
include hm

theorem State.gateOp_opens (ho : ((s.tile tile).gate g).isOpen = false) (hc : ((s.tile tile).gate g).closing = false) (hv : bit v 8 = true)
    (hz : ((s.tile tile).gate g).base.toNat + ((s.tile tile).gate g).size.toNat ≤ 16384) : s.gateOp w tile g 2 v =
    (s.modTile tile (fun T => T.setGate g { ((s.tile tile).gate g).given v with isOpen := true, closedDone := false, forced := false }), .ok) := by
  rw [State.gateOp_eq hm]
  exact (if_neg (by simp [ho, hc])).trans ((if_neg (by simp [hv])).trans (if_neg (Nat.not_lt.mpr hz)))

theorem State.gateOp_size (ho : ((s.tile tile).gate g).isOpen = false) (hc : ((s.tile tile).gate g).closing = false) (hv : bit v 8 = true)
    (hz : 16384 < ((s.tile tile).gate g).base.toNat + ((s.tile tile).gate g).size.toNat) : s.gateOp w tile g 2 v = (s, .size) := by
  rw [State.gateOp_eq hm]
  exact (if_neg (by simp [ho, hc])).trans ((if_neg (by simp [hv])).trans (if_pos hz))

theorem State.gateOp_other (hb : ((s.tile tile).gate g).isOpen = true ∨ ((s.tile tile).gate g).closing = true)
    (hs : ¬((s.tile tile).gate g).same v) : s.gateOp w tile g 2 v = (s, .rearmBusy) := by
  rw [State.gateOp_eq hm]
  exact (if_pos (by simp [hb])).trans (if_pos fun h => hs (Gate.given_eq_iff.mp h))

theorem State.gateOp_closing (hc : ((s.tile tile).gate g).closing = true) (hs : ((s.tile tile).gate g).same v) :
    s.gateOp w tile g 2 v = if bit v 8 then (s, .rearmBusy) else (s, .ok) := by
  rw [State.gateOp_eq hm]
  exact (if_pos (by simp [hc])).trans ((if_neg fun h => h (Gate.given_eq_iff.mpr hs)).trans (if_pos hc))

theorem State.gateOp_again (ho : ((s.tile tile).gate g).isOpen = true) (hc : ((s.tile tile).gate g).closing = false)
    (hs : ((s.tile tile).gate g).same v) (hv : bit v 8 = true) : s.gateOp w tile g 2 v = (s, .ok) := by
  rw [State.gateOp_eq hm]
  exact (if_pos (by simp [ho])).trans ((if_neg fun h => h (Gate.given_eq_iff.mpr hs)).trans
    ((if_neg (by simp [hc])).trans (if_pos hv)))

theorem State.gateOp_closes (ho : ((s.tile tile).gate g).isOpen = true) (hc : ((s.tile tile).gate g).closing = false)
    (hs : ((s.tile tile).gate g).same v) (hv : bit v 8 = false) : s.gateOp w tile g 2 v =
    (s.modTile tile (fun T => T.setGate g (if ((s.tile tile).gate g).bursts = 0 then
        { (s.tile tile).gate g with isOpen := false, closedDone := true }
      else { (s.tile tile).gate g with isOpen := false, closing := true, since := s.paceNat tile })), .ok) := by
  rw [State.gateOp_eq hm]
  refine (if_pos (by simp [ho])).trans ((if_neg fun h => h (Gate.given_eq_iff.mpr hs)).trans
    ((if_neg (by simp [hc])).trans ((if_neg (by simp [hv])).trans ?_)))
  split <;> rfl

end

theorem State.exec_gateOpen (hg : g < 8) (h : s.tileTakes w tile (0x108 + 0x10 * g) (withField v 8 1 1)) {t : State} {st : Status}
    (ho : s.gateOp w tile g 2 (withField v 8 1 1) = (t, st)) :
    exec (.gateOpen w tile g v) s = .next (s.answered t w tile (0x108 + 0x10 * g) (withField v 8 1 1) st) :=
  (if_pos (decide_eq_true hg)).trans (State.tileReg_now_of_eq h ho)

theorem State.exec_gateClose (hg : g < 8) (h : s.tileTakes w tile (0x108 + 0x10 * g) (withField v 8 1 0)) {t : State} {st : Status}
    (ho : s.gateOp w tile g 2 (withField v 8 1 0) = (t, st)) :
    exec (.gateClose w tile g v) s = .next (s.answered t w tile (0x108 + 0x10 * g) (withField v 8 1 0) st) :=
  (if_pos (decide_eq_true hg)).trans (State.tileReg_now_of_eq h ho)

theorem Gate.same_open {G : Gate} {x : Nat} (hx : x < 2) : G.same (withField v 8 1 x) ↔ G.same v := by
  rw [← Gate.given_eq_iff, Gate.given_open G v hx, Gate.given_eq_iff]

/-- A gate opens with the rights and the household of the write. -/
theorem State.gateOpen_outcome (hm : s.mayWrite .slgm w tile = true) (hg : g < 8)
    (h : s.tileTakes w tile (0x108 + 0x10 * g) (withField v 8 1 1)) (ho : ((s.tile tile).gate g).isOpen = false)
    (hc : ((s.tile tile).gate g).closing = false) (hz : ((s.tile tile).gate g).base.toNat + ((s.tile tile).gate g).size.toNat ≤ 16384) :
    ∃ t : State, exec (.gateOpen w tile g v) s = .next (s.answered t w tile (0x108 + 0x10 * g) (withField v 8 1 1) .ok) ∧ t.net = s.net ∧
      t.out = s.out ∧ ((t.tile tile).gate g).isOpen = true ∧ ((t.tile tile).gate g).r = bit v 0 ∧ ((t.tile tile).gate g).w = bit v 1 ∧
      ((t.tile tile).gate g).hh.toNat = bits v 4 4 ∧ ((t.tile tile).gate g).base = ((s.tile tile).gate g).base ∧
      ((t.tile tile).gate g).size = ((s.tile tile).gate g).size ∧ ((t.tile tile).gate g).closedDone = false ∧
      ((t.tile tile).gate g).forced = false ∧ ∀ k, k ≠ g → (t.tile tile).gate k = (s.tile tile).gate k := by
  have op := State.gateOp_opens hm ho hc (v := withField v 8 1 1) (bit_withField_eight v (by decide)) hz
  rw [Gate.given_open _ v (by decide)] at op
  refine ⟨_, State.exec_gateOpen hg h op, rfl, rfl, ?_⟩
  rw [State.modTile_tile, if_pos rfl]
  refine ⟨?_, ?_, ?_, ?_, ?_, ?_, ?_, ?_, fun k hk => by rw [Tile.setGate_gate, if_neg (Ne.symm hk)]⟩ <;> rw [Tile.setGate_gate, if_pos rfl]
  · rfl
  · rfl
  · exact Gate.given_hh ((s.tile tile).gate g) v
  · rfl
  · rfl

/-! ## A gate that is closing -/

theorem State.exec_gateForcedClose (ht : s.hasTile tile = true) (hl : s.live (tileDie tile) = true) (hg : g < 8) {t : State}
    (h : s.gateForced tile g = t) : exec (.gateForcedClose tile g) s = .next t :=
  (if_pos (decide_eq_true hg)).trans ((State.atTile_next ht hl).trans (congrArg Host.Outcome.next h))

theorem State.gateForced_late (hc : ((s.tile tile).gate g).closing = true)
    (h : s.paceOver tile ((s.tile tile).gate g).since (s.tile tile).wdog.toNat = true) : s.gateForced tile g = s.modTile tile (fun T =>
      { T.setGate g { (s.tile tile).gate g with closing := false, closedDone := true, forced := true } with
        bursts := T.bursts.map (fun b => if b.gates.contains g then { b with cut := true } else b) }) := by
  unfold State.gateForced
  exact if_neg (by simp [hc, h])

/-- Settles O60: the request at the NW port by what its gates decide, the gate writes, and the end of a gate's drain. -/
theorem gates : Obligations.Gates := by
  refine ⟨fun s tile id p ht hr hp hg hl hn hk hf => ?_, fun s w tile g v hm hg => ⟨fun h => ⟨?_, ?_, ?_, ?_⟩, fun h => ⟨?_, ?_, ?_⟩⟩,
    fun s tile g ht hl hg hc => ⟨?_, fun h => ?_, fun h => ?_⟩⟩
  · have run := State.exec_nwRequest ht hr hp hg hl hn hk hf
    refine ⟨fun hq => ?_, fun hq hs => ?_, fun hq hs hb => ⟨fun h ha => ?_, fun h ha => ?_, fun h => ?_⟩⟩
    · exact ⟨_, run.trans (congrArg Host.Outcome.next (State.nwRequestOp_quarantined hr hq)), State.burstRefused_outcome hp hk .wdog⟩
    · exact ⟨_, run.trans (congrArg Host.Outcome.next (State.nwRequestOp_stopped hr hq hs)), State.burstRefused_outcome hp hk .gate⟩
    · obtain ⟨a, out⟩ := State.nwRequestOp_admits hk hp hr hq hs hb h ha
      exact ⟨_, a, run, out⟩
    · exact ⟨_, run, State.nwRequestOp_misaligned hk hp hr hq hs hb h ha⟩
    · exact ⟨_, run, State.nwRequestOp_gate hk hp hr hq hs hb h⟩
  · exact fun ho hc hz => State.gateOpen_outcome hm hg h ho hc hz
  · exact fun ho hc hz => State.exec_gateOpen hg h (State.gateOp_size hm ho hc (bit_withField_eight v (by decide)) hz)
  · rintro hb (hs | hc)
    · exact State.exec_gateOpen hg h (State.gateOp_other hm hb fun k => hs ((Gate.same_open (by decide)).mp k))
    · by_cases hs : ((s.tile tile).gate g).same (withField v 8 1 1)
      · exact State.exec_gateOpen hg h ((State.gateOp_closing hm hc hs).trans (if_pos (bit_withField_eight v (by decide))))
      · exact State.exec_gateOpen hg h (State.gateOp_other hm hb hs)
  · exact fun ho hc hs => State.exec_gateOpen hg h
      (State.gateOp_again hm ho hc ((Gate.same_open (by decide)).mpr hs) (bit_withField_eight v (by decide)))
  · exact fun ho hc hs => State.exec_gateClose hg h
      (State.gateOp_closes hm ho hc ((Gate.same_open (by decide)).mpr hs) (bit_withField_eight v (by decide)))
  · exact fun hc hs => State.exec_gateClose hg h ((State.gateOp_closing hm hc ((Gate.same_open (by decide)).mpr hs)).trans
      (if_neg (by rw [bit_withField_eight v (by decide)]; decide)))
  · exact fun hb hs => State.exec_gateClose hg h (State.gateOp_other hm hb fun k => hs ((Gate.same_open (by decide)).mp k))
  · refine (if_pos (decide_eq_true hg)).trans ((State.atTile_next ht hl).trans (congrArg Host.Outcome.next ?_))
    unfold State.gateDrained
    simp only [hc, Bool.true_and, beq_iff_eq]
  · refine State.exec_gateForcedClose ht hl hg ?_
    unfold State.gateForced
    exact if_pos (by simp [h])
  · refine ⟨_, State.exec_gateForcedClose ht hl hg (State.gateForced_late hc h), ?_⟩
    rw [State.modTile_tile, if_pos rfl]
    have gate : ((s.tile tile).setGate g { (s.tile tile).gate g with closing := false, closedDone := true, forced := true }).gate g =
        { (s.tile tile).gate g with closing := false, closedDone := true, forced := true } := by rw [Tile.setGate_gate, if_pos rfl]
    refine ⟨congrArg Gate.closing gate, congrArg Gate.closedDone gate, congrArg Gate.forced gate, List.length_map .., fun b hb hgb => ?_⟩
    obtain ⟨c, _, rfl⟩ := List.mem_map.mp hb
    by_cases hin : c.gates.contains g = true
    · rw [if_pos hin]
    · rw [if_neg hin] at hgb
      exact absurd (List.contains_iff_mem.mpr hgb) hin

end Sys2Proof.Machine
end

section
/-!
Link training, and what a bridge port sends and accepts (spec/07_external_bridges.md R243 to R247, R250): the first parts of O59.
-/

namespace Sys2Proof.Machine

variable {s : State} {d port : Nat}

/-! ## The ends of a link -/

theorem peer_lt {n p : Nat} (h : p < 8) : (peer n d p).2 < 8 := by
  unfold peer
  split
  · exact Nat.add_lt_add_right ‹_› 4
  · exact lt_of_le_of_lt (Nat.sub_le p 4) h

/-- The other end of a link is another bridge port. -/
theorem peer_port_ne (n d p : Nat) : (peer n d p).2 ≠ p := by
  unfold peer
  split <;> dsimp only <;> omega

theorem bit_setBit_self {n k : Nat} (w : BitVec n) (hk : k < n) (b : Bool) : bit (setBit w k b) k = b := by
  cases b with
  | true => exact (bit_setBit_true w k hk).mpr (.inl rfl)
  | false => exact bit_setBit_false w k

theorem bit_setBit_keeps {n k j : Nat} {w : BitVec n} (b : Bool) (hj : j < n) (h : bit w j = b) : bit (setBit w k b) j = b := by
  cases b with
  | true => exact (bit_setBit_true w k hj).mpr (.inr h)
  | false =>
    rw [bit] at h
    simp [bit, setBit, h]

/-- What a slice's register of records does not hold. -/
def Slice.RecordFree {α : Type} (f : Slice → α) : Prop :=
  ∀ (S : Slice) sev rou room, f { S with holdSev := sev, holdRou := rou, noRoom := room } = f S

theorem Slice.holdRecord_value {α : Type} {f : Slice → α} (hf : Slice.RecordFree f) (S : Slice) (r : BookRec) : f (S.holdRecord r) = f S := by
  unfold Slice.holdRecord
  cases severe r.type with
  | true =>
    rw [if_pos rfl, if_pos rfl]
    split
    · exact hf S S.holdSev S.holdRou _
    · exact hf S _ S.holdRou S.noRoom
  | false =>
    rw [if_neg Bool.false_ne_true, if_neg Bool.false_ne_true]
    split
    · exact hf S S.holdSev S.holdRou _
    · exact hf S S.holdSev _ S.noRoom

theorem State.record_value {α : Type} {f : Slice → α} (hf : Slice.RecordFree f) (s : State) (d type tile e : Nat) (det : BitVec 352) :
    f ((s.record d type tile det).slice e) = f (s.slice e) := by
  rw [State.record_slice]
  split
  · next h => exact (Slice.holdRecord_value hf _ _).trans (congrArg (fun e => f (s.slice e)) h)
  · rfl

/-- A slice with LINKUP of a port as given, its training at an end. -/
def Slice.linkSet (S : Slice) (port : Nat) (up : Bool) : Slice :=
  { S with linkUp := setBit S.linkUp port up, linkTrain := setBit S.linkTrain port false }

theorem State.linkState_value {α : Type} {f : Slice → α} (hf : Slice.RecordFree f) (s : State) (d port : Nat) (up : Bool) (ev e : Nat) :
    f ((s.linkState d port up ev).slice e) = f (if d = e then (s.slice d).linkSet port up else s.slice e) := by
  unfold State.linkState
  dsimp only
  split
  · rw [State.record_value hf, State.modSlice_slice]
    rfl
  · rw [State.modSlice_slice]
    rfl

theorem State.linkState_up (hp : port < 8) (up : Bool) (ev : Nat) : bit ((s.linkState d port up ev).slice d).linkUp port = up := by
  rw [State.linkState_value (f := Slice.linkUp) fun _ _ _ _ => rfl, if_pos rfl]
  exact bit_setBit_self _ hp up

theorem State.linkState_up_keeps {e k ev : Nat} {up : Bool} (hp : port < 8) (h : bit (s.slice d).linkUp port = up) :
    bit ((s.linkState e k up ev).slice d).linkUp port = up := by
  rw [State.linkState_value (f := Slice.linkUp) fun _ _ _ _ => rfl]
  split
  · next he =>
    subst he
    exact bit_setBit_keeps up hp h
  · exact h

theorem State.linkState_train (up : Bool) (ev : Nat) : bit ((s.linkState d port up ev).slice d).linkTrain port = false := by
  rw [State.linkState_value (f := Slice.linkTrain) fun _ _ _ _ => rfl, if_pos rfl]
  exact bit_setBit_false _ _

theorem State.linkState_train_keeps {e k ev : Nat} {up : Bool} (hp : port < 8) (h : bit (s.slice d).linkTrain port = false) :
    bit ((s.linkState e k up ev).slice d).linkTrain port = false := by
  rw [State.linkState_value (f := Slice.linkTrain) fun _ _ _ _ => rfl]
  split
  · next he =>
    subst he
    exact bit_setBit_keeps false hp h
  · exact h

/-- Training of a port ends: the link is up at both ends, or is not up. -/
theorem State.trainedOp_outcome {up : Bool} (hp : port < 8) (ht : bit (s.slice d).linkTrain port = true) :
    let q := peer s.dies d port
    let comes : Prop := up = true ∧ (s.slice q.1).power = true ∧ 1 ≤ (s.slice q.1).step
    bit ((s.trainedOp d port up).slice d).linkTrain port = false ∧
      (comes → bit ((s.trainedOp d port up).slice d).linkUp port = true ∧ bit ((s.trainedOp d port up).slice q.1).linkUp q.2 = true) ∧
      (¬comes → bit ((s.trainedOp d port up).slice d).linkUp port = false) := by
  intro q comes
  have first : ¬((decide (8 ≤ port) || !bit (s.slice d).linkTrain port) = true) := by simp [ht, hp]
  by_cases hc : comes
  · have op : s.trainedOp d port up = (s.linkState d port true 0).linkState q.1 q.2 true 0 := by
      unfold State.trainedOp
      exact (if_neg first).trans (if_pos (by simpa [and_assoc] using hc))
    rw [op]
    exact ⟨State.linkState_train_keeps hp (State.linkState_train true 0), fun _ => ⟨State.linkState_up_keeps hp (State.linkState_up hp true 0),
      State.linkState_up (peer_lt hp) true 0⟩, fun h => absurd hc h⟩
  · have op : s.trainedOp d port up = if bit (s.slice q.1).linkTrain q.2 then (s.linkState d port false 1).linkState q.1 q.2 false 1
        else s.linkState d port false 1 := by
      unfold State.trainedOp
      refine (if_neg first).trans (if_neg fun h => hc ?_)
      simpa [and_assoc] using h
    rw [op]
    split
    · exact ⟨State.linkState_train_keeps hp (State.linkState_train false 1), fun h => absurd h hc,
        fun _ => State.linkState_up_keeps hp (State.linkState_up hp false 1)⟩
    · exact ⟨State.linkState_train false 1, fun h => absurd h hc, fun _ => State.linkState_up hp false 1⟩

/-! ## A bridge port -/

theorem State.modBridge_bridge (s : State) (d p : Nat) (f : Bridge → Bridge) (e k : Nat) :
    (s.modBridge d p f).bridge e k = if d = e ∧ p = k then f (s.bridge d p) else s.bridge e k := by
  rw [State.bridge, State.modBridge, State.modSlice_slice]
  by_cases he : d = e
  · subst he
    rw [if_pos rfl]
    refine (Tbl.get_set ..).trans ?_
    by_cases hk : p = k
    · rw [if_pos hk, if_pos ⟨rfl, hk⟩]
      rfl
    · rw [if_neg hk, if_neg fun h => hk h.2]
      rfl
  · rw [if_neg he, if_neg fun h => he h.1]
    rfl

theorem State.bridge_of_slice {t : State} (h : ∀ e, t.slice e = s.slice e) (e k : Nat) : t.bridge e k = s.bridge e k := by
  rw [State.bridge, h]
  rfl

theorem mem_pickEntries {n : Nat} {l : List Packet} {p : Packet} (h : p ∈ pickEntries n l) : p ∈ l := by
  induction n generalizing l with
  | zero => exact absurd h List.not_mem_nil
  | succ n ih =>
    rw [pickEntries] at h
    split at h
    · exact absurd h List.not_mem_nil
    · next a ha =>
      obtain rfl | h := List.mem_cons.mp h
      · obtain ⟨x, i⟩ := a
        have mem := (List.mem_filter.mp (argMin_eq_some ha).1).1
        exact (List.mem_zipIdx' mem).2 ▸ List.getElem_mem _
      · exact List.mem_of_mem_eraseIdx (ih h)

theorem pickEntries_length (n : Nat) (l : List Packet) : (pickEntries n l).length ≤ n := by
  induction n generalizing l with
  | zero => exact le_rfl
  | succ n ih =>
    rw [pickEntries]
    split
    · exact Nat.zero_le _
    · exact Nat.succ_le_succ (ih _)

/-- The oldest entry that waits follows no other: some entry may be sent. -/
theorem pickEntries_ne_nil {n : Nat} {l : List Packet} (hn : n ≠ 0) (hl : l ≠ []) : pickEntries n l ≠ [] := by
  obtain ⟨n, rfl⟩ := Nat.exists_eq_succ_of_ne_zero hn
  obtain ⟨p, l, rfl⟩ := List.exists_cons_of_ne_nil hl
  rw [pickEntries]
  split
  · next h => exact absurd (argMin_eq_none h) (by simp)
  · exact List.cons_ne_nil _ _

/-- A port puts a stripe on its link. -/
def State.stripeOut (s : State) (d port : Nat) (x : Stripe) (due queue : List Nat) : State :=
  ({ s with net := updWhere (fun p => x.entries.contains p.id) (fun p => { p with loc := .wire d port, l := p.l || (s.slice d).lpActive }) s.net } :
    State).modBridge d port (fun B =>
      { B with nextSeq := (B.nextSeq + 1) % 256, slots := B.slots ++ [x], wire := B.wire ++ [x], dataDue := due, queue := queue })

/-- The next stripe of a port with the entries given. -/
def Bridge.stripe (B : Bridge) (k : StripeKind) (ids : List Nat) : Stripe :=
  { kind := k, seq := B.nextSeq, entries := ids, retried := false, ack := B.expect, nak := B.nak }

/-- Entries take link tags. -/
def State.tagged (s : State) (l : List (Nat × Nat)) : State := l.foldl (fun s q => s.modPkt q.1 (fun p => { p with ltag := q.2 })) s

theorem State.tagged_slice (s : State) (l : List (Nat × Nat)) (e : Nat) : (s.tagged l).slice e = s.slice e :=
  foldl_eq (g := fun (s : State) (q : Nat × Nat) => s.modPkt q.1 (fun p => { p with ltag := q.2 })) (fun s : State => s.slice e) (fun _ _ => rfl) l s

theorem State.stripeOut_bridge (s : State) (d port : Nat) (x : Stripe) (due queue : List Nat) :
    (s.stripeOut d port x due queue).bridge d port = { s.bridge d port with
      nextSeq := ((s.bridge d port).nextSeq + 1) % 256, slots := (s.bridge d port).slots ++ [x], wire := (s.bridge d port).wire ++ [x],
      dataDue := due, queue := queue } :=
  (State.modBridge_bridge ..).trans (if_pos ⟨rfl, rfl⟩)

section
variable (hu : bit (s.slice d).linkUp port = true) (hf : (s.bridge d port).slots.length < 16)
include hu hf

theorem State.stripeSendOp_data {i : Nat} {l : List Nat} (h : (s.bridge d port).dataDue = i :: l) :
    s.stripeSendOp d port = s.stripeOut d port ((s.bridge d port).stripe .data [i]) l (s.bridge d port).queue := by
  unfold State.stripeSendOp
  dsimp only
  rw [if_neg (by simp [hu, hf]), h]
  rfl

theorem State.stripeSendOp_command (h : (s.bridge d port).dataDue = []) {l : List Packet}
    (hl : pickEntries 16 ((s.bridge d port).queue.filterMap s.pkt) = l) (hn : l ≠ []) :
    s.stripeSendOp d port = (s.tagged ((l.map (·.id)).zip (freeTags (s.tagsUsed (s.bridge d port)) (l.map (·.id)).length))).stripeOut d port
      ((s.bridge d port).stripe .command (l.map (·.id))) ((l.filter Packet.hasData).map (·.id))
      ((s.bridge d port).queue.filter (fun k => !(l.map (·.id)).contains k)) := by
  subst hl
  unfold State.stripeSendOp
  dsimp only
  rw [if_neg (by simp [hu, hf]), h]
  dsimp only
  rw [if_neg (by rwa [List.isEmpty_iff])]
  rfl

theorem State.stripeSendOp_command_outcome (h : (s.bridge d port).dataDue = []) {i : Nat} (hi : i ∈ (s.bridge d port).queue)
    (hp : (s.pkt i).isSome = true) :
    ∃ x : Stripe, x.kind = .command ∧ x.entries ≠ [] ∧ x.entries.length ≤ 16 ∧
      (∀ j, j ∈ x.entries → j ∈ (s.bridge d port).queue ∧ j ∉ ((s.stripeSendOp d port).bridge d port).queue) ∧
      x.seq = (s.bridge d port).nextSeq ∧ x.ack = (s.bridge d port).expect ∧ x.nak = (s.bridge d port).nak ∧
      ((s.stripeSendOp d port).bridge d port).wire = (s.bridge d port).wire ++ [x] ∧
      ((s.stripeSendOp d port).bridge d port).slots = (s.bridge d port).slots ++ [x] ∧
      ((s.stripeSendOp d port).bridge d port).nextSeq = ((s.bridge d port).nextSeq + 1) % 256 := by
  obtain ⟨p, hip⟩ := Option.isSome_iff_exists.mp hp
  have some_waits : pickEntries 16 ((s.bridge d port).queue.filterMap s.pkt) ≠ [] :=
    pickEntries_ne_nil (by decide) (List.ne_nil_of_mem (List.mem_filterMap.mpr ⟨i, hi, hip⟩))
  have op := State.stripeSendOp_command hu hf h rfl some_waits
  have waits : ∀ j, j ∈ (pickEntries 16 ((s.bridge d port).queue.filterMap s.pkt)).map (·.id) → j ∈ (s.bridge d port).queue := by
    intro j hj
    obtain ⟨p, hp, rfl⟩ := List.mem_map.mp hj
    obtain ⟨k, hk, hkp⟩ := List.mem_filterMap.mp (mem_pickEntries hp)
    rwa [State.pkt_id hkp]
  have same := State.bridge_of_slice (State.tagged_slice s ((((pickEntries 16 ((s.bridge d port).queue.filterMap s.pkt)).map (·.id)).zip
    (freeTags (s.tagsUsed (s.bridge d port)) ((pickEntries 16 ((s.bridge d port).queue.filterMap s.pkt)).map (·.id)).length)))) d port
  refine ⟨(s.bridge d port).stripe .command ((pickEntries 16 ((s.bridge d port).queue.filterMap s.pkt)).map Packet.id), rfl, ?_, ?_,
    fun j hj => ⟨waits j hj, ?_⟩, rfl, rfl, rfl, ?_, ?_, ?_⟩
  · exact fun e => some_waits (List.map_eq_nil_iff.mp e)
  · exact (List.length_map ..).trans_le (pickEntries_length 16 _)
  · rw [op, State.stripeOut_bridge]
    intro hm
    have out := (List.mem_filter.mp hm).2
    rw [Bool.not_eq_true'] at out
    exact Bool.false_ne_true (out.symm.trans (List.contains_iff_mem.mpr hj))
  all_goals rw [op, State.stripeOut_bridge, same]

end

end Sys2Proof.Machine
end

section
/-!
Stripes received, acknowledged and sent again, and links that go down (spec/07_external_bridges.md R244 to R248): the middle parts of O59.
-/

namespace Sys2Proof.Machine

variable {s : State} {d port : Nat} {x : Stripe} {i : Nat} {p : Packet}

/-! ## An entry comes out of its link -/

/-- What an accepted stripe does with one of its entries. -/
def State.acceptEntry (s : State) (d port : Nat) (x : Stripe) (id : Nat) : State :=
  match s.pkt id with
  | none => s
  | some p =>
    match x.kind with
    | .command => if p.hasData then s else s.crossed d port id
    | .data => s.crossed d port id
    | .idle => s
    | .failed =>
      if p.kind = .notice then s.dropPkt id
      else if p.resp.isNone then s.answerAt d id .crc []
      else (s.crossed d port id).modPkt id (fun p => { p with resp := some .crc, data := [] })

theorem State.acceptStripe_eq (s : State) (d port : Nat) (x : Stripe) :
    s.acceptStripe d port x = x.entries.foldl (fun s id => s.acceptEntry d port x id) s := rfl

theorem State.dropPkt_slice (s : State) (i e : Nat) : (s.dropPkt i).slice e = s.slice e := rfl

theorem State.dropPkt_pkt_self (s : State) (i : Nat) : (s.dropPkt i).pkt i = none := by
  rw [State.pkt, State.dropPkt, List.find?_eq_none]
  intro p hp
  simpa using (List.mem_filter.mp hp).2

theorem State.dropPkt_pkt_other (s : State) {i j : Nat} (h : j ≠ i) : (s.dropPkt j).pkt i = s.pkt i := by
  rw [State.pkt, State.dropPkt, List.find?_filter]
  refine congrArg (fun q => s.net.find? q) (funext fun p => ?_)
  by_cases hp : p.id = i
  · simp [hp, h.symm]
  · simp [hp]

theorem State.modPkt_pkt_other (s : State) {f : Packet → Packet} (hf : ∀ p, (f p).id = p.id) {i j : Nat} (h : j ≠ i) :
    (s.modPkt j f).pkt i = s.pkt i := by
  rw [State.modPkt_pkt s j hf]
  cases hp : s.pkt i with
  | none => rfl
  | some p => rw [Option.map_some, if_neg (by rw [State.pkt_id hp]; simpa using h.symm)]

theorem State.move_pkt_other (s : State) {i j : Nat} (l : Loc) (h : j ≠ i) : (s.move j l).pkt i = s.pkt i :=
  State.modPkt_pkt_other s (fun _ => by rfl) h

theorem State.answerAt_pkt_other (s : State) (d : Nat) (st : Status) (data : List RowData) {i j : Nat} (h : j ≠ i) :
    (s.answerAt d j st data).pkt i = s.pkt i :=
  (State.move_pkt_other _ _ h).trans (State.modPkt_pkt_other s (fun _ => by rfl) h)

theorem State.answerAt_at (hp : s.pkt i = some p) (d : Nat) (st : Status) (data : List RowData) :
    ∃ k : Packet, (s.answerAt d i st data).pkt i = some k ∧ k.loc = .matrix d ∧ k.resp = some st ∧ k.kind = p.kind :=
  ⟨_, State.move_pkt (State.modPkt_pkt_self hp fun _ => by rfl) _, rfl, rfl, rfl⟩

theorem State.crossed_pkt_other (s : State) (d port : Nat) {i j : Nat} (h : j ≠ i) : (s.crossed d port j).pkt i = s.pkt i := by
  unfold State.crossed
  split
  · rfl
  · split
    · exact State.dropPkt_pkt_other _ h
    · exact (State.move_pkt_other _ _ h).trans (State.modPkt_pkt_other s (fun _ => by rfl) h)

/-- A reset notice for this slice ends here. -/
theorem State.crossed_notice (hp : s.pkt i = some p) (hk : p.kind = .notice) (hd : p.destDie = d) :
    (s.crossed d port i).pkt i = none ∧ p.iss.tile ∈ ((s.crossed d port i).slice d).noticeIn := by
  have op : s.crossed d port i =
      (s.modSlice d (fun S => { S with noticeIn := S.noticeIn.filter (fun c => c != p.iss.tile) ++ [p.iss.tile] })).dropPkt i := by
    unfold State.crossed
    rw [hp]
    exact if_pos ⟨hk, hd⟩
  rw [op]
  refine ⟨State.dropPkt_pkt_self _ i, ?_⟩
  rw [State.dropPkt_slice, State.modSlice_slice, if_pos rfl]
  exact List.mem_append_right _ List.mem_cons_self

/-- Any other packet waits at the matrix. -/
theorem State.crossed_waits (hp : s.pkt i = some p) (h : ¬(p.kind = .notice ∧ p.destDie = d)) :
    ∃ k : Packet, (s.crossed d port i).pkt i = some k ∧ k.loc = .matrix d ∧ k.port = 72 + port ∧ k.resp = p.resp ∧ k.kind = p.kind ∧
      k.destDie = p.destDie ∧ k.hasData = p.hasData := by
  have op : s.crossed d port i = (s.modPkt i (fun p => { p with port := 72 + port, l := p.l || (s.slice d).lpActive })).move i (.matrix d) := by
    unfold State.crossed
    rw [hp]
    exact if_neg h
  rw [op]
  exact ⟨_, State.move_pkt (State.modPkt_pkt_self hp fun _ => by rfl) _, rfl, rfl, rfl, rfl, rfl, rfl⟩

theorem State.crossed_mem_noticeIn {c : Nat} (j : Nat) (h : c ∈ (s.slice d).noticeIn) : c ∈ ((s.crossed d port j).slice d).noticeIn := by
  unfold State.crossed
  split
  · exact h
  · next q hq =>
    split
    · rw [State.dropPkt_slice, State.modSlice_slice, if_pos rfl]
      by_cases hc : c = q.iss.tile
      · exact List.mem_append_right _ (hc ▸ List.mem_cons_self)
      · exact List.mem_append_left _ (List.mem_filter.mpr ⟨h, by simpa using hc⟩)
    · exact h

theorem State.crossed_bridge (s : State) (d port j e k : Nat) : (s.crossed d port j).bridge e k = s.bridge e k := by
  unfold State.crossed
  split
  · rfl
  · split
    · rw [State.bridge, State.dropPkt_slice, State.modSlice_slice]
      split
      · next h =>
        subst h
        rfl
      · rfl
    · rfl

theorem State.acceptEntry_pkt_other (s : State) (d port : Nat) (x : Stripe) {i j : Nat} (h : j ≠ i) :
    (s.acceptEntry d port x j).pkt i = s.pkt i := by
  unfold State.acceptEntry
  split
  · rfl
  · split
    · split
      · rfl
      · exact State.crossed_pkt_other s d port h
    · exact State.crossed_pkt_other s d port h
    · rfl
    · split
      · exact State.dropPkt_pkt_other s h
      · split
        · exact State.answerAt_pkt_other s d _ _ h
        · exact (State.modPkt_pkt_other _ (fun _ => by rfl) h).trans (State.crossed_pkt_other s d port h)

theorem State.acceptEntry_mem_noticeIn {c : Nat} (j : Nat) (h : c ∈ (s.slice d).noticeIn) :
    c ∈ ((s.acceptEntry d port x j).slice d).noticeIn := by
  unfold State.acceptEntry
  split
  · exact h
  · split
    · split
      · exact h
      · exact State.crossed_mem_noticeIn j h
    · exact State.crossed_mem_noticeIn j h
    · exact h
    · split
      · exact h
      · split
        · exact h
        · exact State.crossed_mem_noticeIn (port := port) j h

theorem State.acceptEntry_bridge (s : State) (d port : Nat) (x : Stripe) (j e k : Nat) : (s.acceptEntry d port x j).bridge e k = s.bridge e k := by
  unfold State.acceptEntry
  split
  · rfl
  · split
    · split
      · rfl
      · exact State.crossed_bridge ..
    · exact State.crossed_bridge ..
    · rfl
    · split
      · rfl
      · split
        · rfl
        · exact State.crossed_bridge s d port j e k

theorem State.acceptStripe_bridge (s : State) (d port : Nat) (x : Stripe) (e k : Nat) : (s.acceptStripe d port x).bridge e k = s.bridge e k :=
  foldl_eq (fun s : State => s.bridge e k) (fun s j => State.acceptEntry_bridge s d port x j e k) x.entries s

/-- An entry that its stripe brings, alone or behind its data, crosses. -/
theorem State.acceptEntry_crosses (hp : s.pkt i = some p) (hx : x.kind = .data ∨ x.kind = .command ∧ p.hasData = false) :
    s.acceptEntry d port x i = s.crossed d port i := by
  unfold State.acceptEntry
  rw [hp]
  dsimp only
  obtain hx | ⟨hx, hd⟩ := hx <;> rw [hx]
  exact if_neg (by rw [hd]; exact Bool.false_ne_true)

/-- A fold reaches what the step at `i` makes of a state, and keeps it. -/
theorem foldl_reaches {σ : Type} {P Q : σ → Prop} {g : σ → Nat → σ} (other : ∀ t j, j ≠ i → P t → P (g t j)) (here : ∀ t, P t → Q (g t i))
    (keeps : ∀ t j, Q t → Q (g t j)) : ∀ {l : List Nat} {t : σ}, i ∈ l → P t → Q (l.foldl g t)
  | j :: l, t, hi, hP => by
    rw [List.foldl_cons]
    by_cases hj : j = i
    · subst hj
      have kept : ∀ (l : List Nat) (t : σ), Q t → Q (l.foldl g t) := fun l => by
        induction l with
        | nil => exact fun t h => h
        | cons k l ih => exact fun t h => ih _ (keeps t k h)
      exact kept l _ (here t hP)
    · exact foldl_reaches other here keeps ((List.mem_cons.mp hi).resolve_left (Ne.symm hj)) (other t j hj hP)

/-- The packet waits at the matrix of `d`, come out of the link at `port`. -/
def State.came (t : State) (d port i : Nat) (p : Packet) : Prop :=
  ∃ k : Packet, t.pkt i = some k ∧ k.loc = .matrix d ∧ k.port = 72 + port ∧ k.resp = p.resp ∧ k.kind = p.kind ∧ k.destDie = p.destDie ∧
    k.hasData = p.hasData

section
variable (hi : i ∈ x.entries) (hp : s.pkt i = some p)
include hi hp

theorem State.acceptStripe_notice (hx : x.kind = .data ∨ x.kind = .command ∧ p.hasData = false) (hk : p.kind = .notice) (hd : p.destDie = d) :
    p.iss.tile ∈ ((s.acceptStripe d port x).slice d).noticeIn ∧ (s.acceptStripe d port x).pkt i = none := by
  refine foldl_reaches (P := fun t : State => t.pkt i = some p) (Q := fun t : State => p.iss.tile ∈ (t.slice d).noticeIn ∧ t.pkt i = none)
    (fun t j hj ht => (State.acceptEntry_pkt_other t d port x hj).trans ht) (fun t ht => ?_) (fun t j ht => ?_) hi hp
  · rw [State.acceptEntry_crosses ht hx]
    exact (State.crossed_notice ht hk hd).symm
  · obtain ⟨hm, hn⟩ := ht
    refine ⟨State.acceptEntry_mem_noticeIn j hm, ?_⟩
    by_cases hj : j = i
    · subst hj
      unfold State.acceptEntry
      rw [hn]
      exact hn
    · exact (State.acceptEntry_pkt_other t d port x hj).trans hn

theorem State.acceptStripe_came (hx : x.kind = .data ∨ x.kind = .command ∧ p.hasData = false) (hn : ¬(p.kind = .notice ∧ p.destDie = d)) :
    (s.acceptStripe d port x).came d port i p := by
  refine foldl_reaches (P := fun t : State => t.pkt i = some p) (Q := fun t : State => t.came d port i p)
    (fun t j hj ht => (State.acceptEntry_pkt_other t d port x hj).trans ht) (fun t ht => ?_) (fun t j ht => ?_) hi hp
  · rw [State.acceptEntry_crosses ht hx]
    exact State.crossed_waits ht hn
  · obtain ⟨k, hk, hl, hport, hr, hkind, hdest, hdata⟩ := ht
    by_cases hj : j = i
    · subst hj
      rw [State.acceptEntry_crosses hk (by rwa [hdata])]
      obtain ⟨m, hm, ml, mp, mr, mk, md, mdata⟩ := State.crossed_waits (port := port) hk (by rwa [hkind, hdest])
      exact ⟨m, hm, ml, mp, mr.trans hr, mk.trans hkind, md.trans hdest, mdata.trans hdata⟩
    · exact ⟨k, (State.acceptEntry_pkt_other t d port x hj).trans hk, hl, hport, hr, hkind, hdest, hdata⟩

theorem State.acceptStripe_failed (hx : x.kind = .failed) (hn : p.kind ≠ .notice) :
    ((s.acceptStripe d port x).pkt i).map (fun k => (k.loc, k.resp)) = some (.matrix d, some .crc) := by
  have ends (t : State) (k : Packet) (hk : t.pkt i = some k) (hkn : k.kind ≠ .notice) :
      ∃ m : Packet, (t.acceptEntry d port x i).pkt i = some m ∧ m.loc = .matrix d ∧ m.resp = some .crc ∧ m.kind = k.kind := by
    unfold State.acceptEntry
    rw [hk, hx]
    dsimp only
    rw [if_neg hkn]
    split
    · exact State.answerAt_at hk d .crc []
    · obtain ⟨m, hm, ml, -, -, mk, -⟩ := State.crossed_waits (port := port) (d := d) hk fun h => hkn h.1
      exact ⟨_, State.modPkt_pkt_self hm fun _ => by rfl, ml, rfl, mk⟩
  have done := foldl_reaches (g := fun s id => State.acceptEntry s d port x id) (P := fun t : State => t.pkt i = some p)
    (Q := fun t : State => ∃ m : Packet, t.pkt i = some m ∧ m.loc = .matrix d ∧ m.resp = some .crc ∧ m.kind ≠ .notice)
    (fun t j hj ht => (State.acceptEntry_pkt_other t d port x hj).trans ht) (fun t ht => ?_) (fun t j ht => ?_) hi hp
  · obtain ⟨m, hm, ml, mr, -⟩ := done
    rw [State.acceptStripe_eq, hm, Option.map_some, ml, mr]
  · obtain ⟨m, hm, ml, mr, mk⟩ := ends t p ht hn
    exact ⟨m, hm, ml, mr, mk ▸ hn⟩
  · obtain ⟨k, hk, hl, hr, hkn⟩ := ht
    by_cases hj : j = i
    · subst hj
      obtain ⟨m, hm, ml, mr, mk⟩ := ends t k hk hkn
      exact ⟨m, hm, ml, mr, mk ▸ hkn⟩
    · exact ⟨k, (State.acceptEntry_pkt_other t d port x hj).trans hk, hl, hr, hkn⟩

end

/-! ## A stripe is received -/

variable {noise : List Byte} {l : List Stripe}

/-- The state once the stripe has left its link. -/
def State.unwired (s : State) (d port : Nat) (l : List Stripe) : State :=
  s.modBridge (peer s.dies d port).1 (peer s.dies d port).2 (fun B => { B with wire := l })

theorem State.unwired_bridge (s : State) (d port : Nat) (l : List Stripe) : (s.unwired d port l).bridge d port = s.bridge d port :=
  (State.modBridge_bridge ..).trans (if_neg fun h => peer_port_ne s.dies d port h.2)

theorem State.modBridge_wire (l : List Stripe) (f : Bridge → Bridge) :
    (((s.unwired d port l).modBridge d port f).bridge (peer s.dies d port).1 (peer s.dies d port).2).wire = l := by
  rw [State.modBridge_bridge, if_neg fun h => peer_port_ne s.dies d port h.2.symm, State.unwired, State.modBridge_bridge, if_pos ⟨rfl, rfl⟩]

theorem State.stripeReceivedOp_accepts (hw : (s.bridge (peer s.dies d port).1 (peer s.dies d port).2).wire = x :: l)
    (hg : stripeGood (withNoise (s.stripeBytes x) noise) = true) (hs : x.seq = (s.bridge d port).expect) : s.stripeReceivedOp d port noise =
      ((s.unwired d port l).modBridge d port (fun B => { B with expect := (B.expect + 1) % 256, discard := false, nak := false })).acceptStripe d
        port x := by
  unfold State.stripeReceivedOp
  dsimp only
  rw [hw]
  exact if_pos ⟨hg, hs.trans (congrArg Bridge.expect (s.unwired_bridge d port l)).symm⟩

theorem State.stripeReceivedOp_discards (hw : (s.bridge (peer s.dies d port).1 (peer s.dies d port).2).wire = x :: l)
    (h : stripeGood (withNoise (s.stripeBytes x) noise) = false ∨ x.seq ≠ (s.bridge d port).expect) : s.stripeReceivedOp d port noise =
      (s.unwired d port l).modBridge d port (fun B => { B with discard := true, nak := B.nak || !B.discard || x.seq == B.expect }) := by
  unfold State.stripeReceivedOp
  dsimp only
  rw [hw]
  refine if_neg fun k => ?_
  obtain ⟨hg, hs⟩ := k
  obtain h | h := h
  · exact Bool.false_ne_true (h.symm.trans hg)
  · exact h (hs.trans (congrArg Bridge.expect (s.unwired_bridge d port l)))

theorem State.stripeReceivedOp_wire (hw : (s.bridge (peer s.dies d port).1 (peer s.dies d port).2).wire = x :: l) :
    ((s.stripeReceivedOp d port noise).bridge (peer s.dies d port).1 (peer s.dies d port).2).wire = l := by
  by_cases h : stripeGood (withNoise (s.stripeBytes x) noise) = true ∧ x.seq = (s.bridge d port).expect
  · rw [State.stripeReceivedOp_accepts hw h.1 h.2, State.acceptStripe_bridge]
    exact State.modBridge_wire l _
  · rw [State.stripeReceivedOp_discards hw ((not_and_or.mp h).imp_left Bool.eq_false_iff.mpr)]
    exact State.modBridge_wire l _

theorem State.stripeReceivedOp_good (hw : (s.bridge (peer s.dies d port).1 (peer s.dies d port).2).wire = x :: l)
    (hg : stripeGood (withNoise (s.stripeBytes x) noise) = true) (hs : x.seq = (s.bridge d port).expect) :
    ((s.stripeReceivedOp d port noise).bridge d port).expect = (x.seq + 1) % 256 ∧
      ∀ i p, i ∈ x.entries → s.pkt i = some p →
        ((x.kind = .data ∨ x.kind = .command ∧ p.hasData = false) →
          (p.kind = .notice → p.destDie = d → p.iss.tile ∈ ((s.stripeReceivedOp d port noise).slice d).noticeIn ∧
            (s.stripeReceivedOp d port noise).pkt i = none) ∧
          (¬(p.kind = .notice ∧ p.destDie = d) →
            ((s.stripeReceivedOp d port noise).pkt i).map (fun k => (k.loc, k.port, k.resp)) = some (.matrix d, 72 + port, p.resp))) ∧
        (x.kind = .failed → p.kind ≠ .notice →
          ((s.stripeReceivedOp d port noise).pkt i).map (fun k => (k.loc, k.resp)) = some (.matrix d, some .crc)) := by
  rw [State.stripeReceivedOp_accepts hw hg hs]
  refine ⟨?_, fun i p hi hp => ⟨fun hx => ⟨fun hk hd => State.acceptStripe_notice hi hp hx hk hd, fun hn => ?_⟩,
    fun hx hn => State.acceptStripe_failed hi hp hx hn⟩⟩
  · rw [State.acceptStripe_bridge, State.modBridge_bridge, if_pos ⟨rfl, rfl⟩, State.unwired_bridge, hs]
  · obtain ⟨k, hk, hl, hport, hr, -⟩ := State.acceptStripe_came (s := (s.unwired d port l).modBridge d port
      (fun B => { B with expect := (B.expect + 1) % 256, discard := false, nak := false })) (port := port) hi hp hx hn
    rw [hk, Option.map_some, hl, hport, hr]

theorem State.stripeReceivedOp_bad (hw : (s.bridge (peer s.dies d port).1 (peer s.dies d port).2).wire = x :: l)
    (h : stripeGood (withNoise (s.stripeBytes x) noise) = false ∨ x.seq ≠ (s.bridge d port).expect) :
    ((s.stripeReceivedOp d port noise).bridge d port).expect = (s.bridge d port).expect ∧
      ((s.stripeReceivedOp d port noise).bridge d port).discard = true ∧ (s.stripeReceivedOp d port noise).net = s.net ∧
      (((s.bridge d port).discard = false ∨ x.seq = (s.bridge d port).expect) → ((s.stripeReceivedOp d port noise).bridge d port).nak = true) := by
  rw [State.stripeReceivedOp_discards hw h, State.modBridge_bridge, if_pos ⟨rfl, rfl⟩, State.unwired_bridge]
  refine ⟨rfl, rfl, rfl, fun hn => ?_⟩
  obtain hn | hn := hn
  · simp [hn]
  · simp [hn]

end Sys2Proof.Machine
end

section
/-!
Acknowledgements, retransmission and links that go down (spec/07_external_bridges.md R246 to R248): further parts of O59.
-/

namespace Sys2Proof.Machine

variable {s : State} {d port ack : Nat} {x : Stripe} {l : List Stripe}

/-! ## ACK and NAK -/

theorem State.stripeAckOp_eq (s : State) (d port ack : Nat) : s.stripeAckOp d port ack =
    if ((s.bridge (peer s.dies d port).1 (peer s.dies d port).2).expect + 256 - ack) % 256 < 128 then
      s.modBridge d port (fun B => { B with slots := (s.bridge d port).slots.filter (fun y => !beforeAck ack y) }) else s := rfl

theorem State.record_bridge (s : State) (d type tile : Nat) (det : BitVec 352) (e k : Nat) : (s.record d type tile det).bridge e k = s.bridge e k :=
  State.record_value (f := fun S => S.bridge k) (fun _ _ _ _ => rfl) s d type tile e det

theorem State.crcRecord_bridge (s : State) (d port kind sup w e k : Nat) : (s.crcRecord d port kind sup w).bridge e k = s.bridge e k :=
  State.record_bridge ..

theorem State.crcRecord_value {α : Type} {f : Slice → α} (hf : Slice.RecordFree f) (s : State) (d port kind sup w e : Nat) :
    f ((s.crcRecord d port kind sup w).slice e) = f (s.slice e) := State.record_value hf ..

theorem State.modBridge_value {α : Type} {f : Slice → α} (hf : ∀ (S : Slice) b, f { S with bridges := b } = f S) (s : State) (d p : Nat)
    (g : Bridge → Bridge) (e : Nat) : f ((s.modBridge d p g).slice e) = f (s.slice e) := by
  rw [State.modBridge, State.modSlice_slice]
  split
  · next h => exact (hf _ _).trans (congrArg (fun e => f (s.slice e)) h)
  · rfl

/-- A record of a retransmission, or its count, changes no stripe of any port. -/
theorem State.retransmitRecord_bridge {α : Type} {f : Bridge → α} (hf : ∀ (B : Bridge) n m, f { B with crcSuppressed := n, lastCrc := m } = f B)
    (s : State) (d port seq e k : Nat) : f ((s.retransmitRecord d port seq).bridge e k) = f (s.bridge e k) := by
  unfold State.retransmitRecord
  dsimp only
  split
  · rw [State.modBridge_bridge, State.crcRecord_bridge, State.crcRecord_bridge]
    split
    · next h =>
      obtain ⟨rfl, rfl⟩ := h
      exact hf _ _ _
    · rfl
  · rw [State.modBridge_bridge]
    split
    · next h =>
      obtain ⟨rfl, rfl⟩ := h
      exact hf _ _ (s.bridge d port).lastCrc
    · rfl

theorem State.retransmitRecord_value {α : Type} {f : Slice → α} (hr : Slice.RecordFree f) (hf : ∀ (S : Slice) b, f { S with bridges := b } = f S)
    (s : State) (d port seq e : Nat) : f ((s.retransmitRecord d port seq).slice e) = f (s.slice e) := by
  unfold State.retransmitRecord
  dsimp only
  split
  · rw [State.modBridge_value hf, State.crcRecord_value hr]
  · rw [State.modBridge_value hf]
    rfl

/-- The stripe as it is sent again. -/
def Bridge.again (B : Bridge) (y : Stripe) : Stripe := { y with retried := true, ack := B.expect, nak := B.nak }

theorem Bridge.failStripe_head (B : Bridge) (x : Stripe) :
    ((B.failStripe x).slots.head?).map (fun y => (y.kind, y.seq % 256, y.entries)) = some (.failed, x.seq % 256, x.entries) := by
  change some (StripeKind.failed, x.seq % 256 % 256, x.entries) = _
  rw [Nat.mod_mod]

/-- The state in which a NAK is served: the receiver's is gone. -/
def State.nakTaken (s : State) (d port : Nat) : State :=
  s.modBridge (peer s.dies d port).1 (peer s.dies d port).2 (fun R => { R with nak := false })

section
variable (hn : (s.bridge (peer s.dies d port).1 (peer s.dies d port).2).nak = true)
  (he : (s.bridge (peer s.dies d port).1 (peer s.dies d port).2).expect = ack)
  (hk : (s.bridge d port).slots.filter (fun y => !beforeAck ack y) = x :: l) (hx : x.kind ≠ .failed)
include hn he hk hx

theorem State.stripeNakOp_eq : s.stripeNakOp d port ack =
    if x.retried then
      (((s.nakTaken d port).modSlice d (fun S => { S with linkFail := S.linkFail.set port (satInc (Tbl.get 0 S.linkFail port)) })).modBridge d port
        (fun _ => ((s.bridge d port).ackTo ack).failStripe x)).crcRecord d port 2 0 x.seq
    else
      (((s.nakTaken d port).modSlice d (fun S => { S with linkRetx := S.linkRetx.set port (satInc (Tbl.get 0 S.linkRetx port)) })).modBridge d port
        (fun _ => { (s.bridge d port).ackTo ack with
          slots := (x :: l).map (s.bridge d port).again, wire := (s.bridge d port).wire ++ (x :: l).map (s.bridge d port).again })).retransmitRecord
        d port x.seq := by
  have slots : ((s.bridge d port).ackTo ack).slots = x :: l := hk
  unfold State.stripeNakOp
  dsimp only
  rw [if_neg (by simp [hn, he]), slots]
  exact if_neg (by simpa using hx)

theorem State.stripeNakOp_taken : ((s.stripeNakOp d port ack).bridge (peer s.dies d port).1 (peer s.dies d port).2).nak = false := by
  have taken (f : Slice → Slice) (hf : ∀ S k, (f S).bridge k = S.bridge k) (g : Bridge → Bridge) :
      ((((s.nakTaken d port).modSlice d f).modBridge d port g).bridge (peer s.dies d port).1 (peer s.dies d port).2).nak = false := by
    rw [State.modBridge_bridge, if_neg fun h => peer_port_ne s.dies d port h.2.symm, State.bridge, State.modSlice_slice]
    have nak : ((s.nakTaken d port).bridge (peer s.dies d port).1 (peer s.dies d port).2).nak = false := by
      rw [State.nakTaken, State.modBridge_bridge, if_pos ⟨rfl, rfl⟩]
    split
    · next h => rw [hf]; exact (congrArg (fun e => Bridge.nak ((s.nakTaken d port).bridge e _)) h).trans nak
    · exact nak
  rw [State.stripeNakOp_eq hn he hk hx]
  split
  · rw [State.crcRecord_bridge]
    exact taken _ (fun _ _ => by rfl) _
  · rw [State.retransmitRecord_bridge (f := Bridge.nak) fun _ _ _ => rfl]
    exact taken _ (fun _ _ => by rfl) _

theorem State.stripeNakOp_again (hr : x.retried = false) :
    ((s.stripeNakOp d port ack).bridge d port).slots = (x :: l).map (s.bridge d port).again ∧
      ((s.stripeNakOp d port ack).bridge d port).wire = (s.bridge d port).wire ++ (x :: l).map (s.bridge d port).again ∧
      Tbl.get 0 ((s.stripeNakOp d port ack).slice d).linkRetx port = satInc (Tbl.get 0 (s.slice d).linkRetx port) := by
  rw [State.stripeNakOp_eq hn he hk hx, hr, if_neg Bool.false_ne_true]
  refine ⟨?_, ?_, ?_⟩
  · rw [State.retransmitRecord_bridge (f := Bridge.slots) (fun _ _ _ => rfl), State.modBridge_bridge, if_pos ⟨rfl, rfl⟩]
  · rw [State.retransmitRecord_bridge (f := Bridge.wire) (fun _ _ _ => rfl), State.modBridge_bridge, if_pos ⟨rfl, rfl⟩]
  · rw [State.retransmitRecord_value (f := Slice.linkRetx) (fun _ _ _ _ => rfl) (fun _ _ => rfl),
      State.modBridge_value (f := Slice.linkRetx) (fun _ _ => rfl), State.modSlice_slice, if_pos rfl, Tbl.get_set, if_pos rfl, State.nakTaken,
      State.modBridge_value (f := Slice.linkRetx) fun _ _ => rfl]

theorem State.stripeNakOp_fails (hr : x.retried = true) :
    (((s.stripeNakOp d port ack).bridge d port).slots.head?).map (fun y => (y.kind, y.seq % 256, y.entries)) =
        some (.failed, x.seq % 256, x.entries) ∧
      Tbl.get 0 ((s.stripeNakOp d port ack).slice d).linkFail port = satInc (Tbl.get 0 (s.slice d).linkFail port) := by
  rw [State.stripeNakOp_eq hn he hk hx, hr, if_pos rfl]
  refine ⟨?_, ?_⟩
  · rw [State.crcRecord_bridge, State.modBridge_bridge, if_pos ⟨rfl, rfl⟩]
    exact Bridge.failStripe_head _ x
  · rw [State.crcRecord_value (f := Slice.linkFail) (fun _ _ _ _ => rfl), State.modBridge_value (f := Slice.linkFail) (fun _ _ => rfl),
      State.modSlice_slice, if_pos rfl, Tbl.get_set, if_pos rfl, State.nakTaken, State.modBridge_value (f := Slice.linkFail) fun _ _ => rfl]

end

/-! ## What a slice has outstanding on the ring ends -/

/-- The CRC answer to a request that the slice has on the ring. -/
def State.crcAnswer (s : State) (d : Nat) (p : Packet) : Packet :=
  { p with id := s.nextId, resp := some .crc, data := [], dir := none, loc := .matrix d, came := s.nextId }

/-- One request on the ring ends. -/
def State.ringEnds (s : State) (d : Nat) (p : Packet) : State := { s.takeId with net := s.net ++ [s.crcAnswer d p] }

theorem State.foldl_ringEnds_mem (d : Nat) (l : List Packet) {s : State} {p : Packet} (h : p ∈ s.net) :
    p ∈ (l.foldl (fun s p => s.ringEnds d p) s).net := by
  induction l generalizing s with
  | nil => exact h
  | cons q l ih => exact ih (List.mem_append_left _ h)

theorem State.foldl_ringEnds_answers (d : Nat) {l : List Packet} {s : State} {p : Packet} (h : p ∈ l) :
    ∃ c : Packet, c ∈ (l.foldl (fun s p => s.ringEnds d p) s).net ∧ c.resp = some .crc ∧ c.iss = p.iss ∧ c.ord = p.ord ∧ c.loc = .matrix d := by
  induction l generalizing s with
  | nil => exact absurd h List.not_mem_nil
  | cons q l ih =>
    obtain rfl | h := List.mem_cons.mp h
    · exact ⟨s.crcAnswer d p, State.foldl_ringEnds_mem d l (List.mem_append_right _ List.mem_cons_self), rfl, rfl, rfl, rfl⟩
    · exact ih h

/-- The state in which the requests on the ring are discarded. -/
def State.ringCut (s : State) (d : Nat) : State :=
  { s with
    net := (s.net.filter (fun p => !(p.onRing d && p.loc == .lost))).map
      (fun p => if p.onRing d then { p with abandoned := true, entered := false } else p) }

theorem State.endRing_eq (s : State) (d : Nat) :
    s.endRing d = (s.net.filter (fun p => p.onRing d)).foldl (fun s p => s.ringEnds d p) (s.ringCut d) := rfl

theorem State.endRing_slice (s : State) (d e : Nat) : (s.endRing d).slice e = s.slice e := by
  rw [State.endRing_eq]
  exact foldl_eq (g := fun (s : State) p => s.ringEnds d p) (fun s : State => s.slice e) (fun _ _ => rfl) _ _

theorem State.endRing_mem {p : Packet} (h : p ∈ s.net) (hr : p.onRing d = false) : p ∈ (s.endRing d).net := by
  rw [State.endRing_eq]
  refine State.foldl_ringEnds_mem d _ (List.mem_map.mpr ⟨p, List.mem_filter.mpr ⟨h, ?_⟩, ?_⟩)
  · rw [hr]
    rfl
  · rw [if_neg (by rw [hr]; exact Bool.false_ne_true)]

theorem State.endRing_answers {p : Packet} (h : p ∈ s.net) (hr : p.onRing d = true) :
    ∃ c : Packet, c ∈ (s.endRing d).net ∧ c.resp = some .crc ∧ c.iss = p.iss ∧ c.ord = p.ord ∧ c.loc = .matrix d :=
  State.foldl_ringEnds_answers d (List.mem_filter.mpr ⟨h, hr⟩)

/-! ## A link goes down -/

/-- What stood in a link that goes down still awaits its answer. -/
theorem State.loseLink_onRing {p : Packet} (h : p ∈ s.net) (hr : p.onRing d = true) (e k : Nat) :
    ∃ q : Packet, q ∈ (s.loseLink e k).net ∧ q.onRing d = true ∧ q.iss = p.iss ∧ q.ord = p.ord := by
  have held : p.abandoned = false := by
    simp only [Packet.onRing, Bool.and_eq_true, Bool.not_eq_true'] at hr
    tauto
  unfold State.loseLink
  dsimp only [State.modBridge, State.modSlice_net]
  refine ⟨_, List.mem_map.mpr ⟨p, List.mem_filter.mpr ⟨h, ?_⟩, rfl⟩, ?_, ?_, ?_⟩
  · rw [held, Bool.and_false]
    rfl
  · split
    · simp only [Packet.onRing, Bool.and_eq_true, bne_iff_ne] at hr ⊢
      exact ⟨⟨hr.1.1, nofun⟩, hr.2⟩
    · exact hr
  · split <;> rfl
  · split <;> rfl

theorem State.linkState_net (s : State) (d port : Nat) (up : Bool) (ev : Nat) : (s.linkState d port up ev).net = s.net := by
  unfold State.linkState
  dsimp only
  split <;> rfl

/-- A slice gets the notice that a link is down. -/
def State.linkTell (s : State) (d e : Nat) : State := if e = d then s else s.modSlice e (fun S => { S with linkNotice := true })

theorem State.linkTell_value {α : Type} {f : Slice → α} (hf : ∀ (S : Slice) b, f { S with linkNotice := b } = f S) (s : State) (d e c : Nat) :
    f ((s.linkTell d e).slice c) = f (s.slice c) := by
  unfold State.linkTell
  split
  · rfl
  · rw [State.modSlice_slice]
    split
    · next h => exact (hf _ _).trans (congrArg (fun e => f (s.slice e)) h)
    · rfl

theorem State.linkTell_told {e : Nat} (h : e ≠ d) : ((s.linkTell d e).slice e).linkNotice = true := by
  rw [State.linkTell, if_neg h, State.modSlice_slice, if_pos rfl]

theorem State.linkTell_keeps {c : Nat} (e : Nat) (h : (s.slice c).linkNotice = true) : ((s.linkTell d e).slice c).linkNotice = true := by
  unfold State.linkTell
  split
  · exact h
  · rw [State.modSlice_slice]
    split
    · rfl
    · exact h

theorem State.foldl_linkTell {e : Nat} {l : List Nat} (hl : e ∈ l) (h : e ≠ d) :
    ((l.foldl (fun s e => s.linkTell d e) s).slice e).linkNotice = true :=
  foldl_reaches (P := fun _ => True) (Q := fun t : State => (t.slice e).linkNotice = true) (fun _ _ _ h => h) (fun _ _ => State.linkTell_told h)
    (fun _ k => State.linkTell_keeps k) hl trivial

/-- The link is down at both ends, before any slice is told. -/
def State.linkCut (s : State) (d port : Nat) : State :=
  ((((s.crcRecord d port 3 0 (s.bridge (peer s.dies d port).1 (peer s.dies d port).2).expect).loseLink d port).linkState d port false 2).linkState
    (peer s.dies d port).1 (peer s.dies d port).2 false 2)

theorem State.linkState_dies (s : State) (d port : Nat) (up : Bool) (ev : Nat) : (s.linkState d port up ev).dies = s.dies := by
  unfold State.linkState
  dsimp only
  split <;> rfl

theorem State.linkDownOp_eq (s : State) (d port : Nat) :
    s.linkDownOp d port = ((List.range s.dies).foldl (fun s e => s.linkTell d e) (s.linkCut d port)).endRing d := by
  have dies : (s.linkCut d port).dies = s.dies := by
    rw [State.linkCut, State.linkState_dies, State.linkState_dies]
    rfl
  rw [← dies]
  rfl

/-- A link goes down at both ends; every other slice is told, and what the slice has on the ring ends with CRC. -/
theorem State.linkDownOp_outcome (hp : port < 8) :
    bit ((s.linkDownOp d port).slice d).linkUp port = false ∧
      bit ((s.linkDownOp d port).slice (peer s.dies d port).1).linkUp (peer s.dies d port).2 = false ∧
      (∀ e, e < s.dies → e ≠ d → ((s.linkDownOp d port).slice e).linkNotice = true) ∧
      ∀ p : Packet, p ∈ s.net → p.onRing d = true → ∃ c : Packet, c ∈ (s.linkDownOp d port).net ∧ c.resp = some .crc ∧ c.iss = p.iss ∧
        c.ord = p.ord ∧ c.loc = .matrix d := by
  have up (e : Nat) : ((s.linkDownOp d port).slice e).linkUp = ((s.linkCut d port).slice e).linkUp := by
    rw [State.linkDownOp_eq, State.endRing_slice]
    exact foldl_eq (g := fun (s : State) e => s.linkTell d e) (fun s : State => (s.slice e).linkUp)
      (fun s c => State.linkTell_value (f := Slice.linkUp) (fun _ _ => rfl) s d c e) _ _
  refine ⟨?_, ?_, fun e he hed => ?_, fun p hm hr => ?_⟩
  · rw [up]
    exact State.linkState_up_keeps hp (State.linkState_up hp false 2)
  · rw [up]
    exact State.linkState_up (peer_lt hp) false 2
  · rw [State.linkDownOp_eq, State.endRing_slice]
    exact State.foldl_linkTell (List.mem_range.mpr he) hed
  · obtain ⟨q, hq, hqr, hi, ho⟩ := State.loseLink_onRing
      (s := s.crcRecord d port 3 0 (s.bridge (peer s.dies d port).1 (peer s.dies d port).2).expect) hm hr d port
    have net : ((List.range s.dies).foldl (fun s e => s.linkTell d e) (s.linkCut d port)).net =
        ((s.crcRecord d port 3 0 (s.bridge (peer s.dies d port).1 (peer s.dies d port).2).expect).loseLink d port).net := by
      have told (l : List Nat) (t : State) : (l.foldl (fun s e => s.linkTell d e) t).net = t.net :=
        foldl_eq (g := fun (s : State) e => s.linkTell d e) State.net (fun s c => by unfold State.linkTell; split <;> rfl) l t
      rw [told, State.linkCut, State.linkState_net, State.linkState_net]
    obtain ⟨c, hc, cr, ci, co, cl⟩ := State.endRing_answers (net ▸ hq) hqr
    rw [State.linkDownOp_eq]
    exact ⟨c, hc, cr, ci.trans hi, co.trans ho, cl⟩

end Sys2Proof.Machine
end

section
/-!
The routes on the ring (spec/07_external_bridges.md R251, R252, R407), and O59.
-/

namespace Sys2Proof.Machine

variable {s : State} {d id : Nat} {p : Packet}

/-! ## The links of a direction -/

/-- Link `i` of a direction is up at the die. -/
def State.linkIsUp (s : State) (d dir i : Nat) : Prop := i < 4 ∧ bit (s.slice d).linkUp (4 * dir + i) = true

theorem State.mem_upLinks {dir k : Nat} {mask : BitVec 4} : k ∈ s.upLinks d dir mask ↔ ∃ i, k = 4 * dir + i ∧ s.linkIsUp d dir i ∧ bit mask i = true := by
  simp only [State.upLinks, List.mem_map, List.mem_filter, List.mem_range, Bool.and_eq_true, State.linkIsUp]
  constructor
  · rintro ⟨i, ⟨hi, hm, hu⟩, rfl⟩
    exact ⟨i, rfl, ⟨hi, hu⟩, hm⟩
  · rintro ⟨i, rfl, ⟨hi, hu⟩, hm⟩
    exact ⟨i, ⟨hi, hm, hu⟩, rfl⟩

theorem State.upLinks_eq_nil {dir : Nat} {mask : BitVec 4} : s.upLinks d dir mask = [] ↔ ∀ i, ¬(s.linkIsUp d dir i ∧ bit mask i = true) := by
  rw [List.eq_nil_iff_forall_not_mem]
  constructor
  · exact fun h i hi => h (4 * dir + i) (State.mem_upLinks.mpr ⟨i, rfl, hi⟩)
  · intro h k hk
    obtain ⟨i, -, hi⟩ := State.mem_upLinks.mp hk
    exact h i hi

theorem linkOf_mem (i : Issuer) {l : List Nat} (h : l ≠ []) : linkOf i l ∈ l := by
  unfold linkOf
  rw [List.getD_eq_getElem _ _ (Nat.mod_lt _ (List.length_pos_iff.mpr h))]
  exact List.getElem_mem _

/-- The links that SLC_ROUTE leaves a packet: all of them once it has been turned back. -/
def State.routeMask (s : State) (d : Nat) (p : Packet) : BitVec 4 := if p.turned then 15 else s.routeLinks d p.destDie

theorem bit_fifteen {i : Nat} (h : i < 4) : bit (15 : BitVec 4) i = true := by
  interval_cases i <;> rfl

theorem State.bit_routeMask {i : Nat} (h : i < 4) :
    bit (s.routeMask d p) i = true ↔ p.turned = true ∨ bit (s.routeLinks d p.destDie) i = true := by
  unfold State.routeMask
  split
  · next ht => exact iff_of_true (bit_fifteen h) (.inl ht)
  · next ht => simp [ht]

/-! ## A packet takes a link, or does not -/

/-- The packet is outstanding at the matrix of its own die once it has set out. -/
def State.routing (s : State) (d : Nat) (p : Packet) : State :=
  s.modPkt p.id (fun p => { p with entered := p.entered || (p.resp.isNone && p.iss.die == d) })

/-- A packet takes one of the links of a direction. -/
def State.takesLink (s : State) (d dir : Nat) (p : Packet) (turned : Bool) (l : List Nat) : State :=
  (s.modPkt p.id (fun q => { q with dir := some dir, turned := q.turned || turned, l := q.l || (s.slice d).lpActive })).move p.id
    (.ring d (linkOf p.iss l))

theorem State.routing_routeOff (s : State) (e : Nat) (p : Packet) (dir t n d : Nat) :
    (s.routing e p).routeOff dir t n d = s.routeOff dir t n d := by
  induction n generalizing d with
  | zero => rfl
  | succ n ih =>
    unfold State.routeOff
    dsimp only
    rw [ih]
    rfl

theorem State.ringRouteOp_eq (s : State) (d : Nat) (p : Packet) : s.ringRouteOp d p =
    (let dir := p.dir.getD (s.routeDir d p.destDie)
     let up := s.upLinks d dir (s.routeMask d p)
     if p.resp.isNone then
       if up.isEmpty || (s.routing d p).routeOff dir p.destDie s.dies d then
         (if p.kind = .notice then (s.routing d p).dropPkt p.id
          else ((s.routing d p).answerAt d p.id .decerr []).latchDecerr d p.latchAddr p.iss)
       else (s.routing d p).takesLink d dir p false up
     else if !up.isEmpty then (s.routing d p).takesLink d dir p false up
     else
       let back := s.upLinks d (1 - dir) 15
       if !back.isEmpty then (s.routing d p).takesLink d (1 - dir) p true back
       else ((s.routing d p).modPkt p.id (fun p => { p with loc := .lost })).latchDecerr d p.latchAddr p.iss) := rfl

theorem State.routing_pkt (hp : s.pkt id = some p) : ∃ k : Packet, (s.routing d p).pkt id = some k ∧ k.resp = p.resp := by
  unfold State.routing
  rw [State.pkt_id hp]
  exact ⟨_, State.modPkt_pkt_self hp fun _ => by rfl, rfl⟩

/-- A packet that takes a link stands before one of those that are up. -/
theorem State.takesLink_outcome {k : Packet} {dir : Nat} {mask : BitVec 4} (hp : p.id = id) (hk : s.pkt id = some k) (turned : Bool)
    {u : State} (h : u.upLinks d dir mask ≠ []) :
    ∃ i, u.linkIsUp d dir i ∧ bit mask i = true ∧
      ((s.takesLink d dir p turned (u.upLinks d dir mask)).pkt id).map (fun k => (k.loc, k.dir)) = some (.ring d (4 * dir + i), some dir) := by
  obtain ⟨i, hl, hu, hm⟩ := State.mem_upLinks.mp (linkOf_mem p.iss h)
  refine ⟨i, hu, hm, ?_⟩
  unfold State.takesLink
  rw [hp, State.move_pkt (State.modPkt_pkt_self hk fun _ => by rfl), hl]
  rfl

theorem Slice.latchDecerr_valid (S : Slice) (a : Addr) (i : Issuer) : bit (S.latchDecerr a i).decSrc 31 = true := by
  by_cases h : bit S.decSrc 31 = true
  · rw [(S.latchDecerr_held a i h).2, bit_or, h, Bool.true_or]
  · rw [(S.latchDecerr_free a i (Bool.eq_false_iff.mpr h)).2, bit_or]
    exact Bool.or_true _

/-! ## The route of a packet -/

/-- A request that finds none, or whose way meets a die that is off. -/
theorem State.ringRouteOp_refuses {dir : Nat} (hdir : p.dir.getD (s.routeDir d p.destDie) = dir) (hr : p.resp = none)
    (h : s.upLinks d dir (s.routeMask d p) = [] ∨ s.routeOff dir p.destDie s.dies d = true) :
    s.ringRouteOp d p = if p.kind = .notice then (s.routing d p).dropPkt p.id
      else ((s.routing d p).answerAt d p.id .decerr []).latchDecerr d p.latchAddr p.iss := by
  rw [State.ringRouteOp_eq, hdir]
  dsimp only
  rw [State.routing_routeOff, if_pos (Option.isNone_iff_eq_none.mpr hr)]
  exact if_pos (by simpa using h)

section
variable (hp : s.pkt id = some p) {dir : Nat} (hdir : p.dir.getD (s.routeDir d p.destDie) = dir)
include hp hdir

/-- A packet that finds a link takes it. -/
theorem State.ringRouteOp_takes (hu : s.upLinks d dir (s.routeMask d p) ≠ []) (ho : p.resp = none → s.routeOff dir p.destDie s.dies d = false) :
    ∃ i, s.linkIsUp d dir i ∧ bit (s.routeMask d p) i = true ∧
      ((s.ringRouteOp d p).pkt id).map (fun k => (k.loc, k.dir)) = some (.ring d (4 * dir + i), some dir) := by
  obtain ⟨k, hk, -⟩ := State.routing_pkt (d := d) hp
  have op : s.ringRouteOp d p = (s.routing d p).takesLink d dir p false (s.upLinks d dir (s.routeMask d p)) := by
    rw [State.ringRouteOp_eq, hdir]
    dsimp only
    rw [State.routing_routeOff]
    split
    · next hr => exact if_neg (by simp [hu, ho (Option.isNone_iff_eq_none.mp hr)])
    · exact if_pos (by simp [hu])
  rw [op]
  exact State.takesLink_outcome (State.pkt_id hp) hk false hu

theorem State.ringRouteOp_refused (hr : p.resp = none)
    (h : s.upLinks d dir (s.routeMask d p) = [] ∨ s.routeOff dir p.destDie s.dies d = true) :
    (p.kind = .notice → (s.ringRouteOp d p).pkt id = none) ∧
      (p.kind ≠ .notice → ((s.ringRouteOp d p).pkt id).map (fun k => (k.loc, k.resp)) = some (.matrix d, some .decerr) ∧
        bit ((s.ringRouteOp d p).slice d).decSrc 31 = true) := by
  obtain ⟨k, hk, -⟩ := State.routing_pkt (d := d) hp
  rw [State.ringRouteOp_refuses hdir hr h, State.pkt_id hp]
  refine ⟨fun hn => ?_, fun hn => ?_⟩
  · rw [if_pos hn]
    exact State.dropPkt_pkt_self _ id
  · rw [if_neg hn]
    obtain ⟨m, hm, ml, mr, -⟩ := State.answerAt_at hk d .decerr []
    refine ⟨?_, ?_⟩
    · exact (congrArg (Option.map fun k => (k.loc, k.resp)) hm).trans (by rw [Option.map_some, ml, mr])
    · rw [State.latchDecerr_slice]
      exact Slice.latchDecerr_valid ..

/-- A response that finds no link of its direction turns back. -/
theorem State.ringRouteOp_turns (hr : p.resp ≠ none) (hu : s.upLinks d dir (s.routeMask d p) = []) (hb : s.upLinks d (1 - dir) 15 ≠ []) :
    ∃ i, s.linkIsUp d (1 - dir) i ∧
      ((s.ringRouteOp d p).pkt id).map (fun k => (k.loc, k.dir)) = some (.ring d (4 * (1 - dir) + i), some (1 - dir)) := by
  obtain ⟨k, hk, -⟩ := State.routing_pkt (d := d) hp
  have op : s.ringRouteOp d p = (s.routing d p).takesLink d (1 - dir) p true (s.upLinks d (1 - dir) 15) := by
    rw [State.ringRouteOp_eq, hdir]
    exact (if_neg (by simpa using hr)).trans ((if_neg (by simp [hu])).trans (if_pos (by rw [Bool.not_eq_true', List.isEmpty_eq_false_iff]; exact hb)))
  rw [op]
  obtain ⟨i, hi, -, out⟩ := State.takesLink_outcome (State.pkt_id hp) hk true hb
  exact ⟨i, hi, out⟩

/-- A response that finds no link at all is lost. -/
theorem State.ringRouteOp_lost (hr : p.resp ≠ none) (hu : s.upLinks d dir (s.routeMask d p) = []) (hb : s.upLinks d (1 - dir) 15 = []) :
    ((s.ringRouteOp d p).pkt id).map (·.loc) = some .lost := by
  obtain ⟨k, hk, -⟩ := State.routing_pkt (d := d) hp
  have op : s.ringRouteOp d p = ((s.routing d p).modPkt p.id (fun p => { p with loc := .lost })).latchDecerr d p.latchAddr p.iss := by
    rw [State.ringRouteOp_eq, hdir]
    exact (if_neg (by simpa using hr)).trans ((if_neg (by simp [hu])).trans (if_neg (by rw [Bool.not_eq_true', List.isEmpty_eq_false_iff]; exact fun h => h hb)))
  rw [op, State.pkt_id hp]
  exact congrArg (Option.map (·.loc)) (State.modPkt_pkt_self (f := fun p => { p with loc := .lost }) hk fun _ => rfl)

end

theorem State.exec_ringRoute (hd : s.hasDie d = true) (hl : s.live d = true) (hp : s.pkt id = some p) (hm : p.loc = .matrix d) (hn : p.destDie ≠ d)
    (hb : s.heldBack p = false) (ho : s.outOfTurn p = false) : exec (.ringRoute d id) s = .next (s.ringRouteOp d p) := by
  refine (State.atDie_next hd hl).trans (congrArg Host.Outcome.next ?_)
  unfold State.ringRoute
  rw [hp]
  exact if_pos (by simp [hm, hn, hb, ho])

/-! ## SLC_ROUTE -/

variable {w : Src} {t : Nat} {v : Word}

theorem State.exec_routeWrite (h : s.sliceTakes w d (0x01A0 + 4 * t) v) (ht : t < 8) {u : State} {st : Status} (ho : s.routeOp w d t v = (u, st)) :
    exec (.routeWrite w d t v) s = .next (s.sliceAnswered u w d (0x01A0 + 4 * t) v st) :=
  (if_pos (decide_eq_true ht)).trans (State.sliceReg_now_of_eq h ho)

theorem State.routeOp_kept (hm : s.isManager w = true) (h : t = d ∨ s.dies ≤ t) : s.routeOp w d t v = (s, .ok) := by
  unfold State.routeOp
  exact (if_neg (by simp [hm])).trans (if_pos (by simpa using h))

/-- The slice with SLC_ROUTE[t] as written. -/
def Slice.setRoute (S : Slice) (t : Nat) (v : Word) : Slice :=
  { S with routeDir := S.routeDir.set t (bit v 0), routeLinks := S.routeLinks.set t (BitVec.ofNat 4 (bits v 4 4)) }

theorem State.routeOp_set (hm : s.isManager w = true) (hd : t ≠ d) (ht : t < s.dies) :
    s.routeOp w d t v = (s.modSlice d (fun S => S.setRoute t v), .ok) := by
  unfold State.routeOp
  exact (if_neg (by simp [hm])).trans (if_neg (by simp [hd, ht]))

theorem State.setRoute_routes (s : State) (d t : Nat) (v : Word) :
    (s.modSlice d (fun S => S.setRoute t v)).routeDir d t = (if bit v 0 then 1 else 0) ∧
      ((s.modSlice d (fun S => S.setRoute t v)).routeLinks d t).toNat = bits v 4 4 ∧
      ∀ e, e ≠ t → (s.modSlice d (fun S => S.setRoute t v)).routeDir d e = s.routeDir d e ∧
        (s.modSlice d (fun S => S.setRoute t v)).routeLinks d e = s.routeLinks d e := by
  simp only [State.routeDir, State.routeLinks, State.modSlice_slice, if_true, Slice.setRoute, Tbl.get_set]
  refine ⟨trivial, ?_, fun e he => ?_⟩
  · rw [BitVec.toNat_ofNat, Nat.mod_eq_of_lt (bits_lt_pow ..)]
  · rw [if_neg (Ne.symm he), if_neg (Ne.symm he)]
    exact ⟨rfl, rfl⟩

/-! ## The obligation -/

theorem State.exec_port {e : Nat → Nat → State} {c : Instr} {port : Nat} (hd : s.hasDie d = true) (hl : s.live d = true) (hp : port < 8)
    (he : exec c s = s.named (port < 8) (s.atDie d (e d port))) : exec c s = .next (e d port) :=
  he.trans ((if_pos (decide_eq_true hp)).trans (State.atDie_next hd hl))

/-- Settles O59: training, stripes sent and received, ACK and NAK, links that go down, and the routes. -/
theorem linksAndRoutes : Obligations.LinksAndRoutes := by
  refine ⟨fun s d port up hd hp ht => ⟨_, State.atAnyDie_next hd, State.trainedOp_outcome hp ht⟩, fun s d port hd hl hp hu hf => ⟨?_, ?_⟩,
    fun s d port noise x l hd hl hp hw => ?_, fun s d port ack hd hl hp => ⟨?_, fun x l hn he hk hx => ?_⟩, fun s d port hd hl hp hu hf => ?_,
    fun s d hd hl hn => ?_, fun s d id p hd hl hp hm hn hb ho hdir => ?_, fun s w d t v h hm ht => ⟨fun k => ?_, fun hd hlt => ?_⟩⟩
  · intro i l h
    refine ⟨_, (s.bridge d port).stripe .data [i],
      State.exec_port (e := fun d port => s.stripeSendOp d port) hd hl hp rfl, rfl, rfl, rfl, rfl, rfl, ?_⟩
    rw [State.stripeSendOp_data hu hf h, State.stripeOut_bridge]
    exact ⟨rfl, rfl, rfl, rfl⟩
  · intro i h hi hp'
    obtain ⟨x, out⟩ := State.stripeSendOp_command_outcome hu hf h hi hp'
    exact ⟨_, x, State.exec_port (e := fun d port => s.stripeSendOp d port) hd hl hp rfl, out⟩
  · exact ⟨_, State.exec_port (e := fun d port => s.stripeReceivedOp d port noise) hd hl hp rfl, State.stripeReceivedOp_wire hw,
      fun hg hs => State.stripeReceivedOp_good hw hg hs, fun h => State.stripeReceivedOp_bad hw h⟩
  · exact State.exec_port (e := fun d port => s.stripeAckOp d port ack) hd hl hp rfl
  · exact ⟨_, State.exec_port (e := fun d port => s.stripeNakOp d port ack) hd hl hp rfl, State.stripeNakOp_taken hn he hk hx,
      fun hr => hk ▸ State.stripeNakOp_again hn he hk hx hr, fun hr => State.stripeNakOp_fails hn he hk hx hr⟩
  · have fails : s.linkFails d port = s.linkDownOp d port := if_pos (by rw [hu, hf]; rfl)
    exact ⟨_, (State.exec_port (e := fun d port => s.linkFails d port) hd hl hp rfl).trans (congrArg Host.Outcome.next fails),
      State.linkDownOp_outcome hp⟩
  · have told : s.linkTold d = (s.modSlice d (fun S => { S with linkNotice := false })).endRing d := if_pos hn
    refine ⟨_, (State.atDie_next hd hl).trans (congrArg Host.Outcome.next told), ?_, fun p hm hr => State.endRing_mem hm hr,
      fun p hm hr => State.endRing_answers hm hr⟩
    rw [State.endRing_slice, State.modSlice_slice, if_pos rfl]
  · have run := State.exec_ringRoute hd hl hp hm hn hb ho
    intro dir up set
    have finds : s.upLinks d dir (s.routeMask d p) = [] ↔ ∀ i, ¬(up dir i ∧ set i) := by
      rw [State.upLinks_eq_nil]
      exact forall_congr' fun i => not_congr (and_congr_right fun hi => State.bit_routeMask hi.1)
    have back : s.upLinks d (1 - dir) 15 = [] ↔ ∀ i, ¬up (1 - dir) i := by
      rw [State.upLinks_eq_nil]
      exact forall_congr' fun i => not_congr ⟨fun h => h.1, fun h => ⟨h, bit_fifteen h.1⟩⟩
    refine ⟨fun ⟨i, hi⟩ ho => ?_, fun hr h => ⟨_, run, State.ringRouteOp_refused hp rfl hr (h.imp_left finds.mpr)⟩, fun hr hu ⟨i, hi⟩ => ?_,
      fun hr hu hb => ⟨_, run, State.ringRouteOp_lost hp rfl hr (finds.mpr hu) (back.mpr hb)⟩⟩
    · obtain ⟨j, hj, hm, out⟩ := State.ringRouteOp_takes hp rfl (fun h => finds.mp h i hi) ho
      exact ⟨_, j, run, hj, (State.bit_routeMask hj.1).mp hm, out⟩
    · obtain ⟨j, hj, out⟩ := State.ringRouteOp_turns hp rfl hr (finds.mpr hu) (fun h => back.mp h i hi)
      exact ⟨_, j, run, hj, out⟩
  · exact State.exec_routeWrite h ht (State.routeOp_kept hm k)
  · exact ⟨_, State.exec_routeWrite h ht (State.routeOp_set hm hd hlt), rfl, State.setRoute_routes s d t v⟩

end Sys2Proof.Machine
end

section
/-!
What the writes of registers leave alone (spec/13_registers.md, the tile and slice blocks): O8.
-/

namespace Sys2Proof.Machine

open Host

/-- A record that a channel could not place in its household's ring. -/
def keptRecord : CRec :=
  { tag := 0, idx := 0, status := .ok, l := false, demoted := false, chan := 0, tile := 256, bytes := 0, pace := 0, faddr := 0, fdir := 0 }

/-- A tile whose channel 0 waits for room for its record. -/
def waitingTile : Tile := { chans := [(0, { recWait := some (keptRecord, false, .idle) })] }

/-- A tile with channel 0 in its table. -/
def listingTile : Tile := { chans := [(0, {})] }

/-- The write of HEAD of the record ring of household 0 at slice 0, come to the register bus. -/
def headWrite : Packet :=
  { (default : Packet) with
    iss := { die := 0, tile := 0, master := 3, chan := 0, hh := 0, port := 127 }, kind := .reg true, target := .regs 0,
    addr := BitVec.ofNat 48 (sliceRegAddr 0 0x0508), size := 4, write := true, data := [0], loc := .arrived }

/-- The table of slice 0 lists an index past its 256 tiles: tile 0 of slice 1 is reached under it. -/
def overlong : State :=
  { pkg := .yx2, net := [headWrite],
    slices := [(0, { power := true, step := 9, tiles := [(256, listingTile)] }), (1, { power := true, step := 9, tiles := [(0, waitingTile)] })] }

/-- Whether channel 0 of tile 0 of slice 1 waits for room. -/
def State.farWaits (s : State) : Bool := ((((s.slice 1).tile 0).chan 0).recWait).isSome

/-- The outcome of the write in `overlong`. -/
def overlongNext : State := match exec (.cringHeadWrite (.sc 0) 0 0 0) overlong with | .next t => t | _ => overlong

/-- Refutes O8: the slice lets its waiting records go on by the indexes that its table of tiles lists, and an index of 256 or more names a tile of
another slice. In `overlong` a write of a ring's HEAD at slice 0 so lets a channel of slice 1 go on. -/
theorem not_writesStayInTheirBlock : ¬ Obligations.WritesStayInTheirBlock := by
  intro h
  have step : exec (.cringHeadWrite (.sc 0) 0 0 0) overlong = .next overlongNext := by rfl
  obtain ⟨same, -⟩ := h.2 overlong overlongNext (.sc 0) 0 0 0 (.cringHeadWrite (.sc 0) 0 0 0) (by simp) step
  have far : overlongNext.farWaits = overlong.farWaits := congrArg (fun S : Slice => (((S.tile 0).chan 0).recWait).isSome) (same 1 (by decide) (by decide))
  exact absurd far (by decide +kernel)

end Sys2Proof.Machine
end

section
/-!
What the steps of a reassignment leave (spec/08_tallies_bells_channels.md R300 to R303): gates and endpoints close and none opens, disabled
channels stay so, and other tiles keep their merge buffers. The lemmas that O39 rests on.
-/

namespace Sys2Proof.Machine

variable {s t u : State} {tile h : Nat} {T T' : Tile} {P : Nat → Prop}

/-! ## The relation at a tile -/

/-- `T'` has the household and the reassignment of `T`; no gate or endpoint of it opens, and no disabled channel works. -/
structure Tile.WindsFrom (T' T : Tile) : Prop extends Tile.ClosesFrom T' T where
  reassign : T'.reassign = T.reassign
  hh : T'.hh = T.hh
  chan : ∀ n, (T.chan n).state = .disabled → (T'.chan n).state = .disabled

/-- `T'` has the narrow writes of `T`, and entries in its merge buffer as `T` has. -/
def Tile.SameBuffer (T' T : Tile) : Prop := T'.merge.isEmpty = T.merge.isEmpty ∧ T'.narrow = T.narrow

theorem Tile.windsFrom_refl (T : Tile) : T.WindsFrom T := ⟨T.closesFrom_refl, rfl, rfl, fun _ h => h⟩

theorem Tile.WindsFrom.trans {T₂ T₁ T : Tile} (h : T₂.WindsFrom T₁) (h' : T₁.WindsFrom T) : T₂.WindsFrom T :=
  ⟨h.toClosesFrom.trans h'.toClosesFrom, h.reassign.trans h'.reassign, h.hh.trans h'.hh, fun n d => h.chan n (h'.chan n d)⟩

theorem Tile.SameBuffer.trans {T₂ T₁ T : Tile} (h : T₂.SameBuffer T₁) (h' : T₁.SameBuffer T) : T₂.SameBuffer T :=
  ⟨h.1.trans h'.1, h.2.trans h'.2⟩

/-- A change of a tile beside its gates, endpoints, channels, household and reassignment. -/
theorem Tile.windsFrom_of_rest (hg : T'.gates = T.gates) (he : T'.eps = T.eps) (hr : T'.reassign = T.reassign) (hh : T'.hh = T.hh)
    (hc : T'.chans = T.chans) : T'.WindsFrom T := by
  refine ⟨⟨fun k => ?_, fun k => ?_⟩, hr, hh, fun n d => ?_⟩
  · rw [Tile.gate, hg]
    exact ⟨rfl, fun o => o⟩
  · rw [Tile.ep, he]
    exact ⟨rfl, fun o => o⟩
  · rw [Tile.chan, hc]
    exact d

/-- A change of its gates and endpoints that opens none. -/
theorem Tile.ClosesFrom.winds (h : T'.ClosesFrom T) (hr : T'.reassign = T.reassign) (hh : T'.hh = T.hh) (hc : T'.chans = T.chans) :
    T'.WindsFrom T :=
  ⟨h, hr, hh, fun n d => by rw [Tile.chan, hc]; exact d⟩

theorem Tile.setChan_windsFrom (T : Tile) (n : Nat) {c : Channel} (hc : (T.chan n).state = .disabled → c.state = .disabled) :
    (T.setChan n c).WindsFrom T := by
  refine ⟨⟨fun _ => ⟨rfl, fun o => o⟩, fun _ => ⟨rfl, fun o => o⟩⟩, rfl, rfl, fun m d => ?_⟩
  rw [Tile.setChan_chan]
  split
  · next e => exact hc (e ▸ d)
  · exact d

theorem Tile.setEp_windsFrom (T : Tile) (e : Nat) {E : Endpoint} (hh : E.hh = (T.ep e).hh) (ho : E.isOpen = true → (T.ep e).isOpen = true) :
    (T.setEp e E).WindsFrom T := (T.setEp_closesFrom e hh ho).winds rfl rfl rfl

theorem Endpoint.discard_kept (E : Endpoint) (pos : Nat) : (E.discard pos).hh = E.hh ∧ (E.discard pos).isOpen = E.isOpen := by
  unfold Endpoint.discard
  repeat' split
  all_goals exact ⟨rfl, rfl⟩

theorem Tile.closeMsgs_rest {α : Type} {f : Tile → α} (hf : ∀ (T : Tile) l m, f { T with eps := l, msgs := m } = f T) (T : Tile) (e : Nat) :
    f (T.closeMsgs e) = f T :=
  (hf _ _ _).trans (foldl_eq (g := fun (T : Tile) (_ : MsgIn) => T.setEp e { T.ep e with drop := satInc (T.ep e).drop }) f
    (fun T _ => hf T _ T.msgs) _ T)

theorem Tile.shutEp_windsFrom (T : Tile) (e : Nat) : (T.shutEp e).WindsFrom T :=
  (T.shutEp_closesFrom e).winds (Tile.closeMsgs_rest (f := Tile.reassign) (fun _ _ _ => rfl) _ e)
    (Tile.closeMsgs_rest (f := Tile.hh) (fun _ _ _ => rfl) _ e) (Tile.closeMsgs_rest (f := Tile.chans) (fun _ _ _ => rfl) _ e)

theorem Tile.shutEp_sameBuffer (T : Tile) (e : Nat) : (T.shutEp e).SameBuffer T :=
  ⟨Tile.closeMsgs_rest (f := fun T => T.merge.isEmpty) (fun _ _ _ => rfl) _ e, Tile.closeMsgs_rest (f := Tile.narrow) (fun _ _ _ => rfl) _ e⟩

theorem Tile.leaveGates_windsFrom (T : Tile) (gs : List Nat) : (T.leaveGates gs).WindsFrom T := by
  refine Tile.ClosesFrom.winds ⟨fun k => ?_, fun _ => ⟨rfl, fun o => o⟩⟩ rfl rfl rfl
  have kept : ∀ (gs : List Nat) (m : Tbl Gate),
      let G := Tbl.get {} (gs.foldl (fun g k => let G := Tbl.get {} g k; g.set k { G with bursts := G.bursts - 1 }) m) k
      G.hh = (Tbl.get {} m k : Gate).hh ∧ (G.isOpen = true → (Tbl.get {} m k : Gate).isOpen = true) := fun gs => by
    induction gs with
    | nil => exact fun m => ⟨rfl, fun o => o⟩
    | cons g gs ih =>
      intro m
      obtain ⟨hh, ho⟩ := ih (m.set g { (Tbl.get {} m g : Gate) with bursts := (Tbl.get {} m g : Gate).bursts - 1 })
      rw [Tbl.get_set] at hh ho
      by_cases e : g = k
      · subst e
        rw [if_pos rfl] at hh ho
        exact ⟨hh, ho⟩
      · rw [if_neg e] at hh ho
        exact ⟨hh, ho⟩
  exact kept gs T.gates

theorem Tile.burstServed_windsFrom (T : Tile) (i : Issuer) (b : Nat) (w : Bool) (n : Nat) : (T.burstServed i b w n).WindsFrom T := by
  unfold Tile.burstServed
  dsimp only
  split
  · exact T.windsFrom_refl
  · split
    · exact Tile.windsFrom_of_rest rfl rfl rfl rfl rfl
    · exact (Tile.leaveGates_windsFrom _ _).trans (Tile.windsFrom_of_rest rfl rfl rfl rfl rfl)

theorem Tile.WindsFrom.setMsgs (h : T'.WindsFrom T) (l : List MsgIn) : ({ T' with msgs := l } : Tile).WindsFrom T :=
  Tile.WindsFrom.trans (T₁ := T') (Tile.windsFrom_of_rest rfl rfl rfl rfl rfl) h

theorem Tile.pieceEnded_windsFrom (T : Tile) (m : MsgIn) (st : Status) (l : Bool) : (T.pieceEnded m st l).WindsFrom T := by
  unfold Tile.pieceEnded
  extract_lets bad U m'
  have discarded : U.WindsFrom T := by
    by_cases hb : bad
    · have e : U = T.setEp m.endpoint ((T.ep m.endpoint).discard m.pos) := if_pos hb
      rw [e]
      exact T.setEp_windsFrom _ (Endpoint.discard_kept ..).1 fun o => (Endpoint.discard_kept ..).2 ▸ o
    · have e : U = T := if_neg hb
      rw [e]
      exact T.windsFrom_refl
  clear_value U
  split
  · split
    · exact Tile.WindsFrom.trans (Tile.setEp_windsFrom { U with msgs := U.msgs.filter (fun k => k.iss != m.iss) } _ rfl fun o => o)
         (discarded.setMsgs _)
    · exact discarded.setMsgs _
  · exact discarded.setMsgs _

theorem Tile.tagBlock_windsFrom (T : Tile) (b : Nat) (l d : Bool) : (T.tagBlock b l d).WindsFrom T := by
  unfold Tile.tagBlock
  split
  · exact T.windsFrom_refl
  · exact T.setChan_windsFrom _ fun o => o

theorem Channel.addFail_state (c : Channel) (f : ChFail) : (c.addFail f).state = c.state := by
  unfold Channel.addFail
  split
  · rfl
  · split <;> rfl

theorem Channel.burstAnswer_state (c : Channel) (ord unit first : Nat) (w : Bool) (a : Nat) (st : Status) (data : List RowData) (l d : Bool) :
    (c.burstAnswer ord unit first w a st data l d).state = c.state := by
  unfold Channel.burstAnswer
  dsimp only
  split
  · exact Channel.addFail_state ..
  · split <;> rfl

theorem Channel.regAnswer_state (c : Channel) (a : Nat) (st : Status) : (c.regAnswer a st).state = c.state := by
  unfold Channel.regAnswer
  split
  · rfl
  · split
    · split
      · rfl
      · exact Channel.addFail_state ..
    · rfl

/-! ## The relation of states -/

/-- `t` is `s` but for what a reassignment winds up; the tiles of `P` keep their merge buffers. -/
structure State.WindsFrom (P : Nat → Prop) (t s : State) : Prop where
  hhTiles : ∀ e, (t.slice e).hhTiles = (s.slice e).hhTiles
  tile : ∀ g, (t.tile g).WindsFrom (s.tile g)
  buffer : ∀ g, P g → (t.tile g).SameBuffer (s.tile g)

theorem State.windsFrom_refl (s : State) : s.WindsFrom P s := ⟨fun _ => rfl, fun g => (s.tile g).windsFrom_refl, fun _ _ => ⟨rfl, rfl⟩⟩

theorem State.WindsFrom.trans (h : u.WindsFrom P t) (h' : t.WindsFrom P s) : u.WindsFrom P s :=
  ⟨fun e => (h.hhTiles e).trans (h'.hhTiles e), fun g => (h.tile g).trans (h'.tile g), fun g p => (h.buffer g p).trans (h'.buffer g p)⟩

theorem State.WindsFrom.weaken {Q : Nat → Prop} (h : t.WindsFrom P s) (hq : ∀ g, Q g → P g) : t.WindsFrom Q s :=
  ⟨h.hhTiles, h.tile, fun g q => h.buffer g (hq g q)⟩

/-- A change beside the tiles and the lists of tiles under reassignment. -/
theorem State.windsFrom_of_tiles (ht : ∀ g, t.tile g = s.tile g) (hs : ∀ e, (t.slice e).hhTiles = (s.slice e).hhTiles) : t.WindsFrom P s :=
  ⟨hs, fun g => by rw [ht]; exact (s.tile g).windsFrom_refl, fun g _ => by rw [ht]; exact ⟨rfl, rfl⟩⟩

theorem State.modTile_windsFrom (s : State) (g : Nat) {f : Tile → Tile} (hf : (f (s.tile g)).WindsFrom (s.tile g))
    (hb : P g → (f (s.tile g)).SameBuffer (s.tile g)) : (s.modTile g f).WindsFrom P s := by
  refine ⟨fun e => ?_, fun k => ?_, fun k p => ?_⟩
  · obtain ⟨l, hl⟩ := State.modTile_slice s g f e
    rw [hl]
  · rw [State.modTile_tile]
    split
    · next e => exact e ▸ hf
    · exact (s.tile k).windsFrom_refl
  · rw [State.modTile_tile]
    split
    · next e => exact e ▸ hb (e ▸ p)
    · exact ⟨rfl, rfl⟩

theorem State.foldl_windsFrom {α : Type} {f : State → α → State} (hf : ∀ t x, (f t x).WindsFrom P t) (l : List α) (s : State) :
    (l.foldl f s).WindsFrom P s := by
  induction l generalizing s with
  | nil => exact s.windsFrom_refl
  | cons x l ih => exact (ih (f s x)).trans (hf s x)

theorem State.modChan_windsFrom (s : State) (g n : Nat) {f : Channel → Channel} (hf : ∀ c, (f c).state = c.state) :
    (s.modChan g n f).WindsFrom P s :=
  s.modTile_windsFrom g (Tile.setChan_windsFrom _ n fun d => (hf _).trans d) fun _ => ⟨rfl, rfl⟩

theorem State.emit_windsFrom (s : State) (o : Output) : (s.emit o).WindsFrom P s := State.windsFrom_of_tiles (fun _ => rfl) fun _ => rfl

theorem State.takeId_windsFrom (s : State) : s.takeId.WindsFrom P s := State.windsFrom_of_tiles (fun _ => rfl) fun _ => rfl

theorem State.modPkt_windsFrom (s : State) (id : Nat) (f : Packet → Packet) : (s.modPkt id f).WindsFrom P s :=
  State.windsFrom_of_tiles (fun _ => rfl) fun _ => rfl

theorem State.dropPkt_windsFrom (s : State) (id : Nat) : (s.dropPkt id).WindsFrom P s := State.windsFrom_of_tiles (fun _ => rfl) fun _ => rfl

theorem State.respondAt_windsFrom (s : State) (g id : Nat) (st : Status) (data : List RowData) : (s.respondAt g id st data).WindsFrom P s :=
  s.modPkt_windsFrom id _

theorem State.answerAt_windsFrom (s : State) (d id : Nat) (st : Status) (data : List RowData) : (s.answerAt d id st data).WindsFrom P s :=
  State.windsFrom_of_tiles (fun _ => rfl) fun _ => rfl

theorem State.modSlice_windsFrom (s : State) (d : Nat) {f : Slice → Slice} (hb : ∀ S, (f S).base = S.base) (ht : ∀ S, (f S).tiles = S.tiles)
    (hh : ∀ S, (f S).hhTiles = S.hhTiles) : (s.modSlice d f).WindsFrom P s := by
  refine State.windsFrom_of_tiles (fun g => s.modSlice_tile d g hb ht) fun e => ?_
  rw [State.modSlice_slice]
  split
  · next h => rw [hh, h]
  · rfl

theorem State.record_windsFrom (s : State) (d type g : Nat) (det : BitVec 352) : (s.record d type g det).WindsFrom P s :=
  State.windsFrom_of_tiles (fun k => State.record_tile s d type g k det) fun _ => State.record_value (f := Slice.hhTiles) (fun _ _ _ _ => rfl) ..

theorem State.pieceEnd_hhTiles (s : State) (p : Packet) (k : Nat) (st : Status) (dem : Bool) (e : Nat) :
    ((s.pieceEnd p k st dem).slice e).hhTiles = (s.slice e).hhTiles := by
  rw [State.pieceEnd, State.modSlice_slice]
  split
  · next h =>
    rw [← h]
    extract_lets S q S'
    have same : S'.hhTiles = (s.slice p.iss.die).hhTiles := by
      cases dem <;> rfl
    clear_value S'
    split
    · exact same
    · refine Eq.trans ?_ same
      unfold Slice.hostFault
      exact Slice.raise_hhTiles ..
  · rfl

theorem State.pieceEnd_windsFrom (s : State) (p : Packet) (k : Nat) (st : Status) (dem : Bool) : (s.pieceEnd p k st dem).WindsFrom P s :=
  State.windsFrom_of_tiles (fun g => s.pieceEnd_tile p k st dem g) fun e => s.pieceEnd_hhTiles p k st dem e

theorem State.answerReg_windsFrom (s : State) (w : Src) (a : Nat) (st : Status) (v : Word) : (s.answerReg w a st v).WindsFrom P s := by
  unfold State.answerReg
  cases w with
  | st t n => exact (State.modChan_windsFrom _ t n fun c => c.regAnswer_state a st).trans (s.emit_windsFrom _)
  | sc t => exact s.emit_windsFrom _
  | host d fn => exact s.emit_windsFrom _

theorem State.answerAcc_windsFrom (s : State) (d base : Nat) (a : RegAcc) (st : Status) (v : Word) : (s.answerAcc d base a st v).WindsFrom P s := by
  unfold State.answerAcc
  dsimp only
  split
  · split
    · exact s.windsFrom_refl
    · exact s.answerReg_windsFrom ..
  · split
    · exact s.answerAt_windsFrom ..
    · split
      · exact s.modSlice_windsFrom d (fun _ => rfl) (fun _ => rfl) fun _ => rfl
      · exact (State.answerAt_windsFrom ..).trans (s.modSlice_windsFrom d (fun _ => rfl) (fun _ => rfl) fun _ => rfl)

theorem State.endOp_windsFrom (s : State) (g : Nat) (e : Engine) (st : Status) (l : Bool) (v : Nat) : (s.endOp g e st l v).WindsFrom P s :=
  (State.emit_windsFrom ..).trans (s.modTile_windsFrom g (Tile.windsFrom_of_rest rfl rfl rfl rfl rfl) fun _ => ⟨rfl, rfl⟩)

theorem State.closeEp_windsFrom (s : State) (g e : Nat) : (s.closeEp g e).WindsFrom P s := by
  rw [State.closeEp_eq]
  refine (State.foldl_windsFrom (fun t k => ?_) _ _).trans
    (s.modTile_windsFrom g (Tile.shutEp_windsFrom _ e) fun _ => Tile.shutEp_sameBuffer _ e)
  unfold State.endRecv
  split
  · exact t.endOp_windsFrom ..
  · exact t.windsFrom_refl

/-- An endpoint closes if it is open. -/
def State.closeEpIfOpen (g : Nat) (s : State) (e : Nat) : State := if ((s.tile g).ep e).isOpen && true then s.closeEp g e else s

theorem State.closeEpIfOpen_windsFrom (s : State) (g e : Nat) : (s.closeEpIfOpen g e).WindsFrom P s := by
  unfold State.closeEpIfOpen
  split
  · exact s.closeEp_windsFrom g e
  · exact s.windsFrom_refl

theorem State.closeEps_all (s : State) (g : Nat) : s.closeEps g (fun _ => true) = (List.range 16).foldl (State.closeEpIfOpen g) s := rfl

theorem State.closeEps_windsFrom (s : State) (g : Nat) : (s.closeEps g (fun _ => true)).WindsFrom P s := by
  rw [State.closeEps_all]
  exact State.foldl_windsFrom (fun t e => t.closeEpIfOpen_windsFrom g e) _ _

theorem Tile.WindsFrom.ep_closed (hw : T'.WindsFrom T) {e : Nat} (h : (T.ep e).isOpen = false) : (T'.ep e).isOpen = false :=
  Bool.eq_false_iff.mpr fun o => Bool.eq_false_iff.mp h ((hw.ep e).2 o)

theorem Tile.WindsFrom.gate_closed (hw : T'.WindsFrom T) {g : Nat} (h : (T.gate g).isOpen = false) : (T'.gate g).isOpen = false :=
  Bool.eq_false_iff.mpr fun o => Bool.eq_false_iff.mp h ((hw.gate g).2 o)

/-- Every endpoint of the tile has closed. -/
theorem State.closeEps_closed (s : State) (g : Nat) {e : Nat} (he : e < 16) : (((s.closeEps g (fun _ => true)).tile g).ep e).isOpen = false := by
  rw [State.closeEps_all]
  refine foldl_of_step_mem (f := State.closeEpIfOpen g) (P := fun t : State => ((t.tile g).ep e).isOpen = false)
    (fun t x ht => ((t.closeEpIfOpen_windsFrom (P := fun _ => True) g x).tile g).ep_closed ht) (fun t => ?_) (List.mem_range.mpr he) s
  unfold State.closeEpIfOpen
  split
  · have shut := t.closeEp_epShut g e (((t.closeEp g e).tile g).ep e).hh.toNat
    exact shut rfl
  · next h => simpa using h

/-! ## The merge buffer, locks and accesses -/

theorem State.startFlush_windsFrom (s : State) (g b r : Nat) (ev : Bool) : (s.startFlush g b r ev).WindsFrom P s := by
  unfold State.startFlush
  dsimp only
  split
  · exact s.windsFrom_refl
  · have begun : (s.modTile g (fun T => { T with
        merge := updWhere (fun k => k.bank == b && k.row == r && !k.flushing)
          (fun k => { k with flushing := true, evicted := ev, flushAt := s.nextId }) T.merge })).WindsFrom P s :=
      s.modTile_windsFrom g (Tile.windsFrom_of_rest rfl rfl rfl rfl rfl) fun _ => ⟨List.isEmpty_map, rfl⟩
    split
    · refine (State.modTile_windsFrom _ g (Tile.windsFrom_of_rest rfl rfl rfl rfl rfl) fun _ => ⟨rfl, rfl⟩).trans
        ((State.takeId_windsFrom _).trans begun)
    · exact begun

theorem State.flushBanks_windsFrom (s : State) (g : Nat) (l : List Nat) : (s.flushBanks g l).WindsFrom P s :=
  State.foldl_windsFrom (fun t (e : MergeEntry) => t.startFlush_windsFrom g e.bank e.row false) _ s

theorem State.breakLock_windsFrom (s : State) (g b c : Nat) : (s.breakLock g b c).WindsFrom P s := by
  unfold State.breakLock
  dsimp only
  split
  · exact s.windsFrom_refl
  · exact (State.record_windsFrom ..).trans (s.modTile_windsFrom g (Tile.windsFrom_of_rest rfl rfl rfl rfl rfl) fun _ => ⟨rfl, rfl⟩)

theorem State.breakLocks_windsFrom (s : State) (g c : Nat) (p : Holder → Bool) : (s.breakLocks g c p).WindsFrom P s :=
  State.foldl_windsFrom (fun t (q : Nat × _) => t.breakLock_windsFrom g q.1 c) _ s

theorem State.deliver_windsFrom (s : State) (g : Nat) (a : Access) (st : Status) : (s.deliver g a st).WindsFrom P s := by
  unfold State.deliver
  extract_lets data l
  cases a.dest with
  | port => exact s.emit_windsFrom _
  | burst ch unit first => exact s.modChan_windsFrom g ch fun c => c.burstAnswer_state ..
  | fetch ch => exact s.modChan_windsFrom g ch fun _ => rfl
  | index b =>
    refine s.modTile_windsFrom g (Tile.WindsFrom.trans (T₁ := (s.tile g).tagBlock b l a.demoted)
      (Tile.windsFrom_of_rest rfl rfl rfl rfl rfl) (Tile.tagBlock_windsFrom _ b l a.demoted)) fun _ => ?_
    unfold Tile.tagBlock
    split <;> exact ⟨rfl, rfl⟩
  | sendRead e unit => exact s.modTile_windsFrom g (Tile.windsFrom_of_rest rfl rfl rfl rfl rfl) fun _ => ⟨rfl, rfl⟩
  | packet id =>
    dsimp only
    split
    · exact s.windsFrom_refl
    · next p _ =>
      have served : (s.modTile g (fun T => T.burstServed a.iss p.bstart p.write (p.size / 64))).WindsFrom P s :=
        s.modTile_windsFrom g (Tile.burstServed_windsFrom ..) fun _ =>
          ⟨Tile.DeliverFree.burstServed (f := fun T => T.merge.isEmpty) ⟨fun _ _ => rfl, fun _ _ => rfl, fun _ _ => rfl, fun _ _ => rfl, fun _ _ => rfl,
            fun _ _ => rfl, fun _ _ => rfl⟩ .., Tile.DeliverFree.burstServed (f := Tile.narrow) ⟨fun _ _ => rfl, fun _ _ => rfl, fun _ _ => rfl,
            fun _ _ => rfl, fun _ _ => rfl, fun _ _ => rfl, fun _ _ => rfl⟩ ..⟩
      refine State.WindsFrom.trans ?_ served
      generalize s.modTile g (fun T => T.burstServed a.iss p.bstart p.write (p.size / 64)) = t
      split
      · exact (State.dropPkt_windsFrom ..).trans (t.pieceEnd_windsFrom ..)
      · split
        · exact t.modPkt_windsFrom ..
        · next m _ =>
          refine (State.modPkt_windsFrom ..).trans (t.modTile_windsFrom g (Tile.pieceEnded_windsFrom ..) fun _ => ⟨?_, ?_⟩)
          · exact Tile.DeliverFree.pieceEnded (f := fun T => T.merge.isEmpty) ⟨fun _ _ => rfl, fun _ _ => rfl, fun _ _ => rfl, fun _ _ => rfl,
              fun _ _ => rfl, fun _ _ => rfl, fun _ _ => rfl⟩ ..
          · exact Tile.DeliverFree.pieceEnded (f := Tile.narrow) ⟨fun _ _ => rfl, fun _ _ => rfl, fun _ _ => rfl, fun _ _ => rfl, fun _ _ => rfl,
              fun _ _ => rfl, fun _ _ => rfl⟩ ..
      · split
        · exact t.modPkt_windsFrom ..
        · exact t.modPkt_windsFrom ..
  | flush _ _ => exact s.windsFrom_refl
  | dropped => exact s.windsFrom_refl

theorem State.refuseAcc_windsFrom (s : State) (g : Nat) (st : Status) (a : Access) : (s.refuseAcc g st a).WindsFrom (· ≠ g) s := by
  unfold State.refuseAcc
  split
  · exact (State.emit_windsFrom ..).trans (s.modTile_windsFrom g (Tile.windsFrom_of_rest rfl rfl rfl rfl rfl) fun n => absurd rfl n)
  · exact (State.deliver_windsFrom ..).trans (s.modTile_windsFrom g (Tile.windsFrom_of_rest rfl rfl rfl rfl rfl) fun _ => ⟨rfl, rfl⟩)

theorem State.refuseNarrow_windsFrom (s : State) (g : Nat) (st : Status) (p : NarrowWrite → Bool) : (s.refuseNarrow g st p).WindsFrom (· ≠ g) s :=
  (State.foldl_windsFrom (fun t _ => t.emit_windsFrom _) _ _).trans
    (s.modTile_windsFrom g (Tile.windsFrom_of_rest rfl rfl rfl rfl rfl) fun n => absurd rfl n)

theorem State.noRtally_windsFrom (s : State) (p : Packet) : (s.noRtally p).WindsFrom P s := by
  unfold State.noRtally
  dsimp only
  split
  · split
    · exact (State.respondAt_windsFrom ..).trans (s.modTile_windsFrom _ (Tile.windsFrom_of_rest rfl rfl rfl rfl rfl) fun _ => ⟨rfl, rfl⟩)
    · exact s.windsFrom_refl
  · exact s.windsFrom_refl

end Sys2Proof.Machine
end

section
/-!
The reassignment of a tile (spec/08_tallies_bells_channels.md R300 to R303; spec/09_households.md R312): O39.
-/

namespace Sys2Proof.Machine

variable {s t : State} {tile h : Nat} {P : Nat → Prop}

/-! ## Steps 1 and 2 -/

/-- The tile is marked with its new household. -/
def State.reassignMarked (s : State) (tile h : Nat) : State := s.modTile tile (fun T => { T with reassign := some { hh := h } })

/-- Its own accesses that wait at its block end. -/
def State.reassignAborts (s : State) (tile : Nat) : State :=
  ((s.tile tile).regWait.filter (fun a => isLocal a.src tile)).foldl
    (fun s a => s.answerAcc (tileDie tile) (tileRegAddr tile 0) a .aborted 0)
    (s.modTile tile (fun T => { T with regWait := T.regWait.filter (fun a => !(isLocal a.src tile)) }))

/-- Its gates close. -/
def State.reassignGates (s : State) (tile : Nat) : State := s.modTile tile (fun T => T.closeGates (s.paceNat tile) (fun _ => true))

/-- Its merge buffer begins to flush, and the locks of its core break. -/
def State.reassignFlushes (s : State) (tile : Nat) : State :=
  let s := (s.modTile tile (fun T => T.flushDirect (List.range 16))).flushBanks tile (List.range 16)
  (s.listedTiles.filter (fun t => t != tile)).foldl (fun s t => s.breakLocks t 1 (fun x => x.isCore t tile)) s

theorem State.reassignBegin_eq (s : State) (tile h : Nat) : s.reassignBegin tile h =
    ((((s.reassignMarked tile h).reassignAborts tile).reassignGates tile).closeEps tile (fun _ => true)).reassignFlushes tile := rfl

theorem State.reassignAborts_windsFrom (s : State) (tile : Nat) : (s.reassignAborts tile).WindsFrom P s :=
  (State.foldl_windsFrom (fun t a => t.answerAcc_windsFrom _ _ a _ _) _ _).trans
    (s.modTile_windsFrom tile (Tile.windsFrom_of_rest rfl rfl rfl rfl rfl) fun _ => ⟨rfl, rfl⟩)

theorem State.reassignGates_windsFrom (s : State) (tile : Nat) : (s.reassignGates tile).WindsFrom P s :=
  s.modTile_windsFrom tile ((Tile.closeGates_closesFrom ..).winds rfl rfl rfl) fun _ => ⟨rfl, rfl⟩

theorem State.reassignGates_closed (s : State) (tile g : Nat) : (((s.reassignGates tile).tile tile).gate g).isOpen = false := by
  rw [State.reassignGates, State.modTile_tile, if_pos rfl, Tile.closeGates_gate, if_pos rfl]
  exact Gate.close_isOpen ..

theorem State.reassignFlushes_windsFrom (s : State) (tile : Nat) : (s.reassignFlushes tile).WindsFrom P s :=
  (State.foldl_windsFrom (fun t k => t.breakLocks_windsFrom k 1 _) _ _).trans ((State.flushBanks_windsFrom ..).trans
    (s.modTile_windsFrom tile (Tile.windsFrom_of_rest rfl rfl rfl rfl rfl) fun _ => ⟨rfl, rfl⟩))

theorem State.reassignBegin_windsFrom (s : State) (tile h : Nat) : (s.reassignBegin tile h).WindsFrom P (s.reassignMarked tile h) := by
  rw [State.reassignBegin_eq]
  exact (State.reassignFlushes_windsFrom ..).trans ((State.closeEps_windsFrom ..).trans
    ((State.reassignGates_windsFrom ..).trans (State.reassignAborts_windsFrom ..)))

/-- The gates and endpoints of a tile that a request can name are closed. -/
def Tile.Shut (T : Tile) : Prop := (∀ e, e < 16 → (T.ep e).isOpen = false) ∧ ∀ g, (T.gate g).isOpen = false

theorem Tile.WindsFrom.shut {T' T : Tile} (hw : T'.WindsFrom T) (hs : T.Shut) : T'.Shut :=
  ⟨fun e he => hw.ep_closed (hs.1 e he), fun g => hw.gate_closed (hs.2 g)⟩

theorem State.reassignBegin_shut (s : State) (tile h : Nat) : ((s.reassignBegin tile h).tile tile).Shut := by
  rw [State.reassignBegin_eq]
  refine ((State.reassignFlushes_windsFrom (P := fun _ => True) _ tile).tile tile).shut ⟨fun e he => State.closeEps_closed _ tile he, fun g => ?_⟩
  exact ((State.closeEps_windsFrom (P := fun _ => True) _ tile).tile tile).gate_closed (State.reassignGates_closed _ tile g)

/-! ## Step 3 -/

/-- The state in which the tile's packets have been dropped and the adds of its multicasts undone. -/
def State.packetsDropped (s : State) (tile : Nat) : State :=
  (s.net.filter (fun p => p.ofStream tile)).foldl State.noRtally
    { s with
      net := (s.net.filter (fun p => !(p.ofStream tile && p.loc == Loc.home))).map
        (fun p => if p.ofStream tile then { p with abandoned := true } else p) }

/-- A tile whose channels are dropped. -/
def Tile.channelsDropped (T : Tile) (tile : Nat) : Tile :=
  { T with chans := [], blocks := [], idxWant := [], picked := none, sends := [],
           accs := T.accs.map (fun a => if masterCode a.master = 4 then { a with dest := .dropped } else a),
           regWait := T.regWait.map (RegAcc.unheard tile), regBusy := T.regBusy.map (RegAcc.unheard tile),
           tops := T.tops.filter (fun o => match o with | .done _ _ _ | .stAdd _ _ _ => false | _ => true) }

theorem State.dropChannels_eq (s : State) (tile : Nat) :
    s.dropChannels tile = (s.packetsDropped tile).modTile tile (fun T => T.channelsDropped tile) := rfl

theorem State.packetsDropped_windsFrom (s : State) (tile : Nat) : (s.packetsDropped tile).WindsFrom P s :=
  (State.foldl_windsFrom (fun t p => t.noRtally_windsFrom p) _ _).trans (State.windsFrom_of_tiles (fun _ => rfl) fun _ => rfl)

theorem Tile.channelsDropped_disabled (T : Tile) (tile n : Nat) : ((T.channelsDropped tile).chan n).state = .disabled := rfl

theorem State.dropChannels_windsFrom (s : State) (tile : Nat) : (s.dropChannels tile).WindsFrom P s := by
  rw [State.dropChannels_eq]
  refine (State.modTile_windsFrom _ tile ⟨⟨fun _ => ⟨rfl, fun o => o⟩, fun _ => ⟨rfl, fun o => o⟩⟩, rfl, rfl, fun n _ => ?_⟩ fun _ => ⟨rfl, rfl⟩).trans
    (s.packetsDropped_windsFrom tile)
  exact Tile.channelsDropped_disabled _ tile n

theorem State.dropChannels_disabled (s : State) (tile n : Nat) : (((s.dropChannels tile).tile tile).chan n).state = .disabled := by
  rw [State.dropChannels_eq, State.modTile_tile, if_pos rfl]
  exact Tile.channelsDropped_disabled _ tile n

/-- A tile whose banks take no more requests. -/
def Tile.halted (T : Tile) : Tile :=
  { T with reassign := T.reassign.map (fun r => { r with stopped := true }), bursts := T.bursts.map (fun b => { b with cut := true }) }

def State.reassignHalted (s : State) (tile : Nat) : State := s.modTile tile Tile.halted

theorem Tile.halted_reassign (T : Tile) : T.halted.reassign = T.reassign.map (fun r => { r with stopped := true }) := rfl

theorem Tile.halted_hh (T : Tile) : T.halted.hh = T.hh := rfl

theorem Tile.Shut.halted {T : Tile} (h : T.Shut) : T.halted.Shut := ⟨h.1, h.2⟩

theorem State.reassignHalted_tile (s : State) (tile : Nat) : (s.reassignHalted tile).tile tile = (s.tile tile).halted := by
  rw [State.reassignHalted, State.modTile_tile, if_pos rfl]

/-- What an engine of the tile waits for ends. -/
def State.endWait (tile : Nat) (s : State) (e : Engine) : State :=
  match (s.tile tile).engine e with
  | .running | .stopped => s
  | _ => s.endOp tile e .aborted false 0

/-- What waits for the tally boundary ends. -/
def State.endTop (tile : Nat) (s : State) (o : TOp) : State :=
  match o with
  | .dec e _ | .arrive e _ false | .pop e _ => s.emit (.op tile e .aborted false 0)
  | .homeAdd pkt _ _ => s.respondAt tile pkt .gate []
  | _ => s

/-- A tile without the operations that have ended. -/
def Tile.topsEnded (T : Tile) : Tile :=
  { T with tops := T.tops.filter (fun o => match o with
      | .dec _ _ | .arrive _ _ _ | .pop _ _ | .send _ _ _ _ _ _ | .homeAdd _ _ _ => false
      | _ => true) }

/-- The accesses that no bank has admitted are refused, and every wait of the tile ends. -/
def State.reassignEnds (s : State) (tile : Nat) : State :=
  let s := ((s.tile tile).accs.filter (fun a => (s.tile tile).unadmitted a)).foldl
    (fun s a => s.refuseAcc tile (if a.master = .nw then .gate else .aborted) a) s
  let s := allEngines.foldl (State.endWait tile) s
  ((s.tile tile).tops.foldl (State.endTop tile) s).modTile tile Tile.topsEnded

theorem State.reassignStop_eq (s : State) (tile : Nat) : s.reassignStop tile =
    (((s.reassignHalted tile).refuseNarrow tile .aborted (fun _ => true)).dropChannels tile).reassignEnds tile := rfl

theorem State.endWait_windsFrom (s : State) (tile : Nat) (e : Engine) : (s.endWait tile e).WindsFrom P s := by
  unfold State.endWait
  split
  · exact s.windsFrom_refl
  · exact s.windsFrom_refl
  · exact s.endOp_windsFrom ..

theorem State.endTop_windsFrom (s : State) (tile : Nat) (o : TOp) : (s.endTop tile o).WindsFrom P s := by
  unfold State.endTop
  split
  · exact s.emit_windsFrom _
  · exact s.emit_windsFrom _
  · exact s.emit_windsFrom _
  · exact s.respondAt_windsFrom ..
  · exact s.windsFrom_refl

theorem State.reassignEnds_windsFrom (s : State) (tile : Nat) : (s.reassignEnds tile).WindsFrom (· ≠ tile) s := by
  have accs (l : List Access) (t : State) :
      (l.foldl (fun s a => s.refuseAcc tile (if a.master = .nw then .gate else .aborted) a) t).WindsFrom (· ≠ tile) t :=
    State.foldl_windsFrom (fun t a => t.refuseAcc_windsFrom tile _ a) l t
  have waits (t : State) : (allEngines.foldl (State.endWait tile) t).WindsFrom (· ≠ tile) t :=
    State.foldl_windsFrom (fun t e => t.endWait_windsFrom tile e) allEngines t
  have tops (l : List TOp) (t : State) : (l.foldl (State.endTop tile) t).WindsFrom (· ≠ tile) t :=
    State.foldl_windsFrom (fun t o => t.endTop_windsFrom tile o) l t
  have ended (t : State) : (t.modTile tile Tile.topsEnded).WindsFrom (· ≠ tile) t :=
    t.modTile_windsFrom tile (Tile.windsFrom_of_rest rfl rfl rfl rfl rfl) fun _ => ⟨rfl, rfl⟩
  exact (ended _).trans ((tops _ _).trans ((waits _).trans (accs _ s)))

theorem State.reassignStop_windsFrom (s : State) (tile : Nat) : (s.reassignStop tile).WindsFrom (· ≠ tile) (s.reassignHalted tile) := by
  rw [State.reassignStop_eq]
  exact (State.reassignEnds_windsFrom _ tile).trans ((State.dropChannels_windsFrom _ tile).trans (State.refuseNarrow_windsFrom _ tile _ _))

theorem State.reassignStop_disabled (s : State) (tile n : Nat) : (((s.reassignStop tile).tile tile).chan n).state = .disabled := by
  rw [State.reassignStop_eq]
  exact ((State.reassignEnds_windsFrom _ tile).tile tile).chan n (State.dropChannels_disabled _ tile n)

/-! ## The reassignment is accepted -/

/-- A tile as its reassignment to household `h` leaves it once it has begun from `T`. -/
structure Tile.Leaving (T' T : Tile) (h : Nat) : Prop where
  reassign : T'.reassign = some { hh := h, stopped := T.merge.isEmpty && !T.narrow.any (·.passed) }
  hh : T'.hh = T.hh
  chan : T.merge = [] → T.narrow = [] → ∀ n, (T'.chan n).state = .disabled
  shut : T'.Shut

theorem Tile.Leaving.winds {T₂ T' T : Tile} (hl : T'.Leaving T h) (hw : T₂.WindsFrom T') : T₂.Leaving T h :=
  ⟨hw.reassign.trans hl.reassign, hw.hh.trans hl.hh, fun hm hn n => hw.chan n (hl.chan hm hn n), hw.shut hl.shut⟩

/-- A tile that stands as `T` does, for what the start of a reassignment looks at. -/
structure Tile.Awaits (T' T : Tile) : Prop where
  hh : T'.hh = T.hh
  buffer : T'.SameBuffer T

theorem Tile.Awaits.leaving {T₂ T' T : Tile} (ha : T'.Awaits T) (hl : T₂.Leaving T' h) : T₂.Leaving T h := by
  obtain ⟨hh, hm, hn⟩ := ha
  refine ⟨by rw [hl.reassign, hm, hn], hl.hh.trans hh, fun m n => hl.chan ?_ (hn.trans n), hl.shut⟩
  rw [m] at hm
  exact List.isEmpty_iff.mp hm

theorem State.reassignMarked_tile (s : State) (tile h : Nat) :
    (s.reassignMarked tile h).tile tile = { s.tile tile with reassign := some { hh := h } } := by
  rw [State.reassignMarked, State.modTile_tile, if_pos rfl]

theorem State.reassignStep3_eq {r : Reassign} (hr : (s.tile tile).reassign = some r) (hs : r.stopped = false) :
    s.reassignStep3 tile = if (s.tile tile).reassignFlushed then s.reassignStop tile else s := by
  unfold State.reassignStep3
  rw [hr]
  dsimp only
  rw [hs, Bool.not_false, Bool.true_and]

theorem State.reassignStep3_or (s : State) (tile : Nat) : s.reassignStep3 tile = s ∨ s.reassignStep3 tile = s.reassignStop tile := by
  unfold State.reassignStep3
  split
  · split
    · exact .inr rfl
    · exact .inl rfl
  · exact .inl rfl

/-- A tile begins its reassignment. -/
theorem State.reassignOp_leaving (s : State) (tile h : Nat) : ((s.reassignOp tile h).tile tile).Leaving (s.tile tile) h := by
  have winds := (State.reassignBegin_windsFrom (P := fun _ => True) s tile h).tile tile
  obtain ⟨merge, narrow⟩ := (State.reassignBegin_windsFrom (P := fun _ => True) s tile h).buffer tile trivial
  have shut := State.reassignBegin_shut s tile h
  rw [State.reassignMarked_tile] at winds merge narrow
  have flushed : ((s.reassignBegin tile h).tile tile).reassignFlushed = ((s.tile tile).merge.isEmpty && !(s.tile tile).narrow.any (·.passed)) := by
    rw [Tile.reassignFlushed, merge, narrow]
  have marked : ((s.reassignBegin tile h).tile tile).reassign = some { hh := h } := winds.reassign
  have op : s.reassignOp tile h = if (s.tile tile).merge.isEmpty && !(s.tile tile).narrow.any (·.passed) then (s.reassignBegin tile h).reassignStop tile
      else s.reassignBegin tile h := by
    rw [← flushed]
    exact State.reassignStep3_eq marked rfl
  rw [op]
  split
  · next hf =>
    have stop := (State.reassignStop_windsFrom (s.reassignBegin tile h) tile).tile tile
    rw [State.reassignHalted_tile] at stop
    refine ⟨?_, ?_, fun _ _ n => State.reassignStop_disabled _ tile n, stop.shut shut.halted⟩
    · rw [stop.reassign, Tile.halted_reassign, marked, hf, Option.map_some]
    · rw [stop.hh, Tile.halted_hh, winds.hh]
  · next hf =>
    refine ⟨by rw [marked, Bool.eq_false_iff.mpr hf], winds.hh, fun m n => ?_, shut⟩
    rw [m, n] at hf
    exact absurd rfl hf

theorem State.reassignMarked_other {g : Nat} (s : State) (hg : g ≠ tile) (h : Nat) : (s.reassignMarked tile h).tile g = s.tile g := by
  rw [State.reassignMarked, State.modTile_tile, if_neg (Ne.symm hg)]

theorem State.reassignHalted_other {g : Nat} (s : State) (hg : g ≠ tile) : (s.reassignHalted tile).tile g = s.tile g := by
  rw [State.reassignHalted, State.modTile_tile, if_neg (Ne.symm hg)]

/-- It leaves every other tile. -/
theorem State.reassignOp_other {g : Nat} (s : State) (hg : g ≠ tile) (h : Nat) :
    ((s.reassignOp tile h).tile g).WindsFrom (s.tile g) ∧ ((s.reassignOp tile h).tile g).SameBuffer (s.tile g) := by
  have winds := (State.reassignBegin_windsFrom (P := fun _ => True) s tile h).tile g
  have buffer := (State.reassignBegin_windsFrom (P := fun _ => True) s tile h).buffer g trivial
  rw [State.reassignMarked_other s hg] at winds buffer
  obtain e | e := State.reassignStep3_or (s.reassignBegin tile h) tile
  · rw [State.reassignOp, e]
    exact ⟨winds, buffer⟩
  · have stop := State.reassignStop_windsFrom (s.reassignBegin tile h) tile
    have after := stop.tile g
    have kept := stop.buffer g hg
    rw [State.reassignHalted_other _ hg] at after kept
    rw [State.reassignOp, e]
    exact ⟨after.trans winds, kept.trans buffer⟩

theorem State.modTile_hhTiles (s : State) (g : Nat) (f : Tile → Tile) (e : Nat) : ((s.modTile g f).slice e).hhTiles = (s.slice e).hhTiles := by
  obtain ⟨l, hl⟩ := State.modTile_slice s g f e
  rw [hl]

theorem State.reassignOp_hhTiles (s : State) (tile h e : Nat) : ((s.reassignOp tile h).slice e).hhTiles = (s.slice e).hhTiles := by
  have begin_ := ((State.reassignBegin_windsFrom (P := fun _ => True) s tile h).hhTiles e).trans (State.modTile_hhTiles ..)
  obtain e' | e' := State.reassignStep3_or (s.reassignBegin tile h) tile
  · rw [State.reassignOp, e']
    exact begin_
  · rw [State.reassignOp, e']
    exact ((State.reassignStop_windsFrom _ tile).hhTiles e).trans ((State.modTile_hhTiles ..).trans begin_)

/-! ## SLC_TILE_HH -/

/-- The step of one entry of a list without repetitions, which the others leave before and after it. -/
theorem foldl_once {σ : Type} {P Q : σ → Prop} {g : σ → Nat → σ} {i : Nat} (before : ∀ t j, j ≠ i → P t → P (g t j)) (here : ∀ t, P t → Q (g t i))
    (after : ∀ t j, j ≠ i → Q t → Q (g t j)) : ∀ {l : List Nat} {t : σ}, l.Nodup → i ∈ l → P t → Q (l.foldl g t)
  | j :: l, t, hl, hi, hP => by
    obtain ⟨hj, nodup⟩ := List.nodup_cons.mp hl
    rw [List.foldl_cons]
    by_cases e : j = i
    · subst e
      exact List.foldlRecOn (motive := Q) l g (here t hP) fun u hu k hk => after u k (fun e => hj (e ▸ hk)) hu
    · exact foldl_once before here after nodup ((List.mem_cons.mp hi).resolve_left (Ne.symm e)) (before t j e hP)

/-- The entries of a write of SLC_TILE_HH[i] that change the household of their tile. -/
def State.changing (s : State) (d i : Nat) (v : Word) : List Nat :=
  (List.range 8).filter (fun j => ((s.slice d).tile (8 * i + j)).hh != bits v (4 * j) 4)

theorem State.tile_of_entry (s : State) {d i j : Nat} (hi : i < 32) (hj : j < 8) : s.tile (256 * d + 8 * i + j) = (s.slice d).tile (8 * i + j) := by
  have hd : tileDie (256 * d + 8 * i + j) = d := by
    rw [tileDie]
    omega
  have ht : (256 * d + 8 * i + j) % 256 = 8 * i + j := by omega
  rw [State.tile, hd, ht]

theorem State.mem_changing {d i j : Nat} {v : Word} (hi : i < 32) :
    j ∈ s.changing d i v ↔ j < 8 ∧ (s.tile (256 * d + 8 * i + j)).hh ≠ bits v (4 * j) 4 := by
  rw [State.changing, List.mem_filter, List.mem_range]
  refine and_congr_right fun hj => ?_
  rw [State.tile_of_entry s hi hj, bne_iff_ne]

/-- The state in which every tile that changes its household has begun its reassignment. -/
def State.given (s : State) (d i : Nat) (v : Word) : State :=
  (s.changing d i v).foldl (fun s j => s.reassignOp (256 * d + 8 * i + j) (bits v (4 * j) 4))
    (s.modSlice d (fun S => { S with hhTiles := (s.changing d i v).map (fun j => 256 * d + 8 * i + j) }))

section
variable {w : Src} {d i : Nat} {v : Word} (hm : s.isManager w = true) (hi : i < 32)
  (hg : ∀ j, j < 8 → (s.tile (256 * d + 8 * i + j)).hh ≠ bits v (4 * j) 4 → s.givable d (bits v (4 * j) 4) = true)
include hm hi hg

theorem State.tileHhOp_eq : s.tileHhOp w d i v = if (s.changing d i v).isEmpty then RegRes.now (s, .ok) else some (s.given d i v, none) := by
  have givable : ((s.changing d i v).any (fun j => !s.givable d (bits v (4 * j) 4))) = false := by
    rw [List.any_eq_false]
    intro j hj
    obtain ⟨hj8, hne⟩ := (State.mem_changing hi).mp hj
    rw [hg j hj8 hne]
    exact Bool.false_ne_true
  unfold State.tileHhOp
  exact (if_neg (by rw [hm]; exact Bool.false_ne_true)).trans (if_neg (Bool.eq_false_iff.mp givable))

end

theorem State.given_hhTiles (s : State) (d i : Nat) (v : Word) :
    ((s.given d i v).slice d).hhTiles = (s.changing d i v).map (fun j => 256 * d + 8 * i + j) := by
  refine (foldl_eq (g := fun (s : State) j => s.reassignOp (256 * d + 8 * i + j) (bits v (4 * j) 4)) (fun t : State => (t.slice d).hhTiles)
    (fun t j => State.reassignOp_hhTiles t _ _ d) _ _).trans ?_
  rw [State.modSlice_slice, if_pos rfl]

/-- Every tile that changes its household has begun to leave the old one. -/
theorem State.given_leaving {d i j : Nat} {v : Word} (hj : j ∈ s.changing d i v) :
    ((s.given d i v).tile (256 * d + 8 * i + j)).Leaving (s.tile (256 * d + 8 * i + j)) (bits v (4 * j) 4) := by
  refine foldl_once (P := fun t : State => (t.tile (256 * d + 8 * i + j)).Awaits (s.tile (256 * d + 8 * i + j)))
    (Q := fun t : State => (t.tile (256 * d + 8 * i + j)).Leaving (s.tile (256 * d + 8 * i + j)) (bits v (4 * j) 4))
    (fun t k hk ha => ?_) (fun t ha => ha.leaving (t.reassignOp_leaving _ _)) (fun t k hk hl => ?_) (List.nodup_range.filter _) hj ?_
  · obtain ⟨winds, buffer⟩ := t.reassignOp_other (g := 256 * d + 8 * i + j) (tile := 256 * d + 8 * i + k) (by omega) (bits v (4 * k) 4)
    exact ⟨winds.hh.trans ha.hh, buffer.trans ha.buffer⟩
  · exact hl.winds (t.reassignOp_other (g := 256 * d + 8 * i + j) (tile := 256 * d + 8 * i + k) (by omega) (bits v (4 * k) 4)).1
  · rw [State.modSlice_tile (k := fun S => { S with hhTiles := (s.changing d i v).map (fun j => 256 * d + 8 * i + j) }) s d _ (fun _ => rfl) fun _ => rfl]
    exact ⟨rfl, rfl, rfl⟩

/-- The write of a slice register as its block holds it while it is under way. -/
def State.sliceAccOf (s : State) (w : Src) (die off : Nat) (v : Word) : RegAcc :=
  { src := w, off := off, value := v, pkt := (s.turn w die (sliceRegAddr die off) v).map (·.id) }

/-- A write of a slice register that completes later: the block is busy with it. -/
theorem State.sliceReg_later {w : Src} {die off : Nat} {v : Word} (hs : s.sliceTakes w die off v) :
    ∃ id, s.sliceReg w die off v (some (t, none)) = .next
      ((t.modSlice die (fun S => { S with hhBusy := some (s.sliceAccOf w die off v) })).handed id) := by
  obtain ⟨p, hp⟩ := Option.isSome_iff_exists.1 hs.path
  refine ⟨p.id, ?_⟩
  rw [State.sliceReg, State.fromSrc_arrives hs.source, State.byBus_turn hp (State.live_of_ready hs.ready)]
  simp [State.acceptSlice, State.acceptSliceAcc, hs.ready, hs.busy, State.sliceAccOf, hp]

end Sys2Proof.Machine
end

section
/-!
The end of a reassignment (spec/08_tallies_bells_channels.md R301, R303), and O39.
-/

namespace Sys2Proof.Machine

variable {s t : State} {tile h : Nat}

theorem State.handed_slice (s : State) (id e : Nat) : (s.handed id).slice e = s.slice e := rfl

/-- What an answer to a register access leaves of a tile. -/
theorem State.answerAcc_tile {α : Type} {f : Tile → α} (hf : ∀ (T : Tile) c, f { T with chans := c } = f T) (s : State) (d base : Nat) (a : RegAcc)
    (st : Status) (v : Word) (g : Nat) : f ((s.answerAcc d base a st v).tile g) = f (s.tile g) := by
  have halves (k : Slice → Tbl (Nat × Status × Word)) : f ((s.modSlice d (fun S => { S with regHalves := k S })).tile g) = f (s.tile g) :=
    congrArg f (s.modSlice_tile d g (fun _ => rfl) fun _ => rfl)
  unfold State.answerAcc
  dsimp only
  split
  · split
    · rfl
    · obtain ⟨cs, h⟩ := State.answerReg_tile s a.src (base + a.off) st (if st = .ok then v else 0) g
      rw [h]
      exact hf _ _
  · split
    · rfl
    · split
      · exact halves fun S => S.regHalves.set _ _
      · exact halves fun S => S.regHalves.del _

/-- What it leaves of a slice. -/
theorem State.answerAcc_slice {β : Type} {g : Slice → β} (hg : ∀ (S : Slice) l r, g { S with tiles := l, regHalves := r } = g S) (s : State)
    (d base : Nat) (a : RegAcc) (st : Status) (v : Word) (e : Nat) : g ((s.answerAcc d base a st v).slice e) = g (s.slice e) := by
  have halves (k : Slice → Tbl (Nat × Status × Word)) :
      g ((s.modSlice d (fun S => { S with regHalves := k S })).slice e) = g (s.slice e) := by
    rw [State.modSlice_slice]
    split
    · next h => exact (hg _ (s.slice d).tiles _).trans (congrArg (fun e => g (s.slice e)) h)
    · rfl
  unfold State.answerAcc
  dsimp only
  split
  · split
    · rfl
    · unfold State.answerReg
      cases a.src with
      | st t n =>
        obtain ⟨l, hl⟩ := State.modTile_slice (s.emit (.reg (.st t n) (base + a.off) st (if st = .ok then v else 0))) t
          (fun T => T.setChan n ((T.chan n).regAnswer (base + a.off) st)) e
        exact (congrArg g hl).trans (hg _ l (s.slice e).regHalves)
      | sc t => rfl
      | host d fn => rfl
  · split
    · rfl
    · split
      · exact halves fun S => S.regHalves.set _ _
      · exact halves fun S => S.regHalves.del _

/-! ## The tile in its new household -/

theorem Tile.reassigned_ownerOf (T : Tile) (h b : Nat) : (T.reassigned h).ownerOf b = 0 := rfl

theorem Tile.reassigned_tallyOf (T : Tile) (h k : Nat) : (T.reassigned h).tallyOf k = 0 := by
  have empty : (Tbl.get 0 (T.reassigned h).tally k : Word) = 0 := rfl
  unfold Tile.tallyOf
  exact empty

/-- The rotation of the slice that waited for the tile goes on without it. -/
def State.rotationRefused (s : State) (tile : Nat) : State :=
  match (s.tile tile).deedOp with
  | some (.rotate _ _ true) => s.modSlice (tileDie tile) (fun S => S.rotateAnswered (tile % 256) true)
  | _ => s

theorem State.reassignEndOp_eq (s : State) (tile h : Nat) : s.reassignEndOp tile h =
    ((s.rotationRefused tile).modTile tile (fun T => T.reassigned h)).modSlice (tileDie tile)
      (fun S => { S with hhTiles := S.hhTiles.filter (fun t => t != tile) }) := rfl

theorem State.rotationRefused_tile (s : State) (tile g : Nat) : (s.rotationRefused tile).tile g = s.tile g := by
  unfold State.rotationRefused
  split
  · exact State.rotateAnswered_tile ..
  · rfl

theorem State.rotationRefused_slice {β : Type} {g : Slice → β} (hg : ∀ (S : Slice) l r, g { S with rotLeft := l, rotRefused := r } = g S) (s : State)
    (tile e : Nat) : g ((s.rotationRefused tile).slice e) = g (s.slice e) := by
  unfold State.rotationRefused
  split
  · rw [State.modSlice_slice]
    split
    · next h => exact (hg _ _ _).trans (congrArg (fun e => g (s.slice e)) h)
    · rfl
  · rfl

theorem State.rotationRefused_net (s : State) (tile : Nat) : (s.rotationRefused tile).net = s.net := by
  unfold State.rotationRefused
  split <;> rfl

theorem State.reassignEndOp_tile (s : State) (tile h : Nat) : (s.reassignEndOp tile h).tile tile = (s.tile tile).reassigned h := by
  rw [State.reassignEndOp_eq, State.modSlice_tile (k := fun S => { S with hhTiles := S.hhTiles.filter (fun t => t != tile) }) _ _ _ (fun _ => rfl)
    fun _ => rfl, State.modTile_tile, if_pos rfl, State.rotationRefused_tile]

theorem State.reassignEndOp_slice {β : Type} {g : Slice → β}
    (hg : ∀ (S : Slice) l r q k, g { S with rotLeft := l, rotRefused := r, tiles := q, hhTiles := k } = g S) (s : State) (tile h : Nat) :
    g ((s.reassignEndOp tile h).slice (tileDie tile)) = g (s.slice (tileDie tile)) := by
  rw [State.reassignEndOp_eq, State.modSlice_slice, if_pos rfl]
  obtain ⟨l, hl⟩ := State.modTile_slice (s.rotationRefused tile) tile (fun T => T.reassigned h) (tileDie tile)
  rw [hl]
  exact (hg ((s.rotationRefused tile).slice (tileDie tile)) ((s.rotationRefused tile).slice (tileDie tile)).rotLeft ((s.rotationRefused tile).slice (tileDie tile)).rotRefused _ _).trans
    (State.rotationRefused_slice (fun S l r => hg S l r S.tiles S.hhTiles) s tile _)

theorem State.reassignEndOp_hhTiles (s : State) (tile h : Nat) :
    ((s.reassignEndOp tile h).slice (tileDie tile)).hhTiles = (s.slice (tileDie tile)).hhTiles.filter (fun t => t != tile) := by
  rw [State.reassignEndOp_eq, State.modSlice_slice, if_pos rfl]
  dsimp only
  rw [State.modTile_hhTiles, State.rotationRefused_slice (g := Slice.hhTiles) fun _ _ _ => rfl]

theorem State.reassignEndOp_net (s : State) (tile h : Nat) : (s.reassignEndOp tile h).net = s.net := by
  rw [State.reassignEndOp_eq]
  exact s.rotationRefused_net tile

/-- The completion of the SLC_TILE_HH write, if its last tile has been given. -/
def State.hhAnswered (s : State) (d : Nat) : State :=
  match (s.slice d).hhBusy with
  | none => s
  | some a => if (s.slice d).hhTiles.isEmpty then (s.modSlice d (fun S => { S with hhBusy := none })).answerAcc d (sliceRegAddr d 0) a .ok 0 else s

theorem State.hhAnswered_tile {α : Type} {f : Tile → α} (hf : ∀ (T : Tile) c, f { T with chans := c } = f T) (s : State) (d g : Nat) :
    f ((s.hhAnswered d).tile g) = f (s.tile g) := by
  unfold State.hhAnswered
  split
  · rfl
  · split
    · rw [State.answerAcc_tile hf, State.modSlice_tile (k := fun S => { S with hhBusy := none }) s d g (fun _ => rfl) fun _ => rfl]
    · rfl

theorem State.drainSlice_none {d : Nat} (hw : (s.slice d).regWait = []) (n : Nat) : s.drainSlice d n = s := by
  cases n with
  | zero => rfl
  | succ n =>
    rw [State.drainSlice, hw]

section
variable (hr : (s.tile tile).reassign = some { hh := h, stopped := true }) (ha : (s.tile tile).accs = []) (hm : (s.tile tile).merge = [])
  (hn : (s.tile tile).narrow = []) (hb : (s.tile tile).regBusy = none) (hw : (s.tile tile).regWait = [])
  (hs : (s.slice (tileDie tile)).regWait = [])
include hr ha hm hn hb hw hs

theorem State.reassignDoneOp_eq : s.reassignDoneOp tile = (s.reassignEndOp tile h).hhAnswered (tileDie tile) := by
  have ready : (s.tile tile).reassignReady = true := by
    rw [Tile.reassignReady, hr, ha, hm, hn, hb]
    rfl
  have freed : (s.reassignEndOp tile h).freed tile = s.reassignEndOp tile h := State.freed_none (by rw [State.reassignEndOp_tile]; exact hw)
  have waits : ((s.reassignEndOp tile h).slice (tileDie tile)).regWait = [] :=
    (State.reassignEndOp_slice (g := Slice.regWait) (fun _ _ _ _ _ => rfl) s tile h).trans hs
  unfold State.reassignDoneOp
  rw [hr]
  dsimp only
  rw [ready, freed, Bool.not_true, if_neg Bool.false_ne_true, State.hhAnswered]
  cases ((s.reassignEndOp tile h).slice (tileDie tile)).hhBusy with
  | none => rfl
  | some a =>
    dsimp only
    split
    · refine State.drainSlice_none ?_ _
      rw [State.answerAcc_slice (g := Slice.regWait) (fun _ _ _ => rfl), State.modSlice_slice, if_pos rfl]
      exact waits
    · rfl

/-- The tile belongs to its new household, with nothing of the old one but its retired banks and remapped rows. -/
theorem State.reassignDoneOp_tile {α : Type} {f : Tile → α} (hf : ∀ (T : Tile) c n w, f { T with chans := c, wmFrom := n, wmNow := w } = f T) :
    f (((s.reassignDoneOp tile).watch tile).tile tile) = f ((s.tile tile).reassigned h) := by
  rw [State.watch_value fun T n w => hf T T.chans n w, State.reassignDoneOp_eq hr ha hm hn hb hw hs,
    State.hhAnswered_tile fun T c => hf T c T.wmFrom T.wmNow, State.reassignEndOp_tile]

/-- With its last tile the write of SLC_TILE_HH completes. -/
theorem State.reassignDoneOp_completes {a : RegAcc} {id : Nat} {p : Packet} (hh : (s.slice (tileDie tile)).hhBusy = some a) (hp : a.pkt = some id)
    (hk : s.pkt id = some p) (hf : a.half = 0) (hl : ∀ g, g ∈ (s.slice (tileDie tile)).hhTiles → g = tile) :
    (((s.reassignDoneOp tile).watch tile).slice (tileDie tile)).hhBusy = none ∧
      (((s.reassignDoneOp tile).watch tile).pkt id).map (·.resp) = some (some .ok) := by
  have busy : ((s.reassignEndOp tile h).slice (tileDie tile)).hhBusy = some a :=
    (State.reassignEndOp_slice (g := Slice.hhBusy) (fun _ _ _ _ _ => rfl) s tile h).trans hh
  have last : ((s.reassignEndOp tile h).slice (tileDie tile)).hhTiles = [] := by
    rw [State.reassignEndOp_hhTiles, List.filter_eq_nil_iff]
    intro g hg
    simp [hl g hg]
  have op : s.reassignDoneOp tile = ((s.reassignEndOp tile h).modSlice (tileDie tile) (fun S => { S with hhBusy := none })).answerAt (tileDie tile) id .ok
      (if a.write then [] else [(0 : Word).zeroExtend 512]) := by
    rw [State.reassignDoneOp_eq hr ha hm hn hb hw hs, State.hhAnswered, busy]
    dsimp only
    rw [last, List.isEmpty_nil, if_pos rfl]
    unfold State.answerAcc
    rw [hp]
    dsimp only
    rw [if_pos hf]
    rfl
  rw [op]
  refine ⟨?_, ?_⟩
  · rw [(State.watch_streams _ tile).slice (fun S : Slice => S.hhBusy) (fun _ _ _ _ => rfl), State.answerAt_slice, State.modSlice_slice, if_pos rfl]
  · have there := State.answerAt_pkt_self (s := (s.reassignEndOp tile h).modSlice (tileDie tile) (fun S => { S with hhBusy := none })) (id := id)
      (Option.isSome_iff_exists.mpr ⟨p, State.pkt_of_net (s.reassignEndOp_net tile h) hk⟩) (tileDie tile) .ok (if a.write then [] else [(0 : Word).zeroExtend 512])
    have resp := congrArg (Option.map Prod.fst) there
    rwa [Option.map_map] at resp

end

/-- Settles O39: the write of SLC_TILE_HH, whose tiles each begin to leave, and the end of a reassignment. -/
theorem reassignmentSteps : Obligations.ReassignmentSteps := by
  refine ⟨fun s w d i v hs hm hi hg => ⟨fun same => ?_, fun ⟨j, hj, hne⟩ => ?_⟩, fun s tile h ht hl hr ha hmg hn hb hw hsw => ?_⟩
  · have none : s.changing d i v = [] := List.eq_nil_iff_forall_not_mem.mpr fun j hj => by
      obtain ⟨hj8, hne⟩ := (State.mem_changing hi).mp hj
      exact hne (same j hj8)
    have op : s.tileHhOp w d i v = RegRes.now (s, .ok) := by rw [State.tileHhOp_eq hm hi hg, none]; rfl
    exact (if_pos (decide_eq_true hi)).trans ((congrArg (s.sliceReg w d (0x1000 + 4 * i) v) op).trans (State.sliceReg_now hs))
  · have some_changes : s.changing d i v ≠ [] := List.ne_nil_of_mem ((State.mem_changing hi).mpr ⟨hj, hne⟩)
    have op : s.tileHhOp w d i v = some (s.given d i v, none) := by
      rw [State.tileHhOp_eq hm hi hg]
      exact if_neg (by rwa [List.isEmpty_iff])
    obtain ⟨id, run⟩ := State.sliceReg_later (t := s.given d i v) hs
    refine ⟨_, (if_pos (decide_eq_true hi)).trans ((congrArg (s.sliceReg w d (0x1000 + 4 * i) v) op).trans run), ?_, fun k hk hkne => ?_⟩
    · rw [State.handed_slice, State.modSlice_slice, if_pos rfl]
      rfl
    · have mem := (State.mem_changing (s := s) (d := d) (v := v) hi).mpr ⟨hk, hkne⟩
      obtain ⟨reassign, hh, chan, eps, gates⟩ := State.given_leaving mem
      have tile_eq : ((((s.given d i v).modSlice d (fun S => { S with hhBusy := some (s.sliceAccOf w d (0x1000 + 4 * i) v) })).handed id).tile
          (256 * d + 8 * i + k)) = (s.given d i v).tile (256 * d + 8 * i + k) :=
        State.modSlice_tile (k := fun S => { S with hhBusy := some (s.sliceAccOf w d (0x1000 + 4 * i) v) }) _ d _ (fun _ => rfl) fun _ => rfl
      rw [tile_eq]
      refine ⟨?_, reassign, hh, chan, eps, gates⟩
      rw [State.handed_slice, State.modSlice_slice, if_pos rfl]
      dsimp only
      rw [State.given_hhTiles]
      exact List.mem_map.mpr ⟨k, mem, rfl⟩
  · have kept {α : Type} (f : Tile → α) (hf : ∀ (T : Tile) c n w, f { T with chans := c, wmFrom := n, wmNow := w } = f T) :=
      State.reassignDoneOp_tile hr ha hmg hn hb hw hsw hf
    refine ⟨_, State.atTile_next ht hl, kept Tile.hh fun _ _ _ _ => rfl, kept Tile.reassign fun _ _ _ _ => rfl, fun b => ?_, fun k => ?_, fun g => ?_,
      kept Tile.retired fun _ _ _ _ => rfl, kept Tile.remapRow fun _ _ _ _ => rfl,
      fun a id p hh hp hk hf hlast => State.reassignDoneOp_completes hr ha hmg hn hb hw hsw hh hp hk hf hlast⟩
    · exact (kept (fun T => T.ownerOf b) fun _ _ _ _ => rfl).trans (Tile.reassigned_ownerOf _ h b)
    · exact (kept (fun T => T.tallyOf k) fun _ _ _ _ => rfl).trans (Tile.reassigned_tallyOf _ h k)
    · exact (kept (fun T => (T.gate g).isOpen) fun _ _ _ _ => rfl).trans rfl

end Sys2Proof.Machine
end
